-- ==== Sys2Proof/Word.lean ====
section
/-!
DEFINITION. The word types of the model: a byte, 32-bit and 64-bit words, and byte strings. Addresses and identifiers
that the manual only compares or counts (R19) are natural numbers; numbers that wrap (R514) are bit vectors.
-/
namespace Sys2Proof

/-- One byte. -/
abbrev Byte := BitVec 8

/-- A 32-bit word: step numbers, sequence numbers, indices, FP32 codes. -/
abbrev W32 := BitVec 32

/-- A 64-bit word: registers, run keys, arguments. -/
abbrev W64 := BitVec 64

/-- A string of bytes, lowest address first (R10). -/
abbrev Bytes := List Byte

end Sys2Proof
end

