-- ==== Sys2Proof/Syntax.lean ====
section
/-!
DEFINITION. The commands of the block: one constructor for each row of spec/opcode_table.json, in the table's order, and
the types of their operands. A row that runs a command of a queue names the queue; its operands are in the 128-byte entry
that the queue holds (R295). A row that an outside agent or a physical event causes carries what that agent sends or what
the event brings.
-/
namespace Sys2Proof

/-- Who reads or writes the control space (R528, R529): the management channel, the module controller (for I3C), or the
session in a slot. `mgmtAt` is the management channel too, with a unified address (R452) where the others give an offset of the
control space. -/
inductive Agent where
  | mgmt
  | mgmtAt
  | modctl
  | session (slot : Nat)
  deriving DecidableEq, Repr

/-- A token header (R107): coach epoch, kind, selector, format, tenant, micro-batch, granules and the 64-bit argument;
for a data token arg[31:0] is OFFSET and arg[63:32] is SCALE_OFF. -/
structure TokHdr where
  epoch : Nat
  control : Bool
  selector : Nat
  fmt : Nat
  tenant : Nat
  mb : Nat
  granules : Nat
  arg : W64
  deriving DecidableEq, Repr

/-- A flit slot of a Laulo frame (R368, R371): class tag 0 to 4, first-flit mark and the 64 bytes. -/
structure Flit where
  cls : Nat
  first : Bool
  data : Bytes
  deriving DecidableEq, Repr

/-- A Laulo frame without its parity bytes (R368): sixteen flit slots, FSEQ, ACK, credits freed for X, C, B and M, the two
control bits, and the CRC field. -/
structure LFrame where
  flits : List Flit
  fseq : W32
  ack : W32
  credits : List Nat
  nak : Bool
  retrain : Bool
  crc : Nat
  deriving DecidableEq, Repr

/-- An RDMA request as a front port receives it (R346): port, source address, session slot of its connection, R_Key, the unified
address of its RETH or AtomicETH, the connection it comes on (R345), and whether a packet of it is marked by ECN (R340). -/
structure RdmaReq where
  port : Nat
  src : Nat
  slot : Nat
  rkey : W32
  addr : Nat
  conn : Nat := 0
  ecn : Bool := false
  deriving DecidableEq, Repr

/-- A REQ of communication management with its private data (R343), for the connection `conn` of its source (R345). -/
structure ConnReq where
  port : Nat
  src : Nat
  version : Nat
  role : Nat
  flags : Nat
  session : Nat
  domain : Nat
  reserved : Nat
  conn : Nat := 0
  deriving DecidableEq, Repr

/-- A DREQ of communication management (R356): its source, the connection of that source it ends (R345) and the session bound
to the connection. -/
structure DiscReq where
  src : Nat
  conn : Nat
  session : Nat
  deriving DecidableEq, Repr

/-- The commands, one for each row of the table of operations and events. -/
inductive Instr where
  /-- DOORBELL: R300: agent `a` writes `v` to QDIR.DOORBELL[q]. -/
  | doorbell (a : Agent) (q : Nat) (v : W32)
  /-- CQ_DOORBELL: R300: agent `a` writes `v` to QDIR.CQ_DOORBELL[q]. -/
  | cqDoorbell (a : Agent) (q : Nat) (v : W32)
  /-- ENTRY_FETCH: R301: the command processor reads the entry at HEAD of queue `q`. -/
  | entryFetch (q : Nat)
  /-- ENTRY_REREAD: R302: the stale entry at HEAD of queue `q` is read again. -/
  | entryReread (q : Nat)
  /-- COMPLETION_POST: R308: the oldest unposted command of queue `q` posts its record. -/
  | completionPost (q : Nat)
  /-- OPEN: R293: QCTRL action OPEN. -/
  | openQueue (a : Agent) (q : Nat)
  /-- CLOSE: R293: QCTRL action CLOSE. -/
  | closeQueue (a : Agent) (q : Nat)
  /-- RELEASE: R328: QCTRL action RELEASE. -/
  | releaseQueue (a : Agent) (q : Nat)
  /-- DISCARD: R328: QCTRL action DISCARD. -/
  | discardQueue (a : Agent) (q : Nat)
  /-- ABORT_WAIT: R328: QCTRL action ABORT_WAIT. -/
  | abortWait (a : Agent) (q : Nat)
  /-- QCTRL_SELECT: R335: QCTRL write with ACTION 0. -/
  | qctrlSelect (a : Agent) (q : Nat)
  /-- NOP: R311: the next command of queue `q`, a NOP, runs. -/
  | nop (q : Nat)
  /-- FENCE: R306. -/
  | fence (q : Nat)
  /-- FLAG_SET: R315. -/
  | flagSet (q : Nat)
  /-- FLAG_WAIT: R316. -/
  | flagWait (q : Nat)
  /-- FLAG_WAIT_TIMEOUT: R316: TIMEOUT_US of the running REMOTE wait of queue `q` has elapsed. -/
  | flagWaitTimeout (q : Nat)
  /-- STAGE: R91. -/
  | stage (q : Nat)
  /-- ACTIVATE: R95. -/
  | activate (q : Nat)
  /-- FORCED_ACTIVATE: R99. -/
  | forcedActivate (q : Nat)
  /-- STAGE_AND_ACTIVATE: R90. -/
  | stageAndActivate (q : Nat)
  /-- COACH_CHANGE: R96: the oldest pending ACTIVATE proceeds; `flips` bits of one word of the store are found flipped while it is read (R102; 0 none). -/
  | coachChange (flips : Nat)
  /-- SEGMENT_RUN: R318. -/
  | segmentRun (q : Nat)
  /-- SEGMENT_END: R126. -/
  | segmentEnd
  /-- SEGMENT_STUCK: R129: the 10 µs of the quiescence detector have passed. -/
  | segmentStuck
  /-- FLAG_WAIT_QUIESCENCE: R329: the 10 µs of the quiescence detector have passed. -/
  | flagWaitQuiescence
  /-- STEP_BEGIN: R319. -/
  | stepBegin (q : Nat)
  /-- STEP_COMMIT: R320. -/
  | stepCommit (q : Nat)
  /-- COMMIT_POINT: R245 step 3. -/
  | commitPoint
  /-- COMMIT_WALK_END: R245 step 5. -/
  | commitWalkEnd
  /-- STEP_ABANDON: R321. -/
  | stepAbandon (q : Nat)
  /-- ABANDON_WALK_END: R245. -/
  | abandonWalkEnd
  /-- COPY: R324. -/
  | copy (q : Nat)
  /-- COPY_TRANSPOSE: R324. -/
  | copyTranspose (q : Nat)
  /-- PERMUTE_COPY: R324. -/
  | permuteCopy (q : Nat)
  /-- GATHER: R281. -/
  | gather (q : Nat)
  /-- SCATTER_ADD: R282. -/
  | scatterAdd (q : Nat)
  /-- INLINE_WRITE: R325. -/
  | inlineWrite (q : Nat)
  /-- MIGRATE_HINT: R268. -/
  | migrateHint (q : Nat)
  /-- PIN: R267, action 0. -/
  | pin (q : Nat)
  /-- UNPIN: R267, action 1. -/
  | unpin (q : Nat)
  /-- CART_MAP: R259. -/
  | cartMap (q : Nat)
  /-- CART_FREE: R260. -/
  | cartFree (q : Nat)
  /-- REDUCE: R390. -/
  | reduce (q : Nat)
  /-- ALL_REDUCE: R390. -/
  | allReduce (q : Nat)
  /-- ALL_GATHER: R390. -/
  | allGather (q : Nat)
  /-- REDUCE_SCATTER: R390. -/
  | reduceScatter (q : Nat)
  /-- PERMUTE: R390. -/
  | permute (q : Nat)
  /-- ALLOW_EXPIRY: R394: the allowance of the running collective with COLL_ID `coll` ends at this root. -/
  | allowExpiry (coll : Nat)
  /-- UPDATE_STREAM: R240. -/
  | updateStream (q : Nat)
  /-- GRAD_SUM: R225. -/
  | gradSum (q : Nat)
  /-- SNAP_ARM: R429. -/
  | snapArm (q : Nat)
  /-- SNAP_DISARM: R436. -/
  | snapDisarm (q : Nat)
  /-- SNAP_RESTORE: R440. -/
  | snapRestore (q : Nat)
  /-- LIZARD_ADOPT: R437. -/
  | lizardAdopt (q : Nat)
  /-- SELFTEST: R481. -/
  | selftest (q : Nat)
  /-- SELFTEST_COMPLETE: R483: the tests end; `failures` lists the cores that failed with the bits of the failed items (R482). -/
  | selftestComplete (failures : List (Nat × Nat))
  /-- INJECT: R411. -/
  | inject (q : Nat)
  /-- NEWT_SCAN_SAVE: R463. -/
  | newtScanSave (q : Nat)
  /-- NEWT_SCAN_RESTORE: R462. -/
  | newtScanRestore (q : Nat)
  /-- TOKEN_SEND: R112: the sender of route `route` sends the token that waits there; a port-die unit with none waiting sends `tok`, which its command or descriptor gives it (R108). -/
  | tokenSend (route : Nat) (tok : Option (TokHdr × Bytes))
  /-- TOKEN_HEADER_ENTRY: R108: the last payload byte of the oldest token under way on `route` has been written. -/
  | tokenHeaderEntry (route : Nat)
  /-- STEER_PAIR_RETIRE: R117: the head pair of the input pair of `ctrlQ`. -/
  | steerPairRetire (core ctrlQ : Nat)
  /-- TOKEN_RELEASE: R113. -/
  | tokenRelease (token : Nat)
  /-- CREDIT_ARRIVAL: R121. -/
  | creditArrival (route : Nat)
  /-- TILE_PRODUCT: R184: the engine takes the table that R190 names. -/
  | tileProduct (core : Nat)
  /-- ACCUMULATOR_DRAIN: R188: the oldest complete tile of a table. -/
  | accumulatorDrain (core table : Nat)
  /-- VECTOR_ITERATION: R199. -/
  | vectorIteration (core table : Nat)
  /-- UPDATE_ENGINE_TILE: R238: the oldest gradient tile that came on `route`. -/
  | updateEngineTile (route : Nat)
  /-- SCALAR_PROGRAM_START: R201. -/
  | scalarProgramStart (core : Nat)
  /-- SCALAR_INSTRUCTION: R200. -/
  | scalarInstruction (core : Nat)
  /-- SEND: R203. -/
  | send (core : Nat)
  /-- TAKE: R203. -/
  | take (core : Nat)
  /-- CARRIAGE_FORWARD: R150. -/
  | carriageForward (core chain : Nat)
  /-- CHECKPOINT_SAVE: R216: unit code (R80) and ordering core. -/
  | checkpointSave (unit core : Nat)
  /-- CHECKPOINT_RESTORE: R219: unit code (R80) and ordering core. -/
  | checkpointRestore (unit core : Nat)
  /-- TENANT_FEED: R449: the feed of `route` sends the next tile. -/
  | tenantFeed (route : Nat)
  /-- SCRUB_TICK: R49: the scrubber meets the words (core, scratchpad offset) with 1 or more flipped bits. -/
  | scrubTick (upsets : List (Nat × Nat × Nat))
  /-- CALIBRATION_TICK: R28: measured margins (core, path kind 0 to 3, tenths of a percent of the path delay). -/
  | calibrationTick (margins : List (Nat × Nat × Nat))
  /-- HANDSHAKE_WATCHDOG: R409. -/
  | handshakeWatchdog (core : Nat)
  /-- DROOP_TRIP: R30 step 1. -/
  | droopTrip (die : Nat)
  /-- DROOP_HOLD_EXPIRY: R30 step 5. -/
  | droopHoldExpiry (die : Nat)
  /-- DROOP_RELEASE_STEP: R30 step 6. -/
  | droopReleaseStep (die : Nat)
  /-- CRITICAL_DROOP: R32. -/
  | criticalDroop (die : Nat)
  /-- POWER_SAMPLE: R487: input power in W over the last 10 µs and 1 s. -/
  | powerSample (p10us p1s : Nat)
  /-- SLOW_LOOP_TICK: R34: junctions of the compute dies and HBM stacks in °C. -/
  | slowLoopTick (dieC stackC : List Nat)
  /-- JUNCTION_TRIP: R36. -/
  | junctionTrip (die : Nat)
  /-- COOLING_END: R476. -/
  | coolingEnd
  /-- HEALTH_TICK: R427. -/
  | healthTick
  /-- QUEUE_DEPTH_SAMPLE: R518. -/
  | queueDepthSample
  /-- SPARE_TEST_TICK: R484: the next row's spare is tested; bits of the failed items. -/
  | spareTestTick (failed : Nat)
  /-- EVICTION: R266. -/
  | eviction
  /-- MIGRATION_SWITCH: R269 step 3. -/
  | migrationSwitch (cart : Nat)
  /-- MIGRATION_FRAME_RETURN: R269 step 4. -/
  | migrationFrameReturn (cart : Nat)
  /-- TIER_STALL: R272: an access on CXL port `port` has waited longer than LATE_US. -/
  | tierStall (port : Nat)
  /-- TIER_ABORT: R273: an access to `cart` has waited ABORT_MS; `q` is the queue of its command, none for a segment or another agent. -/
  | tierAbort (cart : Nat) (q : Option Nat)
  /-- CXL_POISON: R274: a read of `cart` returned poison. -/
  | cxlPoison (cart : Nat) (q : Option Nat)
  /-- CXL_LINK_DOWN: R274. -/
  | cxlLinkDown (port : Nat)
  /-- CXL_LINK_UP: R274. -/
  | cxlLinkUp (port : Nat)
  /-- LAULO_FRAME_RECEIVE: R370: a frame as its peer sent it, with the bytes the lanes changed (position, mask). -/
  | lauloFrameReceive (port : Nat) (frame : LFrame) (errs : List (Nat × Byte))
  /-- LAULO_FRAME_SEND: R374. -/
  | lauloFrameSend (port : Nat)
  /-- WRITE: R382: the oldest WRITE that came to this device on `port` is served. -/
  | write (port : Nat)
  /-- WRITE_ACK: R381. -/
  | writeAck (port : Nat)
  /-- READ_REQ: R382. -/
  | readReq (port : Nat)
  /-- TAGGED_READ_RESUME: R247: the oldest tagged read whose step T − 1 has committed resolves. -/
  | taggedReadResume
  /-- READ_RESP: R381. -/
  | readResp (port : Nat)
  /-- FLAG: R315. -/
  | flag (port : Nat)
  /-- FLAG_ACK: R381. -/
  | flagAck (port : Nat)
  /-- STREAM: R383. -/
  | stream (port : Nat)
  /-- STREAM_CREDIT: R383. -/
  | streamCredit (port : Nat)
  /-- COLL_DATA: R391. -/
  | collData (port : Nat)
  /-- COLL_ABORT: R396. -/
  | collAbort (port : Nat)
  /-- LOST: R379. -/
  | lost (port : Nat)
  /-- ADOPT: R438. -/
  | adopt (port : Nat)
  /-- ADOPT_ACK: R437. -/
  | adoptAck (port : Nat)
  /-- E2E_TIMEOUT: R381: E2E_US has passed for a request. -/
  | e2eTimeout (reqId : Nat)
  /-- LINK_ENABLE: R479: agent `a` sets LAU[k].CFG.ENABLE. -/
  | linkEnable (a : Agent) (k : Nat)
  /-- LINK_DISABLE: R479: agent `a` clears LAU[k].CFG.ENABLE. -/
  | linkDisable (a : Agent) (k : Nat)
  /-- LINK_TRAINING_COMPLETE: R479 steps 2 to 4: what training learned of the peer's position, the cable delay and its FSEQ. -/
  | linkTrainingComplete (k peer cableNs fseq : Nat)
  /-- LINK_TRAINING_RETRY: R479. -/
  | linkTrainingRetry (k : Nat)
  /-- ROUTE_WRITE: R398. -/
  | routeWrite (a : Agent) (k : Nat) (v : W64)
  /-- RDMA_WRITE: R349. -/
  | rdmaWrite (rq : RdmaReq) (data : Bytes)
  /-- RDMA_READ: R355. -/
  | rdmaRead (rq : RdmaReq) (len : Nat)
  /-- ATOMIC_FETCH_ADD: R347. -/
  | atomicFetchAdd (rq : RdmaReq) (v : W64)
  /-- ATOMIC_COMPARE_SWAP: R347. -/
  | atomicCompareSwap (rq : RdmaReq) (cmp swap : W64)
  /-- FOREIGN_PACKET_DROP: R341: a packet from source address `src`. -/
  | foreignPacketDrop (port src : Nat)
  /-- ATTACH: R344: a REQ with SESSION 0. -/
  | attach (rq : ConnReq)
  /-- REATTACH: R345: a REQ that names a session. -/
  | reattach (rq : ConnReq)
  /-- DREQ: R356. -/
  | dreq (port : Nat) (session : DiscReq)
  /-- ETH_LINK_DOWN: R356. -/
  | ethLinkDown (port : Nat)
  /-- SESSION_DETACH: R356: the link of `port` has been down for LOSS_MS. -/
  | sessionDetach (port : Nat)
  /-- SESSION_RELEASE: R359: session `slot` has been DETACHED for LINGER_S. -/
  | sessionRelease (slot : Nat)
  /-- PARTNER_HI_WRITE: R363. -/
  | partnerHiWrite (a : Agent) (port : Nat) (v : W64)
  /-- PARTNER_LO_WRITE: R363. -/
  | partnerLoWrite (a : Agent) (port : Nat) (v : W64)
  /-- MGMT_LINK_LOSS: R505. -/
  | mgmtLinkLoss
  /-- UNLOCK_SUBMIT: R504. -/
  | unlockSubmit (a : Agent)
  /-- UNLOCK_LOCK: R505. -/
  | unlockLock (a : Agent)
  /-- COMMIT_SVN: R497. -/
  | commitSvn (a : Agent)
  /-- GET_VERSION: R498. -/
  | getVersion
  /-- GET_CAPABILITIES: R498. -/
  | getCapabilities
  /-- NEGOTIATE_ALGORITHMS: R498: whether the requester's offer holds the two algorithms. -/
  | negotiateAlgorithms (ecdsaP384 sha384 : Bool)
  /-- GET_DIGESTS: R498. -/
  | getDigests
  /-- GET_CERTIFICATE: R498. -/
  | getCertificate (slot offset length : Nat)
  /-- CHALLENGE: R501. -/
  | challenge (slot : Nat) (nonce : Bytes)
  /-- GET_MEASUREMENTS: R500: index 0xFF asks for every index. -/
  | getMeasurements (index : Nat) (sign : Bool) (nonce : Bytes)
  /-- POWER_ON_RESET: R476: the auxiliary input comes into range; straps SLOT_ID. -/
  | powerOnReset (slotId : Nat)
  /-- MAIN_START: R474: the main input has been above the start threshold for 10 ms. -/
  | mainStart (vin10mv : Nat)
  /-- REFCLK_VALID: R549: both reference clocks have met their limits for 1 ms. -/
  | refclkValid
  /-- HBM_TRAINING_COMPLETE: R474: the most often any one stack failed training. -/
  | hbmTrainingComplete (failures : Nat)
  /-- CXL_TRAINING_COMPLETE: R474: capacity of each port's device in GiB, 0 for none. -/
  | cxlTrainingComplete (gib0 gib1 : Nat)
  /-- READY: R474: the fabric reset of start-up completes; the physical cores (die row, column) that its self-test failed. -/
  | ready (fails : List (Nat × Nat))
  /-- AUX_LOST: R472. -/
  | auxLost
  /-- MAIN_UNDERVOLTAGE: R472. -/
  | mainUndervoltage
  /-- MAIN_OVERVOLTAGE: R472. -/
  | mainOvervoltage
  /-- REGULATOR_FAULT: R472. -/
  | regulatorFault
  /-- REFCLK_LOSS: R549. -/
  | refclkLoss
  /-- RESET_CTRL_FABRIC: R489, KIND 1; the physical cores that the reset's self-test fails. -/
  | resetCtrlFabric (a : Agent) (fails : List (Nat × Nat))
  /-- RESET_CTRL_MODULE: R489, KIND 2. -/
  | resetCtrlModule (a : Agent)
  /-- HOLD_OFF_WRITE: R488. -/
  | holdOffWrite (a : Agent) (hold : Bool)
  /-- I3C_GET_ID: R546. -/
  | i3cGetId (args : Bytes) (pec : Byte)
  /-- I3C_GET_POWER: R546. -/
  | i3cGetPower (args : Bytes) (pec : Byte)
  /-- I3C_GET_TEMP: R546. -/
  | i3cGetTemp (args : Bytes) (pec : Byte)
  /-- I3C_GET_EVENTS: R546. -/
  | i3cGetEvents (args : Bytes) (pec : Byte)
  /-- I3C_READ_REG: R546. -/
  | i3cReadReg (args : Bytes) (pec : Byte)
  /-- I3C_WRITE_REG: R546. -/
  | i3cWriteReg (args : Bytes) (pec : Byte)
  /-- I3C_MODULE_RESET: R546. -/
  | i3cModuleReset (args : Bytes) (pec : Byte)
  /-- I3C_FABRIC_RESET: R546; the physical cores that the reset's self-test fails. -/
  | i3cFabricReset (args : Bytes) (pec : Byte) (fails : List (Nat × Nat))
  /-- I3C_PRIVATE_READ: R545: whether the response has been made (within 1 ms of its frame). -/
  | i3cPrivateRead (ready : Bool)
  /-- SETDASA: R544. -/
  | setdasa (static dynamic : Nat)
  /-- SETNEWDA: R544. -/
  | setnewda (dynamic : Nat)
  /-- RSTDAA: R544. -/
  | rstdaa
  /-- GETPID: R544. -/
  | getpid
  /-- GETBCR: R544. -/
  | getbcr
  /-- GETDCR: R544. -/
  | getdcr
  /-- GETSTATUS: R544. -/
  | getstatus
  /-- GETMRL: R544. -/
  | getmrl
  /-- GETMWL: R544. -/
  | getmwl
  /-- ENEC: R544. -/
  | enec
  /-- DISEC: R544. -/
  | disec
  /-- IBI_RETRY: R547: the IBI with data byte `code` is raised again. -/
  | ibiRetry (code : Nat) (accepted : Bool)
  /-- GENERATION_COMPLETE: R431. -/
  | generationComplete
  /-- DOM_CTL_RELEASE: R457. -/
  | domCtlRelease (a : Agent)
  /-- WIN_OPEN_WRITE: R459. -/
  | winOpenWrite (a : Agent) (core : Nat) (v : W32)
  /-- TMAP_WRITE: R465. -/
  | tmapWrite (a : Agent) (k : Nat) (v : W64)
  /-- PACE_VSET_WRITE: R37. -/
  | paceVsetWrite (a : Agent) (v : W32)
  /-- EDGE_WEIGHT_WRITE: R71. -/
  | edgeWeightWrite (a : Agent) (k : Nat) (v : W32)
  /-- SPARE_REQ_COL_WRITE: R65. -/
  | spareReqColWrite (a : Agent) (n : Nat) (v : W32)
  /-- GOV_CLEAR: R178. -/
  | govClear (a : Agent)
  /-- CART_QUERY: R289. -/
  | cartQuery (a : Agent) (v : W64)
  /-- SESS_QUERY: R365. -/
  | sessQuery (a : Agent) (v : W32)
  /-- CNT_CLEAR: R522. -/
  | cntClear (a : Agent)
  /-- CNT_CLEAR_ALL: R522. -/
  | cntClearAll (a : Agent)
  /-- EVT_HEAD_WRITE: R523. -/
  | evtHeadWrite (a : Agent) (v : W32)
  /-- TELE_HEAD_WRITE: R524. -/
  | teleHeadWrite (a : Agent) (v : W64)
  /-- REGISTER_READ_CLEAR: R527: a read of 4 or 8 bytes. -/
  | registerReadClear (a : Agent) (offset size : Nat)
  /-- REGISTER_WRITE: R527: a write of 4 or 8 bytes. -/
  | registerWrite (a : Agent) (offset size : Nat) (v : W64)
  /-- DROOP_RECOVERY: R30 step 4. -/
  | droopRecovery (die : Nat)
  /-- ETH_LINK_UP: R362. -/
  | ethLinkUp (port : Nat)
  /-- RDMA_RETRY_EXHAUSTION: R356. -/
  | rdmaRetryExhaustion (slot : Nat)
  /-- FCS_ICRC_DROP: R410. -/
  | fcsIcrcDrop (port : Nat)
  /-- LANE_LOCK_LOSS: R442. -/
  | laneLockLoss (k : Nat)
  /-- RETRAIN_FAILURE: R370. -/
  | retrainFailure (k : Nat)
  /-- ADOPT_E2E_ELAPSED: R437. -/
  | adoptE2eElapsed
  deriving DecidableEq, Repr

end Sys2Proof
end

