-- ==== Sys2Proof/Decode.lean ====
section
/-!
DEFINITION. The decoder of the table's rows. No row of spec/opcode_table.json gives its command any bits (every "fields" list
is empty): commands are operations and events of the block, so no word spells one.
-/
namespace Sys2Proof

/-- The command that a word spells by the table's bits: none, since the table gives no row any bits. -/
def decodeTableWord (_nbits _w : Nat) : Option Instr := none

end Sys2Proof
end

