-- ==== Sys2Proof/Config.lean ====
section
/-!
DEFINITION. What an implementation fixes and the free values: functions without a body, applied to the operands they
depend on or to the number of the draw (State.draws), so that nothing can be proved of the value they give.
-/
namespace Sys2Proof.Config

/-- R351, R353: whether the device has performed, at draw `n`, a write of a completed command with VISIBLE 0 to one
aligned 8-byte word (R349). -/
opaque writePerformed : Nat → Nat → Bool

/-- R310: the engine that the device picks with SUBSEL 0, taken modulo the number of instances present. -/
opaque enginePick : Nat → Nat

/-- R346: the R_Key chosen at an attach. -/
opaque rkey : Nat → W32

/-- R510, R504: register `i` of the nonce of draw `n`, drawn at random. -/
opaque nonce (n i : Nat) : W64

/-- R264, R9: which of the free frames of a stack or port the device takes, by draw and by the frame's order in the page; taken
modulo the number of free frames. -/
opaque framePick : Nat → Nat → Nat

/-- R480: the tap setting, modulo 64, that the start-up calibration of draw `n` leaves at a replica pair. -/
opaque startTap (n pair : Nat) : Nat

/-- R34, R35: the matrix issue fraction in 1/256 that holding the envelope and the junction target would need, modulo 257, at draw `n`
of the pace governor: by the input power over 10 µs and 1 s, LIMIT_W, the hottest junction and TJ_TARGET_C. -/
opaque slowLoop (n p10us p1s limit hot target : Nat) : Nat

/-- R496, R504: whether an ECDSA P-384 signature verifies under a public key over a message (FIPS 186-5). -/
opaque ecdsaVerifies (key msg sig : Bytes) : Bool

/-- R496, R504: whether an LMS signature verifies under a public key over a message (NIST SP 800-208). -/
opaque lmsVerifies (key msg sig : Bytes) : Bool

/-- R494, R501: byte `i` of the ECDSA P-384 signature over a message under a private key, at draw `n`. -/
opaque ecdsaSignature (key n : Nat) (msg : Bytes) (i : Nat) : Byte

/-- R494, R501: byte `i` of the LMS signature of a leaf over a message, under the key of an identifier and a seed. -/
opaque lmsSignature (ident seed : Bytes) (leaf : Nat) (msg : Bytes) (i : Nat) : Byte

/-- R499 index 1: the boot ROM version. -/
opaque bootRomVersion : W32

/-- R499: DMTFSpecMeasurementValueType, modulo 128, of a measurement index, which DSP0274 defines. -/
opaque measurementType (index : Nat) : Nat

/-- R501: byte `i` of the responder's nonce of draw `n`. -/
opaque spdmNonce (n i : Nat) : Byte

/-- R498: the length of the certificate chain of slot 0 (1 more than this number modulo 65,535) and its bytes. -/
opaque certLength : Nat
opaque certByte : Nat → Byte

/-- R544: bits [47:32] of the provisioned ID. -/
opaque pidHigh : BitVec 16

/-- R544: the device characteristics that GETDCR returns. -/
opaque dcr : Byte

/-- R262: the bytes of the cart table area, whose layout no rule gives, at an offset of the area. -/
opaque cartTableByte : Nat → Nat → Byte

/-- R369: the exponent of the first of the four consecutive roots of the code's generator polynomial, which no rule gives. -/
opaque rsFirst : Nat

/-- R330: whether the conditions of the flag wait are found at the instant, draw `n`, at which a segment is found stuck. -/
opaque atOnce : Nat → Bool

/-- R8: a byte that the manual leaves unspecified. -/
opaque unspecifiedByte : Nat → Nat → Byte

/-- R519 to R517: the order in which events raised at one instant appear; R517 leaves it unspecified. -/
opaque eventOrder : Nat → Bool

/-- R185, R9: which two of the values that remain the array adds at addition `k` of element (r, c) of a tile product, by array
mode; taken modulo the number of values. -/
opaque sumPair (mode r c k : Nat) : Nat × Nat

/-- R197, R9: by how many units in the last place, modulo 5 and less 2, the result of operation `op` on two FP32 codes differs
from the correctly rounded one. -/
opaque ulp (op a b : Nat) : Nat

/-- R205, R411: FAULT_CAUSE of a scalar fault that an injection forces, modulo 6 and plus 1. -/
opaque forcedCause : Nat → Nat

/-- R218, R9: the METHOD (draw, 0) and the control bytes (draw, 1 + position) of a lossless record that the unit writes, each
taken modulo the choices that decode to the tile. -/
opaque losslessPick : Nat → Nat → Nat

/-- R141, R281: the code of a pad element that a data-movement command writes, by draw and element, taken modulo the format's
codes: no rule states it. -/
opaque padCode : Nat → Nat → Nat

/-- R383: the status of the mark that a stream token without a route sets: no rule states it. -/
opaque badStreamStatus : Nat → Nat

end Sys2Proof.Config
end

