-- ==== Sys2Proof/Machine/Bits.lean ====
section
/-!
DEFINITION. Bit fields, byte order and comparisons of the manual's numbers: fields of a word (R10), little-endian fields of
a byte string (R10), serial-number arithmetic (R515), saturating counts (R514).
-/
namespace Sys2Proof.Machine

/-- Bits [hi:lo] of a natural number (R10). -/
def bitsOf (n hi lo : Nat) : Nat := (n >>> lo) % 2 ^ (hi + 1 - lo)

/-- Bit i of a natural number. -/
def bitOf (n i : Nat) : Bool := (n >>> i) % 2 = 1

/-- `n` with bits [hi:lo] replaced by the low bits of `v`. -/
def putBits (n hi lo v : Nat) : Nat :=
  let w := 2 ^ (hi + 1 - lo)
  (n >>> (hi + 1)) <<< (hi + 1) + (v % w) <<< lo + n % 2 ^ lo

/-- One bit as a number. -/
def b2n (b : Bool) : Nat := if b then 1 else 0

/-- A little-endian byte string read as a number (R10). -/
def leNat : Bytes → Nat
  | [] => 0
  | b :: bs => b.toNat + 256 * leNat bs

/-- The low `len` bytes of a number, little-endian (R10). -/
def leBytes : Nat → Nat → Bytes
  | 0, _ => []
  | len + 1, n => BitVec.ofNat 8 n :: leBytes len (n / 256)

/-- `len` bytes of a string from an offset; bytes past its end read as zero. -/
def sliceBytes (bs : Bytes) (off len : Nat) : Bytes :=
  let s := (bs.drop off).take len
  s ++ List.replicate (len - s.length) 0

/-- The little-endian field of `len` bytes at offset `off` (R10). -/
def leField (bs : Bytes) (off len : Nat) : Nat := leNat (sliceBytes bs off len)

/-- Every byte of a range of a string is zero (R16). -/
def zeroField (bs : Bytes) (off len : Nat) : Bool := (sliceBytes bs off len).all (· = 0)

/-- The offset of the first nonzero byte among the listed (offset, length) ranges. -/
def firstNonzero (bs : Bytes) : List (Nat × Nat) → Option Nat
  | [] => none
  | (off, len) :: rest =>
    match (List.range len).find? (fun i => (bs.getD (off + i) 0) ≠ 0) with
    | some i => some (off + i)
    | none => firstNonzero bs rest

/-- Serial-number distance of two 32-bit numbers (R515). -/
def serialAfter (a b : W32) : Bool := 1 ≤ (a - b).toNat ∧ (a - b).toNat ≤ 2 ^ 31 - 1

/-- a is before b by serial-number arithmetic (R515). -/
def serialBefore (a b : W32) : Bool := 2 ^ 31 ≤ (a - b).toNat

/-- a is at or after b (R515). -/
def serialAtOrAfter (a b : W32) : Bool := (a - b).toNat ≤ 2 ^ 31 - 1

/-- A count of `w` bits that saturates at all ones (R514). -/
def satAdd (w n by' : Nat) : Nat := min (n + by') (2 ^ w - 1)

/-- Ceiling of a quotient. -/
def ceilDiv (a b : Nat) : Nat := (a + b - 1) / b

/-- Range [a, a + la) meets [b, b + lb). -/
def rangesMeet (a la b lb : Nat) : Bool := 0 < la ∧ 0 < lb ∧ a < b + lb ∧ b < a + la

/-- A list is in strictly ascending order. -/
def ascending : List Nat → Bool
  | [] => true
  | [_] => true
  | a :: b :: rest => decide (a < b) && ascending (b :: rest)

/-- The indices 0 to n − 1 at which a test holds. -/
def indicesWhere (n : Nat) (p : Nat → Bool) : List Nat := (List.range n).filter p

/-- Bits set in a mask of `n` bits, in ascending order. -/
def maskBits (n mask : Nat) : List Nat := indicesWhere n (fun i => bitOf mask i)

/-- Two's complement reading of a 16-bit number. -/
def signed16 (n : Nat) : Int := if n % 65536 < 32768 then (n % 65536 : Nat) else ((n % 65536 : Nat) : Int) - 65536

end Sys2Proof.Machine
end

