-- ==== Sys2Proof/Machine/Regs.lean ====
section
/-!
DEFINITION. The control space as 21_register_map.md lays it out (R530, R531): each register under its own name, its
offset, width and fields (R14), its reset value, and the map from an offset back to the register that occupies it.
-/
namespace Sys2Proof.Machine

/-- Access codes of a register field (R14). W1S is used by no register of this edition. -/
inductive Access where
  | ro | rw | w1c | wo | rc
  deriving DecidableEq, Repr

/-- A register of the control space (R531); an instanced one carries its instance number. -/
inductive Reg where
  /-- GLB.ACC_STATUS (R536) -/
  | glbAccStatus
  /-- GLB.RECOV_CTRL (R423) -/
  | glbRecovCtrl
  /-- GLB.RECOV_STATUS (R424) -/
  | glbRecovStatus
  /-- GLB.ERR_LAST (R425) -/
  | glbErrLast
  /-- GLB.CAP[i] (R533) -/
  | glbCap (i : Nat)
  /-- PWR.STATUS (R486) -/
  | pwrStatus
  /-- PWR.IN_POWER (R487) -/
  | pwrInPower
  /-- PWR.CTRL (R488) -/
  | pwrCtrl
  /-- PWR.RESET_CTRL (R489) -/
  | pwrResetCtrl
  /-- PWR.RESET_CAUSE (R490) -/
  | pwrResetCause
  /-- PACE.VSET (R37) -/
  | paceVset
  /-- PACE.DROOP_THR (R38) -/
  | paceDroopThr
  /-- PACE.ENV_LIMIT (R39) -/
  | paceEnvLimit
  /-- PACE.STATUS (R40) -/
  | paceStatus
  /-- SEC.STATUS (R506) -/
  | secStatus
  /-- SEC.UNLOCK_CTL (R507) -/
  | secUnlockCtl
  /-- SEC.LMS_STATE (R508) -/
  | secLmsState
  /-- SEC.CTRL (R509) -/
  | secCtrl
  /-- SEC.NONCE[i] (R510) -/
  | secNonce (i : Nat)
  /-- SEC.UNLOCK_BUF (R504) -/
  | secUnlockBuf (i : Nat)
  /-- TEL.INTERVAL_CNT (R41) -/
  | telIntervalCnt
  /-- TEL.CNT_SEL (R521) -/
  | telCntSel
  /-- TEL.CNT_VAL (R522) -/
  | telCntVal
  /-- TEL.CNT_CTRL (R522) -/
  | telCntCtrl
  /-- TEL.EVT_STATUS (R523) -/
  | telEvtStatus
  /-- TEL.EVT_HEAD (R523) -/
  | telEvtHead
  /-- TEL.SAMPLE_CFG (R524) -/
  | telSampleCfg
  /-- TEL.TELE_IDX (R524) -/
  | telTeleIdx
  /-- TEL.HEALTH_CFG (R443) -/
  | telHealthCfg
  /-- TEL.HEALTH_STATUS (R444) -/
  | telHealthStatus
  /-- TEL.HEALTH_PRESET (R445) -/
  | telHealthPreset
  /-- TEL.DOM_QUERY (R469) -/
  | telDomQuery
  /-- TEL.DOM_POOL_A (R469) -/
  | telDomPoolA
  /-- TEL.DOM_POOL_B (R469) -/
  | telDomPoolB
  /-- TEL.WATCH[i] (R524) -/
  | telWatch (i : Nat)
  /-- INJ.STATUS (R426) -/
  | injStatus
  /-- NEWT.STATUS (R537) -/
  | newtStatus
  /-- LAU.POSITION (R397) -/
  | lauPosition
  /-- LAU.CTRL (R399) -/
  | lauCtrl
  /-- LAU.ROUTE[i] (R398) -/
  | lauRoute (i : Nat)
  /-- LAU[k].CFG (R400) -/
  | lauPortCfg (i : Nat)
  /-- LAU[k].STATUS (R401) -/
  | lauPortStatus (i : Nat)
  /-- LAU[k].CREDIT_X (R402) -/
  | lauCreditX (i : Nat)
  /-- ETH.SESS_QUERY (R365) -/
  | ethSessQuery
  /-- ETH.SESS_INFO (R366) -/
  | ethSessInfo
  /-- ETH[k].CFG (R361) -/
  | ethCfg (i : Nat)
  /-- ETH[k].STATUS (R362) -/
  | ethStatus (i : Nat)
  /-- ETH[k].PARTNER_HI (R363) -/
  | ethPartnerHi (i : Nat)
  /-- ETH[k].PARTNER_LO (R363) -/
  | ethPartnerLo (i : Nat)
  /-- ETH[k].REFUSE_LAST (R364) -/
  | ethRefuseLast (i : Nat)
  /-- ETH.DOM_OPEN[i] (R468) -/
  | ethDomOpen (i : Nat)
  /-- CXL.POOL_CFG (R284) -/
  | cxlPoolCfg
  /-- CXL.TIER_LIMIT (R285) -/
  | cxlTierLimit
  /-- CXL.POOL_STATUS (R286) -/
  | cxlPoolStatus
  /-- CXL.AGE_CLOCK (R287) -/
  | cxlAgeClock
  /-- CXL.CART_QUERY (R289) -/
  | cxlCartQuery
  /-- CXL.CART_ENTRY_LO (R290) -/
  | cxlCartEntryLo
  /-- CXL.CART_ENTRY_HI (R291) -/
  | cxlCartEntryHi
  /-- CXL[p].PORT_STATUS (R288) -/
  | cxlPortStatus (i : Nat)
  /-- HBM.UPD_STATUS (R250) -/
  | hbmUpdStatus
  /-- HBM.UPD_SAT_LAST (R251) -/
  | hbmUpdSatLast
  /-- HBM.SNAP_STATUS (R446) -/
  | hbmSnapStatus
  /-- FAB.COACH_STATUS (R103) -/
  | fabCoachStatus
  /-- FAB.COACH_LEFTOVER (R105) -/
  | fabCoachLeftover
  /-- FAB.TOKEN_STATUS (R130) -/
  | fabTokenStatus
  /-- FAB.GOV_CTRL (R178) -/
  | fabGovCtrl
  /-- FAB.DOM_CTL (R466) -/
  | fabDomCtl
  /-- FAB.SPARE_TEST (R491) -/
  | fabSpareTest
  /-- FAB.COACH_SLOT[k] (R104) -/
  | fabCoachSlot (i : Nat)
  /-- FAB.EDGE_WEIGHT[k] (R71) -/
  | fabEdgeWeight (i : Nat)
  /-- FAB.SPARE[n] (R65) -/
  | fabSpare (i : Nat)
  /-- FAB.TMAP[k] (R465) -/
  | fabTmap (i : Nat)
  /-- CORE[n].STATUS (R66) -/
  | coreStatus (i : Nat)
  /-- CORE[n].ENG_STATUS (R205) -/
  | coreEngStatus (i : Nat)
  /-- CORE[n].LOOP_STATUS (R153) -/
  | coreLoopStatus (i : Nat)
  /-- CORE[n].DEFER_STATUS (R212) -/
  | coreDeferStatus (i : Nat)
  /-- CORE[n].WIN_OPEN (R467) -/
  | coreWinOpen (i : Nat)
  /-- CORE[n].TEST_RESULT (R492) -/
  | coreTestResult (i : Nat)
  /-- QDIR.QCTRL (R335) -/
  | qdirQctrl
  /-- QDIR.QSTAT (R336) -/
  | qdirQstat
  /-- QDIR.QSTAT_IDX (R337) -/
  | qdirQstatIdx
  /-- QDIR.DL_STATUS (R338) -/
  | qdirDlStatus
  /-- QDIR.STEP_STATUS (R339) -/
  | qdirStepStatus
  /-- QDIR.DOORBELL[q] (R333) -/
  | qdirDoorbell (i : Nat)
  /-- QDIR.CQ_DOORBELL[q] (R334) -/
  | qdirCqDoorbell (i : Nat)
  deriving DecidableEq, Repr

/-- Offset of a register from the start of the control space (R530, R531). -/
def Reg.offset : Reg → Nat
  | .glbAccStatus => 0x8
  | .glbRecovCtrl => 0x100
  | .glbRecovStatus => 0x108
  | .glbErrLast => 0x110
  | .glbCap i => 0x1000 + 0x8 * i
  | .pwrStatus => 0x10000
  | .pwrInPower => 0x10008
  | .pwrCtrl => 0x10010
  | .pwrResetCtrl => 0x10018
  | .pwrResetCause => 0x10020
  | .paceVset => 0x20000
  | .paceDroopThr => 0x20008
  | .paceEnvLimit => 0x20010
  | .paceStatus => 0x20018
  | .secStatus => 0x30000
  | .secUnlockCtl => 0x30008
  | .secLmsState => 0x30010
  | .secCtrl => 0x30018
  | .secNonce i => 0x30020 + 0x8 * i
  | .secUnlockBuf i => 0x30800 + 0x8 * i
  | .telIntervalCnt => 0x40000
  | .telCntSel => 0x40008
  | .telCntVal => 0x40010
  | .telCntCtrl => 0x40018
  | .telEvtStatus => 0x40020
  | .telEvtHead => 0x40028
  | .telSampleCfg => 0x40030
  | .telTeleIdx => 0x40038
  | .telHealthCfg => 0x40040
  | .telHealthStatus => 0x40048
  | .telHealthPreset => 0x40050
  | .telDomQuery => 0x40058
  | .telDomPoolA => 0x40060
  | .telDomPoolB => 0x40068
  | .telWatch i => 0x40100 + 0x8 * i
  | .injStatus => 0x50000
  | .newtStatus => 0x60000
  | .lauPosition => 0x80000
  | .lauCtrl => 0x80008
  | .lauRoute i => 0x80100 + 0x8 * i
  | .lauPortCfg i => 0x81000 + 0x100 * i
  | .lauPortStatus i => 0x81008 + 0x100 * i
  | .lauCreditX i => 0x81010 + 0x100 * i
  | .ethSessQuery => 0xa0000
  | .ethSessInfo => 0xa0008
  | .ethCfg i => 0xa0100 + 0x40 * i
  | .ethStatus i => 0xa0108 + 0x40 * i
  | .ethPartnerHi i => 0xa0110 + 0x40 * i
  | .ethPartnerLo i => 0xa0118 + 0x40 * i
  | .ethRefuseLast i => 0xa0120 + 0x40 * i
  | .ethDomOpen i => 0xa4000 + 0x8 * i
  | .cxlPoolCfg => 0xc0000
  | .cxlTierLimit => 0xc0008
  | .cxlPoolStatus => 0xc0010
  | .cxlAgeClock => 0xc0018
  | .cxlCartQuery => 0xc0020
  | .cxlCartEntryLo => 0xc0028
  | .cxlCartEntryHi => 0xc0030
  | .cxlPortStatus i => 0xc0100 + 0x8 * i
  | .hbmUpdStatus => 0xe0000
  | .hbmUpdSatLast => 0xe0008
  | .hbmSnapStatus => 0xe0010
  | .fabCoachStatus => 0x100000
  | .fabCoachLeftover => 0x100008
  | .fabTokenStatus => 0x100010
  | .fabGovCtrl => 0x100018
  | .fabDomCtl => 0x100020
  | .fabSpareTest => 0x100028
  | .fabCoachSlot i => 0x100100 + 0x8 * i
  | .fabEdgeWeight i => 0x100140 + 0x8 * i
  | .fabSpare i => 0x100200 + 0x8 * i
  | .fabTmap i => 0x100400 + 0x8 * i
  | .coreStatus i => 0x200000 + 0x1000 * i
  | .coreEngStatus i => 0x200008 + 0x1000 * i
  | .coreLoopStatus i => 0x200010 + 0x1000 * i
  | .coreDeferStatus i => 0x200018 + 0x1000 * i
  | .coreWinOpen i => 0x200020 + 0x1000 * i
  | .coreTestResult i => 0x200028 + 0x1000 * i
  | .qdirQctrl => 0x1000000
  | .qdirQstat => 0x1000008
  | .qdirQstatIdx => 0x1000010
  | .qdirDlStatus => 0x1000018
  | .qdirStepStatus => 0x1000020
  | .qdirDoorbell i => 0x2000000 + 0x8 * i
  | .qdirCqDoorbell i => 0x2800000 + 0x8 * i

/-- Width of a register in bits (R531). -/
def Reg.width : Reg → Nat
  | .glbAccStatus => 64
  | .glbRecovCtrl => 32
  | .glbRecovStatus => 64
  | .glbErrLast => 64
  | .glbCap _ => 64
  | .pwrStatus => 32
  | .pwrInPower => 32
  | .pwrCtrl => 32
  | .pwrResetCtrl => 32
  | .pwrResetCause => 64
  | .paceVset => 32
  | .paceDroopThr => 32
  | .paceEnvLimit => 32
  | .paceStatus => 32
  | .secStatus => 32
  | .secUnlockCtl => 32
  | .secLmsState => 64
  | .secCtrl => 32
  | .secNonce _ => 64
  | .secUnlockBuf _ => 64
  | .telIntervalCnt => 64
  | .telCntSel => 64
  | .telCntVal => 64
  | .telCntCtrl => 32
  | .telEvtStatus => 64
  | .telEvtHead => 32
  | .telSampleCfg => 32
  | .telTeleIdx => 64
  | .telHealthCfg => 64
  | .telHealthStatus => 64
  | .telHealthPreset => 64
  | .telDomQuery => 32
  | .telDomPoolA => 64
  | .telDomPoolB => 64
  | .telWatch _ => 32
  | .injStatus => 32
  | .newtStatus => 32
  | .lauPosition => 32
  | .lauCtrl => 32
  | .lauRoute _ => 64
  | .lauPortCfg _ => 32
  | .lauPortStatus _ => 64
  | .lauCreditX _ => 32
  | .ethSessQuery => 32
  | .ethSessInfo => 64
  | .ethCfg _ => 32
  | .ethStatus _ => 32
  | .ethPartnerHi _ => 64
  | .ethPartnerLo _ => 64
  | .ethRefuseLast _ => 64
  | .ethDomOpen _ => 32
  | .cxlPoolCfg => 32
  | .cxlTierLimit => 32
  | .cxlPoolStatus => 64
  | .cxlAgeClock => 32
  | .cxlCartQuery => 64
  | .cxlCartEntryLo => 64
  | .cxlCartEntryHi => 64
  | .cxlPortStatus _ => 32
  | .hbmUpdStatus => 32
  | .hbmUpdSatLast => 64
  | .hbmSnapStatus => 64
  | .fabCoachStatus => 32
  | .fabCoachLeftover => 32
  | .fabTokenStatus => 32
  | .fabGovCtrl => 32
  | .fabDomCtl => 32
  | .fabSpareTest => 64
  | .fabCoachSlot _ => 64
  | .fabEdgeWeight _ => 32
  | .fabSpare _ => 32
  | .fabTmap _ => 64
  | .coreStatus _ => 32
  | .coreEngStatus _ => 64
  | .coreLoopStatus _ => 64
  | .coreDeferStatus _ => 32
  | .coreWinOpen _ => 32
  | .coreTestResult _ => 32
  | .qdirQctrl => 32
  | .qdirQstat => 32
  | .qdirQstatIdx => 64
  | .qdirDlStatus => 32
  | .qdirStepStatus => 64
  | .qdirDoorbell _ => 32
  | .qdirCqDoorbell _ => 32

/-- One row of a register field table: bits hi to lo, the access code and the reset value (R14). -/
structure FieldRow where
  hi : Nat
  lo : Nat
  acc : Access
  rst : Nat
  deriving DecidableEq, Repr

/-- The field table of each register, without its reserved rows (R15). Reset values that the spec takes from fuses,
flash, boot or start-up, or calls random, are DESIGN CHOICES of log entry 4; the power-on value of PACE.ENV_LIMIT.LIMIT_W
is the grade's and is added by Reg.resetValue. -/
def Reg.layout : Reg → List FieldRow
  | .glbAccStatus => [⟨63, 63, .w1c, 0⟩, ⟨62, 60, .ro, 0⟩, ⟨59, 58, .ro, 0⟩, ⟨47, 0, .ro, 0⟩]
  | .glbRecovCtrl => [⟨7, 4, .rw, 2⟩, ⟨0, 0, .rw, 0⟩]
  | .glbRecovStatus => [⟨41, 32, .ro, 0⟩, ⟨26, 24, .ro, 0⟩, ⟨23, 16, .rc, 0⟩, ⟨1, 1, .w1c, 0⟩, ⟨0, 0, .ro, 0⟩]
  | .glbErrLast => [⟨63, 63, .ro, 0⟩, ⟨55, 48, .ro, 0⟩, ⟨47, 40, .ro, 0⟩, ⟨39, 20, .ro, 0⟩, ⟨19, 0, .ro, 0⟩]
  | .glbCap _ => [⟨63, 0, .ro, 0⟩]
  | .pwrStatus => [⟨31, 28, .ro, 1⟩, ⟨23, 23, .ro, 0⟩, ⟨22, 22, .ro, 0⟩, ⟨15, 0, .ro, 0⟩]
  | .pwrInPower => [⟨31, 16, .ro, 0⟩, ⟨15, 0, .ro, 0⟩]
  | .pwrCtrl => [⟨0, 0, .rw, 0⟩]
  | .pwrResetCtrl => [⟨1, 0, .wo, 0⟩]
  | .pwrResetCause => [⟨63, 48, .ro, 0⟩, ⟨47, 44, .ro, 3⟩, ⟨39, 32, .ro, 1⟩, ⟨25, 24, .ro, 0⟩]
  | .paceVset => [⟨9, 0, .rw, 750⟩]
  | .paceDroopThr => [⟨31, 24, .rw, 20⟩, ⟨23, 16, .rw, 10⟩, ⟨6, 0, .rw, 40⟩]
  | .paceEnvLimit => [⟨23, 16, .rw, 95⟩, ⟨11, 0, .rw, 0⟩]
  | .paceStatus => [⟨23, 16, .ro, 0⟩, ⟨11, 11, .w1c, 0⟩, ⟨10, 10, .ro, 0⟩, ⟨9, 9, .w1c, 0⟩, ⟨8, 8, .w1c, 0⟩, ⟨4, 4, .ro, 0⟩, ⟨3, 0, .ro, 0⟩]
  | .secStatus => [⟨31, 24, .ro, 0⟩, ⟨23, 16, .ro, 0⟩, ⟨15, 15, .ro, 0⟩, ⟨14, 14, .w1c, 0⟩, ⟨13, 13, .ro, 0⟩, ⟨12, 12, .ro, 1⟩, ⟨9, 8, .ro, 0⟩, ⟨7, 7, .w1c, 0⟩, ⟨6, 6, .ro, 0⟩, ⟨5, 5, .w1c, 0⟩]
  | .secUnlockCtl => [⟨31, 31, .wo, 0⟩, ⟨30, 30, .wo, 0⟩, ⟨29, 29, .w1c, 0⟩, ⟨23, 16, .ro, 0⟩]
  | .secLmsState => [⟨40, 32, .ro, 0⟩, ⟨20, 0, .ro, 0⟩]
  | .secCtrl => [⟨0, 0, .wo, 0⟩]
  | .secNonce _ => [⟨63, 0, .ro, 0⟩]
  | .secUnlockBuf _ => [⟨63, 0, .wo, 0⟩]
  | .telIntervalCnt => [⟨63, 0, .ro, 0⟩]
  | .telCntSel => [⟨63, 63, .ro, 0⟩, ⟨62, 62, .ro, 0⟩, ⟨31, 20, .rw, 0⟩, ⟨19, 0, .rw, 0⟩]
  | .telCntVal => [⟨63, 0, .ro, 0⟩]
  | .telCntCtrl => [⟨31, 31, .wo, 0⟩, ⟨30, 30, .wo, 0⟩]
  | .telEvtStatus => [⟨63, 32, .ro, 0⟩, ⟨31, 31, .w1c, 0⟩, ⟨15, 0, .rc, 0⟩]
  | .telEvtHead => [⟨31, 0, .rw, 0⟩]
  | .telSampleCfg => [⟨15, 0, .rw, 0⟩]
  | .telTeleIdx => [⟨63, 32, .ro, 0⟩, ⟨31, 0, .rw, 0⟩]
  | .telHealthCfg => [⟨63, 32, .rw, 4294967295⟩, ⟨31, 31, .rw, 0⟩, ⟨30, 27, .rw, 10⟩, ⟨23, 20, .rw, 8⟩, ⟨19, 16, .rw, 2⟩, ⟨15, 12, .rw, 1⟩, ⟨11, 8, .rw, 2⟩, ⟨7, 4, .rw, 4⟩, ⟨3, 0, .rw, 1⟩]
  | .telHealthStatus => [⟨63, 63, .w1c, 0⟩, ⟨62, 62, .w1c, 0⟩, ⟨31, 0, .ro, 0⟩]
  | .telHealthPreset => [⟨47, 0, .rw, 0⟩]
  | .telDomQuery => [⟨15, 0, .rw, 0⟩]
  | .telDomPoolA => [⟨63, 32, .ro, 0⟩, ⟨31, 0, .ro, 0⟩]
  | .telDomPoolB => [⟨63, 32, .ro, 0⟩, ⟨31, 0, .ro, 0⟩]
  | .telWatch _ => [⟨31, 31, .rw, 0⟩, ⟨19, 0, .rw, 0⟩]
  | .injStatus => [⟨31, 31, .ro, 0⟩, ⟨20, 16, .ro, 0⟩, ⟨15, 0, .rc, 0⟩]
  | .newtStatus => [⟨31, 31, .ro, 0⟩, ⟨30, 30, .ro, 0⟩, ⟨29, 29, .ro, 0⟩, ⟨23, 16, .ro, 0⟩, ⟨15, 0, .ro, 0⟩]
  | .lauPosition => [⟨23, 0, .rw, 16777215⟩]
  | .lauCtrl => [⟨31, 8, .rw, 1000⟩, ⟨7, 0, .rw, 255⟩]
  | .lauRoute _ => [⟨63, 40, .rw, 0⟩, ⟨39, 16, .rw, 0⟩, ⟨15, 15, .rw, 0⟩, ⟨14, 14, .rw, 0⟩, ⟨7, 4, .rw, 15⟩, ⟨3, 0, .rw, 15⟩]
  | .lauPortCfg _ => [⟨31, 31, .rw, 0⟩, ⟨15, 12, .rw, 1⟩, ⟨11, 8, .rw, 6⟩, ⟨7, 4, .rw, 6⟩]
  | .lauPortStatus _ => [⟨63, 48, .ro, 0⟩, ⟨39, 16, .ro, 16777215⟩, ⟨12, 12, .w1c, 0⟩, ⟨11, 11, .w1c, 0⟩, ⟨10, 10, .w1c, 0⟩, ⟨2, 0, .ro, 0⟩]
  | .lauCreditX _ => [⟨15, 8, .ro, 16⟩, ⟨7, 0, .ro, 0⟩]
  | .ethSessQuery => [⟨11, 0, .rw, 0⟩]
  | .ethSessInfo => [⟨63, 48, .ro, 0⟩, ⟨47, 45, .ro, 0⟩, ⟨44, 43, .ro, 0⟩, ⟨42, 42, .ro, 0⟩, ⟨41, 41, .ro, 0⟩, ⟨31, 0, .ro, 0⟩]
  | .ethCfg _ => [⟨31, 16, .rw, 0⟩, ⟨15, 8, .rw, 50⟩, ⟨4, 4, .rw, 0⟩, ⟨3, 3, .rw, 1⟩, ⟨2, 0, .rw, 3⟩]
  | .ethStatus _ => [⟨31, 31, .ro, 0⟩, ⟨30, 30, .w1c, 0⟩, ⟨29, 29, .w1c, 0⟩, ⟨28, 28, .w1c, 0⟩, ⟨27, 27, .ro, 0⟩, ⟨26, 16, .ro, 0⟩]
  | .ethPartnerHi _ => [⟨63, 0, .rw, 0⟩]
  | .ethPartnerLo _ => [⟨63, 0, .rw, 0⟩]
  | .ethRefuseLast _ => [⟨63, 52, .ro, 0⟩, ⟨51, 48, .ro, 0⟩, ⟨47, 0, .ro, 0⟩]
  | .ethDomOpen _ => [⟨31, 0, .rw, 0⟩]
  | .cxlPoolCfg => [⟨31, 24, .rw, 1⟩, ⟨23, 0, .rw, 16384⟩]
  | .cxlTierLimit => [⟨31, 16, .rw, 10⟩, ⟨15, 0, .rw, 4⟩]
  | .cxlPoolStatus => [⟨63, 36, .ro, 0⟩, ⟨32, 32, .w1c, 0⟩, ⟨31, 8, .ro, 0⟩, ⟨3, 3, .w1c, 0⟩, ⟨2, 2, .w1c, 0⟩]
  | .cxlAgeClock => [⟨31, 0, .ro, 0⟩]
  | .cxlCartQuery => [⟨47, 16, .rw, 0⟩]
  | .cxlCartEntryLo => [⟨63, 32, .ro, 0⟩, ⟨31, 16, .ro, 0⟩, ⟨12, 12, .ro, 0⟩, ⟨11, 11, .ro, 0⟩, ⟨10, 10, .ro, 0⟩, ⟨9, 8, .ro, 0⟩, ⟨3, 0, .ro, 0⟩]
  | .cxlCartEntryHi => [⟨63, 32, .ro, 0⟩, ⟨31, 0, .ro, 0⟩]
  | .cxlPortStatus _ => [⟨31, 31, .ro, 0⟩, ⟨30, 30, .w1c, 0⟩, ⟨29, 29, .w1c, 0⟩, ⟨20, 16, .ro, 0⟩, ⟨12, 0, .ro, 0⟩]
  | .hbmUpdStatus => [⟨31, 31, .w1c, 0⟩, ⟨30, 30, .w1c, 0⟩, ⟨29, 29, .w1c, 0⟩, ⟨28, 28, .w1c, 0⟩, ⟨27, 27, .ro, 0⟩, ⟨26, 26, .ro, 0⟩, ⟨15, 0, .ro, 0⟩]
  | .hbmUpdSatLast => [⟨63, 32, .ro, 0⟩, ⟨31, 0, .ro, 0⟩]
  | .hbmSnapStatus => [⟨63, 32, .ro, 0⟩, ⟨31, 31, .ro, 0⟩, ⟨30, 30, .w1c, 0⟩, ⟨29, 29, .w1c, 0⟩, ⟨28, 28, .ro, 0⟩, ⟨27, 27, .ro, 0⟩, ⟨24, 24, .ro, 0⟩, ⟨23, 22, .ro, 0⟩, ⟨21, 20, .ro, 0⟩, ⟨19, 0, .rc, 0⟩]
  | .fabCoachStatus => [⟨19, 16, .ro, 15⟩, ⟨15, 12, .ro, 15⟩, ⟨9, 8, .ro, 0⟩, ⟨7, 7, .ro, 0⟩, ⟨2, 0, .ro, 0⟩]
  | .fabCoachLeftover => [⟨31, 0, .ro, 0⟩]
  | .fabTokenStatus => [⟨31, 31, .ro, 1⟩, ⟨30, 30, .w1c, 0⟩, ⟨15, 0, .ro, 0⟩]
  | .fabGovCtrl => [⟨31, 31, .w1c, 0⟩, ⟨30, 30, .w1c, 0⟩, ⟨16, 16, .wo, 0⟩, ⟨12, 0, .ro, 0⟩]
  | .fabDomCtl => [⟨31, 31, .wo, 0⟩, ⟨30, 30, .w1c, 0⟩, ⟨29, 29, .ro, 0⟩, ⟨28, 28, .ro, 0⟩, ⟨15, 0, .ro, 0⟩]
  | .fabSpareTest => [⟨63, 63, .rw, 1⟩, ⟨61, 56, .rw, 1⟩, ⟨55, 48, .ro, 0⟩, ⟨47, 0, .w1c, 0⟩]
  | .fabCoachSlot _ => [⟨63, 32, .ro, 0⟩, ⟨31, 30, .ro, 0⟩, ⟨29, 29, .ro, 0⟩, ⟨23, 16, .ro, 0⟩, ⟨15, 0, .ro, 0⟩]
  | .fabEdgeWeight _ => [⟨15, 12, .rw, 1⟩, ⟨11, 8, .rw, 3⟩, ⟨7, 4, .rw, 6⟩, ⟨3, 0, .rw, 6⟩]
  | .fabSpare _ => [⟨31, 31, .ro, 0⟩, ⟨18, 18, .ro, 0⟩, ⟨17, 16, .ro, 0⟩, ⟨15, 15, .w1c, 0⟩, ⟨12, 8, .rw, 31⟩, ⟨4, 0, .ro, 16⟩]
  | .fabTmap _ => [⟨63, 48, .rw, 0⟩, ⟨47, 16, .rw, 0⟩, ⟨15, 15, .rw, 0⟩, ⟨2, 0, .rw, 1⟩]
  | .coreStatus _ => [⟨11, 11, .ro, 0⟩, ⟨10, 10, .w1c, 0⟩, ⟨9, 9, .w1c, 0⟩, ⟨8, 8, .ro, 0⟩, ⟨2, 0, .ro, 0⟩]
  | .coreEngStatus _ => [⟨63, 32, .ro, 0⟩, ⟨23, 20, .ro, 0⟩, ⟨11, 11, .w1c, 0⟩, ⟨10, 10, .w1c, 0⟩, ⟨9, 9, .ro, 0⟩, ⟨8, 8, .ro, 0⟩, ⟨7, 7, .ro, 0⟩]
  | .coreLoopStatus _ => [⟨47, 40, .ro, 0⟩, ⟨39, 32, .ro, 0⟩, ⟨31, 30, .ro, 0⟩, ⟨29, 29, .ro, 0⟩, ⟨23, 0, .ro, 0⟩]
  | .coreDeferStatus _ => [⟨31, 31, .w1c, 0⟩, ⟨13, 8, .rc, 0⟩, ⟨5, 0, .ro, 0⟩]
  | .coreWinOpen _ => [⟨15, 0, .rw, 0⟩]
  | .coreTestResult _ => [⟨31, 31, .ro, 0⟩, ⟨23, 16, .w1c, 0⟩, ⟨15, 8, .ro, 0⟩]
  | .qdirQctrl => [⟨31, 28, .wo, 0⟩, ⟨19, 0, .rw, 0⟩]
  | .qdirQstat => [⟨31, 29, .ro, 0⟩, ⟨28, 21, .ro, 0⟩, ⟨20, 20, .w1c, 0⟩, ⟨19, 19, .w1c, 0⟩, ⟨18, 18, .w1c, 0⟩, ⟨17, 17, .ro, 0⟩, ⟨4, 0, .ro, 0⟩]
  | .qdirQstatIdx => [⟨63, 32, .ro, 0⟩, ⟨31, 0, .ro, 0⟩]
  | .qdirDlStatus => [⟨31, 31, .w1c, 0⟩, ⟨7, 0, .ro, 0⟩]
  | .qdirStepStatus => [⟨63, 32, .ro, 0⟩, ⟨4, 4, .ro, 0⟩, ⟨3, 3, .ro, 0⟩, ⟨2, 2, .ro, 0⟩, ⟨1, 1, .ro, 0⟩, ⟨0, 0, .ro, 0⟩]
  | .qdirDoorbell _ => [⟨31, 0, .wo, 0⟩]
  | .qdirCqDoorbell _ => [⟨31, 0, .wo, 0⟩]

/-- A named field of a register. -/
structure RegField where
  reg : Reg
  hi : Nat
  lo : Nat
  deriving DecidableEq, Repr

/-- GLB.ACC_STATUS.ACC_ERR -/ def GlbAccStatus.accErr : RegField := ⟨.glbAccStatus, 63, 63⟩
/-- GLB.ACC_STATUS.KIND -/ def GlbAccStatus.kind : RegField := ⟨.glbAccStatus, 62, 60⟩
/-- GLB.ACC_STATUS.AGENT -/ def GlbAccStatus.agent : RegField := ⟨.glbAccStatus, 59, 58⟩
/-- GLB.ACC_STATUS.ADDR -/ def GlbAccStatus.addr : RegField := ⟨.glbAccStatus, 47, 0⟩
/-- GLB.RECOV_CTRL.REPLAY_MAX -/ def GlbRecovCtrl.replayMax : RegField := ⟨.glbRecovCtrl, 7, 4⟩
/-- GLB.RECOV_CTRL.REPLAY_EN -/ def GlbRecovCtrl.replayEn : RegField := ⟨.glbRecovCtrl, 0, 0⟩
/-- GLB.RECOV_STATUS.LAST_REC -/ def GlbRecovStatus.lastRec : RegField := ⟨.glbRecovStatus, 41, 32⟩
/-- GLB.RECOV_STATUS.WHY -/ def GlbRecovStatus.why : RegField := ⟨.glbRecovStatus, 26, 24⟩
/-- GLB.RECOV_STATUS.REPLAYS -/ def GlbRecovStatus.replays : RegField := ⟨.glbRecovStatus, 23, 16⟩
/-- GLB.RECOV_STATUS.LOG_LOST -/ def GlbRecovStatus.logLost : RegField := ⟨.glbRecovStatus, 1, 1⟩
/-- GLB.RECOV_STATUS.REPLAYING -/ def GlbRecovStatus.replaying : RegField := ⟨.glbRecovStatus, 0, 0⟩
/-- GLB.ERR_LAST.INJECTED -/ def GlbErrLast.injected : RegField := ⟨.glbErrLast, 63, 63⟩
/-- GLB.ERR_LAST.DETECTOR -/ def GlbErrLast.detector : RegField := ⟨.glbErrLast, 55, 48⟩
/-- GLB.ERR_LAST.STATUS -/ def GlbErrLast.status : RegField := ⟨.glbErrLast, 47, 40⟩
/-- GLB.ERR_LAST.QUEUE -/ def GlbErrLast.queue : RegField := ⟨.glbErrLast, 39, 20⟩
/-- GLB.ERR_LAST.INSTANCE -/ def GlbErrLast.inst : RegField := ⟨.glbErrLast, 19, 0⟩
/-- PWR.STATUS.STATE -/ def PwrStatus.state : RegField := ⟨.pwrStatus, 31, 28⟩
/-- PWR.STATUS.MAIN_OK -/ def PwrStatus.mainOk : RegField := ⟨.pwrStatus, 23, 23⟩
/-- PWR.STATUS.HELD -/ def PwrStatus.held : RegField := ⟨.pwrStatus, 22, 22⟩
/-- PWR.STATUS.VIN_10MV -/ def PwrStatus.vin10mv : RegField := ⟨.pwrStatus, 15, 0⟩
/-- PWR.IN_POWER.P_1S_W -/ def PwrInPower.p1sW : RegField := ⟨.pwrInPower, 31, 16⟩
/-- PWR.IN_POWER.P_10US_W -/ def PwrInPower.p10usW : RegField := ⟨.pwrInPower, 15, 0⟩
/-- PWR.CTRL.HOLD_OFF -/ def PwrCtrl.holdOff : RegField := ⟨.pwrCtrl, 0, 0⟩
/-- PWR.RESET_CTRL.KIND -/ def PwrResetCtrl.kind : RegField := ⟨.pwrResetCtrl, 1, 0⟩
/-- PWR.RESET_CAUSE.COUNT -/ def PwrResetCause.count : RegField := ⟨.pwrResetCause, 63, 48⟩
/-- PWR.RESET_CAUSE.KIND -/ def PwrResetCause.kind : RegField := ⟨.pwrResetCause, 47, 44⟩
/-- PWR.RESET_CAUSE.CAUSE -/ def PwrResetCause.cause : RegField := ⟨.pwrResetCause, 39, 32⟩
/-- PWR.RESET_CAUSE.DIE -/ def PwrResetCause.die : RegField := ⟨.pwrResetCause, 25, 24⟩
/-- PACE.VSET.VSET_MV -/ def PaceVset.vsetMv : RegField := ⟨.paceVset, 9, 0⟩
/-- PACE.DROOP_THR.HOLD_100NS -/ def PaceDroopThr.hold100ns : RegField := ⟨.paceDroopThr, 31, 24⟩
/-- PACE.DROOP_THR.HYST_MV -/ def PaceDroopThr.hystMv : RegField := ⟨.paceDroopThr, 23, 16⟩
/-- PACE.DROOP_THR.MARGIN_MV -/ def PaceDroopThr.marginMv : RegField := ⟨.paceDroopThr, 6, 0⟩
/-- PACE.ENV_LIMIT.TJ_TARGET_C -/ def PaceEnvLimit.tjTargetC : RegField := ⟨.paceEnvLimit, 23, 16⟩
/-- PACE.ENV_LIMIT.LIMIT_W -/ def PaceEnvLimit.limitW : RegField := ⟨.paceEnvLimit, 11, 0⟩
/-- PACE.STATUS.GAP_FRAC -/ def PaceStatus.gapFrac : RegField := ⟨.paceStatus, 23, 16⟩
/-- PACE.STATUS.CFG_REJ -/ def PaceStatus.cfgRej : RegField := ⟨.paceStatus, 11, 11⟩
/-- PACE.STATUS.TJ_HIGH -/ def PaceStatus.tjHigh : RegField := ⟨.paceStatus, 10, 10⟩
/-- PACE.STATUS.CRIT_EVENT -/ def PaceStatus.critEvent : RegField := ⟨.paceStatus, 9, 9⟩
/-- PACE.STATUS.ENV_UNHELD -/ def PaceStatus.envUnheld : RegField := ⟨.paceStatus, 8, 8⟩
/-- PACE.STATUS.ENV_ACTIVE -/ def PaceStatus.envActive : RegField := ⟨.paceStatus, 4, 4⟩
/-- PACE.STATUS.FAST_ACTIVE -/ def PaceStatus.fastActive : RegField := ⟨.paceStatus, 3, 0⟩
/-- SEC.STATUS.SVN_FUSE -/ def SecStatus.svnFuse : RegField := ⟨.secStatus, 31, 24⟩
/-- SEC.STATUS.SVN_RUN -/ def SecStatus.svnRun : RegField := ⟨.secStatus, 23, 16⟩
/-- SEC.STATUS.BANK -/ def SecStatus.bank : RegField := ⟨.secStatus, 15, 15⟩
/-- SEC.STATUS.FALLBACK -/ def SecStatus.fallback : RegField := ⟨.secStatus, 14, 14⟩
/-- SEC.STATUS.OWNER_AUTH -/ def SecStatus.ownerAuth : RegField := ⟨.secStatus, 13, 13⟩
/-- SEC.STATUS.VENDOR_AUTH -/ def SecStatus.vendorAuth : RegField := ⟨.secStatus, 12, 12⟩
/-- SEC.STATUS.SCOPE -/ def SecStatus.scope : RegField := ⟨.secStatus, 9, 8⟩
/-- SEC.STATUS.LMS_FAIL -/ def SecStatus.lmsFail : RegField := ⟨.secStatus, 7, 7⟩
/-- SEC.STATUS.LMS_EXHAUSTED -/ def SecStatus.lmsExhausted : RegField := ⟨.secStatus, 6, 6⟩
/-- SEC.STATUS.LMS_ROLLBACK -/ def SecStatus.lmsRollback : RegField := ⟨.secStatus, 5, 5⟩
/-- SEC.UNLOCK_CTL.SUBMIT -/ def SecUnlockCtl.submit : RegField := ⟨.secUnlockCtl, 31, 31⟩
/-- SEC.UNLOCK_CTL.LOCK -/ def SecUnlockCtl.lock : RegField := ⟨.secUnlockCtl, 30, 30⟩
/-- SEC.UNLOCK_CTL.REJ -/ def SecUnlockCtl.rej : RegField := ⟨.secUnlockCtl, 29, 29⟩
/-- SEC.UNLOCK_CTL.REJ_CAUSE -/ def SecUnlockCtl.rejCause : RegField := ⟨.secUnlockCtl, 23, 16⟩
/-- SEC.LMS_STATE.BLOCKS -/ def SecLmsState.blocks : RegField := ⟨.secLmsState, 40, 32⟩
/-- SEC.LMS_STATE.NEXT_LEAF -/ def SecLmsState.nextLeaf : RegField := ⟨.secLmsState, 20, 0⟩
/-- SEC.CTRL.COMMIT_SVN -/ def SecCtrl.commitSvn : RegField := ⟨.secCtrl, 0, 0⟩
/-- SEC.NONCE[i].VALUE -/ def SecNonce.value (i : Nat) : RegField := ⟨.secNonce i, 63, 0⟩
/-- TEL.INTERVAL_CNT.COUNT -/ def TelIntervalCnt.count : RegField := ⟨.telIntervalCnt, 63, 0⟩
/-- TEL.CNT_SEL.OVF -/ def TelCntSel.ovf : RegField := ⟨.telCntSel, 63, 63⟩
/-- TEL.CNT_SEL.ANY_OVF -/ def TelCntSel.anyOvf : RegField := ⟨.telCntSel, 62, 62⟩
/-- TEL.CNT_SEL.NUMBER -/ def TelCntSel.number : RegField := ⟨.telCntSel, 31, 20⟩
/-- TEL.CNT_SEL.INSTANCE -/ def TelCntSel.inst : RegField := ⟨.telCntSel, 19, 0⟩
/-- TEL.CNT_VAL.VALUE -/ def TelCntVal.value : RegField := ⟨.telCntVal, 63, 0⟩
/-- TEL.CNT_CTRL.CLEAR -/ def TelCntCtrl.clear : RegField := ⟨.telCntCtrl, 31, 31⟩
/-- TEL.CNT_CTRL.ALL -/ def TelCntCtrl.all : RegField := ⟨.telCntCtrl, 30, 30⟩
/-- TEL.EVT_STATUS.TAIL -/ def TelEvtStatus.tail : RegField := ⟨.telEvtStatus, 63, 32⟩
/-- TEL.EVT_STATUS.LOST -/ def TelEvtStatus.lost : RegField := ⟨.telEvtStatus, 31, 31⟩
/-- TEL.EVT_STATUS.LOST_COUNT -/ def TelEvtStatus.lostCount : RegField := ⟨.telEvtStatus, 15, 0⟩
/-- TEL.EVT_HEAD.HEAD -/ def TelEvtHead.head : RegField := ⟨.telEvtHead, 31, 0⟩
/-- TEL.SAMPLE_CFG.PERIOD_US -/ def TelSampleCfg.periodUs : RegField := ⟨.telSampleCfg, 15, 0⟩
/-- TEL.TELE_IDX.TAIL -/ def TelTeleIdx.tail : RegField := ⟨.telTeleIdx, 63, 32⟩
/-- TEL.TELE_IDX.HEAD -/ def TelTeleIdx.head : RegField := ⟨.telTeleIdx, 31, 0⟩
/-- TEL.HEALTH_CFG.THR -/ def TelHealthCfg.thr : RegField := ⟨.telHealthCfg, 63, 32⟩
/-- TEL.HEALTH_CFG.AUTO -/ def TelHealthCfg.auto : RegField := ⟨.telHealthCfg, 31, 31⟩
/-- TEL.HEALTH_CFG.DECAY_LOG2 -/ def TelHealthCfg.decayLog2 : RegField := ⟨.telHealthCfg, 30, 27⟩
/-- TEL.HEALTH_CFG.W5 -/ def TelHealthCfg.w5 : RegField := ⟨.telHealthCfg, 23, 20⟩
/-- TEL.HEALTH_CFG.W4 -/ def TelHealthCfg.w4 : RegField := ⟨.telHealthCfg, 19, 16⟩
/-- TEL.HEALTH_CFG.W3 -/ def TelHealthCfg.w3 : RegField := ⟨.telHealthCfg, 15, 12⟩
/-- TEL.HEALTH_CFG.W2 -/ def TelHealthCfg.w2 : RegField := ⟨.telHealthCfg, 11, 8⟩
/-- TEL.HEALTH_CFG.W1 -/ def TelHealthCfg.w1 : RegField := ⟨.telHealthCfg, 7, 4⟩
/-- TEL.HEALTH_CFG.W0 -/ def TelHealthCfg.w0 : RegField := ⟨.telHealthCfg, 3, 0⟩
/-- TEL.HEALTH_STATUS.TRIPPED -/ def TelHealthStatus.tripped : RegField := ⟨.telHealthStatus, 63, 63⟩
/-- TEL.HEALTH_STATUS.AUTO_ARMED -/ def TelHealthStatus.autoArmed : RegField := ⟨.telHealthStatus, 62, 62⟩
/-- TEL.HEALTH_STATUS.RISK -/ def TelHealthStatus.risk : RegField := ⟨.telHealthStatus, 31, 0⟩
/-- TEL.HEALTH_PRESET.ADDR -/ def TelHealthPreset.addr : RegField := ⟨.telHealthPreset, 47, 0⟩
/-- TEL.DOM_QUERY.DOMAIN -/ def TelDomQuery.domain : RegField := ⟨.telDomQuery, 15, 0⟩
/-- TEL.DOM_POOL_A.MAPPED -/ def TelDomPoolA.mapped : RegField := ⟨.telDomPoolA, 63, 32⟩
/-- TEL.DOM_POOL_A.PINNED -/ def TelDomPoolA.pinned : RegField := ⟨.telDomPoolA, 31, 0⟩
/-- TEL.DOM_POOL_B.HBM -/ def TelDomPoolB.hbm : RegField := ⟨.telDomPoolB, 63, 32⟩
/-- TEL.DOM_POOL_B.CXL -/ def TelDomPoolB.cxl : RegField := ⟨.telDomPoolB, 31, 0⟩
/-- TEL.WATCH[i].VALID -/ def TelWatch.valid (i : Nat) : RegField := ⟨.telWatch i, 31, 31⟩
/-- TEL.WATCH[i].QUEUE -/ def TelWatch.queue (i : Nat) : RegField := ⟨.telWatch i, 19, 0⟩
/-- INJ.STATUS.UNLOCKED -/ def InjStatus.unlocked : RegField := ⟨.injStatus, 31, 31⟩
/-- INJ.STATUS.ARMED -/ def InjStatus.armed : RegField := ⟨.injStatus, 20, 16⟩
/-- INJ.STATUS.FIRED -/ def InjStatus.fired : RegField := ⟨.injStatus, 15, 0⟩
/-- NEWT.STATUS.BUSY -/ def NewtStatus.busy : RegField := ⟨.newtStatus, 31, 31⟩
/-- NEWT.STATUS.DIR -/ def NewtStatus.dir : RegField := ⟨.newtStatus, 30, 30⟩
/-- NEWT.STATUS.SCOPE -/ def NewtStatus.scope : RegField := ⟨.newtStatus, 29, 29⟩
/-- NEWT.STATUS.RESULT -/ def NewtStatus.result : RegField := ⟨.newtStatus, 23, 16⟩
/-- NEWT.STATUS.CORES -/ def NewtStatus.cores : RegField := ⟨.newtStatus, 15, 0⟩
/-- LAU.POSITION.POS -/ def LauPosition.pos : RegField := ⟨.lauPosition, 23, 0⟩
/-- LAU.CTRL.E2E_US -/ def LauCtrl.e2eUs : RegField := ⟨.lauCtrl, 31, 8⟩
/-- LAU.CTRL.HOP_INIT -/ def LauCtrl.hopInit : RegField := ⟨.lauCtrl, 7, 0⟩
/-- LAU.ROUTE[i].HI -/ def LauRoute.hi (i : Nat) : RegField := ⟨.lauRoute i, 63, 40⟩
/-- LAU.ROUTE[i].LO -/ def LauRoute.lo (i : Nat) : RegField := ⟨.lauRoute i, 39, 16⟩
/-- LAU.ROUTE[i].VALID -/ def LauRoute.valid (i : Nat) : RegField := ⟨.lauRoute i, 15, 15⟩
/-- LAU.ROUTE[i].USE_ALT -/ def LauRoute.useAlt (i : Nat) : RegField := ⟨.lauRoute i, 14, 14⟩
/-- LAU.ROUTE[i].ALT -/ def LauRoute.alt (i : Nat) : RegField := ⟨.lauRoute i, 7, 4⟩
/-- LAU.ROUTE[i].PRI -/ def LauRoute.pri (i : Nat) : RegField := ⟨.lauRoute i, 3, 0⟩
/-- LAU[k].CFG.ENABLE -/ def LauPortCfg.enable (i : Nat) : RegField := ⟨.lauPortCfg i, 31, 31⟩
/-- LAU[k].CFG.W_M -/ def LauPortCfg.wM (i : Nat) : RegField := ⟨.lauPortCfg i, 15, 12⟩
/-- LAU[k].CFG.W_B -/ def LauPortCfg.wB (i : Nat) : RegField := ⟨.lauPortCfg i, 11, 8⟩
/-- LAU[k].CFG.W_C -/ def LauPortCfg.wC (i : Nat) : RegField := ⟨.lauPortCfg i, 7, 4⟩
/-- LAU[k].STATUS.CABLE_NS -/ def LauPortStatus.cableNs (i : Nat) : RegField := ⟨.lauPortStatus i, 63, 48⟩
/-- LAU[k].STATUS.PEER -/ def LauPortStatus.peer (i : Nat) : RegField := ⟨.lauPortStatus i, 39, 16⟩
/-- LAU[k].STATUS.BAD_STREAM -/ def LauPortStatus.badStream (i : Nat) : RegField := ⟨.lauPortStatus i, 12, 12⟩
/-- LAU[k].STATUS.HOP_DROP -/ def LauPortStatus.hopDrop (i : Nat) : RegField := ⟨.lauPortStatus i, 11, 11⟩
/-- LAU[k].STATUS.LOST_EVENT -/ def LauPortStatus.lostEvent (i : Nat) : RegField := ⟨.lauPortStatus i, 10, 10⟩
/-- LAU[k].STATUS.STATE -/ def LauPortStatus.state (i : Nat) : RegField := ⟨.lauPortStatus i, 2, 0⟩
/-- LAU[k].CREDIT_X.RX_X -/ def LauCreditX.rxX (i : Nat) : RegField := ⟨.lauCreditX i, 15, 8⟩
/-- LAU[k].CREDIT_X.TX_X -/ def LauCreditX.txX (i : Nat) : RegField := ⟨.lauCreditX i, 7, 0⟩
/-- ETH.SESS_QUERY.SLOT -/ def EthSessQuery.slot : RegField := ⟨.ethSessQuery, 11, 0⟩
/-- ETH.SESS_INFO.DOMAIN -/ def EthSessInfo.domain : RegField := ⟨.ethSessInfo, 63, 48⟩
/-- ETH.SESS_INFO.PORT -/ def EthSessInfo.port : RegField := ⟨.ethSessInfo, 47, 45⟩
/-- ETH.SESS_INFO.STATE -/ def EthSessInfo.state : RegField := ⟨.ethSessInfo, 44, 43⟩
/-- ETH.SESS_INFO.OWNER -/ def EthSessInfo.owner : RegField := ⟨.ethSessInfo, 42, 42⟩
/-- ETH.SESS_INFO.EXPRESS -/ def EthSessInfo.express : RegField := ⟨.ethSessInfo, 41, 41⟩
/-- ETH.SESS_INFO.SESSION -/ def EthSessInfo.session : RegField := ⟨.ethSessInfo, 31, 0⟩
/-- ETH[k].CFG.LINGER_S -/ def EthCfg.lingerS (i : Nat) : RegField := ⟨.ethCfg i, 31, 16⟩
/-- ETH[k].CFG.LOSS_MS -/ def EthCfg.lossMs (i : Nat) : RegField := ⟨.ethCfg i, 15, 8⟩
/-- ETH[k].CFG.OWNER_EN -/ def EthCfg.ownerEn (i : Nat) : RegField := ⟨.ethCfg i, 4, 4⟩
/-- ETH[k].CFG.LATCH -/ def EthCfg.latch (i : Nat) : RegField := ⟨.ethCfg i, 3, 3⟩
/-- ETH[k].CFG.PFC_PRIO -/ def EthCfg.pfcPrio (i : Nat) : RegField := ⟨.ethCfg i, 2, 0⟩
/-- ETH[k].STATUS.LINK_UP -/ def EthStatus.linkUp (i : Nat) : RegField := ⟨.ethStatus i, 31, 31⟩
/-- ETH[k].STATUS.LOSS_EVENT -/ def EthStatus.lossEvent (i : Nat) : RegField := ⟨.ethStatus i, 30, 30⟩
/-- ETH[k].STATUS.REFUSED -/ def EthStatus.refused (i : Nat) : RegField := ⟨.ethStatus i, 29, 29⟩
/-- ETH[k].STATUS.FOREIGN -/ def EthStatus.foreign (i : Nat) : RegField := ⟨.ethStatus i, 28, 28⟩
/-- ETH[k].STATUS.OWNER -/ def EthStatus.owner (i : Nat) : RegField := ⟨.ethStatus i, 27, 27⟩
/-- ETH[k].STATUS.SESSIONS -/ def EthStatus.sessions (i : Nat) : RegField := ⟨.ethStatus i, 26, 16⟩
/-- ETH[k].PARTNER_HI.ADDR -/ def EthPartnerHi.addr (i : Nat) : RegField := ⟨.ethPartnerHi i, 63, 0⟩
/-- ETH[k].PARTNER_LO.ADDR -/ def EthPartnerLo.addr (i : Nat) : RegField := ⟨.ethPartnerLo i, 63, 0⟩
/-- ETH[k].REFUSE_LAST.SLOT -/ def EthRefuseLast.slot (i : Nat) : RegField := ⟨.ethRefuseLast i, 63, 52⟩
/-- ETH[k].REFUSE_LAST.CAUSE -/ def EthRefuseLast.cause (i : Nat) : RegField := ⟨.ethRefuseLast i, 51, 48⟩
/-- ETH[k].REFUSE_LAST.ADDR -/ def EthRefuseLast.addr (i : Nat) : RegField := ⟨.ethRefuseLast i, 47, 0⟩
/-- ETH.DOM_OPEN[i].OPEN -/ def EthDomOpen.open (i : Nat) : RegField := ⟨.ethDomOpen i, 31, 0⟩
/-- CXL.POOL_CFG.MIN_AGE -/ def CxlPoolCfg.minAge : RegField := ⟨.cxlPoolCfg, 31, 24⟩
/-- CXL.POOL_CFG.LOW_FRAMES -/ def CxlPoolCfg.lowFrames : RegField := ⟨.cxlPoolCfg, 23, 0⟩
/-- CXL.TIER_LIMIT.ABORT_MS -/ def CxlTierLimit.abortMs : RegField := ⟨.cxlTierLimit, 31, 16⟩
/-- CXL.TIER_LIMIT.LATE_US -/ def CxlTierLimit.lateUs : RegField := ⟨.cxlTierLimit, 15, 0⟩
/-- CXL.POOL_STATUS.CXL_FREE -/ def CxlPoolStatus.cxlFree : RegField := ⟨.cxlPoolStatus, 63, 36⟩
/-- CXL.POOL_STATUS.NO_VICTIM -/ def CxlPoolStatus.noVictim : RegField := ⟨.cxlPoolStatus, 32, 32⟩
/-- CXL.POOL_STATUS.HBM_FREE -/ def CxlPoolStatus.hbmFree : RegField := ⟨.cxlPoolStatus, 31, 8⟩
/-- CXL.POOL_STATUS.LOST -/ def CxlPoolStatus.lost : RegField := ⟨.cxlPoolStatus, 3, 3⟩
/-- CXL.POOL_STATUS.ABORTED -/ def CxlPoolStatus.aborted : RegField := ⟨.cxlPoolStatus, 2, 2⟩
/-- CXL.AGE_CLOCK.COUNT -/ def CxlAgeClock.count : RegField := ⟨.cxlAgeClock, 31, 0⟩
/-- CXL.CART_QUERY.CART -/ def CxlCartQuery.cart : RegField := ⟨.cxlCartQuery, 47, 16⟩
/-- CXL.CART_ENTRY_LO.LAST_TOUCH -/ def CxlCartEntryLo.lastTouch : RegField := ⟨.cxlCartEntryLo, 63, 32⟩
/-- CXL.CART_ENTRY_LO.DOMAIN -/ def CxlCartEntryLo.domain : RegField := ⟨.cxlCartEntryLo, 31, 16⟩
/-- CXL.CART_ENTRY_LO.V -/ def CxlCartEntryLo.v : RegField := ⟨.cxlCartEntryLo, 12, 12⟩
/-- CXL.CART_ENTRY_LO.P -/ def CxlCartEntryLo.p : RegField := ⟨.cxlCartEntryLo, 11, 11⟩
/-- CXL.CART_ENTRY_LO.PINNED -/ def CxlCartEntryLo.pinned : RegField := ⟨.cxlCartEntryLo, 10, 10⟩
/-- CXL.CART_ENTRY_LO.KIND -/ def CxlCartEntryLo.kind : RegField := ⟨.cxlCartEntryLo, 9, 8⟩
/-- CXL.CART_ENTRY_LO.STATE -/ def CxlCartEntryLo.state : RegField := ⟨.cxlCartEntryLo, 3, 0⟩
/-- CXL.CART_ENTRY_HI.FRAME_B -/ def CxlCartEntryHi.frameB : RegField := ⟨.cxlCartEntryHi, 63, 32⟩
/-- CXL.CART_ENTRY_HI.FRAME_A -/ def CxlCartEntryHi.frameA : RegField := ⟨.cxlCartEntryHi, 31, 0⟩
/-- CXL[p].PORT_STATUS.UP -/ def CxlPortStatus.up (i : Nat) : RegField := ⟨.cxlPortStatus i, 31, 31⟩
/-- CXL[p].PORT_STATUS.DOWN_EVENT -/ def CxlPortStatus.downEvent (i : Nat) : RegField := ⟨.cxlPortStatus i, 30, 30⟩
/-- CXL[p].PORT_STATUS.POISON -/ def CxlPortStatus.poison (i : Nat) : RegField := ⟨.cxlPortStatus i, 29, 29⟩
/-- CXL[p].PORT_STATUS.WIDTH -/ def CxlPortStatus.width (i : Nat) : RegField := ⟨.cxlPortStatus i, 20, 16⟩
/-- CXL[p].PORT_STATUS.CAP_GIB -/ def CxlPortStatus.capGib (i : Nat) : RegField := ⟨.cxlPortStatus i, 12, 0⟩
/-- HBM.UPD_STATUS.NONFINITE -/ def HbmUpdStatus.nonfinite : RegField := ⟨.hbmUpdStatus, 31, 31⟩
/-- HBM.UPD_STATUS.ROW_SAT -/ def HbmUpdStatus.rowSat : RegField := ⟨.hbmUpdStatus, 30, 30⟩
/-- HBM.UPD_STATUS.TWICE -/ def HbmUpdStatus.twice : RegField := ⟨.hbmUpdStatus, 29, 29⟩
/-- HBM.UPD_STATUS.HOME_WRITE -/ def HbmUpdStatus.homeWrite : RegField := ⟨.hbmUpdStatus, 28, 28⟩
/-- HBM.UPD_STATUS.WALK -/ def HbmUpdStatus.walk : RegField := ⟨.hbmUpdStatus, 27, 27⟩
/-- HBM.UPD_STATUS.VWAIT -/ def HbmUpdStatus.vwait : RegField := ⟨.hbmUpdStatus, 26, 26⟩
/-- HBM.UPD_STATUS.ENG_BUSY -/ def HbmUpdStatus.engBusy : RegField := ⟨.hbmUpdStatus, 15, 0⟩
/-- HBM.UPD_SAT_LAST.TENSOR_ID -/ def HbmUpdSatLast.tensorId : RegField := ⟨.hbmUpdSatLast, 63, 32⟩
/-- HBM.UPD_SAT_LAST.UNIT -/ def HbmUpdSatLast.unit : RegField := ⟨.hbmUpdSatLast, 31, 0⟩
/-- HBM.SNAP_STATUS.NEWEST_STEP -/ def HbmSnapStatus.newestStep : RegField := ⟨.hbmSnapStatus, 63, 32⟩
/-- HBM.SNAP_STATUS.ARMED -/ def HbmSnapStatus.armed : RegField := ⟨.hbmSnapStatus, 31, 31⟩
/-- HBM.SNAP_STATUS.FILL_FAIL -/ def HbmSnapStatus.fillFail : RegField := ⟨.hbmSnapStatus, 30, 30⟩
/-- HBM.SNAP_STATUS.SKIPPED -/ def HbmSnapStatus.skipped : RegField := ⟨.hbmSnapStatus, 29, 29⟩
/-- HBM.SNAP_STATUS.SWEEPING -/ def HbmSnapStatus.sweeping : RegField := ⟨.hbmSnapStatus, 28, 28⟩
/-- HBM.SNAP_STATUS.RESTORING -/ def HbmSnapStatus.restoring : RegField := ⟨.hbmSnapStatus, 27, 27⟩
/-- HBM.SNAP_STATUS.NEWEST -/ def HbmSnapStatus.newest : RegField := ⟨.hbmSnapStatus, 24, 24⟩
/-- HBM.SNAP_STATUS.STATE1 -/ def HbmSnapStatus.state1 : RegField := ⟨.hbmSnapStatus, 23, 22⟩
/-- HBM.SNAP_STATUS.STATE0 -/ def HbmSnapStatus.state0 : RegField := ⟨.hbmSnapStatus, 21, 20⟩
/-- HBM.SNAP_STATUS.TAP_DROPS -/ def HbmSnapStatus.tapDrops : RegField := ⟨.hbmSnapStatus, 19, 0⟩
/-- FAB.COACH_STATUS.PENDING_SLOT -/ def FabCoachStatus.pendingSlot : RegField := ⟨.fabCoachStatus, 19, 16⟩
/-- FAB.COACH_STATUS.ACTIVE_SLOT -/ def FabCoachStatus.activeSlot : RegField := ⟨.fabCoachStatus, 15, 12⟩
/-- FAB.COACH_STATUS.EPOCH -/ def FabCoachStatus.epoch : RegField := ⟨.fabCoachStatus, 9, 8⟩
/-- FAB.COACH_STATUS.DOOMED -/ def FabCoachStatus.doomed : RegField := ⟨.fabCoachStatus, 7, 7⟩
/-- FAB.COACH_STATUS.PHASE -/ def FabCoachStatus.phase : RegField := ⟨.fabCoachStatus, 2, 0⟩
/-- FAB.COACH_LEFTOVER.COUNT -/ def FabCoachLeftover.count : RegField := ⟨.fabCoachLeftover, 31, 0⟩
/-- FAB.TOKEN_STATUS.QUIESCENT -/ def FabTokenStatus.quiescent : RegField := ⟨.fabTokenStatus, 31, 31⟩
/-- FAB.TOKEN_STATUS.STUCK -/ def FabTokenStatus.stuck : RegField := ⟨.fabTokenStatus, 30, 30⟩
/-- FAB.TOKEN_STATUS.LAST_LEFT -/ def FabTokenStatus.lastLeft : RegField := ⟨.fabTokenStatus, 15, 0⟩
/-- FAB.GOV_CTRL.FULL -/ def FabGovCtrl.full : RegField := ⟨.fabGovCtrl, 31, 31⟩
/-- FAB.GOV_CTRL.REJ -/ def FabGovCtrl.rej : RegField := ⟨.fabGovCtrl, 30, 30⟩
/-- FAB.GOV_CTRL.CLEAR -/ def FabGovCtrl.clear : RegField := ⟨.fabGovCtrl, 16, 16⟩
/-- FAB.GOV_CTRL.ENTRIES -/ def FabGovCtrl.entries : RegField := ⟨.fabGovCtrl, 12, 0⟩
/-- FAB.DOM_CTL.RELEASE -/ def FabDomCtl.release : RegField := ⟨.fabDomCtl, 31, 31⟩
/-- FAB.DOM_CTL.REJ -/ def FabDomCtl.rej : RegField := ⟨.fabDomCtl, 30, 30⟩
/-- FAB.DOM_CTL.BUSY -/ def FabDomCtl.busy : RegField := ⟨.fabDomCtl, 29, 29⟩
/-- FAB.DOM_CTL.CLAIMED -/ def FabDomCtl.claimed : RegField := ⟨.fabDomCtl, 28, 28⟩
/-- FAB.DOM_CTL.DOMAIN -/ def FabDomCtl.domain : RegField := ⟨.fabDomCtl, 15, 0⟩
/-- FAB.SPARE_TEST.EN -/ def FabSpareTest.en : RegField := ⟨.fabSpareTest, 63, 63⟩
/-- FAB.SPARE_TEST.PERIOD_S -/ def FabSpareTest.periodS : RegField := ⟨.fabSpareTest, 61, 56⟩
/-- FAB.SPARE_TEST.LAST_ROW -/ def FabSpareTest.lastRow : RegField := ⟨.fabSpareTest, 55, 48⟩
/-- FAB.SPARE_TEST.FAIL -/ def FabSpareTest.fail : RegField := ⟨.fabSpareTest, 47, 0⟩
/-- FAB.COACH_SLOT[k].IMAGE_ID -/ def FabCoachSlot.imageId (i : Nat) : RegField := ⟨.fabCoachSlot i, 63, 32⟩
/-- FAB.COACH_SLOT[k].STATE -/ def FabCoachSlot.state (i : Nat) : RegField := ⟨.fabCoachSlot i, 31, 30⟩
/-- FAB.COACH_SLOT[k].LOCKED -/ def FabCoachSlot.locked (i : Nat) : RegField := ⟨.fabCoachSlot i, 29, 29⟩
/-- FAB.COACH_SLOT[k].VCODE -/ def FabCoachSlot.vcode (i : Nat) : RegField := ⟨.fabCoachSlot i, 23, 16⟩
/-- FAB.COACH_SLOT[k].LEN_KIB -/ def FabCoachSlot.lenKib (i : Nat) : RegField := ⟨.fabCoachSlot i, 15, 0⟩
/-- FAB.EDGE_WEIGHT[k].W_M -/ def FabEdgeWeight.wM (i : Nat) : RegField := ⟨.fabEdgeWeight i, 15, 12⟩
/-- FAB.EDGE_WEIGHT[k].W_D -/ def FabEdgeWeight.wD (i : Nat) : RegField := ⟨.fabEdgeWeight i, 11, 8⟩
/-- FAB.EDGE_WEIGHT[k].W_B -/ def FabEdgeWeight.wB (i : Nat) : RegField := ⟨.fabEdgeWeight i, 7, 4⟩
/-- FAB.EDGE_WEIGHT[k].W_C -/ def FabEdgeWeight.wC (i : Nat) : RegField := ⟨.fabEdgeWeight i, 3, 0⟩
/-- FAB.SPARE[n].ROW_FAIL -/ def FabSpare.rowFail (i : Nat) : RegField := ⟨.fabSpare i, 31, 31⟩
/-- FAB.SPARE[n].REQ_HW -/ def FabSpare.reqHw (i : Nat) : RegField := ⟨.fabSpare i, 18, 18⟩
/-- FAB.SPARE[n].SRC -/ def FabSpare.src (i : Nat) : RegField := ⟨.fabSpare i, 17, 16⟩
/-- FAB.SPARE[n].CAND2 -/ def FabSpare.cand2 (i : Nat) : RegField := ⟨.fabSpare i, 15, 15⟩
/-- FAB.SPARE[n].REQ_COL -/ def FabSpare.reqCol (i : Nat) : RegField := ⟨.fabSpare i, 12, 8⟩
/-- FAB.SPARE[n].BYPASS_COL -/ def FabSpare.bypassCol (i : Nat) : RegField := ⟨.fabSpare i, 4, 0⟩
/-- FAB.TMAP[k].DOMAIN -/ def FabTmap.domain (i : Nat) : RegField := ⟨.fabTmap i, 63, 48⟩
/-- FAB.TMAP[k].BASE -/ def FabTmap.base (i : Nat) : RegField := ⟨.fabTmap i, 47, 16⟩
/-- FAB.TMAP[k].VALID -/ def FabTmap.valid (i : Nat) : RegField := ⟨.fabTmap i, 15, 15⟩
/-- FAB.TMAP[k].CARTS -/ def FabTmap.carts (i : Nat) : RegField := ⟨.fabTmap i, 2, 0⟩
/-- CORE[n].STATUS.SPARE_CAND -/ def CoreStatus.spareCand (i : Nat) : RegField := ⟨.coreStatus i, 11, 11⟩
/-- CORE[n].STATUS.CAL_LIMIT -/ def CoreStatus.calLimit (i : Nat) : RegField := ⟨.coreStatus i, 10, 10⟩
/-- CORE[n].STATUS.SP_UE -/ def CoreStatus.spUe (i : Nat) : RegField := ⟨.coreStatus i, 9, 9⟩
/-- CORE[n].STATUS.GANG -/ def CoreStatus.gang (i : Nat) : RegField := ⟨.coreStatus i, 8, 8⟩
/-- CORE[n].STATUS.STATE -/ def CoreStatus.state (i : Nat) : RegField := ⟨.coreStatus i, 2, 0⟩
/-- CORE[n].ENG_STATUS.FAULT_PC -/ def CoreEngStatus.faultPc (i : Nat) : RegField := ⟨.coreEngStatus i, 63, 32⟩
/-- CORE[n].ENG_STATUS.FAULT_CAUSE -/ def CoreEngStatus.faultCause (i : Nat) : RegField := ⟨.coreEngStatus i, 23, 20⟩
/-- CORE[n].ENG_STATUS.ACC_UE -/ def CoreEngStatus.accUe (i : Nat) : RegField := ⟨.coreEngStatus i, 11, 11⟩
/-- CORE[n].ENG_STATUS.SCALAR_FAULT -/ def CoreEngStatus.scalarFault (i : Nat) : RegField := ⟨.coreEngStatus i, 10, 10⟩
/-- CORE[n].ENG_STATUS.SCALAR_RUN -/ def CoreEngStatus.scalarRun (i : Nat) : RegField := ⟨.coreEngStatus i, 9, 9⟩
/-- CORE[n].ENG_STATUS.VEC_BUSY -/ def CoreEngStatus.vecBusy (i : Nat) : RegField := ⟨.coreEngStatus i, 8, 8⟩
/-- CORE[n].ENG_STATUS.MAT_BUSY -/ def CoreEngStatus.matBusy (i : Nat) : RegField := ⟨.coreEngStatus i, 7, 7⟩
/-- CORE[n].LOOP_STATUS.ACC_USED -/ def CoreLoopStatus.accUsed (i : Nat) : RegField := ⟨.coreLoopStatus i, 47, 40⟩
/-- CORE[n].LOOP_STATUS.ACC_DEMAND -/ def CoreLoopStatus.accDemand (i : Nat) : RegField := ⟨.coreLoopStatus i, 39, 32⟩
/-- CORE[n].LOOP_STATUS.TABLE -/ def CoreLoopStatus.table (i : Nat) : RegField := ⟨.coreLoopStatus i, 31, 30⟩
/-- CORE[n].LOOP_STATUS.SPILLING -/ def CoreLoopStatus.spilling (i : Nat) : RegField := ⟨.coreLoopStatus i, 29, 29⟩
/-- CORE[n].LOOP_STATUS.ITER -/ def CoreLoopStatus.iter (i : Nat) : RegField := ⟨.coreLoopStatus i, 23, 0⟩
/-- CORE[n].DEFER_STATUS.MB_MISMATCH -/ def CoreDeferStatus.mbMismatch (i : Nat) : RegField := ⟨.coreDeferStatus i, 31, 31⟩
/-- CORE[n].DEFER_STATUS.HIGH_WATER -/ def CoreDeferStatus.highWater (i : Nat) : RegField := ⟨.coreDeferStatus i, 13, 8⟩
/-- CORE[n].DEFER_STATUS.USED -/ def CoreDeferStatus.used (i : Nat) : RegField := ⟨.coreDeferStatus i, 5, 0⟩
/-- CORE[n].WIN_OPEN.OPEN -/ def CoreWinOpen.open (i : Nat) : RegField := ⟨.coreWinOpen i, 15, 0⟩
/-- CORE[n].TEST_RESULT.VALID -/ def CoreTestResult.valid (i : Nat) : RegField := ⟨.coreTestResult i, 31, 31⟩
/-- CORE[n].TEST_RESULT.FAILED -/ def CoreTestResult.failed (i : Nat) : RegField := ⟨.coreTestResult i, 23, 16⟩
/-- CORE[n].TEST_RESULT.SKIPPED -/ def CoreTestResult.skipped (i : Nat) : RegField := ⟨.coreTestResult i, 15, 8⟩
/-- QDIR.QCTRL.ACTION -/ def QdirQctrl.action : RegField := ⟨.qdirQctrl, 31, 28⟩
/-- QDIR.QCTRL.QUEUE -/ def QdirQctrl.queue : RegField := ⟨.qdirQctrl, 19, 0⟩
/-- QDIR.QSTAT.STATE -/ def QdirQstat.state : RegField := ⟨.qdirQstat, 31, 29⟩
/-- QDIR.QSTAT.HOLD_CAUSE -/ def QdirQstat.holdCause : RegField := ⟨.qdirQstat, 28, 21⟩
/-- QDIR.QSTAT.ACT_REJ -/ def QdirQstat.actRej : RegField := ⟨.qdirQstat, 20, 20⟩
/-- QDIR.QSTAT.ENR -/ def QdirQstat.enr : RegField := ⟨.qdirQstat, 19, 19⟩
/-- QDIR.QSTAT.DB_BAD -/ def QdirQstat.dbBad : RegField := ⟨.qdirQstat, 18, 18⟩
/-- QDIR.QSTAT.CQ_FULL -/ def QdirQstat.cqFull : RegField := ⟨.qdirQstat, 17, 17⟩
/-- QDIR.QSTAT.INFLIGHT -/ def QdirQstat.inflight : RegField := ⟨.qdirQstat, 4, 0⟩
/-- QDIR.QSTAT_IDX.CQ_TAIL -/ def QdirQstatIdx.cqTail : RegField := ⟨.qdirQstatIdx, 63, 32⟩
/-- QDIR.QSTAT_IDX.HEAD -/ def QdirQstatIdx.head : RegField := ⟨.qdirQstatIdx, 31, 0⟩
/-- QDIR.DL_STATUS.DETECTED -/ def QdirDlStatus.detected : RegField := ⟨.qdirDlStatus, 31, 31⟩
/-- QDIR.DL_STATUS.COUNT -/ def QdirDlStatus.count : RegField := ⟨.qdirDlStatus, 7, 0⟩
/-- QDIR.STEP_STATUS.COMMITTED -/ def QdirStepStatus.committed : RegField := ⟨.qdirStepStatus, 63, 32⟩
/-- QDIR.STEP_STATUS.RESTORE_FAIL -/ def QdirStepStatus.restoreFail : RegField := ⟨.qdirStepStatus, 4, 4⟩
/-- QDIR.STEP_STATUS.CLOSING -/ def QdirStepStatus.closing : RegField := ⟨.qdirStepStatus, 3, 3⟩
/-- QDIR.STEP_STATUS.NO_COMMIT -/ def QdirStepStatus.noCommit : RegField := ⟨.qdirStepStatus, 2, 2⟩
/-- QDIR.STEP_STATUS.COMMITTED_VALID -/ def QdirStepStatus.committedValid : RegField := ⟨.qdirStepStatus, 1, 1⟩
/-- QDIR.STEP_STATUS.IN_PROGRESS -/ def QdirStepStatus.inProgress : RegField := ⟨.qdirStepStatus, 0, 0⟩
/-- QDIR.DOORBELL[q].TAIL -/ def QdirDoorbell.tail (i : Nat) : RegField := ⟨.qdirDoorbell i, 31, 0⟩
/-- QDIR.CQ_DOORBELL[q].CQ_HEAD -/ def QdirCqDoorbell.cqHead (i : Nat) : RegField := ⟨.qdirCqDoorbell i, 31, 0⟩

/-- The register that occupies a slot: first offset, stride and count of its instances. -/
def Reg.slots : List (Nat × Nat × Nat × (Nat → Reg)) :=
  [(0x8, 8, 1, fun _ => .glbAccStatus),
   (0x100, 8, 1, fun _ => .glbRecovCtrl),
   (0x108, 8, 1, fun _ => .glbRecovStatus),
   (0x110, 8, 1, fun _ => .glbErrLast),
   (0x1000, 0x8, 128, fun i => .glbCap i),
   (0x10000, 8, 1, fun _ => .pwrStatus),
   (0x10008, 8, 1, fun _ => .pwrInPower),
   (0x10010, 8, 1, fun _ => .pwrCtrl),
   (0x10018, 8, 1, fun _ => .pwrResetCtrl),
   (0x10020, 8, 1, fun _ => .pwrResetCause)]
  ++ [(0x20000, 8, 1, fun _ => .paceVset),
   (0x20008, 8, 1, fun _ => .paceDroopThr),
   (0x20010, 8, 1, fun _ => .paceEnvLimit),
   (0x20018, 8, 1, fun _ => .paceStatus),
   (0x30000, 8, 1, fun _ => .secStatus),
   (0x30008, 8, 1, fun _ => .secUnlockCtl),
   (0x30010, 8, 1, fun _ => .secLmsState),
   (0x30018, 8, 1, fun _ => .secCtrl),
   (0x30020, 0x8, 4, fun i => .secNonce i),
   (0x30800, 0x8, 256, fun i => .secUnlockBuf i)]
  ++ [(0x40000, 8, 1, fun _ => .telIntervalCnt),
   (0x40008, 8, 1, fun _ => .telCntSel),
   (0x40010, 8, 1, fun _ => .telCntVal),
   (0x40018, 8, 1, fun _ => .telCntCtrl),
   (0x40020, 8, 1, fun _ => .telEvtStatus),
   (0x40028, 8, 1, fun _ => .telEvtHead),
   (0x40030, 8, 1, fun _ => .telSampleCfg),
   (0x40038, 8, 1, fun _ => .telTeleIdx),
   (0x40040, 8, 1, fun _ => .telHealthCfg),
   (0x40048, 8, 1, fun _ => .telHealthStatus)]
  ++ [(0x40050, 8, 1, fun _ => .telHealthPreset),
   (0x40058, 8, 1, fun _ => .telDomQuery),
   (0x40060, 8, 1, fun _ => .telDomPoolA),
   (0x40068, 8, 1, fun _ => .telDomPoolB),
   (0x40100, 0x8, 40, fun i => .telWatch i),
   (0x50000, 8, 1, fun _ => .injStatus),
   (0x60000, 8, 1, fun _ => .newtStatus),
   (0x80000, 8, 1, fun _ => .lauPosition),
   (0x80008, 8, 1, fun _ => .lauCtrl),
   (0x80100, 0x8, 64, fun i => .lauRoute i)]
  ++ [(0x81000, 0x100, 8, fun i => .lauPortCfg i),
   (0x81008, 0x100, 8, fun i => .lauPortStatus i),
   (0x81010, 0x100, 8, fun i => .lauCreditX i),
   (0xa0000, 8, 1, fun _ => .ethSessQuery),
   (0xa0008, 8, 1, fun _ => .ethSessInfo),
   (0xa0100, 0x40, 4, fun i => .ethCfg i),
   (0xa0108, 0x40, 4, fun i => .ethStatus i),
   (0xa0110, 0x40, 4, fun i => .ethPartnerHi i),
   (0xa0118, 0x40, 4, fun i => .ethPartnerLo i),
   (0xa0120, 0x40, 4, fun i => .ethRefuseLast i)]
  ++ [(0xa4000, 0x8, 2048, fun i => .ethDomOpen i),
   (0xc0000, 8, 1, fun _ => .cxlPoolCfg),
   (0xc0008, 8, 1, fun _ => .cxlTierLimit),
   (0xc0010, 8, 1, fun _ => .cxlPoolStatus),
   (0xc0018, 8, 1, fun _ => .cxlAgeClock),
   (0xc0020, 8, 1, fun _ => .cxlCartQuery),
   (0xc0028, 8, 1, fun _ => .cxlCartEntryLo),
   (0xc0030, 8, 1, fun _ => .cxlCartEntryHi),
   (0xc0100, 0x8, 2, fun i => .cxlPortStatus i),
   (0xe0000, 8, 1, fun _ => .hbmUpdStatus)]
  ++ [(0xe0008, 8, 1, fun _ => .hbmUpdSatLast),
   (0xe0010, 8, 1, fun _ => .hbmSnapStatus),
   (0x100000, 8, 1, fun _ => .fabCoachStatus),
   (0x100008, 8, 1, fun _ => .fabCoachLeftover),
   (0x100010, 8, 1, fun _ => .fabTokenStatus),
   (0x100018, 8, 1, fun _ => .fabGovCtrl),
   (0x100020, 8, 1, fun _ => .fabDomCtl),
   (0x100028, 8, 1, fun _ => .fabSpareTest),
   (0x100100, 0x8, 8, fun i => .fabCoachSlot i),
   (0x100140, 0x8, 2, fun i => .fabEdgeWeight i)]
  ++ [(0x100200, 0x8, 48, fun i => .fabSpare i),
   (0x100400, 0x8, 64, fun i => .fabTmap i),
   (0x200000, 0x1000, 768, fun i => .coreStatus i),
   (0x200008, 0x1000, 768, fun i => .coreEngStatus i),
   (0x200010, 0x1000, 768, fun i => .coreLoopStatus i),
   (0x200018, 0x1000, 768, fun i => .coreDeferStatus i),
   (0x200020, 0x1000, 768, fun i => .coreWinOpen i),
   (0x200028, 0x1000, 768, fun i => .coreTestResult i),
   (0x1000000, 8, 1, fun _ => .qdirQctrl),
   (0x1000008, 8, 1, fun _ => .qdirQstat)]
  ++ [(0x1000010, 8, 1, fun _ => .qdirQstatIdx),
   (0x1000018, 8, 1, fun _ => .qdirDlStatus),
   (0x1000020, 8, 1, fun _ => .qdirStepStatus),
   (0x2000000, 0x8, 1048576, fun i => .qdirDoorbell i),
   (0x2800000, 0x8, 1048576, fun i => .qdirCqDoorbell i)]

/-- The register whose slot starts at an offset, if one does (R525, R526); instances that a grade lacks are told apart by
`State.hasReg`. -/
def Reg.at (off : Nat) : Option Reg :=
  Reg.slots.findSome? fun (base, stride, count, mk) =>
    if base ≤ off ∧ (off - base) % stride = 0 ∧ (off - base) / stride < count then some (mk ((off - base) / stride))
    else none

end Sys2Proof.Machine
end

