-- ==== Sys2Proof/Machine/Sparse.lean ====
section
/-!
DEFINITION. Sparse maps over natural-number keys in one canonical form: keys strictly rising, and no entry equal to the
value that an unlisted key reads as. Memory, the register file, the cart table, the queues, the cores and the counters are
all held this way, so that equal maps are equal data.
-/
namespace Sys2Proof.Machine

/-- Value held at key `k`; an unlisted key reads as `d`. -/
def Sparse.get {β : Type} (d : β) : List (Nat × β) → Nat → β
  | [], _ => d
  | (k', v) :: m, k => if k = k' then v else Sparse.get d m k

/-- Put a non-default value at key `k`, keeping the keys rising. -/
def Sparse.insert {β : Type} : List (Nat × β) → Nat → β → List (Nat × β)
  | [], k, v => [(k, v)]
  | (k', v') :: m, k, v =>
    if k < k' then (k, v) :: (k', v') :: m
    else if k = k' then (k, v) :: m
    else (k', v') :: Sparse.insert m k v

/-- Remove key `k`. -/
def Sparse.erase {β : Type} : List (Nat × β) → Nat → List (Nat × β)
  | [], _ => []
  | (k', v') :: m, k => if k = k' then m else (k', v') :: Sparse.erase m k

/-- Write `v` at key `k`; writing the default value removes the entry. -/
def Sparse.set {β : Type} [DecidableEq β] (d : β) (m : List (Nat × β)) (k : Nat) (v : β) : List (Nat × β) :=
  if v = d then Sparse.erase m k else Sparse.insert m k v

/-- The keys rise strictly. -/
def Sparse.sorted {β : Type} : List (Nat × β) → Bool
  | [] => true
  | [_] => true
  | (k, _) :: (k', v') :: m => decide (k < k') && Sparse.sorted ((k', v') :: m)

/-- The canonical form: keys strictly rising, no entry equal to the default. -/
def Sparse.wf {β : Type} [DecidableEq β] (d : β) (m : List (Nat × β)) : Bool :=
  Sparse.sorted m && m.all (fun e => decide (e.2 ≠ d))

/-- Keep the entries that a test accepts. -/
def Sparse.filter {β : Type} (p : Nat → β → Bool) (m : List (Nat × β)) : List (Nat × β) :=
  m.filter (fun e => p e.1 e.2)

/-- Apply a change to every listed entry, removing those it brings to the default. -/
def Sparse.update {β : Type} [DecidableEq β] (d : β) (f : Nat → β → β) (m : List (Nat × β)) : List (Nat × β) :=
  (m.map (fun e => (e.1, f e.1 e.2))).filter (fun e => decide (e.2 ≠ d))

end Sys2Proof.Machine
end

