-- ==== Sys2Proof/Machine/State.lean ====
section
/-!
DEFINITION. The state of the block, as plain data: every register, buffer, queue and table the spec gives the device, the
queue of the commands that wait, and the reset state. Maps are sparse lists in one canonical form (Sparse.wf).
-/
namespace Sys2Proof.Machine

/-- R1: the two grades. -/
inductive Grade where
  | f | m
  deriving DecidableEq, Repr

/-! ### Commands of queues -/

/-- R307: a region that a command declares, rounded outward to 64 KiB; `write` tells whether the command writes it. -/
structure Region where
  base : Nat
  len : Nat
  write : Bool
  deriving DecidableEq, Repr

/-- Where a fetched command stands: not started, running, or ended and not yet posted (R305, R308). -/
inductive Phase where
  | waiting | running | ended
  deriving DecidableEq, Repr

/-- A command fetched and not yet posted: its index, its 128-byte copy (R304), where it stands, its status, the unit that
ended it (R297), its detail, whether it is frozen (R330) or holds its queue (R413), its place in the order of dispatch over
all queues (R318, R320), the regions it holds (R307), whether RELEASE has freed it (R413), and whether it has been judged
(R319, R322). -/
structure Cmd where
  idx : W32
  entry : Bytes
  phase : Phase := .waiting
  status : Nat := 0
  unitKind : Nat := 6
  unitInst : Nat := 0
  detail : Nat := 0
  frozen : Bool := false
  hold : Bool := false
  serial : Nat := 0
  regions : List Region := []
  mark : Nat := 0
  aux : Nat := 0
  deriving DecidableEq, Repr

/-- What the device keeps for a queue beside its context: the commands fetched and not posted, oldest first; the stale
re-reads of the entry at HEAD (R302) and whether one is under way; the three sticky bits of QDIR.QSTAT (R336); CLOSE under
way (R293). -/
structure QueueRt where
  cmds : List Cmd := []
  stale : Bool := false
  rereads : Nat := 0
  actRej : Bool := false
  enr : Bool := false
  dbBad : Bool := false
  closing : Bool := false
  deriving DecidableEq, Repr

/-- A range of bytes to be written: every byte of [base, base + len) that `cells` does not list becomes zero. -/
structure RangeWrite where
  base : Nat
  len : Nat
  cells : List (Nat × Byte)
  deriving DecidableEq, Repr

/-- R351: a write of a completed command with VISIBLE 0 that has not been performed: its queue, the command processor of
the queue, the index of the command, and whether every reader sees it whole (R325). -/
structure PendingWrite where
  q : Nat
  cp : Nat
  idx : W32
  write : RangeWrite
  whole : Bool
  deriving DecidableEq, Repr

/-! ### Memory tiers -/

/-- R290: STATE of a cart. -/
inductive CartState where
  | unmapped | hbm | cxl | toHbm | toCxl | lost
  deriving DecidableEq, Repr

/-- R262: an entry of the cart table. KIND 0 data, 1 home head, 2 home tail (R290). -/
structure Cart where
  state : CartState := .unmapped
  kind : Nat := 0
  domain : Nat := 0
  pinned : Bool := false
  lastTouch : W32 := 0
  frameA : Nat := 0
  frameB : Nat := 0
  deriving DecidableEq, Repr

/-- R242: the version state of a home page, and whether an abandon has left its shadow unspecified (R245). -/
structure Version where
  v : Bool := false
  p : Bool := false
  loose : Bool := false
  deriving DecidableEq, Repr

/-- R245: the walk under way. -/
inductive Walk where
  | none | commit | abandon
  deriving DecidableEq, Repr

/-- R269: a migration under way: the target frames reserved, the dirty lines (R270) and the rounds of copying done. -/
structure Migration where
  targetA : Nat := 0
  targetB : Nat := 0
  dirty : List Nat := []
  rounds : Nat := 0
  active : Bool := false
  deriving DecidableEq, Repr

/-- R256: a CXL port: its link and the 64 KiB frames it contributes. -/
structure CxlPort where
  frames : Nat := 0
  present : Bool := false
  deriving DecidableEq, Repr

/-! ### Step -/

/-- R405: a mark: the status and detector that set it, and the command it is attributed to: queue and sequence number,
and whether that command is a SEGMENT_RUN. -/
structure Mark where
  status : Nat
  det : Nat
  q : Option Nat
  seq : W32
  run : Bool
  inj : Bool
  deriving DecidableEq, Repr

/-- R243: a block that an update of the step has written: page address, block, and whether a SEGMENT_RUN wrote it. -/
structure BlockMark where
  page : Nat
  block : Nat
  run : Bool
  deriving DecidableEq, Repr

/-- What the device keeps of the step in progress for its record (R406), its updates (R233, R243), its close (R320) and the
formats of its governed tensors (R171). -/
structure StepSt where
  runKey : W64 := 0
  marks : List Mark := []
  first : Option Mark := none
  attempt : Nat := 0
  replays : Nat := 0
  injected : Bool := false
  doomed : Bool := false
  timed : Bool := false
  logLost : Bool := false
  segments : Nat := 0
  rooted : Nat := 0
  included : Nat := 0
  lateKept : Nat := 0
  lateDropped : Nat := 0
  folded : Nat := 0
  logFirst : Nat := 0
  logCount : Nat := 0
  groups : List (Nat × Byte) := []
  written : List BlockMark := []
  closer : Option (Nat × W32) := none
  formats : List (Nat × Nat) := []
  deriving DecidableEq, Repr

/-! ### Sessions -/

/-- R342: the state of a session. -/
inductive SessState where
  | free | attached | detached
  deriving DecidableEq, Repr

/-- R342, R343, R346: a session slot, with the port, source and connection that it is bound to (R345). -/
structure Session where
  gen : Nat := 0
  state : SessState := .free
  owner : Bool := false
  express : Bool := false
  domain : Nat := 0
  port : Nat := 0
  src : Nat := 0
  conn : Nat := 0
  rkey : W32 := 0
  deriving DecidableEq, Repr

/-- R528: the selector copies of one agent. -/
structure Selectors where
  queue : Nat := 0
  cnt : Nat := 0
  inst : Nat := 0
  cart : Nat := 0
  cartLo : W64 := 0
  cartHi : W64 := 0
  sess : Nat := 0
  sessInfo : W64 := 0
  dom : Nat := 0
  deriving DecidableEq, Repr

/-! ### Counters, injections, memory errors -/

/-- R511: an event counter with its sticky overflow bit. -/
structure Counter where
  count : Nat := 0
  ovf : Bool := false
  deriving DecidableEq, Repr

/-- R411: an armed injection, and whether the unlock's channel armed it (R360). -/
structure Injection where
  det : Nat
  mode : Nat
  bits : Nat
  inst : Nat
  addr : Nat
  delay : Nat
  repeats : Nat
  deriving DecidableEq, Repr

/-! ### What leaves the device -/

/-- What the device puts on its outer interfaces, oldest first in State.wire (the model's own record of outputs). -/
inductive Wire where
  /-- RoCEv2 acknowledgement of a request (R349). -/
  | ack (port slot : Nat)
  /-- NAK for a remote access error (R348). -/
  | nak (port slot : Nat)
  /-- Data of an RDMA READ response (R355). -/
  | readData (port slot : Nat) (data : Bytes)
  /-- Old value of an atomic (R347). -/
  | atomicOld (port slot : Nat) (v : W64)
  /-- REP with session number and R_Key (R344). -/
  | rep (port session : Nat) (rkey : W32)
  /-- REJ with its code (R344). -/
  | rej (port code : Nat)
  /-- DREP (R340). -/
  | drep (port : Nat)
  /-- A congestion notification packet for a connection (R340). -/
  | cnp (port slot : Nat)
  /-- A Laulo frame with its 32 parity bytes (R368). -/
  | lauloFrame (port : Nat) (frame : LFrame) (parity : Bytes)
  /-- The management channel's answer "refused" (R453). -/
  | mgmtRefused
  /-- The management channel's answer to a read of a reserved cart (R452). -/
  | mgmtData (data : Bytes)
  /-- Value of a register read by an agent (R527). -/
  | regRead (a : Agent) (v : W64)
  /-- An SPDM response: its name code and body (R498 to R501). -/
  | spdm (code : Nat) (body : Bytes)
  /-- An I3C private read response (R545). -/
  | i3cResponse (body : Bytes)
  /-- An I3C read outside 1 ms is not acknowledged (R545). -/
  | i3cNack
  /-- Data of an I3C common command (R544). -/
  | i3cCcc (body : Bytes)
  /-- An in-band interrupt with its data byte (R547). -/
  | ibi (code : Nat)
  deriving DecidableEq, Repr

/-! ### Faults and refusals -/

/-- Reasons for the block to stop with a fault. Every rule of the spec gives its step an effect, so no meaning of this
model raises one; the type has one name that nothing raises. -/
inductive Fault where
  /-- Raised by no meaning of this model (safe: a statement about it holds of no run). -/
  | none
  deriving DecidableEq, Repr

/-- Reasons to refuse a command. -/
inductive Refusal where
  /-- Raised by exec for a command that has no meaning yet (safe: the run stops). -/
  | notModelled (mnemonic : String)
  deriving DecidableEq, Repr

/-! ### Coach store and image -/

/-- R72, R76: an image as the fabric holds it after a coach change: its header and, by section type, the record count and
the bytes of the records. -/
structure Image where
  hdr : Bytes
  secs : List (Nat × Nat × Bytes)
  deriving DecidableEq, Repr

/-- R95, R101: an ACTIVATE that waits or proceeds: its queue and index, its slot, its force flag. -/
structure Act where
  q : Nat
  idx : W32
  slot : Nat
  force : Bool
  deriving DecidableEq, Repr

/-! ### Fabric -/

/-- R113: a token that holds a credit: its header, its route, the references that keep its payload, and the token whose
payload it shares in place. -/
structure LiveTok where
  hdr : TokHdr
  route : Nat
  refs : Nat
  parent : Option Nat
  deriving DecidableEq, Repr

/-- R112: a token that waits at a sender for TOKEN_SEND, or is under way: its header, its values and scales, and the token
whose payload it copies, which stays referenced until the copy has been read out (R113), and its place in the order of all
sendings (R55). -/
structure WaitTok where
  hdr : TokHdr
  values : Bytes
  scales : Bytes
  parent : Option Nat
  inPlace : Bool
  seq : Nat := 0
  deriving DecidableEq, Repr

/-- R112, R121: a route: the credits its sender holds, the tokens that wait at the sender, those under way, those arrived
at a port-die unit, the credits on their way back, and the stream credits of a Laulo port at its end (R383). -/
structure RouteRt where
  credits : Nat := 0
  waiting : List WaitTok := []
  inflight : List WaitTok := []
  unitIn : List WaitTok := []
  returning : Nat := 0
  stream : Nat := 0
  deriving DecidableEq, Repr

/-- R182: a tile in a buffer of the matrix engine: where it came from (the token held, or none for a resident operand, with the
offsets of values and scales and the format), and its bytes. -/
structure TileBuf where
  held : Option Nat
  off : Nat
  scaleOff : Nat
  fmt : Nat
  vals : Bytes
  scales : Bytes
  deriving DecidableEq, Repr

/-- R135: a loop table's run: whether a run is under way, how many runs have ended, the level values, the iterations done,
the token that each operand holds (R137), one more than the highest NEST whose level the last advance changed, and the
output tiles touched so far in the run (R168), and the two tile buffers of each operand, the newest first (R182). -/
structure TableRt where
  active : Bool := false
  runs : Nat := 0
  levels : List Nat := []
  iters : Nat := 0
  held : List (Option Nat) := []
  changed : Nat := 0
  touched : Nat := 0
  bufs : List (List TileBuf) := []
  deriving DecidableEq, Repr

/-- R138, R143, R187: an open or complete output tile of a matrix table: its table, its free-level indices as one number, how
many output tiles of the table were first touched earlier in the run (R168), its output tile index (R136), the additions into
it, its element codes, whether it is complete, whether it stands in its spill slot, and the MB and TENANT of its run. -/
structure AccTile where
  table : Nat
  tile : Nat
  first : Nat
  out : Int
  adds : Nat
  vals : List Nat
  complete : Bool
  spilled : Bool
  mb : Nat
  tenant : Nat
  deriving DecidableEq, Repr

/-- R201, R203: the scalar core: running, micro-batches whose program has halted, program counter, x1 to x31, token
registers and the token last taken from each queue. -/
structure ScalarRt where
  running : Bool := false
  halted : Nat := 0
  faulted : Bool := false
  pc : W32 := 0
  x : List (Nat × W32) := []
  argLo : W32 := 0
  argHi : W32 := 0
  takeQ : W32 := 0
  hdr0 : W32 := 0
  hdr1 : W32 := 0
  hdr2 : W32 := 0
  hdr3 : W32 := 0
  taken : List (Nat × Option Nat) := []
  deriving DecidableEq, Repr

/-- R150: a carriage unit: the tiles delivered to the member with, for each naming operand, how many it has taken; the
tiles delivered in the first pass of the step (R433). -/
structure ChainRt where
  tiles : List Nat := []
  base : Nat := 0
  taken : List (Nat × Nat) := []
  tapped : Nat := 0
  deriving DecidableEq, Repr

/-- A core: the tokens in each of its in queues, its deferred list (R206), loop tables, accumulator tiles, scalar core and
chains. -/
structure CoreRt where
  queues : List (Nat × List Nat) := []
  deferred : List Nat := []
  tables : List (Nat × TableRt) := []
  acc : List AccTile := []
  scalar : ScalarRt := {}
  chains : List (Nat × ChainRt) := []
  deriving DecidableEq, Repr

/-- R318, R415 to R419: the SEGMENT_RUN in progress: its command, its micro-batches' tenants, its domain, the pending
statistics saved at its start (R173), the attempts of a replay with the first status, the errors met, whether it has been
found stuck, the tiles each tenant feed has sent, the invalid checkpoint orders met (R220), and how many blocks the step had
written when it started (R419). -/
structure SegRt where
  q : Nat
  idx : W32
  tenants : List Nat
  domain : Nat
  saved : List (Nat × Byte) := []
  attempts : Nat := 0
  firstStatus : Nat := 0
  errs : List (Nat × Nat × Nat × Nat) := []
  stuck : Bool := false
  feeds : List (Nat × Nat) := []
  ckptBad : Nat := 0
  wrote : Nat := 0
  deriving DecidableEq, Repr

/-- R216, R219: a checkpoint order being served for a unit and a core: `bad` is the cause that makes it invalid (R220), `refused` tells
that a write of it was refused (R217). -/
structure CkptRt where
  save : Bool
  desc : Nat
  mode : Nat
  srcFmt : Nat
  outFmt : Nat
  tiles : Nat
  data : Nat
  aux : Nat
  destOff : Nat
  destScale : Nat
  slots : Nat
  next : Nat
  used : Nat
  tenant : Nat
  mb : Nat
  bad : Nat
  refused : Bool := false
  deriving DecidableEq, Repr

/-! ### Laulo, collectives, snapshots -/

/-- R372: a packet: class (1 X, 2 C, 3 B, 4 M), header fields, ARG bytes and payload bytes (whole flits). -/
structure Packet where
  cls : Nat
  kind : Nat
  hops : Nat
  dst : Nat
  src : Nat
  step : Nat := 0
  domain : Nat := 0
  reqId : Nat := 0
  addr : Nat := 0
  arg : Bytes := []
  pay : Bytes := []
  deriving DecidableEq, Repr

/-- R368 to R375: a Laulo port: next FSEQ to send, oldest FSEQ not acknowledged, next expected, NAK being sent, the last 256
frames sent (newest last), how often the oldest unacknowledged one has been replayed, the times (State.timer) of recent retrains, the flits queued for each class
(first flag and bytes), credits toward the peer, buffers freed since the last frame, class X use of the last slots,
standings of C, B and M in their shares, the packet being received in each class, and whether a replay is due. -/
structure LPort where
  txSeq : W32 := 0
  una : W32 := 0
  rxSeq : W32 := 0
  nak : Bool := false
  sent : List LFrame := []
  replays : Nat := 0
  retrains : List Nat := []
  txq : List (Nat × List (Bool × Bytes)) := []
  credits : List (Nat × Nat) := []
  freed : List (Nat × Nat) := []
  lastX : List Bool := []
  share : List (Nat × Int) := []
  rx : List (Nat × List Bytes) := []
  replayDue : Option W32 := none
  deriving DecidableEq, Repr

/-- Who issued a request that waits for its answer (R381). -/
inductive ReqOwner where
  /-- FLAG_SET of queue `q`, index `idx`. -/
  | flagSet (q : Nat) (idx : W32)
  /-- Copy of the open snapshot generation. -/
  | tap
  /-- Read of SNAP_RESTORE at an offset of a generation's region. -/
  | restore (gen offset : Nat)
  deriving DecidableEq, Repr

/-- R381: a request that waits for its answer. -/
structure Req where
  kind : Nat
  dst : Nat
  port : Nat
  owner : ReqOwner
  deriving DecidableEq, Repr

/-- R391: a partial sum that a collective has received: sender's tree index, chunk and FP32 element codes. -/
structure Contribution where
  child : Nat
  chunk : Nat
  vals : List Nat
  deriving DecidableEq, Repr

/-- R388 to R396: a collective that runs on this device: its command, its opcode, its matching keys, the address of its
descriptor, its engine, the partial sums received, the chunks that are done, whether R394 has closed it, and the tree indices
of its late children and of the contributions folded in. -/
structure CollRt where
  q : Nat
  idx : W32
  op : Nat
  collId : Nat
  step : W32
  desc : Nat
  engine : Nat
  got : List Contribution := []
  done : List Nat := []
  closed : Bool := false
  late : List Nat := []
  folds : List Nat := []
  results : List (Nat × Bytes × Bytes) := []
  deriving DecidableEq, Repr

/-- R394, R395: a late contribution: its collective and step, the child's tree index and rank, the ranks in its subtree, the
chunks that have arrived, whether it is dropped on arrival, and whether a collective of the step in progress has folded it. -/
structure Kept where
  collId : Nat
  step : W32
  child : Nat
  rank : Nat
  ranks : Nat
  chunks : List (Nat × List Nat) := []
  dropped : Bool := false
  folded : Bool := false
  deriving DecidableEq, Repr

/-- R429: TARGET of an arm descriptor. -/
structure SnapTarget where
  pos : Nat
  kind : Nat
  base : Nat
  deriving DecidableEq, Repr

/-- R429: a directory entry. -/
structure SnapEntry where
  tensor : Nat
  kind : Nat
  fmt : Nat
  addr : Nat
  rpages : Nat
  cpages : Nat
  offset : Nat
  deriving DecidableEq, Repr

/-- R429: an arm: its schedule, targets, directory (with its bytes) and the domain of the arming queue; whether its failed
generation opens again at the next STEP_BEGIN (R435); whether FIRST_STEP is that of the next STEP_BEGIN (R428). -/
structure SnapArm where
  first : W32
  period : Nat
  sweepWait : Bool
  entries : List SnapEntry
  dir : Bytes
  targets : List SnapTarget
  length : Nat
  domain : Nat
  reopen : Bool := false
  auto : Bool := false
  deriving DecidableEq, Repr

/-- R430, R431, R446: a generation slot: STATE (0 empty, 1 filling, 2 complete, 3 failed), STEP, the pages copied whole or
marked for the sweep, the REQ_IDs of its writes to a peer not yet acknowledged, whether the commit point of its step has passed, and the
governor entries copied there. -/
structure SnapGen where
  state : Nat := 0
  step : W32 := 0
  tapped : List Nat := []
  dropped : List Nat := []
  waiting : List Nat := []
  committed : Bool := false
  gov : Nat := 0
  deriving DecidableEq, Repr

/-- R439, R440: a SNAP_RESTORE that runs: its command, descriptor fields and step tag; its phase (0 headers, 1 pages, 2 the
header again), the reads of peers not answered, the generation chosen and its step, the generations whose reads failed with the status and detail,
what peers have sent (by generation * 2^48 + offset) and the fallbacks. -/
structure RestoreRt where
  q : Nat
  idx : W32
  source : Nat
  sel : Nat
  fallback : Bool
  targets : List SnapTarget
  tag : Nat
  phase : Nat := 0
  todo : Nat := 0
  chosen : Nat := 0
  step : W32 := 0
  bad : List (Nat × Nat × Nat) := []
  buf : List (Nat × Byte) := []
  fallbacks : Nat := 0
  deriving DecidableEq, Repr

/-- R437: a LIZARD_ADOPT that waits for answers: its command, its ADOPT_SEQ, and the masks of the ports announced and of those
that have answered. -/
structure AdoptRt where
  q : Nat
  idx : W32
  seq : W32
  announced : Nat
  acks : Nat
  deriving DecidableEq, Repr

/-- R481: a SELFTEST that waits for its drain window or runs: its command, its first core and count, and, while it runs, the
STATE that each covered core had. -/
structure SelfRt where
  q : Nat
  idx : W32
  first : Nat
  count : Nat
  was : Option (List Nat) := none
  deriving DecidableEq, Repr

/-! ### Power, module controller -/

/-- R30: where a compute die stands in the fast-loop response. -/
inductive DroopPhase where
  /-- no response -/
  | none
  /-- step 3: 10 of 16 slots, delay lines stretched -/
  | active
  /-- step 4: the rail has recovered, HOLD_100NS runs -/
  | recovered
  /-- step 6: slots return one by one -/
  | releasing
  deriving DecidableEq, Repr

/-- R30, R33: the fast loop of a die: its phase, the matrix slots of 16, whether its delay lines are stretched. -/
structure Droop where
  phase : DroopPhase := .none
  slots : Nat := 16
  stretched : Bool := false
  deriving DecidableEq, Repr

/-- R28: the setting of a delay line since its last change (none: what start-up calibration left, R480), and the measurements
that still pass before it may change again. -/
structure Tap where
  tap : Option Nat := none
  wait : Nat := 0
  deriving DecidableEq, Repr

/-- R495: a firmware image: its body and the signature block of 2,109 bytes in which it ends. -/
structure FwImage where
  body : Bytes
  block : Bytes
  deriving DecidableEq, Repr

/-- R495: a firmware bank: the module controller image and the command processor image. -/
structure Bank where
  mc : FwImage
  cp : FwImage
  deriving DecidableEq, Repr

/-- R493: the fused values: UDS, which no register, command or channel reads and from which the identity keys are derived (R494),
DEVICE_ID, the number of SVN and LMS_BLOCKS bits set, the three key-hash pairs, the bypass column of each row that has one (R65), and
whether a fuse write fails (R502). -/
structure Fuses where
  uds : Bytes
  deviceId : Nat
  svn : Nat
  lmsBlocks : Nat
  fwKeyHash : Bytes
  vendorHash : Bytes
  ownerHash : Bytes
  bypass : List (Nat × Nat)
  writeFails : Bool
  deriving DecidableEq, Repr

/-- R495, R502, R503: flash: the two banks, Q, and the debug authorities' public keys (ECDSA, then LMS), and whether a
write of flash fails (R502). -/
structure Flash where
  bank0 : Bank
  bank1 : Bank
  q : Nat
  vendorKeys : Bytes
  ownerKeys : Bytes
  writeFails : Bool
  deriving DecidableEq, Repr

/-- R498, R500: the SPDM responder: how far the connection is negotiated (0 none, 1 version, 2 capabilities, 3 algorithms),
the messages of the transcript, and the measurements captured at its first GET_MEASUREMENTS. -/
structure Spdm where
  phase : Nat := 0
  transcript : Bytes := []
  captured : Option (List (Nat × Bytes)) := none
  deriving DecidableEq, Repr

/-- R543 to R547: the I3C target: dynamic address, in-band interrupts enabled, the response to the last command frame,
the interrupts raised and not accepted, and whether 0x01 may be raised again. -/
structure I3c where
  dynamic : Option Nat := none
  ibiEnabled : Bool := false
  response : Option Bytes := none
  pendingIbi : List Nat := []
  ringArmed : Bool := true
  deriving DecidableEq, Repr

/-- R427: what the health monitor counts over its period (n0, n1, n3, n4, n5), and whether it may trip again (R428). -/
structure Health where
  n0 : Nat := 0
  n1 : Nat := 0
  n3 : Nat := 0
  n4 : Nat := 0
  n5 : Nat := 0
  armed : Bool := true
  deriving DecidableEq, Repr

/-! ### The state -/

/-- The state of the block. Fields marked "model" are the model's own; INVENTORY.md names the rule of every other. -/
structure State where
  /-- R1, R2: the grade, one of the part's fused facts; no command changes it. -/
  grade : Grade
  /-- The commands that wait, oldest first (the block's queue). -/
  pending : List Instr
  /-- Model: how many free values have been drawn. -/
  draws : Nat
  /-- Model: how many free values of the pace governor and of calibration have been drawn; apart from `draws`, so that no value
  written depends on the governor (R24). -/
  paceDraws : Nat
  /-- Model: what has left the device, oldest first. -/
  wire : List Wire
  /-- R531: registers, keyed by offset; an unlisted one holds its reset value. -/
  regs : List (Nat × W64)
  /-- R532: the words of the capability table other than 0 to 2 are valid. -/
  capsValid : Bool
  /-- R64: a row failed. -/
  rowFailed : Bool
  /-- R528: selector copies: session slot k at k, management channel at 4,096, module controller at 4,097. -/
  sel : List (Nat × Selectors)
  /-- R363: PARTNER_HI values held, by port. -/
  partnerHeld : List (Nat × Nat)
  /-- R252: bytes at physical places; home slot 0 stands at the page's address, slot 1 at the address + 65,536. -/
  mem : List Host.Cell
  /-- R262: the cart table, by address / 65,536. -/
  carts : List (Nat × Cart)
  /-- R242: version state, by page address / 131,072. -/
  ver : List (Nat × Version)
  /-- R245. -/
  walk : Walk
  /-- R269: migrations under way, by cart. -/
  migrations : List (Nat × Migration)
  /-- R269 step 4: frames left by a switched migration and not yet returned, by cart. -/
  oldFrames : List (Nat × List Nat)
  /-- R274: the frames of LOST carts, which return to the pool with CART_FREE, by cart. -/
  lostFrames : List (Nat × List Nat)
  /-- R266, R268: carts touched in the lower tier that wait for an HBM frame. -/
  wantHbm : List Nat
  /-- R256. -/
  cxlPorts : List (Nat × CxlPort)
  /-- R474 step 7: the HBM stacks are trained and zeroed. -/
  hbmReady : Bool
  /-- R351. -/
  pendingWrites : List PendingWrite
  /-- R49, R408, R414: words (by place code) that hold flipped bits, with their number. -/
  badWords : List (Nat × Nat)
  /-- R292: queues, by number. -/
  queues : List (Nat × QueueRt)
  /-- R305: the ordinary queue served last, by command processor. -/
  served : List (Nat × Nat)
  /-- R318, R320: next serial of dispatch over all queues. -/
  serial : Nat
  /-- R319, R405, R406: the step in progress. -/
  step : StepSt
  /-- R406 ATTEMPT: accepted STEP_BEGINs since the last commit, by step number. -/
  attempts : List (Nat × Nat)
  /-- R406: index of the next step record. -/
  recNext : Nat
  /-- R407: index of the next step log entry. -/
  logNext : Nat
  /-- R342: sessions, by slot. -/
  sessions : List (Nat × Session)
  /-- R360: the management Ethernet link is up. -/
  mgmtLink : Bool
  /-- R513: counters, by number * 2^20 + instance. -/
  counters : List (Nat × Counter)
  /-- R411: armed injections, oldest first. -/
  injections : List Injection
  /-- R519: REC_SEQ of the next telemetry record. -/
  teleSeq : Nat
  /-- R520: an earlier telemetry record was not written. -/
  teleLost : Bool
  /-- R89: the bytes of each coach slot. -/
  slots : List (Nat × Bytes)
  /-- R95: ACTIVATEs that wait, in the order of dispatch. -/
  acts : List Act
  /-- R97: the active image as the fabric holds it. -/
  image : Option Image
  /-- R94: slots activated since the last STEP_BEGIN. -/
  activated : List Nat
  /-- Cores, by logical index. -/
  cores : List (Nat × CoreRt)
  /-- Routes of the active image, by ROUTE section order. -/
  routes : List (Nat × RouteRt)
  /-- R113: tokens that hold a credit. -/
  live : List (Nat × LiveTok)
  /-- Model: number of the next token. -/
  nextTok : Nat
  /-- R55, model: how many tokens have been put under way. -/
  sends : Nat
  /-- R318: the SEGMENT_RUN in progress. -/
  seg : Option SegRt
  /-- R415: a run ended under R415 and no ACTIVATE has followed. -/
  segDead : Bool
  /-- R216, R219: checkpoint orders, by unit code * 1,024 + core. -/
  ckpt : List (Nat × CkptRt)
  /-- R481. -/
  selftest : Option SelfRt
  /-- R484: the row that the background spare test takes next. -/
  spareNext : Nat
  /-- Laulo ports. -/
  lports : List (Nat × LPort)
  /-- Packets delivered here and not yet served, oldest first, with the port they came on. -/
  inbox : List (Nat × Packet)
  /-- R381: requests that wait for an answer, by REQ_ID. -/
  requests : List (Nat × Req)
  /-- R372: REQ_ID of the next request. -/
  nextReq : Nat
  /-- R247: tagged reads that wait for a commit, oldest first, with their port. -/
  waitReads : List (Nat × Packet)
  /-- R391: collectives that run. -/
  colls : List CollRt
  /-- R388: COLL packets that came before their collective. -/
  early : List Packet
  /-- R394. -/
  kept : List Kept
  /-- R438: last positions adopted with their ADOPT_SEQ, newest last. -/
  adopted : List (Nat × W32)
  /-- R437. -/
  adopting : Option AdoptRt
  /-- R429. -/
  snapArm : Option SnapArm
  /-- R429: an arm that replaces the schedule once the open generation has ended. -/
  snapNext : Option SnapArm
  /-- R431: the two generations. -/
  gens : List (Nat × SnapGen)
  /-- R436: a SNAP_DISARM that waits for the open generation. -/
  snapDisarm : Option (Nat × W32)
  /-- R440. -/
  restore : Option RestoreRt
  /-- R549: both reference clocks have met their limits for 1 ms. -/
  refclk : Bool
  /-- R474 step 5: the main input has been above the start threshold for 10 ms. -/
  mainOk : Bool
  /-- R471: the auxiliary input is in range. -/
  auxOk : Bool
  /-- R474 step 8. -/
  cxlDone : Bool
  /-- R26: the core rail in mV; 0 while the rails are off. -/
  railMv : Nat
  /-- R35: the slow loop cannot hold the envelope or the junction target at its floor, as its last tick found. -/
  envUnheld : Bool
  /-- R30: fast loop, by compute die. -/
  droop : List (Nat × Droop)
  /-- R28: replica pairs, by core * 4 + path kind. -/
  taps : List (Nat × Tap)
  /-- R480, model: the draw of the last start-up calibration, which gives the settings it left. -/
  calDraw : Nat
  /-- R504, R510, model: the draw of the nonce; SEC.NONCE reads what it gives. -/
  nonceDraw : Nat
  /-- R546: junctions of the compute dies and of the HBM stacks in °C. -/
  dieTemp : List (Nat × Nat)
  stackTemp : List (Nat × Nat)
  /-- R49: the row of every bank that the scrubber reads next. -/
  scrubRow : Nat
  /-- Model: periods of 10 ns that the timers of the units have counted (R42: they are not TEL.INTERVAL_CNT). -/
  timer : Nat
  /-- R427. -/
  health : Health
  /-- R427: the health monitor has updated RISK at this value of TEL.INTERVAL_CNT. -/
  healthDone : Bool
  /-- R518: the sample of this value of TEL.INTERVAL_CNT has been taken. -/
  sampleDone : Bool
  /-- R493. -/
  fuses : Fuses
  /-- R495, R502. -/
  flash : Flash
  /-- R499 index 14: the activation log. -/
  actLog : Bytes
  /-- R498. -/
  spdm : Spdm
  /-- R544. -/
  i3c : I3c
  /-- R543: SLOT_ID as read from the straps. -/
  slotId : Nat
  /-- R542: THERM_N is asserted (low). -/
  thermLow : Bool
  /-- R542: CXL PERST contacts are held low. -/
  perstLow : Bool
  /-- R431: run key and step of a generation's header, by generation. -/
  genKeys : List (Nat × W64)
  deriving DecidableEq, Repr

/-- R65 to R71, R474: the reset value of a register: its field table's reset column; PACE.ENV_LIMIT.LIMIT_W is the grade's
sustained envelope (R39). -/
def Reg.resetValue (g : Grade) (r : Reg) : Nat :=
  (Reg.layout r).foldl (fun n f => n + f.rst <<< f.lo) 0 +
    (if r = .paceEnvLimit then (match g with | .f => 2000 | .m => 1600) else 0)

/-- DESIGN CHOICE (log entry 4): the fused values of the part, which differ from part to part: no SVN and no LMS block
set, DEVICE_ID 1 (R493: never all zeros), UDS zero, the firmware's and the vendor's key pair of zero bytes with their two SHA-384 hashes,
owner hash not programmed, no row fused. -/
def Fuses.initial : Fuses :=
  let zeroKeys := (leBytes 48 0x2ae0852c1bd41747b4c1ec59af66bcf4da07887afe0585e130c5ebb2c0bccf742a2c0c10f8995e5056a6ea2b9d9f910a).reverse ++
    (leBytes 48 0x8f0d145c0368ad6b70be22e41c400eea91b971d96ba220fec9fae25a58dffdaaf72dbe8f6783d55128c9df4efaf6f8a7).reverse
  { uds := List.replicate 48 0, deviceId := 1, svn := 0, lmsBlocks := 0, fwKeyHash := zeroKeys, vendorHash := zeroKeys,
    ownerHash := List.replicate 96 0, bypass := [], writeFails := false }

/-- DESIGN CHOICE (log entry 4): an image of the factory, of KIND `kind`: an empty body, SVN 0, and a block that R495 and R496 admit as
far as no signature is concerned. -/
def FwImage.initial (kind : Nat) : FwImage :=
  let bodyHash := (leBytes 48 0x38b060a751ac96384cd9327eb1b1e36a21fdb71114be07434c0cc7bf63f6e1da274edebfe76f65fbd51ad2f14898b95b).reverse
  { body := [], block := leBytes 4 0x47535751 ++ leBytes 12 kind ++ bodyHash ++ List.replicate 2045 0 }

/-- DESIGN CHOICE (log entry 4): flash as the part leaves the factory: two equal banks of SVN 0. -/
def Flash.initial : Flash :=
  let b : Bank := { mc := FwImage.initial 0, cp := FwImage.initial 1 }
  { bank0 := b, bank1 := b, q := 0, vendorKeys := List.replicate 145 0, ownerKeys := [], writeFails := false }

/-- R474 step 4: the block right after power-on reset: the module controller answers, STATE is STANDBY, the auxiliary
input is in range, the main input and the reference clocks are not there yet, no command waits. Log entry 4 names every
value that the spec does not give. -/
def State.reset : State :=
  { grade := .f, pending := [], draws := 0, paceDraws := 0, wire := [], regs := [], capsValid := false, rowFailed := false, sel := [],
    partnerHeld := [], mem := [], carts := [], ver := [], walk := .none, migrations := [], oldFrames := [], lostFrames := [], wantHbm := [],
    cxlPorts := [], hbmReady := false, pendingWrites := [], badWords := [], queues := [], served := [], serial := 0, step := {},
    attempts := [], recNext := 0, logNext := 0, sessions := [], mgmtLink := false, counters := [], injections := [], teleSeq := 0,
    teleLost := false, slots := [], acts := [], image := none, activated := [], cores := [], routes := [], live := [],
    nextTok := 0, sends := 0, seg := none, segDead := false, ckpt := [], selftest := none, spareNext := 0, lports := [], inbox := [], requests := [],
    nextReq := 0, waitReads := [], colls := [], early := [], kept := [], adopted := [], adopting := none,
    snapArm := none, snapNext := none, gens := [], snapDisarm := none, restore := none, refclk := false,
    mainOk := false, auxOk := true, cxlDone := false, railMv := 0, envUnheld := false, droop := [], taps := [], calDraw := 0, nonceDraw := 0, dieTemp := [],
    stackTemp := [], scrubRow := 0, timer := 0, health := {}, healthDone := true, sampleDone := true, fuses := Fuses.initial, flash := Flash.initial, actLog := List.replicate 48 0,
    spdm := {}, i3c := {}, slotId := 7, thermLow := false, perstLow := true, genKeys := [] }

/-- The outcome of a command of this block. -/
abbrev Outcome := Host.Outcome State Fault Refusal

end Sys2Proof.Machine
end

