-- ==== Sys2Proof/Machine/Ops.lean ====
section
/-!
DEFINITION. Named operations over the state: counts of the grade, register fields, raw bytes, the capability table, queue
contexts, events, counters, marks and detections. Every other file goes through these.
-/
namespace Sys2Proof.Machine

/-! ### Counts of the grade (R1, R533) -/

/-- Usable cores of the grade (R1). -/
def Grade.cores : Grade → Nat | .f => 768 | .m => 576
/-- Logical rows (R533 GRID_Y). -/
def Grade.gridY : Grade → Nat | .f => 24 | .m => 18
/-- Compute dies (R1). -/
def Grade.dies : Grade → Nat | .f => 4 | .m => 3
/-- Die rows, the instances of FAB.SPARE (R65). -/
def Grade.rows : Grade → Nat | .f => 48 | .m => 36
/-- Clusters (R58). -/
def Grade.clusters : Grade → Nat | .f => 48 | .m => 36
/-- HBM stacks (R1). -/
def Grade.stackNum : Grade → Nat | .f => 8 | .m => 6
/-- Laulo ports (R1). -/
def Grade.laulo : Grade → Nat | .f => 8 | .m => 6
/-- Collective engines (R1). -/
def Grade.coll : Grade → Nat | .f => 4 | .m => 3
/-- Compression engines (R1). -/
def Grade.comp : Grade → Nat | .f => 8 | .m => 0
/-- Update engines, the engine count N of R240 (R533 UPD_MASK). -/
def Grade.upd : Grade → Nat | .f => 16 | .m => 12
/-- Geometry class of a part with no failed row (R533). -/
def Grade.geom : Grade → Nat | .f => 1 | .m => 2
/-- GRADE field of word 0 (R533). -/
def Grade.code : Grade → Nat | .f => 1 | .m => 2
/-- HBM frames (R255). -/
def Grade.hbmFrames (g : Grade) : Nat := g.stackNum * 786432
/-- Sustained envelope in W (R35, R533 ENV_W). -/
def Grade.envW : Grade → Nat | .f => 2000 | .m => 1600

/-- Geometry class that the part reports: 0 when a row has failed (R64). -/
def State.geomClass (s : State) : Nat := if s.rowFailed then 0 else s.grade.geom

/-- Usable cores: 0 when a row has failed (R64). -/
def State.usableCores (s : State) : Nat := if s.rowFailed then 0 else s.grade.cores

/-! ### Addresses -/

/-- R530: start of the control space. -/
def ctlBase : Nat := 0xFF0000000000
/-- R45: start of the scratchpads. -/
def spBase : Nat := 0xFE0000000000
/-- R292: CTX_BASE (R535 area 0). -/
def ctxBase : Nat := 0xFD0000000000

/-- R535: base and length of reserved area `a`. -/
def areaOf : Nat → Nat × Nat
  | 0 => (0xFD0000000000, 67108864)
  | 1 => (0xFD0004000000, 67108864)
  | 2 => (0xFD0008000000, 4194304)
  | 3 => (0xFD0100000000, 1073741824)
  | 4 => (0xFD0140000000, 1073741824)
  | 5 => (0xFD0008400000, 524288)
  | 6 => (0xFD0008480000, 131072)
  | 7 => (0xFD1000000000, 8589934592)
  | 8 => (0xFD00084A0000, 1114112)
  | 9 => (0xFD00085B0000, 4096)
  | 10 => (0xFD00085C0000, 65536)
  | 11 => (0xFD00085D0000, 65536)
  | _ => (0, 0)

/-- Base of reserved area `a` (R535). -/
def areaBase (a : Nat) : Nat := (areaOf a).1

/-! ### Free values -/

/-- Draw a free value: `f` applied to the number of the draw, and the state with the draw counted. -/
def State.draw {α : Type} (s : State) (f : Nat → α) : α × State := (f s.draws, { s with draws := s.draws + 1 })

/-- Put an output on the outer interfaces. -/
def State.emit (s : State) (w : Wire) : State := { s with wire := s.wire ++ [w] }

/-! ### Registers (R14) -/

/-- Does the grade have this register (R526: the slots of an absent instance are unoccupied)? -/
def Grade.hasReg (g : Grade) : Reg → Bool
  | .lauPortCfg k => k < g.laulo
  | .lauPortStatus k => k < g.laulo
  | .lauCreditX k => k < g.laulo
  | .fabSpare n => n < g.rows
  | .coreStatus n => n < g.cores
  | .coreEngStatus n => n < g.cores
  | .coreLoopStatus n => n < g.cores
  | .coreDeferStatus n => n < g.cores
  | .coreWinOpen n => n < g.cores
  | .coreTestResult n => n < g.cores
  | _ => true

/-- Value held by a register. -/
def State.reg (s : State) (r : Reg) : Nat :=
  (Sparse.get (BitVec.ofNat 64 (Reg.resetValue s.grade r)) s.regs (Reg.offset r)).toNat

/-- Set a register's whole value. -/
def State.setReg (s : State) (r : Reg) (v : Nat) : State :=
  { s with regs := Sparse.set (BitVec.ofNat 64 (Reg.resetValue s.grade r)) s.regs (Reg.offset r) (BitVec.ofNat 64 v) }

/-- Value of a register field. -/
def State.fld (s : State) (f : RegField) : Nat := bitsOf (s.reg f.reg) f.hi f.lo

/-- Set a register field. -/
def State.setFld (s : State) (f : RegField) (v : Nat) : State := s.setReg f.reg (putBits (s.reg f.reg) f.hi f.lo v)

/-- The registers in canonical form: offsets strictly rising, each entry a register that does not hold its reset value. -/
def RegsOk (g : Grade) (x : List (Nat × W64)) : Prop :=
  Sparse.sorted x = true ∧ ∀ e ∈ x, ∃ r : Reg, Reg.offset r = e.1 ∧ e.2 ≠ BitVec.ofNat 64 (Reg.resetValue g r)

/-- A one-bit field reads 1. -/
def State.flag (s : State) (f : RegField) : Bool := s.fld f = 1

/-- Add to a counting field that saturates at all ones (R514). -/
def State.satFld (s : State) (f : RegField) (n : Nat) : State := s.setFld f (satAdd (f.hi + 1 - f.lo) (s.fld f) n)

/-! ### Raw bytes at physical places -/

/-- Byte at a physical place; a place that nothing has written reads zero (R260, R474 step 7, R477 step 5). -/
def State.rawByte (s : State) (p : Nat) : Byte := Sparse.get 0 s.mem p

/-- Write a byte at a physical place. -/
def State.setRawByte (s : State) (p : Nat) (b : Byte) : State := { s with mem := Sparse.set 0 s.mem p b }

/-- Bytes of a physical range. -/
def State.raw (s : State) (p len : Nat) : Bytes := (List.range len).map fun i => s.rawByte (p + i)

/-- Write bytes at a physical range. -/
def State.setRaw (s : State) (p : Nat) (bs : Bytes) : State :=
  (bs.zipIdx p).foldl (fun s x => s.setRawByte x.2 x.1) s

/-- Little-endian number in a physical range. -/
def State.rawNat (s : State) (p len : Nat) : Nat := leNat (s.raw p len)

/-- Write a little-endian number of `len` bytes. -/
def State.setRawNat (s : State) (p len v : Nat) : State := s.setRaw p (leBytes len v)

/-- Every byte of a physical range becomes zero. -/
def State.clearRaw (s : State) (p len : Nat) : State :=
  { s with mem := s.mem.filter fun c => !(p ≤ c.1 && c.1 < p + len) }

/-! ### Queue contexts (R292) -/

/-- A field of the context of queue `q`, `len` bytes at offset `off`. -/
def State.ctx (s : State) (q off len : Nat) : Nat := s.rawNat (ctxBase + 64 * q + off) len
/-- Write a field of a context. -/
def State.setCtx (s : State) (q off len v : Nat) : State := s.setRawNat (ctxBase + 64 * q + off) len v

/-- RING_BASE. -/
def State.ringBase (s : State) (q : Nat) : Nat := s.ctx q 0 8
/-- CQ_BASE. -/
def State.cqBase (s : State) (q : Nat) : Nat := s.ctx q 8 8
/-- PROG_ADDR. -/
def State.progAddr (s : State) (q : Nat) : Nat := s.ctx q 16 8
/-- RING_LOG2. -/
def State.ringLog2 (s : State) (q : Nat) : Nat := s.ctx q 24 1
/-- CQ_LOG2. -/
def State.cqLog2 (s : State) (q : Nat) : Nat := s.ctx q 25 1
/-- FLAGS. -/
def State.qFlags (s : State) (q : Nat) : Nat := s.ctx q 26 1
/-- CP. -/
def State.qCp (s : State) (q : Nat) : Nat := s.ctx q 27 1
/-- DOMAIN. -/
def State.qDomain (s : State) (q : Nat) : Nat := s.ctx q 28 2
/-- HEAD. -/
def State.qHead (s : State) (q : Nat) : W32 := BitVec.ofNat 32 (s.ctx q 32 4)
/-- TAIL. -/
def State.qTail (s : State) (q : Nat) : W32 := BitVec.ofNat 32 (s.ctx q 36 4)
/-- CQ_TAIL. -/
def State.qCqTail (s : State) (q : Nat) : W32 := BitVec.ofNat 32 (s.ctx q 40 4)
/-- CQ_HEAD. -/
def State.qCqHead (s : State) (q : Nat) : W32 := BitVec.ofNat 32 (s.ctx q 44 4)
/-- SEQ_BASE. -/
def State.qSeqBase (s : State) (q : Nat) : W32 := BitVec.ofNat 32 (s.ctx q 48 4)
/-- SESSION. -/
def State.qSession (s : State) (q : Nat) : Nat := s.ctx q 52 4
/-- STATE. -/
def State.qState (s : State) (q : Nat) : Nat := s.ctx q 56 1
/-- HOLD_CAUSE. -/
def State.qHoldCause (s : State) (q : Nat) : Nat := s.ctx q 57 1

/-- Set HEAD. -/
def State.setHead (s : State) (q : Nat) (v : W32) : State := s.setCtx q 32 4 v.toNat
/-- Set TAIL. -/
def State.setTail (s : State) (q : Nat) (v : W32) : State := s.setCtx q 36 4 v.toNat
/-- Set CQ_TAIL. -/
def State.setCqTail (s : State) (q : Nat) (v : W32) : State := s.setCtx q 40 4 v.toNat
/-- Set CQ_HEAD. -/
def State.setCqHead (s : State) (q : Nat) (v : W32) : State := s.setCtx q 44 4 v.toNat
/-- Set STATE and HOLD_CAUSE. -/
def State.setQState (s : State) (q st cause : Nat) : State := (s.setCtx q 56 1 st).setCtx q 57 1 cause

/-- The queue's record beside its context. -/
def State.queue (s : State) (q : Nat) : QueueRt := Sparse.get {} s.queues q
/-- Replace it. -/
def State.setQueue (s : State) (q : Nat) (r : QueueRt) : State := { s with queues := Sparse.set {} s.queues q r }
/-- Change it. -/
def State.modQueue (s : State) (q : Nat) (f : QueueRt → QueueRt) : State := s.setQueue q (f (s.queue q))

/-- R294: sequence number that the device expects for index i. -/
def State.expectedSeq (s : State) (q : Nat) (i : W32) : W32 := s.qSeqBase q + i

/-- The command of queue `q` with index `idx`. -/
def State.cmd? (s : State) (q : Nat) (idx : W32) : Option Cmd := (s.queue q).cmds.find? (·.idx = idx)

/-- Change the command of queue `q` with index `idx`. -/
def State.modCmd (s : State) (q : Nat) (idx : W32) (f : Cmd → Cmd) : State :=
  s.modQueue q fun r => { r with cmds := r.cmds.map fun c => if c.idx = idx then f c else c }

/-- Every queue that has a record. -/
def State.queueNums (s : State) : List Nat := s.queues.map (·.1)

/-! ### Events (R516, R547) -/

/-- R547: raise an in-band interrupt with data byte `code`, when ENEC has enabled them. -/
def State.raiseIbi (s : State) (code : Nat) : State :=
  if s.i3c.ibiEnabled && !(s.i3c.pendingIbi.contains code) then
    ({ s with i3c := { s.i3c with pendingIbi := s.i3c.pendingIbi ++ [code] } }).emit (.ibi code)
  else s

/-- R516: raise an event: write its record and advance TAIL, or, when the ring is full, set LOST and count it. The first
record of an empty ring raises IBI 0x01 (R547). -/
def State.event (s : State) (code inst : Nat) : State :=
  let tail := BitVec.ofNat 32 (s.fld TelEvtStatus.tail)
  let head := BitVec.ofNat 32 (s.fld TelEvtHead.head)
  if (tail - head).toNat = 4096 then
    (s.setFld TelEvtStatus.lost 1).satFld TelEvtStatus.lostCount 1
  else
    let p := areaBase 10 + 16 * (tail.toNat % 4096)
    let s1 := s.setRaw p (leBytes 4 code ++ leBytes 4 inst ++ leBytes 8 (s.fld TelIntervalCnt.count))
    let s2 := s1.setFld TelEvtStatus.tail (tail + 1).toNat
    if tail = head && s.i3c.ringArmed then
      ({ s2 with i3c := { s2.i3c with ringArmed := false } }).raiseIbi 1
    else s2

/-! ### Counters (R511) -/

/-- Key of a counter: number and instance (R511). -/
def counterKey (num inst : Nat) : Nat := num * 1048576 + inst

/-- Value of a counter. -/
def State.counter (s : State) (num inst : Nat) : Counter := Sparse.get {} s.counters (counterKey num inst)

/-- R511: a counter rises by `n`; one that would pass all ones holds all ones, sets its overflow bit and raises COUNTER_SAT
once per overflow. -/
def State.count (s : State) (num inst n : Nat) : State :=
  let c := s.counter num inst
  if c.count + n ≤ 2 ^ 64 - 1 then
    { s with counters := Sparse.set {} s.counters (counterKey num inst) { c with count := c.count + n } }
  else
    let s1 := { s with counters := Sparse.set {} s.counters (counterKey num inst) { count := 2 ^ 64 - 1, ovf := true } }
    if c.ovf then s1 else s1.event 0x01 (counterKey num inst)

/-! ### Marks and detections -/

/-- A step is in progress (R339). -/
def State.inStep (s : State) : Bool := s.flag QdirStepStatus.inProgress

/-- R339: COMMITTED. -/
def State.committed (s : State) : W32 := BitVec.ofNat 32 (s.fld QdirStepStatus.committed)

/-- The step in progress is COMMITTED + 1 (R339). -/
def State.stepNum (s : State) : W32 := s.committed + 1

/-- R405: mark the step in progress so that it cannot commit. -/
def State.mark (s : State) (status det : Nat) (cmd : Option (Nat × W32)) (run inj : Bool) : State :=
  if s.inStep then
    let m : Mark := { status, det, q := cmd.map (·.1), seq := (match cmd with | some (q, i) => s.expectedSeq q i | none => 0),
                      run, inj }
    let st := s.step
    ({ s with step := { st with marks := st.marks ++ [m], first := st.first.orElse (fun _ => some m),
                                injected := st.injected || inj } }).setFld QdirStepStatus.noCommit 1
  else s

/-- R405: NO_COMMIT reads 1 while any mark is present. -/
def State.refreshNoCommit (s : State) : State :=
  s.setFld QdirStepStatus.noCommit (b2n (s.inStep && !s.step.marks.isEmpty))

/-- R412: write GLB.ERR_LAST and raise the DETECTION event. -/
def State.detect (s : State) (det status : Nat) (q : Option Nat) (inst : Nat) (inj : Bool) : State :=
  let v := b2n inj <<< 63 + det <<< 48 + status <<< 40 + (q.getD 0xFFFFF) <<< 20 + inst % 2 ^ 20
  (s.setReg .glbErrLast v).event 0x03 (det <<< 20 + inst % 2 ^ 20)

/-- The SEGMENT_RUN in progress, as queue and index. -/
def State.segCmd (s : State) : Option (Nat × W32) := s.seg.map fun r => (r.q, r.idx)

/-- R416: an error that the SEGMENT_RUN in progress has met: status, detector, order key, detail. -/
def State.segErr (s : State) (status det key detail : Nat) : State :=
  match s.seg with
  | some r => { s with seg := some { r with errs := r.errs ++ [(status, det, key, detail)] } }
  | none => s

/-- An error of the fabric that marks the step and that the SEGMENT_RUN in progress completes with (R412 rule 2). -/
def State.fabricError (s : State) (status det key detail inst : Nat) (inj : Bool) : State :=
  let s1 := if det = 0 then s else s.detect det status (s.seg.map (·.q)) inst inj
  (s1.mark status det s.segCmd s.seg.isSome inj).segErr status det key detail

/-! ### Capability table (R532 to R535) -/

/-- CXL frames of a port (R256). -/
def State.cxlFramesOf (s : State) (p : Nat) : Nat := (Sparse.get {} s.cxlPorts p : CxlPort).frames

/-- R533, R534: word `i` of the capability table at stepping B0, without its validity. -/
def State.capWordRaw (s : State) (i : Nat) : Nat :=
  let g := s.grade
  match i with
  | 0 => 1 <<< 48 + 1 <<< 40 + s.geomClass <<< 24 + 0x10 <<< 16 + g.code <<< 8 + 48
  | 1 => s.fuses.deviceId % 2 ^ 64
  | 2 => s.fuses.deviceId / 2 ^ 64 % 2 ^ 64
  | 3 => g.rows <<< 48 + g.clusters <<< 40 + g.dies <<< 32 + g.gridY <<< 24 + 32 <<< 16 + s.usableCores
  | 4 => 0xFF <<< 56 + 0xF <<< 52 + 3 <<< 48 + (2 ^ g.stackNum - 1) <<< 40 + (2 ^ g.upd - 1) <<< 24 +
         (2 ^ g.comp - 1) <<< 16 + (2 ^ g.coll - 1) <<< 8 + (2 ^ g.laulo - 1)
  | 5 => 196608 <<< 32 + 2097152
  | 6 => 256 <<< 48 + 32 <<< 40 + 8 <<< 32 + 50331648
  | 7 => (s.cxlFramesOf 0 + s.cxlFramesOf 1) <<< 32 + g.hbmFrames
  | 8 => 4096 <<< 48 + 4096 <<< 32 + 1048576
  | 9 => 65536 <<< 32 + 1024 <<< 16 + 4096
  | 10 => 16 <<< 56 + 40 <<< 48 + 64 <<< 32 + 4096 <<< 16 + g.envW
  | 11 => 61947
  | n => if 16 ≤ n ∧ n ≤ 39 then
           (if n % 2 = 0 then (areaOf ((n - 16) / 2)).1 else (areaOf ((n - 17) / 2)).2)
         else 0

/-- R532: words 0 to 2 are valid from step 4 of start-up, every other word from READY onward. -/
def State.capWord (s : State) (i : Nat) : Nat := if i ≤ 2 || s.capsValid then s.capWordRaw i else 0

/-! ### Agents (R452, R528) -/

/-- Key of an agent's selector copies. -/
def agentKey : Agent → Nat
  | .session k => k
  | .mgmt => 4096
  | .mgmtAt => 4096
  | .modctl => 4097

/-- The agent is the management channel. -/
def isMgmt (a : Agent) : Bool := a = .mgmt || a = .mgmtAt

/-- Session in a slot. -/
def State.session (s : State) (k : Nat) : Session := Sparse.get {} s.sessions k
/-- Replace a session. -/
def State.setSession (s : State) (k : Nat) (x : Session) : State := { s with sessions := Sparse.set {} s.sessions k x }

/-- Selector copies of an agent (R528). -/
def State.selOf (s : State) (a : Agent) : Selectors := Sparse.get {} s.sel (agentKey a)
/-- Replace them. -/
def State.setSelOf (s : State) (a : Agent) (x : Selectors) : State := { s with sel := Sparse.set {} s.sel (agentKey a) x }

/-- The owner session or the management channel, which reach every register (R452). -/
def State.privileged (s : State) : Agent → Bool
  | .mgmt => s.mgmtLink
  | .mgmtAt => s.mgmtLink
  | .modctl => false
  | .session k => (s.session k).state = .attached && (s.session k).owner

end Sys2Proof.Machine
end

