-- ==== Sys2Proof/Machine/Records.lean ====
section
/-!
DEFINITION. The records of a coach image (R72 to R88, R131 to R134) read from the bytes that hold them.
-/
namespace Sys2Proof.Machine

/-- R78. -/
structure CoreRec where
  role : Nat
  flags : Nat
  tables : Nat
  progOff : Nat
  progLen : Nat
  loopOff : Nat
  loopLen : Nat
  deriving DecidableEq, Repr

/-- R79. KIND 0 data in, 1 control in, 2 data out, 3 control out. -/
structure QueueRec where
  core : Nat
  q : Nat
  kind : Nat
  depth : Nat
  unit : Nat
  route : Nat
  deriving DecidableEq, Repr

/-- R80. -/
structure RouteRec where
  srcKind : Nat
  dstKind : Nat
  src : Nat
  dst : Nat
  srcQ : Nat
  dstQ : Nat
  cls : Nat
  spread : Nat
  deriving DecidableEq, Repr

/-- R81. -/
structure SteerRec where
  core : Nat
  ctrlQ : Nat
  dataQ : Nat
  sel : Nat
  action : Nat
  outA : Nat
  outB : Nat
  deriving DecidableEq, Repr

/-- R83. -/
structure WindowRec where
  core : Nat
  w : Nat
  access : Nat
  domain : Nat
  base : Nat
  len : Nat
  deriving DecidableEq, Repr

/-- R84: the governor record. -/
structure GovRec where
  ufUp : Nat
  satUp : Nat
  ufDown : Nat
  satDown : Nat
  hold : Nat
  start : Nat
  deriving DecidableEq, Repr

/-- R84: a tensor record. -/
structure TensorRec where
  id : Nat
  fmt : Nat
  scale : Nat
  round : Nat
  role : Nat
  deriving DecidableEq, Repr

/-- R85. -/
structure ParamRec where
  id : Nat
  group : Nat
  flags : Nat
  home : Nat
  count : Nat
  maskId : Nat
  deriving DecidableEq, Repr

/-- R87. -/
structure CarriageRec where
  chain : Nat
  pos : Nat
  core : Nat
  tensor : Nat
  tiles : Nat
  deriving DecidableEq, Repr

/-- R88. -/
structure SpreadRec where
  set : Nat
  die : Nat
  len : Nat
  routers : List Nat
  deriving DecidableEq, Repr

/-- R133. -/
structure LevelRec where
  nest : Nat
  kind : Nat
  dir : Nat
  count : Nat
  deriving DecidableEq, Repr

/-- R134. Strides are signed tile counts. -/
structure OperandRec where
  role : Nat
  src : Nat
  arg : Nat
  fmt : Nat
  hold : Nat
  use : Nat
  base : Nat
  scaleBase : Nat
  stride : List Int
  tensor : Nat
  deriving DecidableEq, Repr

/-- R132: a loop table. -/
structure LoopTable where
  unit : Nat
  flags : Nat
  accFmt : Nat
  outShape : Nat
  op : Nat
  spillOff : Nat
  total : Nat
  levels : List LevelRec
  operands : List OperandRec
  deriving DecidableEq, Repr

/-- The `n`-th record of `size` bytes. -/
def recAt (bs : Bytes) (size n : Nat) : Bytes := sliceBytes bs (size * n) size

def parseCore (r : Bytes) : CoreRec :=
  { role := leField r 0 1, flags := leField r 1 1, tables := leField r 2 1, progOff := leField r 4 4,
    progLen := leField r 8 4, loopOff := leField r 12 4, loopLen := leField r 16 4 }

def parseQueue (r : Bytes) : QueueRec :=
  { core := leField r 0 2, q := leField r 2 1, kind := leField r 3 1 % 4, depth := leField r 4 2, unit := leField r 6 1,
    route := leField r 8 4 }

def parseRoute (r : Bytes) : RouteRec :=
  { srcKind := leField r 0 1, dstKind := leField r 1 1, src := leField r 2 2, dst := leField r 4 2, srcQ := leField r 6 1,
    dstQ := leField r 7 1, cls := leField r 8 1, spread := leField r 9 1 }

def parseSteer (r : Bytes) : SteerRec :=
  { core := leField r 0 2, ctrlQ := leField r 2 1, dataQ := leField r 3 1, sel := leField r 4 1, action := leField r 5 1,
    outA := leField r 6 1, outB := leField r 7 1 }

def parseWindow (r : Bytes) : WindowRec :=
  { core := leField r 0 2, w := leField r 2 1, access := leField r 3 1, domain := leField r 4 2, base := leField r 8 4,
    len := leField r 12 4 }

def parseGov (r : Bytes) : GovRec :=
  { ufUp := leField r 0 2, satUp := leField r 2 2, ufDown := leField r 4 2, satDown := leField r 6 2, hold := leField r 8 1,
    start := leField r 9 1 }

def parseTensor (r : Bytes) : TensorRec :=
  { id := leField r 0 4, fmt := leField r 4 1, scale := leField r 5 1, round := leField r 6 1, role := leField r 7 1 }

def parseParam (r : Bytes) : ParamRec :=
  { id := leField r 0 4, group := leField r 4 2, flags := leField r 6 1, home := leField r 8 8, count := leField r 16 8,
    maskId := leField r 24 4 }

def parseCarriage (r : Bytes) : CarriageRec :=
  { chain := leField r 0 2, pos := leField r 2 2, core := leField r 4 2, tensor := leField r 8 4, tiles := leField r 12 4 }

def parseSpread (r : Bytes) : SpreadRec :=
  { set := leField r 0 1, die := leField r 1 1, len := leField r 2 1,
    routers := (sliceBytes r 4 12).map (·.toNat) }

def parseLevel (r : Bytes) : LevelRec :=
  { nest := leField r 0 1, kind := leField r 1 1, dir := leField r 2 1, count := leField r 4 4 }

def parseOperand (r : Bytes) : OperandRec :=
  { role := leField r 0 1, src := leField r 1 1, arg := leField r 2 1, fmt := leField r 3 1, hold := leField r 4 1,
    use := leField r 6 2, base := leField r 8 4, scaleBase := leField r 12 4,
    stride := (List.range 6).map fun l => signed16 (leField r (16 + 2 * l) 2), tensor := leField r 28 4 }

/-- R131: length of a table with these counts. -/
def tableLen (levels operands : Nat) : Nat := 32 + 16 * levels + 32 * operands

/-- R132 to R134: the table at the start of a byte string. -/
def parseTable (r : Bytes) : LoopTable :=
  let nl := leField r 1 1
  let no := leField r 2 1
  { unit := leField r 0 1, flags := leField r 3 1, accFmt := leField r 4 1, outShape := leField r 5 1, op := leField r 6 1,
    spillOff := leField r 8 4, total := leField r 12 4,
    levels := (List.range nl).map fun i => parseLevel (sliceBytes r (32 + 16 * i) 16),
    operands := (List.range no).map fun i => parseOperand (sliceBytes r (32 + 16 * nl + 32 * i) 32) }

/-- R82: the tables of a core, laid end to end. -/
def parseTables : Bytes → Nat → List LoopTable
  | _, 0 => []
  | bs, n + 1 => parseTable bs :: parseTables (bs.drop (tableLen (leField bs 1 1) (leField bs 2 1))) n

/-- Bytes of the records of a section (R76); empty when the image has no section of this type. -/
def Image.sec (i : Image) (ty : Nat) : Bytes := ((i.secs.find? (·.1 = ty)).map (·.2.2)).getD []
/-- RECORD_COUNT of a section. -/
def Image.secCount (i : Image) (ty : Nat) : Nat := ((i.secs.find? (·.1 = ty)).map (·.2.1)).getD 0

/-- The records of a section of fixed-size records. -/
def Image.recs {α : Type} (i : Image) (ty size : Nat) (f : Bytes → α) : List α :=
  (List.range (i.secCount ty)).map fun n => f (recAt (i.sec ty) size n)

def Image.coreRecs (i : Image) : List CoreRec := i.recs 0x0001 32 parseCore
def Image.queueRecs (i : Image) : List QueueRec := i.recs 0x0003 16 parseQueue
def Image.routeRecs (i : Image) : List RouteRec := i.recs 0x0004 16 parseRoute
def Image.steerRecs (i : Image) : List SteerRec := i.recs 0x0005 16 parseSteer
def Image.windowRecs (i : Image) : List WindowRec := i.recs 0x0007 16 parseWindow
def Image.paramRecs (i : Image) : List ParamRec := i.recs 0x0009 32 parseParam
def Image.carriageRecs (i : Image) : List CarriageRec := i.recs 0x000A 16 parseCarriage
/-- R84: the leading governor record of FORMAT. -/
def Image.gov (i : Image) : GovRec := parseGov (sliceBytes (i.sec 0x0008) 0 32)
/-- R84: the tensor records. -/
def Image.tensorRecs (i : Image) : List TensorRec :=
  (List.range (i.secCount 0x0008 - 1)).map fun n => parseTensor (sliceBytes (i.sec 0x0008) (32 + 16 * n) 16)
/-- R88: GANG_MASK; 0 without a CLUSTER section. -/
def Image.gangMask (i : Image) : Nat := leField (i.sec 0x000B) 0 8
/-- R88: the spread sets. -/
def Image.spreadRecs (i : Image) : List SpreadRec :=
  (List.range (i.secCount 0x000B - 1)).map fun n => parseSpread (sliceBytes (i.sec 0x000B) (16 + 16 * n) 16)

/-- The CORE record of a logical core; an idle one when the image has none. -/
def Image.core (i : Image) (n : Nat) : CoreRec :=
  if n < i.secCount 0x0001 then parseCore (recAt (i.sec 0x0001) 32 n) else parseCore []
/-- The loop tables of a core. -/
def Image.tables (i : Image) (n : Nat) : List LoopTable :=
  let c := i.core n
  parseTables (sliceBytes (i.sec 0x0006) c.loopOff c.loopLen) c.tables
/-- The program of a core. -/
def Image.prog (i : Image) (n : Nat) : Bytes :=
  let c := i.core n
  sliceBytes (i.sec 0x0002) c.progOff c.progLen
/-- The QUEUE record of a core's queue. -/
def Image.queue? (i : Image) (n q : Nat) : Option QueueRec := i.queueRecs.find? fun r => r.core = n && r.q = q
/-- The tensor record of an identifier. -/
def Image.tensor? (i : Image) (id : Nat) : Option TensorRec := i.tensorRecs.find? (·.id = id)
/-- The PARAM record of an identifier. -/
def Image.param? (i : Image) (id : Nat) : Option ParamRec := i.paramRecs.find? (·.id = id)
/-- A route by its index. -/
def Image.route? (i : Image) (k : Nat) : Option RouteRec := i.routeRecs[k]?

/-- R80: unit kind of a unit code. -/
def unitKindOf (u : Nat) : Nat := u / 4096
/-- R80: instance of a unit code. -/
def unitInstOf (u : Nat) : Nat := u % 4096

/-- R78: an active core. -/
def Image.active (i : Image) (n : Nat) : Bool := (i.core n).role = 1

/-- R84: width in bits of a format; 0 for a code without one. -/
def fmtBits : Nat → Nat
  | 1 => 4 | 2 => 6 | 3 => 6 | 4 => 8 | 5 => 8 | 6 => 16 | 7 => 16 | 8 => 32
  | _ => 0

/-- R140: bytes of the values of a tile. -/
def tileBytes (fmt : Nat) : Nat := fmtBits fmt * 512
/-- R140: a tile of this format has 64 scale bytes. -/
def scaledFmt (fmt : Nat) : Bool := 1 ≤ fmt && fmt ≤ 5

/-- A format code of R84 other than 0x0F. -/
def fmtOk (fmt : Nat) : Bool := 1 ≤ fmt && fmt ≤ 8

namespace ParamFlags
/-- R85 FROZEN. -/
def frozen (p : ParamRec) : Bool := bitOf p.flags 0
/-- R85 TOUCHED_ROWS. -/
def touched (p : ParamRec) : Bool := bitOf p.flags 1
/-- R85 STREAMED. -/
def streamed (p : ParamRec) : Bool := bitOf p.flags 2
/-- R85 MASKED. -/
def masked (p : ParamRec) : Bool := bitOf p.flags 3
end ParamFlags

/-- R226: bytes of a home of COUNT parameters and U touch units. -/
def homeBytes (count u : Nat) : Nat := 131072 * (ceilDiv count 8192 + ceilDiv u 8184)

/-- R144: the reduction level with COUNT above 1 whose NEST is highest. -/
def LoopTable.outerRed (t : LoopTable) : Option LevelRec :=
  (t.levels.filter fun l => l.kind = 1 && 1 < l.count).foldl
    (fun m l => match m with | none => some l | some x => if x.nest < l.nest then some l else m) none

/-- R144: tiles in flight P. -/
def LoopTable.inFlight (t : LoopTable) : Nat :=
  match t.outerRed with
  | none => 1
  | some r => (t.levels.filter fun l => l.kind = 0 && l.nest < r.nest).foldl (fun n l => n * l.count) 1

/-- R143: accumulator bytes per tile. -/
def LoopTable.accBytes (t : LoopTable) : Nat :=
  (if t.accFmt = 1 then 8192 else 16384) / (if t.outShape = 1 then 2 else 1)

/-- R131: a matrix table (UNIT 0 or 2). -/
def LoopTable.isMatrix (t : LoopTable) : Bool := t.unit = 0 || t.unit = 2

/-- R132 PER_RUN. -/
def LoopTable.perRun (t : LoopTable) : Bool := bitOf t.flags 0

/-- R145: demand of a core in bytes. -/
def accDemand (ts : List LoopTable) : Nat :=
  (ts.filter (·.isMatrix)).foldl (fun n t => n + t.inFlight * t.accBytes) 0

/-- R146, R186: accumulator tiles assigned to each table, in table order; 0 for a vector table. -/
def accAssign : List LoopTable → Nat → List Nat
  | [], _ => []
  | t :: ts, rest =>
    if t.isMatrix then
      let c := min t.inFlight (rest / t.accBytes)
      c :: accAssign ts (rest - c * t.accBytes)
    else 0 :: accAssign ts rest

end Sys2Proof.Machine
end

