-- ==== Sys2Proof/Machine/Fp.lean ====
section
/-!
DEFINITION. Number formats, roundings and FP32 arithmetic (R154 to R166, R185, R196, R197), computed exactly on dyadic
numbers and rounded once.
-/
namespace Sys2Proof.Machine

/-- A value: a quiet NaN, an infinity, or a signed dyadic number m × 2^e, whose zero keeps its sign (R154, R156). -/
inductive Num where
  | nan
  | inf (neg : Bool)
  | fin (neg : Bool) (m : Nat) (e : Int)
  deriving DecidableEq, Repr

/-- Plus zero. -/
def Num.zero : Num := .fin false 0 0

/-- R155: mantissa bits, exponent bits and bias of a format. -/
def fmtParams : Nat → Nat × Nat × Nat
  | 1 => (1, 2, 1) | 2 => (2, 3, 3) | 3 => (3, 2, 1) | 4 => (3, 4, 7) | 5 => (2, 5, 15)
  | 6 => (7, 8, 127) | 7 => (10, 5, 15) | _ => (23, 8, 127)

/-- A format whose highest exponent field is special: E5M2, BF16, FP16, FP32 (R155). -/
def fmtIeee (fmt : Nat) : Bool := 5 ≤ fmt

/-- Element value of a code (R154, R155, R156). -/
def decodeNum (fmt code : Nat) : Num :=
  let (m, eb, b) := fmtParams fmt
  let neg := bitOf code (m + eb)
  let ex := code / 2 ^ m % 2 ^ eb
  let ma := code % 2 ^ m
  if fmt = 4 ∧ ex = 15 ∧ ma = 7 then .nan
  else if fmtIeee fmt ∧ ex = 2 ^ eb - 1 then (if ma = 0 then .inf neg else .nan)
  else if ex = 0 then .fin neg ma (1 - (b : Int) - m)
  else .fin neg (2 ^ m + ma) ((ex : Int) - b - m)

/-- Position of the leading one of a nonzero number. -/
def topBit (n : Nat) : Nat := Nat.log2 n

/-- How a rounding chooses between two neighbours: to nearest even (R165), or with 16 random bits (R166). -/
inductive Mode where
  | nearest
  | stochastic (r : Nat)
  deriving DecidableEq, Repr

/-- Round a nonzero magnitude m × 2^e, with `sticky` when more follows below it, to a grid of `mb` mantissa bits and bias `b`
whose exponent has no upper limit: answers L × 2^q (R157, R165, R166). -/
def roundMag (mb b m : Nat) (e : Int) (sticky : Bool) (mode : Mode) : Nat × Int :=
  let p := (topBit m : Int) + e
  let q := max (p - mb) (1 - (b : Int) - mb)
  if q ≤ e then (m <<< (e - q).toNat, q)
  else
    let sh := (q - e).toNat
    let l := m >>> sh
    let rem := m % 2 ^ sh
    let up := match mode with
      | .nearest =>
        let half := 2 ^ (sh - 1)
        half < rem || (rem = half && (sticky || l % 2 = 1))
      | .stochastic r => 65536 ≤ (rem <<< 16) >>> sh + r
    (if up then l + 1 else l, q)

/-- Code of a magnitude L × 2^q of a format's grid; the special exponent when it is too large (R157). -/
def encodeMag (fmt : Nat) (neg : Bool) (l : Nat) (q : Int) : Nat :=
  let (m, eb, b) := fmtParams fmt
  let s := b2n neg <<< (m + eb)
  if l = 0 then s
  else
    let p := (topBit l : Int) + q
    let ex := p + b
    if ex ≤ 0 then s + l
    else if (2 ^ eb - (if fmtIeee fmt then 1 else 0) : Nat) ≤ ex then s + (2 ^ eb - 1) <<< m
    else
      let ma := if p - m ≤ q then l <<< (q - (p - m)).toNat else l >>> ((p - m) - q).toNat
      s + ex.toNat <<< m + (ma - 2 ^ m)

/-- R157: the canonical quiet NaN of a format; NaN code of the FP8 formats. -/
def canonicalNan : Nat → Nat
  | 4 => 0x7F | 5 => 0x7E | 6 => 0x7FC0 | 7 => 0x7E00 | _ => 0x7FC00000

/-- Convert a value to a format with its own exponent, rounding once (R157). -/
def convertNum (fmt : Nat) (mode : Mode) (sticky : Bool) : Num → Nat
  | .nan => canonicalNan fmt
  | .inf neg => let (m, eb, _) := fmtParams fmt; b2n neg <<< (m + eb) + (2 ^ eb - 1) <<< m
  | .fin neg m e =>
    let (mb, eb, b) := fmtParams fmt
    if m = 0 then b2n neg <<< (mb + eb)
    else let r := roundMag mb b m e sticky mode; encodeMag fmt neg r.1 r.2

/-- To FP32, to nearest even. -/
def toF32 (x : Num) : Nat := convertNum 8 .nearest false x
/-- Value of an FP32 code. -/
def f32 (c : Nat) : Num := decodeNum 8 c

/-- A value times 2^k. -/
def Num.scale (x : Num) (k : Int) : Num := match x with
  | .fin n m e => .fin n m (e + k)
  | y => y

/-- Negation. -/
def Num.neg : Num → Num
  | .nan => .nan
  | .inf n => .inf (!n)
  | .fin n m e => .fin (!n) m e

/-- Exact sum; an exact zero is +0 unless both terms are negative (IEEE 754). -/
def Num.add : Num → Num → Num
  | .nan, _ => .nan
  | _, .nan => .nan
  | .inf a, .inf b => if a = b then .inf a else .nan
  | .inf a, _ => .inf a
  | _, .inf b => .inf b
  | .fin a m e, .fin b n f =>
    let g := min e f
    let x : Int := ((m <<< (e - g).toNat : Nat) : Int) * (if a then -1 else 1)
    let y : Int := ((n <<< (f - g).toNat : Nat) : Int) * (if b then -1 else 1)
    let z := x + y
    if z = 0 then .fin (a && b) 0 0 else .fin (z < 0) z.natAbs g

/-- Exact product. -/
def Num.mul : Num → Num → Num
  | .nan, _ => .nan
  | _, .nan => .nan
  | .inf a, .inf b => .inf (a != b)
  | .inf a, .fin b n _ => if n = 0 then .nan else .inf (a != b)
  | .fin a m _, .inf b => if m = 0 then .nan else .inf (a != b)
  | .fin a m e, .fin b n f => .fin (a != b) (m * n) (e + f)

/-- FP32 addition, to nearest even. -/
def fadd (a b : Nat) : Nat := toF32 ((f32 a).add (f32 b))
/-- FP32 multiplication. -/
def fmul (a b : Nat) : Nat := toF32 ((f32 a).mul (f32 b))
/-- FP32 fused multiply-add: rounded once. -/
def ffma (a b c : Nat) : Nat := toF32 (((f32 a).mul (f32 b)).add (f32 c))
/-- FP32 negation. -/
def fneg (a : Nat) : Nat := toF32 (f32 a).neg
/-- FP32 subtraction. -/
def fsub (a b : Nat) : Nat := toF32 ((f32 a).add (f32 b).neg)

/-- Quotient of two values, rounded to FP32. -/
def divNum (x y : Num) : Nat :=
  match x, y with
  | .nan, _ => canonicalNan 8
  | _, .nan => canonicalNan 8
  | .inf _, .inf _ => canonicalNan 8
  | .inf a, .fin b _ _ => toF32 (.inf (a != b))
  | .fin a _ _, .inf b => toF32 (.fin (a != b) 0 0)
  | .fin a m e, .fin b n f =>
    if n = 0 then (if m = 0 then canonicalNan 8 else toF32 (.inf (a != b)))
    else if m = 0 then toF32 (.fin (a != b) 0 0)
    else
      let k := topBit n + 64
      let q := (m <<< k) / n
      let rest := (m <<< k) % n ≠ 0
      convertNum 8 .nearest rest (.fin (a != b) (2 * q) (e - f - k - 1))

/-- FP32 division. -/
def fdiv (a b : Nat) : Nat := divNum (f32 a) (f32 b)

/-- Integer square root by bits, from bit `n`. -/
def isqrtFrom (x : Nat) : Nat → Nat → Nat
  | 0, r => if (r + 1) * (r + 1) ≤ x then r + 1 else r
  | n + 1, r => let c := r + 2 ^ (n + 1); isqrtFrom x n (if c * c ≤ x then c else r)

/-- Integer square root. -/
def isqrt (x : Nat) : Nat := isqrtFrom x (topBit x / 2 + 1) 0

/-- FP32 square root, to nearest even. -/
def fsqrt (a : Nat) : Nat :=
  match f32 a with
  | .nan => canonicalNan 8
  | .inf true => canonicalNan 8
  | .inf false => toF32 (.inf false)
  | .fin neg m e =>
    if m = 0 then toF32 (.fin neg 0 0)
    else if neg then canonicalNan 8
    else
      let k : Nat := if e % 2 = 0 then 128 else 129
      let x := m <<< k
      let r := isqrt x
      convertNum 8 .nearest (r * r ≠ x) (.fin false (2 * r) ((e - k) / 2 - 1))

/-- Larger of two FP32 values (R196 MAX): NaN if either is NaN, +0 for zeros of opposite sign. -/
def fmax (a b : Nat) : Nat :=
  match f32 a, f32 b with
  | .nan, _ => canonicalNan 8
  | _, .nan => canonicalNan 8
  | x, y =>
    match x.add y.neg with
    | .inf n => if n then b else a
    | .fin n m _ => if m = 0 then (if a = b then a else 0) else if n then b else a
    | .nan => a

/-! ### Exponential (R196, R197) -/

/-- ln 2 × 2^1200, truncated: Σ 1 / (n 2^n). -/
def ln2Fix : Nat := (List.range 1260).foldl (fun s i => s + 2 ^ 1200 / ((i + 1) * 2 ^ (i + 1))) 0

/-- Taylor sum of e^r × 2^1200 for r × 2^1200 in fixed point. -/
def expSeries (r : Nat) : Nat :=
  ((List.range 160).foldl (fun (acc : Nat × Nat) i =>
    let t := acc.2 * r / 2 ^ 1200 / (i + 1)
    (acc.1 + t, t)) (2 ^ 1200, 2 ^ 1200)).1

/-- e^y × 2^800 for a dyadic y with |y| at most 400, in fixed point. -/
def expFix (neg : Bool) (m : Nat) (e : Int) : Nat :=
  let a := if 0 ≤ e + 1200 then m <<< (e + 1200).toNat else m >>> (-(e + 1200)).toNat
  let y : Int := if neg then -(a : Int) else a
  let k := y / (ln2Fix : Int)
  let r := (y - k * ln2Fix).toNat
  let x := expSeries r
  let sh := k - 400
  if 0 ≤ sh then x <<< sh.toNat else x >>> (-sh).toNat

/-- |m × 2^e| is above 400. -/
def above400 (m : Nat) (e : Int) : Bool := if 0 ≤ e then 400 < m <<< e.toNat else 400 < m >>> (-e).toNat

/-- Correctly rounded e^x in FP32. -/
def expRounded (a : Nat) : Nat :=
  match f32 a with
  | .nan => canonicalNan 8
  | .inf true => 0
  | .inf false => toF32 (.inf false)
  | .fin neg m e =>
    if m = 0 then 0x3F800000
    else if above400 m e then (if neg then 0 else toF32 (.inf false))
    else convertNum 8 .nearest true (.fin false (2 * expFix neg m e) (-801))

/-- Correctly rounded 1 / √x in FP32. -/
def rsqrtRounded (a : Nat) : Nat :=
  match f32 a with
  | .nan => canonicalNan 8
  | .inf neg => if neg then canonicalNan 8 else 0
  | .fin neg m e =>
    if m = 0 then toF32 (.inf neg)
    else if neg then canonicalNan 8
    else
      -- 1 / (m 2^e) = (2^k / m) 2^(-e-k), with -e-k even
      let k : Nat := if e % 2 = 0 then 400 else 401
      let q := 2 ^ k / m
      let r := isqrt q
      convertNum 8 .nearest (r * r ≠ q || 2 ^ k % m ≠ 0) (.fin false (2 * r) ((-e - k) / 2 - 1))

/-- Correctly rounded x × y / (1 + e^−x) in FP32; special values as the operations named give them (R197). -/
def siluRounded (a b : Nat) : Nat :=
  match f32 a, f32 b with
  | .fin n0 m0 e0, .fin n1 m1 e1 =>
    if m0 = 0 ∨ m1 = 0 then toF32 (.fin (n0 != n1) 0 0)
    else
      let t := if above400 m0 e0 then (if n0 then 2 ^ 1600 else 1) else expFix (!n0) m0 e0
      let k := 2000
      let num := (m0 * m1) <<< (800 + k)
      let den := 2 ^ 800 + t
      convertNum 8 .nearest true (.fin (n0 != n1) (2 * (num / den)) (e0 + e1 - k - 1))
  | _, _ => fdiv (fmul a b) (fadd 0x3F800000 (expRounded (fneg a)))

/-! ### Tiles (R158 to R163) -/

/-- R158: ordinal of element (r, c). -/
def ordinal (r c : Nat) : Nat := (r / 8 * 8 + c / 8) * 64 + (r % 8 * 8 + c % 8)

/-- Element (row, column) of an ordinal. -/
def elementOf (e : Nat) : Nat × Nat := (e / 64 / 8 * 8 + e % 64 / 8, e / 64 % 8 * 8 + e % 64 % 8)

/-- R159: codes of four elements at a time; `w` is the format's width. -/
def unpackCodes (w : Nat) : Nat → Bytes → List Nat
  | 0, _ => []
  | g + 1, bs =>
    let n := leNat (bs.take (w / 2))
    [n % 2 ^ w, n / 2 ^ w % 2 ^ w, n / 2 ^ (2 * w) % 2 ^ w, n / 2 ^ (3 * w) % 2 ^ w] ++ unpackCodes w g (bs.drop (w / 2))

/-- R159: the bytes of element codes. -/
def packCodes (w : Nat) : List Nat → Bytes
  | a :: b :: c :: d :: rest =>
    leBytes (w / 2) (a + b <<< w + c <<< (2 * w) + d <<< (3 * w)) ++ packCodes w rest
  | _ => []

/-- R162: the factor of a scale byte, or a NaN block. -/
def scaleNum (s : Nat) (x : Num) : Num := if s = 0xFF then .nan else x.scale ((s : Int) - 127)

/-- R156, R162: the values of a tile's elements by ordinal. -/
def decodeTile (fmt : Nat) (vals scales : Bytes) : Array Num :=
  let codes := (unpackCodes (fmtBits fmt) 1024 vals).toArray
  let sc := scales.toArray
  (Array.range 4096).map fun e =>
    let code := codes.getD e 0
    let x := decodeNum fmt code
    if scaledFmt fmt then
      let s := (sc.getD (e / 64) 0).toNat
      match x with
      | .fin _ _ _ => scaleNum s x
      | y => if s = 0xFF then .nan else y
    else x

/-- R155: largest finite value of a scaled format as m × 2^e. -/
def maxFinite : Nat → Nat × Int
  | 1 => (3, 1) | 2 => (7, 2) | 3 => (15, -1) | 4 => (7, 6) | _ => (7, 13)

/-- The magnitude of the first value is at most that of the second. -/
def magLe (m : Nat) (e : Int) (n : Nat) (f : Int) : Bool :=
  let g := min e f
  m <<< (e - g).toNat ≤ n <<< (f - g).toNat

/-- Larger magnitude of two. -/
def magMax (x y : Nat × Int) : Nat × Int := if magLe x.1 x.2 y.1 y.2 then y else x

/-- R163: the smallest s with A ≤ M × 2^s. -/
def scaleExp (fmt : Nat) (a : Nat × Int) : Int :=
  let mx := maxFinite fmt
  let s0 := ((topBit a.1 : Int) + a.2) - ((topBit mx.1 : Int) + mx.2)
  if magLe a.1 a.2 mx.1 (mx.2 + s0 - 1) then s0 - 1 else if magLe a.1 a.2 mx.1 (mx.2 + s0) then s0 else s0 + 1

/-- R163: the scale code of a block of FP32 codes. -/
def blockScale (fmt : Nat) (xs : List Nat) : Nat :=
  let ns := xs.map f32
  if ns.any (fun x => match x with | .fin _ _ _ => false | _ => true) then 0xFF
  else
    let a := ns.foldl (fun m x => match x with | .fin _ k e => if k = 0 then m else if m.1 = 0 then (k, e) else magMax m (k, e)
                                               | _ => m) ((0, 0) : Nat × Int)
    if a.1 = 0 then 0 else (min 254 (max 0 (scaleExp fmt a + 127))).toNat

/-- R163: the code of one element under a block's scale. -/
def scaledCode (fmt scale : Nat) (mode : Mode) (x : Nat) : Nat :=
  if scale = 0xFF then 0
  else
    let (mb, eb, b) := fmtParams fmt
    match (f32 x).scale (127 - (scale : Int)) with
    | .fin neg m e =>
      if m = 0 then b2n neg <<< (mb + eb)
      else let r := roundMag mb b m e false mode; encodeMag fmt neg r.1 r.2
    | _ => 0

/-- R157, R163, R164: convert FP32 codes by ordinal (a tile's 4,096 or a half tile's 2,048) to a format: values and scales. `mode` gives each element's
rounding. -/
def encodeTile (fmt : Nat) (mode : Nat → Mode) (xs : List Nat) : Bytes × Bytes :=
  if scaledFmt fmt then
    let a := xs.toArray
    let scales := (List.range (a.size / 64)).map fun b => blockScale fmt ((List.range 64).map fun p => a.getD (b * 64 + p) 0)
    let sc := scales.toArray
    let codes := (List.range a.size).map fun e => scaledCode fmt (sc.getD (e / 64) 0) (mode e) (a.getD e 0)
    (packCodes (fmtBits fmt) codes, scales.map (BitVec.ofNat 8))
  else
    let codes := xs.zipIdx.map fun x => convertNum fmt (mode x.2) false (f32 x.1)
    (packCodes (fmtBits fmt) codes, [])

/-- The transpose of values by ordinal. -/
def transposeOf {α : Type} (d : α) (a : Array α) : Array α :=
  (Array.range 4096).map fun e => let rc := elementOf e; a.getD (ordinal rc.2 rc.1) d

/-- Every element is rounded to nearest even (R165). -/
def nearestAll (_ : Nat) : Mode := .nearest

end Sys2Proof.Machine
end

