-- ==== Sys2Proof/Machine/Memory.lean ====
section
/-!
DEFINITION. Memory and its tiers (11_memory_tiers_and_layout.md, the home pages of 10_parameter_update.md, the visibility
rules of 13_front_ports_and_ordering.md): the address map, carts, frames and migration, the resolution of home pages, gang
offsets, reads and writes of agents, writes of completed commands that have not been performed, flipped bits, injections.
-/
namespace Sys2Proof.Machine

/-! ### The address map (R252) -/

/-- What an address of the unified range names. -/
inductive Zone where
  | cart | reserved | scratch | control | unused
  deriving DecidableEq, Repr

/-- R534, R535: the address lies in a reserved area. -/
def inArea (a : Nat) : Bool := (List.range 12).any fun k => (areaOf k).1 ≤ a && a < (areaOf k).1 + max 65536 (areaOf k).2

/-- R252: the zone of an address. An address of the reserved range in no area is unused. -/
def Grade.zone (g : Grade) (a : Nat) : Zone :=
  if a < 0x100000000000 then .cart
  else if 0xFD0000000000 ≤ a ∧ a < 0xFE0000000000 then (if inArea a then .reserved else .unused)
  else if spBase ≤ a ∧ a < spBase + g.cores * 2097152 then .scratch
  else if ctlBase ≤ a ∧ a < ctlBase + 67108864 then .control
  else .unused

/-- Cart number of an address: its bits [47:16]. -/
def cartOf (a : Nat) : Nat := a / 65536
/-- Page number of an address: the 131,072-byte page that holds it. -/
def pageOf (a : Nat) : Nat := a / 131072
/-- The carts of a range, in ascending order. -/
def cartsOf (a len : Nat) : List Nat :=
  if len = 0 then [] else (List.range (cartOf (a + len - 1) + 1 - cartOf a)).map (· + cartOf a)

/-- Entry of the cart table (R262). -/
def State.cart (s : State) (c : Nat) : Cart := Sparse.get {} s.carts c
/-- Replace an entry. -/
def State.setCart (s : State) (c : Nat) (x : Cart) : State := { s with carts := Sparse.set {} s.carts c x }
/-- Version state of a page (R242). -/
def State.version (s : State) (page : Nat) : Version := Sparse.get {} s.ver page
/-- Set it. -/
def State.setVersion (s : State) (page : Nat) (v : Version) : State := { s with ver := Sparse.set {} s.ver page v }

/-- A cart of the memory range is mapped (R258). -/
def State.mapped (s : State) (c : Nat) : Bool := c < 0x10000000 && (s.cart c).state ≠ .unmapped

/-- R226, R231: touch units of a parameter for the size of its home: ROWS / TOUCH_ROWS from its first slot header, 0
without TOUCHED_ROWS. -/
def State.homeUnits (s : State) (p : ParamRec) : Nat :=
  if ParamFlags.touched p then s.rawNat (p.home + 8) 4 / s.rawNat (p.home + 16) 4 else 0

/-- R228: the homes of trained parameters of the active image that scratchpads hold: their base and length. -/
def State.spHomes (s : State) : List (Nat × Nat) :=
  match s.image with
  | none => []
  | some i => (i.paramRecs.filter fun p => !ParamFlags.frozen p && spBase ≤ p.home && p.home < ctlBase).map fun p =>
      (p.home, homeBytes p.count (s.homeUnits p))

/-- R228: the address lies in such a home. -/
def State.inSpHome (s : State) (a : Nat) : Bool :=
  spBase ≤ a && a < ctlBase && s.spHomes.any fun h => h.1 ≤ a && a < h.1 + h.2

/-- The address lies in a home page: a mapped head or tail (R227), or a page that a scratchpad holds (R228). -/
def State.isHome (s : State) (a : Nat) : Bool :=
  (s.cart (cartOf a)).kind = 1 || (s.cart (cartOf a)).kind = 2 || s.inSpHome a

/-- R242: the physical slot that is committed: V when P is 0, or when P is 1 and the commit point of the pending step has
not been passed. -/
def State.committedSlot (s : State) (page : Nat) : Bool :=
  let v := s.version page
  if v.p && s.walk = .commit then !v.v else v.v

/-- Physical place of byte `off` of slot `slot` of a page. -/
def slotPlace (page : Nat) (slot : Bool) (off : Nat) : Nat := page * 131072 + (if slot then 65536 else 0) + off

/-- R227, R246: the physical place that a read of an address resolves to. The view of a home page reads its committed slot,
the shadow the other. -/
def State.place (s : State) (a : Nat) : Nat :=
  if s.isHome a then
    let c := s.committedSlot (pageOf a)
    slotPlace (pageOf a) (if (a / 65536) % 2 = 0 then c else !c) (a % 65536)
  else a

/-- R245: the address lies in a shadow that an abandon has left unspecified. -/
def State.looseAt (s : State) (a : Nat) : Bool := s.isHome a && (a / 65536) % 2 = 1 && (s.version (pageOf a)).loose

/-- Byte that an agent reads at an address (R252, R227). The cart table's layout is not given (R262) and the shadow that an
abandon leaves is unspecified (R245): their bytes are free values. -/
def State.byteAt (s : State) (a : Nat) : Byte :=
  if (areaOf 7).1 ≤ a ∧ a < (areaOf 7).1 + (areaOf 7).2 then Config.cartTableByte s.draws (a - (areaOf 7).1)
  else if s.looseAt a then Config.unspecifiedByte s.draws (s.place a)
  else s.rawByte (s.place a)

/-- Bytes that an agent reads from a range. -/
def State.bytes (s : State) (a len : Nat) : Bytes := (List.range len).map fun i => s.byteAt (a + i)

/-- Little-endian number that an agent reads. -/
def State.num (s : State) (a len : Nat) : Nat := leNat (s.bytes a len)

/-- R293: the byte lies in the context of an open queue, whose writes the device discards. -/
def State.ctxLocked (s : State) (a : Nat) : Bool :=
  ctxBase ≤ a && a < ctxBase + 67108864 && s.qState ((a - ctxBase) / 64) ≠ 0

/-- R227: write one byte as an agent that no rule refuses: outside a home page at its place; in a view while no step is in
progress into both slots; otherwise it is discarded. A byte of an open queue's context is not written (R293). -/
def State.writeByte (s : State) (a : Nat) (b : Byte) : State :=
  if s.isHome a then
    if (a / 65536) % 2 = 0 && !s.inStep then
      (s.setRawByte (slotPlace (pageOf a) false (a % 65536)) b).setRawByte (slotPlace (pageOf a) true (a % 65536)) b
    else s
  else if s.ctxLocked a then s
  else s.setRawByte a b

/-- R227: some byte of the range is discarded by the home rules. -/
def State.discards (s : State) (a len : Nat) : Bool :=
  (cartsOf a len).any fun c => s.isHome (c * 65536) && (c % 2 = 1 || s.inStep)

/-- R227: a refusal or discard sets HOME_WRITE and is counted (counter 0x013). -/
def State.homeWrite (s : State) : State := (s.setFld HbmUpdStatus.homeWrite 1).count 0x013 0 1

/-- Write bytes at an address as one performed write (R349). -/
def State.writeBytes (s : State) (a : Nat) (bs : Bytes) : State :=
  (bs.zipIdx a).foldl (fun s x => s.writeByte x.2 x.1) s

/-! ### Range writes and pending writes (R351 to R354) -/

/-- The range write that puts `bs` at `a`. -/
def rangeOf (a : Nat) (bs : Bytes) : RangeWrite :=
  { base := a, len := bs.length, cells := ((bs.zipIdx a).map fun x => (x.2, x.1)).filter fun c => c.2 ≠ 0 }

/-- The nonzero bytes that a range of the unified range holds, by their unified address. -/
def State.cellsIn (s : State) (a len : Nat) : List (Nat × Byte) :=
  (cartsOf a len).flatMap fun c =>
    let lo := max a (c * 65536)
    let hi := min (a + len) (c * 65536 + 65536)
    let p := s.place lo
    if s.looseAt lo then (List.range (hi - lo)).map fun i => (lo + i, s.byteAt (lo + i))
    else (s.mem.filter fun x => p ≤ x.1 && x.1 < p + (hi - lo)).map fun x => (x.1 - p + lo, x.2)

/-- The range write that copies [src, src + len) to dst. -/
def State.copyOf (s : State) (src dst len : Nat) : RangeWrite :=
  { base := dst, len, cells := (s.cellsIn src len).map fun x => (x.1 - src + dst, x.2) }

/-- Clear what a range write covers, following R227 for home pages. -/
def State.clearRange (s : State) (a len : Nat) : State :=
  (cartsOf a len).foldl (fun s c =>
    let lo := max a (c * 65536)
    let hi := min (a + len) (c * 65536 + 65536)
    if s.isHome lo then
      if c % 2 = 0 && !s.inStep then
        (s.clearRaw (slotPlace (pageOf lo) false (lo % 65536)) (hi - lo)).clearRaw
          (slotPlace (pageOf lo) true (lo % 65536)) (hi - lo)
      else s
    else { s with mem := s.mem.filter fun x => !(lo ≤ x.1 && x.1 < hi && !s.ctxLocked x.1) }) s

/-- R49, R414: a write replaces the flipped bits of the scratchpad and reserved words it covers. -/
def State.cleanWords (s : State) (a len : Nat) : State :=
  if areaBase 0 ≤ a && 0 < len then
    { s with badWords := s.badWords.filter fun w => !(a / 4 ≤ w.1 / 4 && w.1 / 4 ≤ (a + len - 1) / 4) }
  else s

/-- Perform a range write. -/
def State.performRange (s : State) (w : RangeWrite) : State :=
  (w.cells.foldl (fun s c => s.writeByte c.1 c.2) (s.clearRange w.base w.len)).cleanWords w.base w.len

/-- The part of a range write inside [a, a + len). -/
def RangeWrite.part (w : RangeWrite) (a len : Nat) : RangeWrite :=
  let lo := max a w.base
  let hi := min (a + len) (w.base + w.len)
  { base := lo, len := hi - lo, cells := w.cells.filter fun c => lo ≤ c.1 && c.1 < hi }

/-- A pending write meets a range. -/
def PendingWrite.meets (p : PendingWrite) (a len : Nat) : Bool := rangesMeet p.write.base p.write.len a len

/-! ### Frames (R263, R264) -/

/-- Number of reserved carts whose preferred stack is `st` among the carts below `x` of a run of cart numbers (R264). -/
def stackCount (g : Grade) (st x : Nat) : Nat :=
  x / (4 * g.stackNum) * 4 + min 4 (x % (4 * g.stackNum) - 4 * st)

/-- R253: reserved carts placed in a stack. -/
def Grade.reservedIn (g : Grade) (st : Nat) : Nat :=
  (List.range 12).foldl (fun n a =>
    let lo := (areaOf a).1 / 65536
    let hi := ((areaOf a).1 + (areaOf a).2 + 65535) / 65536
    n + (stackCount g st hi - stackCount g st lo)) 0

/-- R253: reserved carts in all. -/
def Grade.reservedCarts (g : Grade) : Nat := (List.range g.stackNum).foldl (fun n st => n + g.reservedIn st) 0

/-- Frame number of the none place (R263). -/
def noFrame : Nat := 3 <<< 30

/-- R263: place of a frame: 0 HBM, 1 CXL port 0, 2 CXL port 1, 3 none. -/
def framePlace (f : Nat) : Nat := bitsOf f 31 30
/-- R263: stack of an HBM frame. -/
def frameStack (f : Nat) : Nat := bitsOf f 29 27
/-- R263: number of an HBM frame. -/
def hbmFrame (st n : Nat) : Nat := st <<< 27 + n
/-- R263: number of a lower-tier frame. -/
def cxlFrame (port n : Nat) : Nat := (port + 1) <<< 30 + n

/-- Frames that a cart entry holds. -/
def Cart.frames (c : Cart) : List Nat :=
  match c.state with
  | .unmapped | .lost => []
  | _ => if c.kind = 1 then [c.frameA, c.frameB] else if c.kind = 2 then [] else [c.frameA]

/-- Every frame in use by a mapped cart, a migration's target, a switched migration's old home, or a LOST cart (R274). -/
def State.usedFrames (s : State) : List Nat :=
  s.carts.flatMap (fun e => e.2.frames) ++
  s.migrations.flatMap (fun e => if (s.cart e.1).kind = 1 then [e.2.targetA, e.2.targetB] else [e.2.targetA]) ++
  s.oldFrames.flatMap (·.2) ++ s.lostFrames.flatMap (·.2)

/-- Frames in use in one stack beside the reserved carts. -/
def State.usedIn (s : State) (st : Nat) : List Nat :=
  (s.usedFrames.filter fun f => framePlace f = 0 && frameStack f = st).map fun f => f % 2 ^ 20

/-- Free frames of a stack. -/
def State.freeIn (s : State) (st : Nat) : Nat := 786432 - s.grade.reservedIn st - (s.usedIn st).length

/-- Free HBM frames (R286 HBM_FREE). -/
def State.hbmFree (s : State) : Nat :=
  if s.hbmReady then (List.range s.grade.stackNum).foldl (fun n st => n + s.freeIn st) 0 else 0

/-- Frames in use of a CXL port. -/
def State.usedCxl (s : State) (p : Nat) : List Nat :=
  (s.usedFrames.filter fun f => framePlace f = p + 1).map fun f => f % 2 ^ 30

/-- Free frames of a CXL port. -/
def State.freeCxl (s : State) (p : Nat) : Nat := s.cxlFramesOf p - (s.usedCxl p).length

/-- Free lower-tier frames (R286 CXL_FREE). -/
def State.cxlFree (s : State) : Nat := s.freeCxl 0 + s.freeCxl 1

/-- The number at place `k`, from 0, among the numbers at or above `lo` that are not in use: the first number `n` of which
`lo + k` and the numbers in use from `lo` to `n` make the value (`used` without repeats). -/
def nthFree (used : List Nat) (lo k : Nat) : Nat :=
  used.foldl (fun n _ => lo + k + (used.filter fun u => lo ≤ u && u ≤ n).length) (lo + k)

/-- R264: stack in which a cart of the memory range is placed: the preferred one, or the next in ascending order modulo N with a free
frame beside those in `avoid`. -/
def State.stackFor (s : State) (cart : Nat) (avoid : List Nat) : Option Nat :=
  let n := s.grade.stackNum
  ((List.range n).map fun k => (cart / 4 + k) % n).find? fun st => (avoid.filter (frameStack · = st)).length < s.freeIn st

/-- A free frame of a stack, beside those in `avoid`; which one is a free value (R264; log entry 3). -/
def State.takeHbm (s : State) (st : Nat) (avoid : List Nat) : Nat :=
  let near := (avoid.filter (frameStack · = st)).map (· % 2 ^ 20)
  hbmFrame st (nthFree (s.usedIn st ++ near) (s.grade.reservedIn st)
    (Config.framePick s.draws avoid.length % (s.freeIn st - near.length)))

/-- R264: the lower-tier port that takes a frame: the one with more free frames beside those in `avoid`, or port 0 when they are equal. -/
def State.portFor (s : State) (avoid : List Nat) : Option Nat :=
  let free := fun p => s.freeCxl p - (avoid.filter (framePlace · = p + 1)).length
  let p := if free 0 < free 1 then 1 else 0
  if 0 < free p then some p else none

/-- A free frame of a CXL port, beside those in `avoid`; which one is a free value (R264; log entry 3). -/
def State.takeCxl (s : State) (p : Nat) (avoid : List Nat) : Nat :=
  let near := (avoid.filter (framePlace · = p + 1)).map (· % 2 ^ 30)
  cxlFrame p (nthFree (s.usedCxl p ++ near) 0 (Config.framePick s.draws avoid.length % (s.freeCxl p - near.length)))

/-- R261, R264: `need` frames, one after another, each where `pick` places it beside those already taken; all lie in one tier. -/
def placeFrames (pick : List Nat → Option Nat) : Nat → List Nat → Option (List Nat)
  | 0, got => some got
  | need + 1, got => (pick got).bind fun f => placeFrames pick need (got ++ [f])

/-- R264: `need` free frames in HBM for a cart, or for a home page by its head. -/
def State.placeHbm (s : State) (cart need : Nat) : Option (List Nat) :=
  placeFrames (fun got => (s.stackFor cart got).map fun st => s.takeHbm st got) need []

/-- R264: `need` free frames in the lower tier. -/
def State.placeCxl (s : State) (need : Nat) : Option (List Nat) :=
  placeFrames (fun got => (s.portFor got).map fun p => s.takeCxl p got) need []

/-- R290: state of a cart whose home is this frame. -/
def stateOfFrame (f : Nat) : CartState := if framePlace f = 0 then .hbm else .cxl

/-- Frames that a cart of this kind takes: two for a home head, none for a tail, one otherwise. -/
def framesOfKind (k : Nat) : Nat := if k = 1 then 2 else if k = 2 then 0 else 1

/-- The head of the page that a cart belongs to, for a home tail; otherwise the cart. -/
def State.headOf (s : State) (c : Nat) : Nat := if (s.cart c).kind = 2 then c - 1 else c

/-! ### Touch, promotion, migration (R265 to R271) -/

/-- R265: a touch sets LAST_TOUCH to AGE_CLOCK; a tail shares its head's. -/
def State.touchCart (s : State) (c : Nat) : State :=
  let h := s.headOf c
  if s.mapped h then s.setCart h { s.cart h with lastTouch := BitVec.ofNat 32 (s.fld CxlAgeClock.count) } else s

/-- R265: age of a cart; ages saturate at 2^30. -/
def State.age (s : State) (c : Nat) : Nat := (BitVec.ofNat 32 (s.fld CxlAgeClock.count) - (s.cart c).lastTouch).toNat

/-- R269 step 1: start moving a cart (or home page, by its head) to target frames, which spend a draw. -/
def State.startMigration (s : State) (h : Nat) (dest : CartState) (targets : List Nat) : State :=
  let m : Migration := { targetA := targets.getD 0 noFrame, targetB := targets.getD 1 noFrame, active := true }
  { s.setCart h { s.cart h with state := dest } with migrations := Sparse.set {} s.migrations h m, draws := s.draws + 1 }

/-- CXL port that holds a cart's home, if it is in the lower tier. -/
def State.portOfCart (s : State) (c : Nat) : Option Nat :=
  let h := s.headOf c
  match (s.cart h).state with
  | .cxl | .toHbm => if framePlace (s.cart h).frameA = 0 then none else some (framePlace (s.cart h).frameA - 1)
  | _ => none

/-- R273, R274: an access to this cart fails: the cart is LOST, or it is homed in a port whose link is down. -/
def State.cartFails (s : State) (c : Nat) : Bool :=
  let h := s.headOf c
  (s.cart h).state = .lost ||
    (match s.portOfCart c with
     | some p => !s.flag (CxlPortStatus.up p)
     | none => false)

/-- R268, R269: begin the move of a cart to HBM when it is in the lower tier and a frame is free. A cart whose port's link is down stays
where it is (R274). -/
def State.moveToHbm (s : State) (h : Nat) : State :=
  if (s.cart h).state = .cxl && !s.cartFails h then
    match s.placeHbm h (framesOfKind (s.cart h).kind) with
    | some ts => s.startMigration h .toHbm ts
    | none => s
  else s

/-- R266, R268: begin the move of a cart to the lower tier when it is in HBM, not pinned, and a frame is free there. -/
def State.moveToCxl (s : State) (h : Nat) : State :=
  if (s.cart h).state = .hbm && !(s.cart h).pinned then
    match s.placeCxl (framesOfKind (s.cart h).kind) with
    | some ts => s.startMigration h .toCxl ts
    | none => s
  else s

/-- R268: a cart in the lower tier is promoted when it is touched while free HBM frames are at or above LOW_FRAMES; where no frame is
free, it waits for an eviction (R266). -/
def State.promote (s : State) (c : Nat) : State :=
  let h := s.headOf c
  if (s.cart h).state = .cxl && s.fld CxlPoolCfg.lowFrames ≤ s.hbmFree then
    let t := s.moveToHbm h
    if (t.cart h).state = .cxl && !s.cartFails h && !s.wantHbm.contains h then { t with wantHbm := t.wantHbm ++ [h] } else t
  else s

/-- R269 step 3: the entry of a migrating cart or page names the target as its home. -/
def State.switchHome (s : State) (h : Nat) : State :=
  let m : Migration := Sparse.get {} s.migrations h
  let c := s.cart h
  let to' := stateOfFrame m.targetA
  let s1 := s.setCart h { c with state := to', frameA := m.targetA, frameB := if c.kind = 1 then m.targetB else 0 }
  let s2 := if c.kind = 1 then s1.setCart (h + 1) { s1.cart (h + 1) with state := to' } else s1
  { s2 with migrations := Sparse.erase s2.migrations h,
            oldFrames := Sparse.set [] s2.oldFrames h (Sparse.get [] s2.oldFrames h ++ c.frames) }

/-- R265, R268: the touch of a range by an access. -/
def State.touchRange (s : State) (a len : Nat) : State :=
  (cartsOf a len).foldl (fun s c => if c < 0x10000000 then (s.touchCart c).promote c else s) s

/-- R270: a write into a cart that is being copied marks its 256-byte lines dirty; after four rounds of copying it is held until the switch,
which it finds done. -/
def State.dirty (s : State) (a len : Nat) : State :=
  (cartsOf a len).foldl (fun s c =>
    let h := s.headOf c
    let m : Migration := Sparse.get {} s.migrations h
    if m.active then
      if 4 ≤ m.rounds && m.dirty.isEmpty then s.switchHome h
      else
        let lo := max a (c * 65536)
        let hi := min (a + len) (c * 65536 + 65536)
        let lines := (List.range ((hi - 1) / 256 + 1 - lo / 256)).map (· + lo / 256)
        { s with migrations := Sparse.set {} s.migrations h
                   { m with dirty := m.dirty ++ lines.filter fun l => !(m.dirty.contains l) } }
    else s) s

/-- A write of an agent with all that it brings: R265, R268, R270. -/
def State.agentWrite (s : State) (w : RangeWrite) : State :=
  (s.performRange w).dirty w.base w.len |>.touchRange w.base w.len

/-! ### Failed lower tier (R274) -/

/-- R274: a cart becomes LOST: its entry names no frame (R460), its frames return to the pool only with CART_FREE, a migration of it
ends, and CXL.POOL_STATUS.LOST is set. -/
def State.loseCart (s : State) (c : Nat) : State :=
  let h := s.headOf c
  if (s.cart h).state = .lost then s
  else
    let s1 := s.setCart h { s.cart h with state := .lost, frameA := noFrame, frameB := (if (s.cart h).kind = 1 then noFrame else 0) }
    { s1.setFld CxlPoolStatus.lost 1 with
        migrations := Sparse.set {} s1.migrations h {},
        lostFrames := Sparse.set [] s1.lostFrames h (s.cart h).frames }

/-! ### Refused addresses (R254, R453) -/

/-- R254: the first unused or unmapped address of a range. -/
def State.firstUnmapped (s : State) (a len : Nat) : Option Nat :=
  if 2 ^ 48 ≤ a then some a
  else ((cartsOf a len).find? fun c =>
      match s.grade.zone (max a (c * 65536)) with
      | .unused => true
      | .cart => !s.mapped c
      | _ => 2 ^ 48 ≤ c * 65536).map fun c => max a (c * 65536)

/-- The first address of a range in a mapped cart of another domain. -/
def State.firstForeign (s : State) (d a len : Nat) : Option Nat :=
  ((cartsOf a len).find? fun c => c < 0x10000000 && s.mapped c && (s.cart c).domain ≠ d).map fun c => max a (c * 65536)

/-- The first address of a range in a reserved cart or the control space. -/
def State.firstReserved (s : State) (a len : Nat) : Option Nat :=
  ((cartsOf a len).find? fun c =>
    match s.grade.zone (max a (c * 65536)) with
    | .reserved | .control => true
    | _ => false).map fun c => max a (c * 65536)

/-! ### Gang memory (R58, R59) -/

/-- R57, R58: cluster and member slot of a logical core. -/
def Grade.cluster (g : Grade) (n : Nat) : Nat × Nat :=
  let x := n % 32
  let y := n / 32
  match g with
  | .f => (y / 4 * 8 + x / 4, y % 4 * 4 + x % 4)
  | .m =>
    if y < 12 then (y / 4 * 8 + x / 4, y % 4 * 4 + x % 4)
    else
      let r := y - 12
      let pr := if x < 16 then 2 * r else 2 * r + 1
      let lc := if x < 16 then x else 31 - x
      (24 + pr / 4 * 4 + lc / 4, pr % 4 * 4 + lc % 4)

/-- R58: the core in member slot `m` of cluster `c`. -/
def Grade.member (g : Grade) (c m : Nat) : Nat :=
  ((List.range g.cores).find? fun n => g.cluster n = (c, m)).getD 0

/-- R88: the core's cluster is in gang mode (CORE[n].STATUS.GANG, R66). -/
def State.gang (s : State) (n : Nat) : Bool := s.flag (CoreStatus.gang n)

/-- R45, R59: unified address of scratchpad or gang offset `off` of core `n`. -/
def State.spAddr (s : State) (n off : Nat) : Nat :=
  if s.gang n then
    let c := (s.grade.cluster n).1
    let m := off / 256 % 16
    spBase + s.grade.member c m * 2097152 + off / 4096 * 256 + off % 256
  else spBase + n * 2097152 + off

/-- R83: extent of a core's offsets. -/
def State.spLimit (s : State) (n : Nat) : Nat := if s.gang n then 33554432 else 2097152

/-- Bytes that core `n` reads at an offset of its scratchpad or gang memory; offsets beyond its extent read as zero (R254). A home page
there is read through its view or shadow (R227, R246). -/
def State.spBytes (s : State) (n off len : Nat) : Bytes :=
  let homes := s.spHomes
  (List.range len).map fun i =>
    if off + i < s.spLimit n then
      (let a := s.spAddr n (off + i)
       if homes.isEmpty then s.rawByte a else s.byteAt a)
    else 0

/-- Write bytes at an offset of a core's scratchpad or gang memory; none beyond its extent (R254). A home page there takes the write as
that of any agent (R227). -/
def State.spWrite (s : State) (n off : Nat) (bs : Bytes) : State :=
  let homes := s.spHomes
  (bs.zipIdx off).foldl (fun s x =>
    if x.2 < s.spLimit n then
      (let a := s.spAddr n x.2
       if homes.isEmpty then s.setRawByte a x.1 else s.writeByte a x.1)
    else s) s

/-- Bytes of core `n`'s own scratchpad at an offset, whatever its cluster's mode; those past its end read as zero. -/
def State.ownBytes (s : State) (n off len : Nat) : Bytes :=
  (List.range len).map fun i => if off + i < 2097152 then s.byteAt (spBase + n * 2097152 + off + i) else 0

/-! ### Flipped bits and injections (R49, R408, R411, R412) -/

/-- Place code of a 32-bit word in a store without a unified address: detector and instance, beyond the 48-bit range. -/
def storeWord (det inst word : Nat) : Nat := 2 ^ 64 + det * 2 ^ 60 + inst * 2 ^ 32 + word

/-- Flipped bits of a word. -/
def State.flips (s : State) (p : Nat) : Nat := Sparse.get 0 s.badWords p
/-- Set them. -/
def State.setFlips (s : State) (p n : Nat) : State := { s with badWords := Sparse.set 0 s.badWords p n }

/-- R411: an armed injection that an access or check of a detector on an instance meets; one with an ADDR meets the accesses of its
word. -/
def Injection.meets (j : Injection) (det inst : Nat) (addrs : Nat → Bool) : Bool :=
  j.det = det && j.inst = inst && (j.addr = 0 || addrs j.addr)

/-- R411: an access or check of a detector on an instance. Every armed injection that it meets skips it while DELAY lasts and fires
otherwise; answers what fires (the bits of several flips of one access add up, two at most), with DELAY, REPEAT and INJ.STATUS
brought up to date. -/
def State.fire (s : State) (det inst : Nat) (addrs : Nat → Bool) : Option Injection × State :=
  let mine := fun (j : Injection) => j.meets det inst addrs
  if s.injections.any mine then
    let fired := s.injections.filter fun j => mine j && j.delay = 0
    let rest := s.injections.filterMap fun j =>
      if !mine j then some j
      else if 0 < j.delay then some { j with delay := j.delay - 1 }
      else if j.repeats ≤ 1 then none
      else some { j with repeats := j.repeats - 1 }
    let s1 := { s with injections := rest }
    match fired with
    | [] => (none, s1)
    | j :: js => (some { j with bits := js.foldl (fun b x => min 2 (b + x.bits)) j.bits },
                  (s1.satFld InjStatus.fired fired.length).setFld InjStatus.armed rest.length)
  else (none, s)

/-- A word of detectors 0x01 to 0x04, 0x09 or 0x0A was corrected: input n0 of the health monitor (R427). -/
def State.corrected (s : State) : State := { s with health := { s.health with n0 := s.health.n0 + 1 } }

/-- R272: an access of the lower tier has waited longer than LATE_US: it is counted (input n4 of R427). -/
def State.tierStalled (s : State) (q : Option Nat) (port : Nat) (inj : Bool) : State :=
  let s1 := (s.detect 0x0C 0 q port inj).count 0x011 port 1
  { s1 with health := { s1.health with n4 := s1.health.n4 + 1 } }

end Sys2Proof.Machine
end

