-- ==== Sys2Proof/Machine/Spares.lean ====
section
/-!
DEFINITION. Row spares (03_cores_scratchpads_mesh.md, R57, R61 to R66): the die row and physical column of a logical core, the
record of a column to bypass, and the choice of the bypassed column at a fabric reset.
-/
namespace Sys2Proof.Machine

/-- R57, R61: die row n = die × 12 + local row, and logical local column, of a logical core. -/
def Grade.dieRow (g : Grade) (n : Nat) : Nat × Nat :=
  let x := n % 32
  let y := n / 32
  match g with
  | .f => ((y / 12 * 2 + x / 16) * 12 + y % 12, x % 16)
  | .m => if y < 12 then (x / 16 * 12 + y, x % 16)
          else (24 + 2 * (y - 12) + (if x < 16 then 0 else 1), if x < 16 then x else 31 - x)

/-- R61: physical column of a logical core under the current bypass. -/
def State.physCol (s : State) (n : Nat) : Nat :=
  let rc := s.grade.dieRow n
  if rc.2 < s.fld (FabSpare.bypassCol rc.1) then rc.2 else rc.2 + 1

/-- R66: SPARE_CAND of the cores of a row follows its REQ_COL. -/
def State.showCand (s : State) (row : Nat) : State :=
  (List.range s.grade.cores).foldl (fun s n =>
    if (s.grade.dieRow n).1 = row then
      s.setFld (CoreStatus.spareCand n) (b2n (s.physCol n = s.fld (FabSpare.reqCol row)))
    else s) s

/-- R63: the device records a physical column of a row: in REQ_COL when that holds 31, otherwise CAND2 when it names another. -/
def State.recordCol (s : State) (row col : Nat) : State :=
  let req := s.fld (FabSpare.reqCol row)
  if req = 31 then (((s.setFld (FabSpare.reqCol row) col).setFld (FabSpare.reqHw row) 1)).showCand row
  else if req ≠ col then s.setFld (FabSpare.cand2 row) 1
  else s

/-- R63: the record of a failing logical core. -/
def State.recordCore (s : State) (n : Nat) : State := s.recordCol (s.grade.dieRow n).1 (s.physCol n)

/-- R63: the column that the fuses name for a row. -/
def State.fusedCol (s : State) (row : Nat) : Option Nat := (s.fuses.bypass.find? (·.1 = row)).map (·.2)

/-- R63: at a fabric reset, the bypassed column of a row with its source, or `none` when the row fails. -/
def State.chooseCol (s : State) (row : Nat) : Option (Nat × Nat) :=
  let req := s.fld (FabSpare.reqCol row)
  let cand2 := s.flag (FabSpare.cand2 row)
  match s.fusedCol row with
  | some b => if (req ≤ 16 && req ≠ b) || cand2 then none else some (b, 1)
  | none =>
    if cand2 then none
    else if req ≤ 16 then some (req, if s.flag (FabSpare.reqHw row) then 2 else 3)
    else some (16, 0)

/-- R63, R64: every row is set at a fabric reset. A row that fails keeps its BYPASS_COL and SRC (DESIGN CHOICE, log entry 36: no rule
gives it a b). -/
def State.setRows (s : State) : State :=
  let rows := List.range s.grade.rows
  let s1 := rows.foldl (fun s n =>
    match s.chooseCol n with
    | some (b, src) => ((s.setFld (FabSpare.bypassCol n) b).setFld (FabSpare.src n) src).setFld (FabSpare.rowFail n) 0
    | none => s.setFld (FabSpare.rowFail n) 1) s
  let s2 := { s1 with rowFailed := rows.any fun n => s1.flag (FabSpare.rowFail n) }
  rows.foldl (fun s n => s.showCand n) s2

end Sys2Proof.Machine
end

