-- ==== Sys2Proof/Machine/Mesh.lean ====
section
/-!
DEFINITION. The banks of a scratchpad and the mesh (03_cores_scratchpads_mesh.md, R45 to R47, R52 to R54, R62, R67 to R70;
14_laulo_links_and_collectives.md, R376): the bank hash, the physical positions, the dimension-ordered routes with their virtual
channels, the edge routers that traffic enters and leaves by, and the class that an edge bridge serves next.
-/
namespace Sys2Proof.Machine

/-! ### Banks of a scratchpad (R45 to R47) -/

/-- R45: line of an offset: a[20:8]. -/
def lineOf (off : Nat) : Nat := bitsOf off 20 8
/-- R45: row of an offset within its bank: a[20:13]. -/
def bankRow (off : Nat) : Nat := bitsOf off 20 13
/-- R46: bank of an offset: a[12:8] XOR a[17:13] XOR a[20:18]. -/
def bankOf (off : Nat) : Nat := (bitsOf off 12 8 ^^^ bitsOf off 17 13) ^^^ bitsOf off 20 18
/-- R45, R46: the offset of the line that row `row` of bank `bank` holds. -/
def bankLine (bank row : Nat) : Nat := 8192 * row + 256 * ((bank ^^^ row % 32) ^^^ row / 32)

/-! ### Physical positions (R52, R57, R61) -/

/-- A router: its physical column and row in the square of the compute dies, 17 columns and 12 rows to a die (R52). -/
structure MeshPos where
  x : Nat
  y : Nat
  deriving DecidableEq, Repr

/-- R52: the die of a position. -/
def MeshPos.die (p : MeshPos) : Nat := p.y / 12 * 2 + p.x / 17
/-- The die row n = die × 12 + local row of a position. -/
def MeshPos.dieRow (p : MeshPos) : Nat := p.die * 12 + p.y % 12
/-- The position of physical column `col` of a die row. -/
def posAt (row col : Nat) : MeshPos := { x := row / 12 % 2 * 17 + col, y := row / 24 * 12 + row % 12 }

/-- R57, R61: the logical core of a die row and logical local column. -/
def Grade.coreAt (g : Grade) (row lc : Nat) : Nat :=
  let die := row / 12
  match g with
  | .f => (die / 2 * 12 + row % 12) * 32 + die % 2 * 16 + lc
  | .m => if die < 2 then row % 12 * 32 + die * 16 + lc
          else (12 + row % 12 / 2) * 32 + (if row % 2 = 0 then lc else 31 - lc)

/-- R61: the position of a logical core. -/
def State.corePos (s : State) (n : Nat) : MeshPos := posAt (s.grade.dieRow n).1 (s.physCol n)

/-- R61, R62: the logical core at a position; none where the column is bypassed. -/
def State.coreOf (s : State) (p : MeshPos) : Option Nat :=
  let b := s.fld (FabSpare.bypassCol p.dieRow)
  let col := p.x % 17
  if col = b then none else some (s.grade.coreAt p.dieRow (if col < b then col else col - 1))

/-! ### Routes (R53, R54) -/

/-- The numbers passed from `a` to `b`, both included. -/
def walk (a b : Nat) : List Nat :=
  if a ≤ b then (List.range (b + 1 - a)).map (a + ·) else (List.range (a + 1 - b)).map (a - ·)

/-- R54: the routers passed when a packet moves in X first, then in Y. -/
def routeXY (a b : MeshPos) : List MeshPos :=
  (walk a.x b.x).map (fun x => { x, y := a.y }) ++ ((walk a.y b.y).drop 1).map fun y => { x := b.x, y }
/-- R54: the routers passed when a packet moves in Y first, then in X. -/
def routeYX (a b : MeshPos) : List MeshPos :=
  (walk a.y b.y).map (fun y => { x := a.x, y }) ++ ((walk a.x b.x).drop 1).map fun x => { x, y := b.y }

/-- R54: every position of a route has a die. -/
def Grade.hasDies (g : Grade) (r : List MeshPos) : Bool := r.all fun p => p.die < g.dies

/-- R53, R54: the virtual channel of a packet, 0 for X first and 1 for Y first: traffic that leaves for a port die moves in Y
first, all other in X first, unless that order would move into the missing die of the M grade. -/
def Grade.channel (g : Grade) (leaving : Bool) (a b : MeshPos) : Nat :=
  if leaving then (if g.hasDies (routeYX a b) then 1 else 0)
  else if g.hasDies (routeXY a b) then 0 else 1

/-- R54: the routers that a packet passes, its first and its last included. -/
def Grade.meshRoute (g : Grade) (leaving : Bool) (a b : MeshPos) : List MeshPos :=
  if g.channel leaving a b = 0 then routeXY a b else routeYX a b

/-! ### Edges (R67, R70, R376) -/

/-- R52, R54, R88: the router lies on the named port die's edge of the grade. -/
def onEdge (g : Grade) (portDie n : Nat) : Bool :=
  let die := n / 12
  die < g.dies && die % 2 = portDie

/-- R70: the position of edge router n = die × 12 + row of a port die. -/
def edgePos (portDie n : Nat) : MeshPos := posAt n (if portDie = 0 then 0 else 16)

/-- R70: row-direct routing: the edge router of a port die for a core. -/
def Grade.rowDirect (g : Grade) (portDie n : Nat) : Nat :=
  let r := (g.dieRow n).1
  if onEdge g portDie r then r
  else
    let die := r / 12 / 2 * 2 + portDie
    (if die < g.dies then die else 1) * 12 + r % 12

/-- R70: the edge router that traffic of a port die and core `n` uses: member n mod s of its spread set, or row-direct. -/
def Grade.edgeRouter (g : Grade) (spread : Option (List Nat)) (portDie n : Nat) : Nat :=
  match spread with
  | some l => l.getD (n % l.length) 0
  | none => g.rowDirect portDie n

/-- R70, R88: the spread set of a ROUTE record. -/
def Image.spreadOf (i : Image) (set : Nat) : Option (List Nat) :=
  (i.spreadRecs.find? (·.set = set)).map fun x => x.routers.take x.len

/-- R80, R367: the port die of a unit: four Laulo ports, two front ports, two collective engines, four compression engines and
one command processor to a port die. An update engine stands on the side of its compute die (log entry 23). -/
def portDieOf (u : Nat) : Nat :=
  let i := unitInstOf u
  match unitKindOf u with
  | 1 => i / 4
  | 2 => i / 2
  | 3 => i / 2
  | 4 => i / 4
  | 5 => i / 4 % 2
  | _ => i % 2

/-- R67: the memory-edge router of die `die` for core `n`: the north row of dies 0 and 1, the south row of dies 2 and 3, the
column whose logical number is the core's x mod 16. -/
def State.memoryEdge (s : State) (die n : Nat) : MeshPos :=
  let row := die * 12 + (if die < 2 then 0 else 11)
  let lc := n % 32 % 16
  posAt row (if lc < s.fld (FabSpare.bypassCol row) then lc else lc + 1)

/-- R54, R112: the routers that the tokens of a route pass. -/
def State.tokenRoute (s : State) (i : Image) (r : RouteRec) : List MeshPos :=
  if r.srcKind = 0 && r.dstKind = 0 then s.grade.meshRoute false (s.corePos r.src) (s.corePos r.dst)
  else if r.srcKind = 0 then
    let pd := portDieOf r.dst
    s.grade.meshRoute true (s.corePos r.src) (edgePos pd (s.grade.edgeRouter (i.spreadOf r.spread) pd r.src))
  else
    let pd := portDieOf r.src
    s.grade.meshRoute false (edgePos pd (s.grade.edgeRouter (i.spreadOf r.spread) pd r.dst)) (s.corePos r.dst)

/-- R54, R67: the routers that memory traffic of core `n` with a stack of die `die` passes. -/
def State.memoryRoute (s : State) (toCore : Bool) (die n : Nat) : List MeshPos :=
  if toCore then s.grade.meshRoute false (s.memoryEdge die n) (s.corePos n)
  else s.grade.meshRoute false (s.corePos n) (s.memoryEdge die n)

/-- R54, R70: the routers that class D traffic of a unit of a port die with core `n` passes. -/
def State.portRoute (s : State) (toCore : Bool) (portDie n : Nat) : List MeshPos :=
  let e := edgePos portDie (s.grade.rowDirect portDie n)
  if toCore then s.grade.meshRoute false e (s.corePos n) else s.grade.meshRoute true (s.corePos n) e

/-- R376: the routers that traffic between two Laulo ports of different port dies passes: the row 3 × (i mod 4) + 1 of dies 0 and
1, from the port's side to the other. -/
def crossRoute (port : Nat) : List MeshPos :=
  let row := 3 * (port % 4) + 1
  let near := edgePos (port / 4) (row + port / 4 * 12)
  let far := edgePos (1 - port / 4) (row + (1 - port / 4) * 12)
  routeXY near far

/-! ### The check at each router (R408, R411) -/

/-- R408: a packet passes routers: at each one the check of detector 0x04, which an injection may flip; `met` answers an error at
the router of a core. A bypassed column's router has no core that an injection could name (R410). Answers the cores at whose routers
errors were met. -/
def State.meshCheck (s : State) (routers : List MeshPos) (met : State → Nat → State) : List Nat × State :=
  if s.injections.any (·.det = 0x04) then
    routers.foldl (fun acc p =>
      match acc.2.coreOf p with
      | none => acc
      | some n =>
        let r := acc.2.fire 0x04 n fun _ => true
        if r.1.isSome then (acc.1 ++ [n], met r.2 n) else (acc.1, r.2)) ([], s)
  else ([], s)

/-! ### Edge bridges and links (R53, R68, R71) -/

/-- R68, R374: one turn of a weighted share among the classes that wait: every class that waits gains its weight, the one that
then stands highest (the first of equals) gets the turn and pays all their weights. A class that does not wait keeps nothing, so it
gives up its share; a class of weight 0 gets a turn only where no other waits. Answers the class and the standings. -/
def shareTurn (weight : Nat → Nat) (standing : List (Nat × Int)) (waiting : List Nat) : Option (Nat × List (Nat × Int)) :=
  let up := (waiting.filter fun c => 0 < weight c).map fun c => (c, Sparse.get 0 standing c + (weight c : Int))
  let best := up.foldl (fun (b : Option (Nat × Int)) x =>
    match b with
    | none => some x
    | some y => if y.2 < x.2 then some x else b) none
  match best with
  | none => waiting.head?.map fun c => (c, standing)
  | some b =>
    let all := up.foldl (fun (n : Int) x => n + (weight x.1 : Int)) 0
    some (b.1, up.map fun x => if x.1 = b.1 then (x.1, x.2 - all) else x)

/-- R68: an edge bridge in one direction: whether each of the last seven flits was of class X, and the standings of C, B, D and M in
their shares. -/
structure EdgeBridge where
  lastX : List Bool := []
  standing : List (Nat × Int) := []
  deriving DecidableEq, Repr

/-- R71: the weight of a class (2 C, 3 B, 4 M, 5 D) at a port die. -/
def State.edgeWeight (s : State) (portDie cls : Nat) : Nat :=
  if cls = 2 then s.fld (FabEdgeWeight.wC portDie)
  else if cls = 3 then s.fld (FabEdgeWeight.wB portDie)
  else if cls = 4 then s.fld (FabEdgeWeight.wM portDie)
  else if cls = 5 then s.fld (FabEdgeWeight.wD portDie)
  else 0

/-- R68: the class whose flit the bridge serves next, among the classes (1 X to 5 D) that have one waiting, and the bridge after it:
X, up to one flit in eight; else the shares of the others by weight. X is held to one in eight also where no other class waits
(R69: X has 12 GB/s under any load): `none` then is a flit time that no class uses. -/
def EdgeBridge.next (e : EdgeBridge) (weight : Nat → Nat) (waiting : List Nat) : Option Nat × EdgeBridge :=
  let seen := fun b => (b :: e.lastX).take 7
  if waiting.contains 1 && !(e.lastX.any id) then (some 1, { e with lastX := seen true })
  else match shareTurn weight e.standing (waiting.filter (· ≠ 1)) with
    | some r => (some r.1, { lastX := seen false, standing := r.2 })
    | none => (none, { lastX := seen false, standing := [] })

/-- R53: on a mesh link or die bridge, class X goes first; the others in the order in which they came. -/
def linkNext (waiting : List Nat) : Option Nat := if waiting.contains 1 then some 1 else waiting.head?

end Sys2Proof.Machine
end

