-- ==== Sys2Proof/Machine/Operands.lean ====
section
/-!
DEFINITION. Operand forms of the commands of a queue (12_commands_and_queues.md): the fields of an entry, status codes and
their ranks, the ranges that an entry names, the checks made at dispatch under R254, R453, R227 and R299, and the windows
of R458.
-/
namespace Sys2Proof.Machine

/-! ### Status codes (R298) -/

namespace St
def ok : Nat := 0x00
def engineAbsent : Nat := 0x01
def badOpcode : Nat := 0x02
def descInvalid : Nat := 0x03
def accOvercommit : Nat := 0x04
def overlapRejected : Nat := 0x05
def indexRange : Nat := 0x06
def windowFault : Nat := 0x07
def tierFault : Nat := 0x09
def uncorrectable : Nat := 0x0A
def stepAborted : Nat := 0x0B
def deadlock : Nat := 0x0C
def epochMismatch : Nat := 0x0D
def tiedParameter : Nat := 0x0E
def linkLost : Nat := 0x0F
def replayed : Nat := 0x10
def queueHeld : Nat := 0x11
end St

/-- R416: rank of a status; 1 is the highest. -/
def statusRank : Nat → Nat
  | 0x0A => 1 | 0x09 => 2 | 0x0F => 3 | 0x0C => 4 | 0x07 => 5 | 0x02 => 6 | 0x01 => 7 | 0x05 => 8 | 0x06 => 9
  | 0x0B => 10 | 0x0E => 11 | 0x04 => 12 | 0x03 => 13 | 0x0D => 14 | 0x11 => 15 | 0x10 => 16
  | _ => 17

/-- An error of a command: status, detector code (0 none), cause (0 none), core index or address, detail (R416). -/
structure Err where
  status : Nat
  det : Nat := 0
  cause : Nat := 0
  key : Nat := 0
  detail : Nat := 0
  deriving DecidableEq, Repr

/-- R416: the first error is ranked above the second. -/
def Err.before (a b : Err) : Bool :=
  let ra := statusRank a.status
  let rb := statusRank b.status
  ra < rb || (ra = rb && (a.det < b.det || (a.det = b.det && (a.cause < b.cause || (a.cause = b.cause && a.key < b.key)))))

/-- R416: the error that a completion carries. -/
def pickErr : List Err → Option Err
  | [] => none
  | e :: es => match pickErr es with
    | none => some e
    | some x => if x.before e then some x else some e

/-- R299: DESC_INVALID with [47:40] a cause and [39:0] a detail. -/
def descErr (cause detail : Nat) : Err :=
  { status := St.descInvalid, cause, key := detail, detail := cause <<< 40 + detail % 2 ^ 40 }

/-- R453: WINDOW_FAULT with a cause and a detail. -/
def windowErr (cause detail : Nat) : Err :=
  { status := St.windowFault, cause, key := detail, detail := cause <<< 40 + detail % 2 ^ 40 }

/-! ### Entry fields (R295) -/

/-- OPCODE. -/
def opcodeOf (e : Bytes) : Nat := leField e 0 1
/-- PHASE. -/
def phaseOf (e : Bytes) : Nat := bitsOf (leField e 0 2) 8 8
/-- FENCE_BEFORE. -/
def fenceBefore (e : Bytes) : Bool := bitOf (leField e 0 2) 9
/-- VISIBLE. -/
def visibleOf (e : Bytes) : Bool := bitOf (leField e 0 2) 10
/-- EXPRESS. -/
def expressOf (e : Bytes) : Bool := bitOf (leField e 0 2) 11
/-- SUBSEL. -/
def subselOf (e : Bytes) : Nat := bitsOf (leField e 0 2) 15 12
/-- INLINE_LEN. -/
def inlineLen (e : Bytes) : Nat := bitsOf (leField e 2 2) 6 0
/-- SEQ. -/
def seqOf (e : Bytes) : W32 := BitVec.ofNat 32 (leField e 4 4)
/-- STEP_TAG. -/
def stepTag (e : Bytes) : W32 := BitVec.ofNat 32 (leField e 8 4)
/-- DOMAIN. -/
def entryDomain (e : Bytes) : Nat := leField e 12 2
/-- COACH_LOAD MODE (R317). -/
def loadMode (e : Bytes) : Nat := leField e 16 1
/-- COACH_LOAD SLOT (R317). -/
def loadSlot (e : Bytes) : Nat := leField e 17 1
/-- COACH_LOAD FORCE (R317). -/
def loadForce (e : Bytes) : Bool := bitOf (leField e 18 1) 0

/-- R311: the opcodes that a rule assigns. -/
def opcodeAssigned (op : Nat) : Bool :=
  [0x01, 0x02, 0x03, 0x04, 0x20, 0x21, 0x22, 0x23, 0x24, 0x40, 0x41, 0x42, 0x43, 0x44, 0x45, 0x46, 0x47, 0x48, 0x49,
   0x60, 0x61, 0x62, 0x63, 0x64, 0x80, 0x81, 0xA0, 0xA1, 0xA2, 0xA3, 0xC0, 0xC1, 0xC2].contains op

/-- R311: the step-bound opcodes. -/
def stepBound (op : Nat) : Bool := [0x21, 0x23, 0x24, 0x60, 0x61, 0x62, 0x63, 0x64, 0x80, 0x81].contains op

/-- R311, R297: unit kind of the engine that SUBSEL selects: 7 data movement, 3 collective, 0 none. -/
def engineKind (op : Nat) : Nat :=
  if 0x40 ≤ op ∧ op ≤ 0x44 then 7 else if 0x60 ≤ op ∧ op ≤ 0x64 then 3 else 0

/-- Instances of an engine kind that the capability table reports (R310). -/
def Grade.engines (g : Grade) (kind : Nat) : Nat := if kind = 7 then 8 else if kind = 3 then g.coll else 0

/-- R310: a SUBSEL that names an absent instance. -/
def absentErr (g : Grade) (e : Bytes) : List Err :=
  let k := engineKind (opcodeOf e)
  if k ≠ 0 ∧ subselOf e ≠ 0 ∧ g.engines k < subselOf e then
    [{ status := St.engineAbsent, detail := k <<< 32 + (subselOf e - 1), key := subselOf e - 1 }]
  else []

/-- R296, R16: the reserved fields (offset, length, mask of the first byte) of an entry by opcode: the ones of R295, then those of its
layout (R314, R317, R319, R323, R325, R326, R327). A cell of a layout that names nothing is one field, and so is the rest of a cell that
names a part (log entry 24). -/
def reservedFields (op : Nat) (e : Bytes) : List (Nat × Nat × Nat) :=
  let whole := fun (l : List (Nat × Nat)) => l.map fun x => (x.1, x.2, 0xFF)
  let tail := [(40, 8), (48, 8), (56, 8), (64, 16), (80, 48)]
  (2, 2, 0x80) :: (14, 2, 0xFF) ::
  (if op = 0x03 then (39, 1, 0xFF) :: whole [(33, 1), (34, 2), (40, 88)]
   else if op = 0x04 then (33, 1, 0xFE) :: whole [(34, 2), (40, 88)]
   else if op = 0x20 then (18, 1, 0xFE) :: whole [(19, 5), (36, 92)]
   else if op = 0x21 then whole [(28, 4), (40, 88)]
   else if op = 0x22 then whole [(24, 104)]
   else if op = 0x40 then whole tail
   else if op = 0x41 then whole [(57, 7), (64, 16), (80, 48)]
   else if op = 0x42 then whole ((35, 5) :: tail)
   else if op = 0x43 then whole [(71, 9), (80, 48)]
   else if op = 0x44 then whole [(40, 8), (71, 9), (80, 48)]
   else if op = 0x45 then whole [(24, 8), (32 + inlineLen e, 96 - inlineLen e)]
   else if op = 0x46 ∨ op = 0x47 then (32, 8, 0xFE) :: whole ((27, 5) :: tail)
   else if op = 0x48 then (32, 8, 0xFC) :: whole ((27, 5) :: tail)
   else if op = 0x49 then whole ((27, 5) :: (32, 8) :: tail)
   else if op = 0x81 then whole [(34, 30)]
   else if op = 0xC0 then whole [(20, 108)]
   else if op = 0xC2 then whole [(22, 106)]
   else if op = 0x80 ∨ (0x60 ≤ op ∧ op ≤ 0x64) ∨ (0xA0 ≤ op ∧ op ≤ 0xA3) ∨ op = 0xC1 then whole [(24, 104)]
   else whole [(16, 112)])

/-- A reserved field of an entry is not zero. -/
def fieldNonzero (e : Bytes) (f : Nat × Nat × Nat) : Bool :=
  0 < f.2.1 && (leField e f.1 1 &&& f.2.2 ≠ 0 || !zeroField e (f.1 + 1) (f.2.1 - 1))

/-- R299 cause 0x50: the byte offset of the first reserved field of an entry that is not zero. -/
def reservedErr (e : Bytes) : List Err :=
  match ((reservedFields (opcodeOf e) e).filter (fieldNonzero e)).map (·.1) with
  | [] => []
  | x :: xs => [descErr 0x50 (xs.foldl min x)]

/-- R296: INLINE_LEN, SUBSEL and EXPRESS (cause 0x54). -/
def headErr (e : Bytes) (qflags : Nat) : List Err :=
  let op := opcodeOf e
  let n := inlineLen e
  let inlineBad := if op = 0x45 then n = 0 || 96 < n else n ≠ 0
  let subBad := engineKind op = 0 && subselOf e ≠ 0
  let expBad := expressOf e && (!bitOf qflags 1 || !(([0x01, 0x02, 0x03, 0x04, 0x45] : List Nat).contains op))
  if inlineBad || subBad || expBad then [descErr 0x54 (leField e 0 4)] else []

/-- R454: commands reserved to domain 0. -/
def domainZeroOnly (op : Nat) : Bool := [0xC2, 0xC1, 0xC0, 0xA3, 0xA2].contains op

/-- R319, R322, R56: a step command on a queue without STEP_CTL. -/
def stepCommand (op : Nat) : Bool := op = 0x22 || op = 0x23 || op = 0x24

/-- R313, R322: the step checks of a step-bound command. -/
def State.stepErr (s : State) (e : Bytes) : List Err :=
  if stepBound (opcodeOf e) then
    if !s.inStep then [descErr 0x31 (stepTag e).toNat]
    else if stepTag e ≠ s.stepNum then [descErr 0x52 s.stepNum.toNat]
    else if s.flag QdirStepStatus.closing then [descErr 0x57 s.committed.toNat]
    else []
  else []

/-! ### Windows (R458) -/

/-- R59: gang offset of byte `off` of a core's own scratchpad; the offset itself in mesh mode. -/
def State.windowOffset (s : State) (n off : Nat) : Nat :=
  if s.gang n then off / 256 * 4096 + (s.grade.cluster n).2 * 256 + off % 256 else off

/-- R458: an access from outside core `n` to [off, off + len) of its offsets (gang offsets when `gang` says they already
are) is admitted: one open window of the core of domain `d` with the access bit covers the range. -/
def State.windowAdmits (s : State) (n d : Nat) (write : Bool) (lo hi : Nat) : Bool :=
  match s.image with
  | none => false
  | some i => i.windowRecs.any fun w =>
      w.core = n && w.domain = d && bitOf w.access (if write then 0 else 1) && bitOf (s.fld (CoreWinOpen.open n)) w.w
        && w.base ≤ lo && hi < w.base + w.len

/-- R458: an access to unified addresses of scratchpads: every core's part of the range is admitted; the first core whose
part is not. -/
def State.windowRefuses (s : State) (d : Nat) (write : Bool) (a len : Nat) : Option Nat :=
  if len = 0 then none else
  let c0 := (a - spBase) / 2097152
  let c1 := (a + len - 1 - spBase) / 2097152
  ((List.range (c1 + 1 - c0)).map (· + c0)).find? fun n =>
    let lo := max a (spBase + n * 2097152) - spBase - n * 2097152
    let hi := min (a + len - 1) (spBase + n * 2097152 + 2097151) - spBase - n * 2097152
    !s.windowAdmits n d write (s.windowOffset n lo) (s.windowOffset n hi)

/-- R453: the refusal 0x92 of a range from `a` on, at core `n`: the core, and bits [31:16] of the first address refused there. -/
def windowRefusal (n a : Nat) : Err := windowErr 0x92 (n <<< 16 + max a (spBase + n * 2097152) / 65536 % 65536)

/-! ### Ranges (R312) -/

/-- A range that a command names. -/
structure Range where
  base : Nat
  len : Nat
  write : Bool
  deriving DecidableEq, Repr

/-- R307: a region is rounded outward to 64 KiB. -/
def Range.region (r : Range) : Region :=
  let lo := r.base / 65536 * 65536
  { base := lo, len := (r.base + r.len + 65535) / 65536 * 65536 - lo, write := r.write }

/-- R254: DESC_INVALID, cause 0x41, with bits [47:16] of the first refused address. -/
def State.unmappedErr (s : State) (r : Range) : List Err :=
  match s.firstUnmapped r.base r.len with
  | some a => [descErr 0x41 (a / 65536 % 2 ^ 32)]
  | none => []

/-- R453: the refusals of a range for a command of domain `d`. -/
def State.rangeWindowErr (s : State) (d : Nat) (r : Range) : List Err :=
  (match s.firstForeign d r.base r.len with
   | some a => [windowErr 0x91 (a / 65536)]
   | none => []) ++
  (match s.firstReserved r.base r.len with
   | some a => if s.grade.zone a = .reserved && d = 0 then [] else [windowErr 0x93 (a / 65536)]
   | none => []) ++
  (if r.base + r.len ≤ spBase ∨ spBase + s.grade.cores * 2097152 ≤ r.base then []
   else match s.windowRefuses d r.write (max r.base spBase) (r.base + r.len - max r.base spBase) with
     | some n => [windowRefusal n r.base]
     | none => [])

/-- R227: a command that writes a shadow, or a view while a step is in progress (cause 0x38 under R249; the detail's
TENSOR_ID is that of the page's slot header). -/
def State.homeErr (s : State) (r : Range) : List Err :=
  if r.write && s.discards r.base r.len then
    let c := ((cartsOf r.base r.len).find? fun c => s.isHome (c * 65536)).getD 0
    [descErr 0x38 (s.rawNat (slotPlace (c / 2) (s.committedSlot (c / 2)) 0) 4)]
  else []

/-- R312: every check of a range that a command of domain `d` names. -/
def State.rangeErr (s : State) (d : Nat) (r : Range) : List Err :=
  if r.len = 0 then [] else s.unmappedErr r ++ s.rangeWindowErr d r ++ s.homeErr r

/-- R158, R280: bytes of the values of a blocked matrix of `rows` × `cols` elements. -/
def matrixBytes (rows cols fmt : Nat) : Nat := ceilDiv rows 64 * ceilDiv cols 64 * tileBytes fmt
/-- Bytes of its scales; 0 for an unscaled format. -/
def matrixScales (rows cols fmt : Nat) : Nat := if scaledFmt fmt then ceilDiv rows 64 * ceilDiv cols 64 * 64 else 0

/-- R223 to R327: the ranges that an entry names itself (those of descriptors are added by their command). -/
def entryRanges (e : Bytes) : List Range :=
  let op := opcodeOf e
  let f := fun o => leField e o 8
  if op = 0x03 then (if leField e 36 4 = 0xFFFFFF then [⟨f 16, 8, false⟩] else [])
  else if op = 0x04 then [⟨f 16, 8, false⟩]
  else if op = 0x20 then (if loadMode e = 1 then [] else [⟨f 24, leField e 32 4, false⟩])
  else if op = 0x40 then [⟨f 16, f 32, false⟩, ⟨f 24, f 32, true⟩]
  else if op = 0x41 then
    let n := leField e 48 4 * leField e 52 4
    let b := tileBytes (leField e 56 1)
    let sc := if scaledFmt (leField e 56 1) then n * 64 else 0
    [⟨f 16, n * b, false⟩, ⟨f 32, sc, false⟩, ⟨f 24, n * b, true⟩, ⟨f 40, sc, true⟩]
  else if op = 0x43 then
    let rows := leField e 56 4
    let cols := leField e 60 4
    let n := leField e 64 4
    [⟨f 16, matrixBytes rows cols (leField e 68 1), false⟩, ⟨f 24, matrixScales rows cols (leField e 68 1), false⟩,
     ⟨f 48, 4 * n, false⟩,
     ⟨f 32, matrixBytes n cols (leField e 69 1), true⟩, ⟨f 40, matrixScales n cols (leField e 69 1), true⟩]
  else if op = 0x44 then
    let rows := leField e 56 4
    let cols := leField e 60 4
    let n := leField e 64 4
    [⟨f 16, matrixBytes n cols (leField e 68 1), false⟩, ⟨f 24, matrixScales n cols (leField e 68 1), false⟩,
     ⟨f 48, 4 * n, false⟩, ⟨f 32, matrixBytes rows cols (leField e 69 1), true⟩]
  else if op = 0x45 then [⟨f 16, inlineLen e, true⟩]
  else if op = 0x21 then [⟨f 16, 4 * leField e 24 2, false⟩, ⟨f 32, 16 * leField e 26 2, false⟩]
  else if op = 0x81 then
    let n := leField e 24 4
    let buf := fun o w => (leField e o 8, w)
    let words := (List.range (min 8 (leField e 32 1))).map fun k => buf (64 + 8 * k) false
    (buf 16 true :: words).flatMap fun (x : Nat × Bool) =>
      let a := x.1 % 2 ^ 48
      let fm := bitsOf x.1 55 48
      [⟨a, n * tileBytes fm, x.2⟩, ⟨a + n * tileBytes fm, if scaledFmt fm then n * 64 else 0, x.2⟩]
  else if op = 0x42 then [⟨f 16, 64, false⟩, ⟨f 24, 64, false⟩]
  else if (0x60 ≤ op ∧ op ≤ 0x64) ∨ op = 0x80 ∨ op = 0xA0 ∨ op = 0xA2 ∨ op = 0xA3 ∨ op = 0xC1 then
    [⟨f 16, 64, false⟩]
  else []

/-! ### Checks of an entry (R299) -/

/-- The checks of an entry that do not read a descriptor: BAD_OPCODE, ENGINE_ABSENT, R296, R16, the queue's domain, the
sequence number, the step, STEP_CTL, domain 0, and every range it names (R312). -/
def State.entryErrs (s : State) (q : Nat) (expected : W32) (e : Bytes) : List Err :=
  let op := opcodeOf e
  let d := s.qDomain q
  if !opcodeAssigned op then
    { status := St.badOpcode, detail := op } :: (if seqOf e ≠ expected then [descErr 0x53 (seqOf e).toNat] else [])
  else
    absentErr s.grade e ++ headErr e (s.qFlags q) ++ reservedErr e ++
    (if entryDomain e ≠ d then [descErr 0x51 (entryDomain e)] else []) ++
    (if seqOf e ≠ expected then [descErr 0x53 (seqOf e).toNat] else []) ++
    (if domainZeroOnly op && d ≠ 0 then [windowErr 0x90 op] else []) ++
    (if stepCommand op && !bitOf (s.qFlags q) 2 then [descErr 0x56 0] else []) ++
    s.stepErr e ++
    (entryRanges e).flatMap (s.rangeErr d)

/-- Cause 0x55 at the byte offset of an operand (R299). -/
def operandErr (bad : Bool) (off : Nat) : List Err := if bad then [descErr 0x55 off] else []

end Sys2Proof.Machine
end

