-- ==== Sys2Proof/Machine/Errors.lean ====
section
/-!
DEFINITION. What an access meets in the stores below it (03_cores_scratchpads_mesh.md, R48, R49; 11_memory_tiers_and_layout.md,
R272 to R274; 15_consistency_errors_recovery.md, R408 to R414): flipped words of scratchpads, failures of carts, damaged words of
reserved carts, flits damaged at routers, and whom the error belongs to.
-/
namespace Sys2Proof.Machine

/-! ### Whom an error belongs to (R412) -/

/-- R412: a command of a queue (rule 1), the fabric, whose errors are those of the SEGMENT_RUN in progress if one is (rules 2 and 3),
or nobody (rule 3). -/
inductive Owner where
  | command (q : Nat) (idx : W32) (run : Bool)
  | fabric
  | nobody
  deriving DecidableEq, Repr

/-- The queue of the command that an error belongs to (R412, GLB.ERR_LAST). -/
def State.ownerQueue (s : State) : Owner → Option Nat
  | .command q _ _ => some q
  | .fabric => s.seg.map (·.q)
  | .nobody => none

/-- R405, R410, R412: an error whose response is a mark: GLB.ERR_LAST, the event, the mark, and for a SEGMENT_RUN its error. -/
def State.raise (s : State) (o : Owner) (status det key detail inst : Nat) (inj : Bool) : State :=
  match o with
  | .fabric => s.fabricError status det key detail inst inj
  | .command q idx run => (s.detect det status (some q) inst inj).mark status det (some (q, idx)) run inj
  | .nobody => (s.detect det status none inst inj).mark status det none false inj

/-! ### Scratchpads (R48, R49) -/

/-- R49, R411, R412: a read of [a, a + len) of one core's scratchpad: standing flipped bits and injected ones, which flip the word of
their ADDR or the first word read. A word with one flipped bit is corrected, written back and counted; one with two sets SP_UE and
stays as it is. Answers the uncorrectable words met, each with whether it was injected. -/
def State.scratchMeets (s : State) (a len : Nat) : List Bool × State :=
  if (s.injections.isEmpty && s.badWords.isEmpty) || len = 0 then ([], s)
  else
    let n := (a - spBase) / 2097152
    let inRange := fun p => a / 4 ≤ p / 4 && p / 4 ≤ (a + len - 1) / 4
    let f := s.fire 0x01 n inRange
    let x : Option Nat × State := match f.1 with
      | none => (none, f.2)
      | some j =>
        let w := (if j.addr = 0 then a else j.addr) / 4 * 4
        (some w, f.2.setFlips w (min 2 (f.2.flips w + j.bits)))
    (x.2.badWords.filter fun w => inRange w.1).foldl (fun (acc : List Bool × State) w =>
      if w.2 = 1 then (acc.1, ((acc.2.setFlips w.1 0).count 0x001 n 1).corrected)
      else (acc.1 ++ [decide (x.1 = some w.1)], acc.2.setFld (CoreStatus.spUe n) 1)) ([], x.2)

/-- R49: a read of a range of one core's scratchpad whose errors belong to `o`: each uncorrectable word is raised. -/
def State.scratchRead (s : State) (o : Owner) (a len : Nat) : State :=
  let n := (a - spBase) / 2097152
  let r := s.scratchMeets a len
  r.1.foldl (fun s inj => s.raise o St.uncorrectable 0x01 n 0 n inj) r.2

/-- The parts of a unified range that lie in scratchpads, core by core. -/
def Grade.scratchParts (g : Grade) (a len : Nat) : List (Nat × Nat) :=
  if len = 0 || a + len ≤ spBase || spBase + g.cores * 2097152 ≤ a then []
  else
    let lo := max a spBase
    let hi := min (a + len) (spBase + g.cores * 2097152)
    let c0 := (lo - spBase) / 2097152
    (List.range ((hi - 1 - spBase) / 2097152 + 1 - c0)).map fun k =>
      let base := spBase + (c0 + k) * 2097152
      (max lo base, min hi (base + 2097152) - max lo base)

/-! ### Carts (R253, R264, R272 to R274, R410, R414) -/

/-- R253, R264: the stack that holds a reserved cart: its preferred stack. -/
def Grade.reservedStack (g : Grade) (cart : Nat) : Nat := cart / 4 % g.stackNum

/-- R273, R274, R410, R411: what one cart of the memory range brings to an access of [a, a + len): a status with its detector,
instance and whether it was injected, or none when the access succeeds. A failed access sets ABORTED; an uncorrectable word makes
the cart LOST. -/
def State.cartMeets (s : State) (o : Owner) (k a len : Nat) : Option (Nat × Nat × Nat × Bool) × State :=
  if !(k < 0x10000000 && s.mapped k) then (none, s)
  else if s.cartFails k then
    (some (St.tierFault, 0x0B, (s.portOfCart k).getD 0, false), s.setFld CxlPoolStatus.aborted 1)
  else
    let f := (s.cart (s.headOf k)).frameA
    if framePlace f = 0 then
      let r := s.fire 0x0A (frameStack f) fun x => a ≤ x && x < a + len
      match r.1 with
      | some j => if j.bits = 2 then (some (St.uncorrectable, 0x0A, frameStack f, true), r.2.loseCart k) else (none, r.2.corrected)
      | none => (none, r.2)
    else
      let r := s.fire 0x0B (framePlace f - 1) fun _ => true
      match r.1 with
      | some _ => (some (St.tierFault, 0x0B, framePlace f - 1, true), r.2.setFld CxlPoolStatus.aborted 1)
      | none =>
        let t := r.2.fire 0x0C (framePlace f - 1) fun _ => true
        match t.1 with
        | some _ => (none, t.2.tierStalled (s.ownerQueue o) (framePlace f - 1) true)
        | none => (none, t.2)

/-- An access to one cart of the memory range whose error belongs to `o`: its status, 0 when it succeeds; the detail is bits [47:16]
of the cart's address (R273). -/
def State.cartAccess (s : State) (o : Owner) (k a len : Nat) : Nat × State :=
  let r := s.cartMeets o k a len
  match r.1 with
  | some (st, det, inst, inj) => (st, r.2.raise o st det k k inst inj)
  | none => (0, r.2)

/-- R411, R414: an access to [a, a + len) of the reserved carts: whether a word of it is uncorrectable. A damaged word stays so until a
write replaces it; each one met writes GLB.ERR_LAST and raises the event, and no cart becomes LOST. -/
def State.reservedMeets (s : State) (o : Owner) (a len : Nat) : Bool × State :=
  if (s.injections.isEmpty && s.badWords.isEmpty) || len = 0 || s.grade.zone a ≠ .reserved then (false, s)
  else
    let st := s.grade.reservedStack (cartOf a)
    let inRange := fun p => a / 4 ≤ p / 4 && p / 4 ≤ (a + len - 1) / 4
    let f := s.fire 0x0A st inRange
    let x : Option Nat × State := match f.1 with
      | none => (none, f.2)
      | some j =>
        let w := (if j.addr = 0 then a else j.addr) / 4 * 4
        (some w, f.2.setFlips w (min 2 (f.2.flips w + j.bits)))
    (x.2.badWords.filter fun w => inRange w.1).foldl (fun (acc : Bool × State) w =>
      if w.2 = 1 then (acc.1, (acc.2.setFlips w.1 0).corrected)
      else (true, acc.2.detect 0x0A St.uncorrectable (acc.2.ownerQueue o) st (decide (x.1 = some w.1)))) (false, x.2)

/-! ### Pending writes (R351 to R354) -/

/-- R273, R351: a part of a pending write is performed, cart by cart; a cart that fails takes none of it, and the error belongs to the
command that wrote. The lines written become dirty (R270). -/
def State.performPart (s : State) (p : PendingWrite) (w : RangeWrite) : State :=
  (cartsOf w.base w.len).foldl (fun s k =>
    let part := w.part (k * 65536) 65536
    let r := s.cartAccess (.command p.q p.idx false) k part.base part.len
    if r.1 = 0 then (r.2.performRange part).dirty part.base part.len else r.2) s

/-- Perform every pending write that a test selects, oldest first. -/
def State.settle (s : State) (sel : PendingWrite → Bool) : State :=
  let s1 := (s.pendingWrites.filter sel).foldl (fun s p => s.performPart p p.write) s
  { s1 with pendingWrites := s.pendingWrites.filter fun p => !sel p }

/-- Perform every pending write into a range. -/
def State.settleRange (s : State) (a len : Nat) : State := s.settle (·.meets a len)

/-- Perform a pending write for one aligned 8-byte word when the free value of this draw says so (R349, R351); answers what
stays pending. -/
def State.settleWord (s : State) (p : PendingWrite) (word : Nat) : State × List PendingWrite :=
  let part := p.write.part (8 * word) 8
  if part.len = 0 then (s, [])
  else if Config.writePerformed s.draws word then (s.performPart p part, [])
  else (s, [{ p with write := part }])

/-- R353: a reader that no rule places behind a pending write may see old or new content of each aligned 8-byte word it
reads: for each one a free value tells whether the write has been performed. -/
def State.settleFree (s : State) (a len : Nat) : State :=
  if s.pendingWrites.any (·.meets a len) then
    let r := s.pendingWrites.foldl (fun (acc : State × List PendingWrite) p =>
      if p.meets a len && p.whole then
        if Config.writePerformed acc.1.draws (p.write.base / 8) then (acc.1.performPart p p.write, acc.2)
        else (acc.1, acc.2 ++ [p])
      else if p.meets a len then
        let before := p.write.part p.write.base (a - p.write.base)
        let after := p.write.part (a + len) (p.write.base + p.write.len - (a + len))
        let words := (List.range ((a + len - 1) / 8 + 1 - a / 8)).map (· + a / 8)
        let mid := p.write.part a len
        let r := words.foldl (fun (x : State × List PendingWrite) w =>
          let y := x.1.settleWord { p with write := mid } w
          (y.1, x.2 ++ y.2)) (acc.1, [])
        let keep := ([before, after].filter fun w => 0 < w.len).map fun w => { p with write := w }
        (r.1, acc.2 ++ r.2 ++ keep)
      else (acc.1, acc.2 ++ [p])) (s, [])
    { r.1 with pendingWrites := r.2, draws := s.draws + 1 }
  else s

/-! ### The mesh (R408) -/

/-- R408, R412: a packet passes routers; a damaged flit is an uncorrectable error at the router that receives it. Answers the cores of
those routers. -/
def State.meshMet (s : State) (o : Owner) (routers : List MeshPos) : List Nat × State :=
  s.meshCheck routers fun s n => s.raise o St.uncorrectable 0x04 n 0 n true

/-- The state after a packet has passed routers. -/
def State.meshPass (s : State) (o : Owner) (routers : List MeshPos) : State := (s.meshMet o routers).2

end Sys2Proof.Machine
end

