-- ==== Sys2Proof/Machine/Flags.lean ====
section
/-!
DEFINITION. The life of a command of a queue (12_commands_and_queues.md): when it starts (R305 to R307), how it ends and
holds its queue (R413), the comparison of flags (R316), and the shared operation that every command row goes through.
-/
namespace Sys2Proof.Machine

/-! ### Ending a command -/

/-- R413: statuses that hold the queue. -/
def holdsQueue (status : Nat) : Bool := status = St.uncorrectable || status = St.tierFault || status = St.linkLost

/-- A command ends with a status, the unit that ended it and a detail (R297). A status of R413 holds the queue; WHY records that
no replay is tried for a command other than a SEGMENT_RUN (R417). -/
def State.endCmd (s : State) (q : Nat) (idx : W32) (status unitKind unitInst detail : Nat) : State :=
  let s1 := s.modCmd q idx fun c => { c with phase := .ended, status, unitKind, unitInst, detail := detail % 2 ^ 48,
                                             frozen := false, hold := holdsQueue status }
  if holdsQueue status then
    let s2 := if ((s.cmd? q idx).map fun c => opcodeOf c.entry) = some 0x21 then s1
              else s1.setFld GlbRecovStatus.why (if s1.flag GlbRecovCtrl.replayEn then 2 else 1)
    s2.setQState q 2 status
  else s1

/-- A command ends at its checks: its completion names the command processor (R297); cause 0x38 is a refused write to a
home page (R227); ENGINE_ABSENT holds a queue with HOLD_ABSENT (R310); a detector's instance is the error's key (R412). -/
def State.endErr (s : State) (q : Nat) (idx : W32) (e : Err) : State :=
  let s0 := if e.det = 0 then s else s.detect e.det e.status (some q) e.key false
  let s1 := if e.status = St.descInvalid ∧ e.cause = 0x38 then s0.homeWrite else s0
  let s2 := s1.endCmd q idx e.status 6 (s.qCp q) e.detail
  if e.status = St.engineAbsent ∧ bitOf (s.qFlags q) 0 then s2.setQState q 2 St.engineAbsent else s2

/-- A command of the command processor itself ends with OK. -/
def State.endOk (s : State) (q : Nat) (idx : W32) : State := s.endCmd q idx St.ok 6 (s.qCp q) 0

/-! ### Flags (R314 to R316) -/

/-- The 8-byte word at an address. -/
def State.flagWord (s : State) (a : Nat) : W64 := BitVec.ofNat 64 (s.num a 8)

/-- R316: the comparison CMP of a flag with VALUE. -/
def flagCmp (cmp : Nat) (flag value : W64) : Bool :=
  match cmp with
  | 0 => flag = value
  | 1 => value.toNat ≤ flag.toNat
  | _ => serialAtOrAfter (flag.truncate 32) (value.truncate 32)

/-- R316: the comparison of a FLAG_WAIT entry holds now. -/
def State.waitHolds (s : State) (e : Bytes) : Bool :=
  flagCmp (leField e 32 1) (s.flagWord (leField e 16 8)) (BitVec.ofNat 64 (leField e 24 8))

/-- A command is a FLAG_WAIT that runs and is not satisfied. -/
def Cmd.isWait (c : Cmd) : Bool := opcodeOf c.entry = 0x04 && c.phase = .running

/-- R316: every running FLAG_WAIT of one queue whose comparison holds completes with OK; a frozen one does not (R330). -/
def State.evalQueueFlags (s : State) (q : Nat) : State :=
  (s.queue q).cmds.foldl (fun s c => if c.isWait && !c.frozen && s.waitHolds c.entry then s.endOk q c.idx else s) s

/-- R316: every FLAG_WAIT is evaluated again after writes have been performed. -/
def State.evalFlags (s : State) : State := s.queueNums.foldl (fun s q => s.evalQueueFlags q) s

/-! ### Starting a command -/

/-- R305: the oldest command of a queue that has not started. -/
def State.nextCmd (s : State) (q : Nat) : Option Cmd := (s.queue q).cmds.find? (·.phase = .waiting)

/-- The commands of a queue that are older than a command. -/
def State.earlier (s : State) (q : Nat) (c : Cmd) : List Cmd := (s.queue q).cmds.takeWhile (·.idx ≠ c.idx)

/-- R307: two sets of rounded regions overlap in a region that one of the two writes. -/
def regionsClash (a b : List Region) : Bool :=
  a.any fun x => b.any fun y => (x.write || y.write) && rangesMeet x.base x.len y.base y.len

/-- R309: the instances of an engine kind that a command occupies until it ends: only collectives outlive their row. -/
def State.busyEngines (s : State) (kind : Nat) : List Nat := if kind = 3 then s.colls.map (·.engine) else []

/-- R309: an engine for the command is free: the one that SUBSEL names, or some present one. -/
def State.engineFree (s : State) (e : Bytes) : Bool :=
  let k := engineKind (opcodeOf e)
  let busy := s.busyEngines k
  if k = 0 then true
  else if subselOf e ≠ 0 then !busy.contains (subselOf e - 1)
  else (List.range (s.grade.engines k)).any fun i => !busy.contains i

/-- R309, R310: the engine that serves a command: the one SUBSEL names, or a free one of those present that the device picks. -/
def State.pickEngine (s : State) (e : Bytes) : Nat × State :=
  if subselOf e ≠ 0 then (subselOf e - 1, s)
  else
    let k := engineKind (opcodeOf e)
    let free := (List.range (s.grade.engines k)).filter fun i => !(s.busyEngines k).contains i
    let r := s.draw Config.enginePick
    (free.getD (r.1 % max 1 free.length) 0, r.2)

/-- R306, R307, R309, R328: the oldest command not started of a queue may start with these regions: its queue is running, every
earlier command has started, none of them is an unsatisfied FLAG_WAIT, a fence waits for every earlier completion, no
earlier command that has not completed overlaps it, and an engine for it is free. -/
def State.canStart (s : State) (q : Nat) (c : Cmd) (regions : List Region) : Bool :=
  let before := s.earlier q c
  let op := opcodeOf c.entry
  (s.qState q = 1 || s.qState q = 4) && s.engineFree c.entry &&
  before.all (·.phase ≠ .waiting) &&
  !before.any (·.isWait) &&
  (!(fenceBefore c.entry || op = 0x02 || op = 0x03) || before.isEmpty) &&
  !before.any (fun b => regionsClash b.regions regions)

/-- R351, R353, R354: bring the writes of completed commands up to date before a command of queue `q` that declares regions and reads
ranges: those of its own queue whose regions overlap its own are performed first; any other write to what it reads is performed or
not, as free values say. -/
def State.settleFor (s : State) (q : Nat) (regions : List Region) (rs : List Range) : State :=
  let s1 := s.settle fun p =>
    p.q = q && regionsClash [(Range.mk p.write.base p.write.len true).region] regions
  rs.foldl (fun s r => if r.write || r.len = 0 then s else s.settleFree r.base r.len) s1


/-- R297: the unit that serves a command, by kind and instance: the engine that SUBSEL selects, else the command processor. -/
def State.servedBy (s : State) (q : Nat) (c : Cmd) : (Nat × Nat) × State :=
  let k := engineKind (opcodeOf c.entry)
  if k = 0 then ((6, s.qCp q), s)
  else
    let r := s.pickEngine c.entry
    ((k, r.1), r.2)

/-- A command that met errors while it ran ends with the highest-ranked one (R416), which its unit reports. -/
def State.endMet (s : State) (q : Nat) (c : Cmd) (e : Err) : State :=
  let u := s.servedBy q c
  u.2.endCmd q c.idx e.status u.1.1 u.1.2 e.detail

/-- R54, R67, R70: the routers that the class D traffic of a command passes between its ranges in scratchpads and their other ends: the
stacks that hold its other ranges, or the port die of its command processor (log entry 23). -/
def State.cmdRoutes (s : State) (q : Nat) (rs : List Range) : List (List MeshPos) :=
  let dies := (rs.flatMap fun r => (cartsOf r.base r.len).filterMap fun k =>
    let f := (s.cart (s.headOf k)).frameA
    if k < 0x10000000 && s.mapped k && framePlace f = 0 then some (frameStack f / 2) else none).eraseDups
  rs.flatMap fun r => (s.grade.scratchParts r.base r.len).flatMap fun x =>
    let n := (x.1 - spBase) / 2097152
    if dies.isEmpty then [s.portRoute r.write (s.qCp q) n] else dies.map fun d => s.memoryRoute r.write d n

/-- R408: the flits of a command's class D traffic are checked at each router: the errors met there. -/
def State.meshErrors (s : State) (q : Nat) (c : Cmd) (rs : List Range) : List Err × State :=
  if s.injections.any (·.det = 0x04) then
    (s.cmdRoutes q rs).foldl (fun (acc : List Err × State) route =>
      let m := acc.2.meshMet (.command q c.idx (opcodeOf c.entry = 0x21)) route
      (acc.1 ++ m.1.map fun n => { status := St.uncorrectable, det := 0x04, key := n }, m.2)) ([], s)
  else ([], s)

/-- What the accesses of a command meet in the memory below it (R49, R272 to R274, R408 to R412): every error of its ranges, each
raised for the command. -/
def State.memoryErrors (s : State) (q : Nat) (c : Cmd) (rs : List Range) : List Err × State :=
  let o := Owner.command q c.idx (opcodeOf c.entry = 0x21)
  rs.foldl (fun acc r =>
    let x := (cartsOf r.base r.len).foldl (fun (acc : List Err × State) k =>
      let m := acc.2.cartAccess o k r.base r.len
      if m.1 = 0 then (acc.1, m.2)
      else (acc.1 ++ [{ status := m.1, det := if m.1 = St.tierFault then 0x0B else 0x0A, key := k, detail := k }], m.2)) acc
    let y : List Err × State := if s.grade.zone r.base = .reserved then (x.1, (x.2.reservedMeets o r.base r.len).2) else x
    if r.write then y
    else (s.grade.scratchParts r.base r.len).foldl (fun (acc : List Err × State) part =>
      let n := (part.1 - spBase) / 2097152
      let m := acc.2.scratchMeets part.1 part.2
      m.1.foldl (fun acc inj =>
        (acc.1 ++ [{ status := St.uncorrectable, det := 0x01, key := n }],
         acc.2.raise o St.uncorrectable 0x01 n 0 n inj)) (acc.1, m.2)) y) (s.meshErrors q c rs)

/-- A command starts: it takes the next place in the order of dispatch and holds its regions (R307, R318). -/
def State.dispatch (s : State) (q : Nat) (idx : W32) (regions : List Region) : State :=
  { s.modCmd q idx (fun c => { c with phase := .running, serial := s.serial, regions }) with serial := s.serial + 1 }

/-- What a row of commands gives the shared operation: which entries it takes, the ranges that a command accesses, the regions that it
declares (R311), its own checks, what an error of its accesses brings, and what it does. -/
structure Row where
  want : Bytes → Bool
  ranges : State → Bytes → List Range
  regions : State → Bytes → List Range := ranges
  errs : State → Cmd → List Err := fun _ _ => []
  met : State → Nat → Cmd → Err → State := State.endMet
  body : State → Cmd → State

/-- The shared operation of the command rows. When the oldest command of queue `q` not started is one that the row takes and may
start, its pending predecessors are performed (R354: those that meet the entry's own ranges before its descriptors are read), its checks are made together and ranked (R312, R416); a command that fails them
ends without side effect; one whose accesses fail ends with what they met (R416); otherwise the row's body runs it. In every other
case nothing happens (log entry 2). -/
def State.runRow (s : State) (q : Nat) (row : Row) : State :=
  match s.nextCmd q with
  | none => s
  | some c =>
    let s0 := s.settleFor q ((entryRanges c.entry).map (·.region)) []
    let regions := (row.regions s0 c.entry).map (·.region)
    if row.want c.entry && s.canStart q c regions then
      let s1 := s0.settleFor q regions (row.ranges s0 c.entry)
      let rs := row.ranges s1 c.entry
      match pickErr (s1.entryErrs q (s1.expectedSeq q c.idx) c.entry ++ row.errs s1 c) with
      | some e => (s1.dispatch q c.idx []).endErr q c.idx e
      | none =>
        let m := (s1.dispatch q c.idx regions).memoryErrors q c rs
        match pickErr m.1 with
        | some e => row.met m.2 q c e
        | none =>
          let s4 := rs.foldl (fun s r => s.touchRange r.base r.len) m.2
          (row.body s4 { c with phase := .running, serial := s1.serial, regions }).evalFlags
    else s

/-- The shared operation of a command that declares the ranges it accesses. -/
def State.runCmd (s : State) (q : Nat) (want : Bytes → Bool) (ranges : State → Bytes → List Range)
    (errs : State → Cmd → List Err) (body : State → Cmd → State) : State :=
  s.runRow q { want, ranges, errs, body }

/-- The command named is of this opcode. -/
def isOp (op : Nat) (e : Bytes) : Bool := opcodeOf e = op

/-- The ranges of commands that name none beside their entry's. -/
def plainRanges (_ : State) (e : Bytes) : List Range := entryRanges e

/-- A command that declares no region. -/
def noRanges (_ : State) (_ : Bytes) : List Range := []

/-- R351, R352: the writes of a command: performed at once with VISIBLE 1, left pending with VISIBLE 0. -/
def State.cmdWrite (s : State) (q : Nat) (c : Cmd) (w : RangeWrite) : State :=
  if w.len = 0 then s
  else if visibleOf c.entry then s.agentWrite w
  else
    { s with pendingWrites := s.pendingWrites ++
        [({ q, cp := s.qCp q, idx := c.idx, write := w, whole := opcodeOf c.entry = 0x45 } : PendingWrite)] }

/-- A command of an engine ends with OK. -/
def State.endEngine (s : State) (q : Nat) (c : Cmd) (inst detail : Nat) : State :=
  s.endCmd q c.idx St.ok (engineKind (opcodeOf c.entry)) inst detail

end Sys2Proof.Machine
end

