-- ==== Sys2Proof/Machine/Queue.lean ====
section
/-!
DEFINITION. Queues (12_commands_and_queues.md): doorbells, the fetch and re-read of entries, the posting of completions, and
the actions of QDIR.QCTRL, as operations on the state; the agent that asks for them is judged in Doorbells.lean.
-/
namespace Sys2Proof.Machine

/-- A queue number (R292). -/
def queueOk (q : Nat) : Bool := q < 1048576

/-- The queue is open: STATE is not 0. -/
def State.qOpen (s : State) (q : Nat) : Bool := s.qState q ≠ 0

/-- Size of a queue's ring. -/
def State.ringSize (s : State) (q : Nat) : Nat := 2 ^ s.ringLog2 q
/-- Size of its completion ring. -/
def State.cqSize (s : State) (q : Nat) : Nat := 2 ^ s.cqLog2 q
/-- R294: address of the ring slot of index i. -/
def State.ringSlot (s : State) (q : Nat) (i : W32) : Nat := s.ringBase q + 128 * (i.toNat % s.ringSize q)
/-- R294: address of the completion slot of index i. -/
def State.cqSlot (s : State) (q : Nat) (i : W32) : Nat := s.cqBase q + 16 * (i.toNat % s.cqSize q)

/-! ### Doorbells (R300) -/

/-- R300: a write of `v` to QDIR.DOORBELL[q]. It restarts a fetch that waits: the count of re-reads starts again, and a queue
in STATE 4 runs. -/
def State.ringDoorbell (s : State) (q : Nat) (v : W32) : State :=
  if s.qOpen q then
    let s1 := if (v - s.qHead q).toNat ≤ s.ringSize q then s.setTail q v
              else s.modQueue q fun r => { r with dbBad := true }
    let s2 := s1.modQueue q fun r => { r with rereads := 0, stale := false }
    if s.qState q = 4 then s2.setQState q 1 0 else s2
  else s.modQueue q fun r => { r with dbBad := true }

/-- R300: a write of `v` to QDIR.CQ_DOORBELL[q]: CQ_HEAD becomes v when v lies between CQ_HEAD and CQ_TAIL, and otherwise the write is
ignored, which DB_BAD shows (R336). -/
def State.cqRing (s : State) (q : Nat) (v : W32) : State :=
  if s.qOpen q then
    if (v - s.qCqHead q).toNat ≤ (s.qCqTail q - s.qCqHead q).toNat then s.setCqHead q v
    else s.modQueue q fun r => { r with dbBad := true }
  else s.modQueue q fun r => { r with dbBad := true }

/-! ### CLOSE (R293) -/

/-- R293 CLOSE steps 3 to 5: an unsatisfied FLAG_WAIT at the head completes with QUEUE_HELD; once every fetched command has
posted, STATE and HOLD_CAUSE become 0. -/
def State.closeStep (s : State) (q : Nat) : State :=
  if (s.queue q).closing then
    match (s.queue q).cmds with
    | [] => (s.modQueue q fun r => { r with closing := false, stale := false, rereads := 0 }).setQState q 0 0
    | c :: _ => if c.isWait then s.endCmd q c.idx St.queueHeld 6 (s.qCp q) 0 else s
  else s

/-- R328 DISCARD: held commands post with their status; commands fetched and not dispatched, then every announced entry,
complete with QUEUE_HELD; a frozen FLAG_WAIT completes with QUEUE_HELD; HEAD advances to TAIL. -/
def State.discardEffects (s : State) (q : Nat) : State :=
  let head := s.qHead q
  let n := (s.qTail q - head).toNat
  let held (c : Cmd) : Cmd := { c with phase := .ended, status := St.queueHeld, unitKind := 6, unitInst := s.qCp q,
                                       detail := 0, frozen := false, hold := false }
  let s1 := s.modQueue q fun r =>
    { r with stale := false, rereads := 0,
             cmds := (r.cmds.map fun c =>
                 if c.phase = .waiting then held c
                 else if c.hold then { c with hold := false, regions := [] }
                 else if c.isWait && c.frozen then held c
                 else c) ++
               (List.range n).map fun i => held { idx := head + BitVec.ofNat 32 i, entry := [] } }
  s1.setHead q (s.qTail q)

/-- R293: CLOSE of an open queue; of a closed one it is ignored and sets ACT_REJ. -/
def State.closeQ (s : State) (q : Nat) : State :=
  if s.qOpen q then
    let s1 := s.modQueue q fun r => { r with closing := true, stale := false, rereads := 0 }
    (if s.qState q = 2 ∨ s.qState q = 3 then s1.discardEffects q else s1).closeStep q
  else s.modQueue q fun r => { r with actRej := true }

/-! ### OPEN (R293) -/

/-- The range lies wholly in mapped data carts of a domain. -/
def State.dataRange (s : State) (d a len : Nat) : Bool :=
  (cartsOf a len).all fun c => c < 0x10000000 && s.mapped c && (s.cart c).kind = 0 && (s.cart c).domain = d

/-- R293: the checks of OPEN; queues may be opened in READY (R473). -/
def State.mayOpen (s : State) (q : Nat) : Bool :=
  s.fld PwrStatus.state = 4 && s.qState q = 0 &&
  4 ≤ s.ringLog2 q && s.ringLog2 q ≤ 16 && 4 ≤ s.cqLog2 q && s.cqLog2 q ≤ 16 &&
  s.ringBase q % 4096 = 0 && s.cqBase q % 4096 = 0 && s.progAddr q % 8 = 0 &&
  s.dataRange (s.qDomain q) (s.ringBase q) (128 * s.ringSize q) &&
  s.dataRange (s.qDomain q) (s.cqBase q) (16 * s.cqSize q) &&
  (s.progAddr q = 0 || s.dataRange (s.qDomain q) (s.progAddr q) 8) &&
  s.qFlags q / 8 = 0 && s.ctx q 30 2 = 0 && s.ctx q 58 6 = 0 && s.qCp q ≤ 1 &&
  (s.qTail q - s.qHead q).toNat ≤ s.ringSize q && (s.qCqTail q - s.qCqHead q).toNat ≤ s.cqSize q

/-- R414: an access of the device to a queue's context: whether an uncorrectable word of it was met. -/
def State.ctxMeets (s : State) (q : Nat) : Bool × State := s.reservedMeets .nobody (ctxBase + 64 * q) 64

/-- R293: OPEN. A context with an uncorrectable word fails the checks (log entry 21). -/
def State.openQ (s : State) (q : Nat) : State :=
  let r := s.ctxMeets q
  if !r.1 && r.2.mayOpen q then r.2.setQState q 1 0
  else r.2.modQueue q fun r => { r with actRej := true }

/-! ### RELEASE, DISCARD, ABORT_WAIT (R328) -/

/-- R328: RELEASE: held commands post and free their regions, frozen commands run on, every frozen FLAG_WAIT is evaluated
again, and the queue returns to STATE 1. -/
def State.releaseQ (s : State) (q : Nat) : State :=
  if s.qState q = 2 ∨ s.qState q = 3 then
    let s1 := s.modQueue q fun r =>
      { r with cmds := r.cmds.map fun c => { c with frozen := false, hold := false,
                                                    regions := if c.hold then [] else c.regions } }
    (s1.setQState q 1 0).evalQueueFlags q
  else s.modQueue q fun r => { r with actRej := true }

/-- R328: DISCARD. -/
def State.discardQ (s : State) (q : Nat) : State :=
  if s.qState q = 2 ∨ s.qState q = 3 then (s.discardEffects q).closeStep q
  else s.modQueue q fun r => { r with actRej := true }

/-- R328: ABORT_WAIT: a frozen FLAG_WAIT at the head ends with DEADLOCK; a frozen SEGMENT_RUN keeps DEADLOCK for the forced
change that ends it (R99, R416); the queue enters STATE 2. -/
def State.abortWaitQ (s : State) (q : Nat) : State :=
  if s.qState q = 3 then
    let s1 := match (s.queue q).cmds.find? (·.frozen) with
      | none => s
      | some c =>
        if c.isWait then s.endCmd q c.idx St.deadlock 6 (s.qCp q) q
        else s.segErr St.deadlock 0x10 0 q
    s1.setQState q 2 St.deadlock
  else s.modQueue q fun r => { r with actRej := true }

/-! ### Errors of a queue's own structures (R414) -/

/-- R412 rule 3, R414: an access of the device to a ring or completion slot: whether it succeeds. An uncorrectable HBM
word makes its cart LOST and holds the queue with HOLD_CAUSE 0x0A, and marks no step; a cart that fails is met as R273 says, and the
caller holds the queue with TIER_FAULT (log entry 21). -/
def State.ringAccess (s : State) (q a len : Nat) : Bool × State :=
  let r := s.cartMeets .nobody (cartOf a) a len
  match r.1 with
  | none => (true, r.2)
  | some (st, det, inst, inj) =>
    if st = St.uncorrectable then (false, (r.2.detect det st none inst inj).setQState q 2 st)
    else (false, r.2.raise .nobody st det (cartOf a) (cartOf a) inst inj)

/-- R414: an uncorrectable word in a queue's context holds the queue with HOLD_CAUSE 0x0A. -/
def State.ctxCheck (s : State) (q : Nat) : State :=
  let r := s.ctxMeets q
  if r.1 then r.2.setQState q 2 St.uncorrectable else r.2

/-! ### Fetch (R301 to R305) -/

/-- R305: commands fetched and not yet posted, of a queue. -/
def State.inFlightQ (s : State) (q : Nat) : Nat := ((s.queue q).cmds.filter fun c => !c.entry.isEmpty).length
/-- R305: of a command processor. -/
def State.inFlightCp (s : State) (cp : Nat) : Nat :=
  (s.queueNums.filter fun q => s.qCp q = cp).foldl (fun n q => n + s.inFlightQ q) 0

/-- R301, R305: the queue may fetch: it runs, has an announced entry, is not closing, and the limits allow one more. -/
def State.mayFetch (s : State) (q : Nat) : Bool :=
  s.qState q = 1 && !(s.queue q).closing && s.qHead q ≠ s.qTail q && s.inFlightQ q < 16 && s.inFlightCp (s.qCp q) < 4096

/-- R301: the entry of index i is current: its PHASE is 1 minus bit RING_LOG2 of i. -/
def State.entryCurrent (s : State) (q : Nat) (i : W32) (e : Bytes) : Bool :=
  phaseOf e = 1 - b2n (bitOf i.toNat (s.ringLog2 q))

/-- R299: a fetched entry whose opcode no rule assigns has no row of its own and ends at once. Every other entry is judged at its dispatch
(R310, R312). -/
def State.judgeFetched (s : State) (q : Nat) (i : W32) (e : Bytes) : State :=
  if opcodeAssigned (opcodeOf e) then s
  else
    match pickErr (s.entryErrs q (s.expectedSeq q i) e) with
    | some x => s.endErr q i x
    | none => s

/-- R305: the entry at HEAD of a queue that may fetch, when it is current. -/
def State.fetchable (s : State) (q : Nat) : Option Bytes :=
  if s.mayFetch q && !(s.queue q).stale then
    let e := s.bytes (s.ringSlot q (s.qHead q)) 16
    if s.entryCurrent q (s.qHead q) e then some e else none
  else none

/-- R305: the queues of a command processor whose next entry is current, each with its EXPRESS bit. -/
def State.ready (s : State) (cp : Nat) : List (Nat × Bool) :=
  s.queueNums.filterMap fun q => if s.qCp q = cp then (s.fetchable q).map fun e => (q, expressOf e) else none

/-- R305: how far a queue stands behind the ordinary queue that its command processor served last, round robin by queue number. -/
def State.turnOf (s : State) (q : Nat) : Nat := (q + 1048576 - Sparse.get 1048575 s.served (s.qCp q) - 1) % 1048576

/-- R305: it is this queue's turn, with an entry that has EXPRESS as told: express entries first, then round robin by queue number. -/
def State.hasTurn (s : State) (q : Nat) (express : Bool) : Bool :=
  express || (s.ready (s.qCp q)).all fun x => !x.2 && s.turnOf q ≤ s.turnOf x.1

/-- R301, R304: take a copy of a current entry, advance HEAD, and judge it. -/
def State.takeEntry (s : State) (q : Nat) (i : W32) (e : Bytes) : State :=
  let s1 := (s.setHead q (i + 1)).modQueue q fun r =>
    { r with cmds := r.cmds ++ [{ idx := i, entry := e }], stale := false, rereads := 0 }
  let s2 := if expressOf e then s1 else { s1 with served := Sparse.set 1048575 s1.served (s1.qCp q) q }
  s2.judgeFetched q i e

/-- R305: an entry found current: it is taken when it is the queue's turn; else the queue waits for its turn. -/
def State.serveEntry (s : State) (q : Nat) (i : W32) (e : Bytes) : State :=
  let s1 := s.modQueue q fun r => { r with stale := false, rereads := 0 }
  if s1.hasTurn q (expressOf e) then s1.takeEntry q i e else s1

/-- Read the entry at HEAD: current, it is taken in its turn; stale, `onStale` tells what follows. A context or ring slot that fails
holds the queue (R414). -/
def State.readEntry (s : State) (q : Nat) (onStale : State → State) : State :=
  let s0 := s.ctxCheck q
  let i := s.qHead q
  let a := s.ringSlot q i
  if s0.qState q ≠ 1 then s0
  else
    match s0.ringAccess q a 128 with
    | (false, s1) => if s1.qState q = 1 then s1.setQState q 2 St.tierFault else s1
    | (true, s1) =>
      let s2 := (s1.settleFree a 128).touchRange a 128
      let e := s2.bytes a 128
      if s2.entryCurrent q i e then s2.serveEntry q i e else onStale s2

/-- R301: ENTRY_FETCH: the command processor reads the entry at HEAD. -/
def State.fetch (s : State) (q : Nat) : State :=
  if queueOk q && s.mayFetch q && !(s.queue q).stale then
    s.readEntry q fun s => s.modQueue q fun r => { r with stale := true, rereads := 0 }
  else s

/-- R302: ENTRY_REREAD: the stale entry is read again; after the eighth re-read ENR, the event and STATE 4 follow. -/
def State.reread (s : State) (q : Nat) : State :=
  if queueOk q && s.mayFetch q && (s.queue q).stale then
    s.readEntry q fun s =>
      let n := (s.queue q).rereads + 1
      if n < 8 then s.modQueue q fun r => { r with rereads := n }
      else
        (((s.modQueue q fun r => { r with stale := false, rereads := 0, enr := true }).event 0x02 q).count 0x010 q 1).setQState
          q 4 0
  else s

/-! ### Completion (R297, R308, R332) -/

/-- R297: the 16 bytes of a completion record. -/
def State.completionRecord (s : State) (q : Nat) (c : Cmd) : Bytes :=
  leBytes 4 (s.expectedSeq q c.idx).toNat ++ leBytes 1 c.status ++ leBytes 1 (c.unitKind * 16 + c.unitInst % 16) ++
    leBytes 4 (stepTag c.entry).toNat ++ leBytes 6 c.detail

/-- R332: the progress word, when PROG_ADDR is nonzero. -/
def State.progressWord (s : State) (q : Nat) : State :=
  let a := s.progAddr q
  if a = 0 ∨ s.cartFails (cartOf a) then s
  else s.agentWrite (rangeOf a (leBytes 4 (s.qHead q).toNat ++ leBytes 4 (s.qCqTail q).toNat))

/-- R308: the oldest unposted command may post: it has ended, is not held, and the completion ring has a slot. -/
def State.mayPost (s : State) (q : Nat) (c : Cmd) : Bool :=
  c.phase = .ended && !c.hold && !c.frozen && (c.idx - s.qCqHead q).toNat < s.cqSize q

/-- R308, R332: post one completion: its record (not into a LOST cart, R414), CQ_TAIL, the progress word. An uncorrectable word of the
context holds the queue, and its completions post on (R328). -/
def State.post (s : State) (q : Nat) : State :=
  match (s.queue q).cmds with
  | [] => s
  | c :: rest =>
    if queueOk q && s.qOpen q && s.mayPost q c then
      let a := s.cqSlot q c.idx
      let acc := (s.ctxCheck q).ringAccess q a 16
      let s1 := if acc.1 then acc.2.agentWrite (rangeOf a (s.completionRecord q c)) else acc.2
      let s2 := (s1.modQueue q fun r => { r with cmds := rest }).setCqTail q (c.idx + 1)
      (s2.progressWord q).evalFlags.closeStep q
    else s

end Sys2Proof.Machine
end

