-- ==== Sys2Proof/Machine/Flow.lean ====
section
/-!
DEFINITION. NOP, FENCE, FLAG_WAIT, its timeout and the quiescence detector (R306, R311, R316, R329 to R331).
-/
namespace Sys2Proof.Machine

/-! ### Deadlock (R330, R331) -/

/-- Two events of one instant, in an order that no rule gives (R517). -/
def State.eventPair (s : State) (c1 i1 c2 i2 : Nat) : State :=
  let r := s.draw Config.eventOrder
  if r.1 then (r.2.event c1 i1).event c2 i2 else (r.2.event c2 i2).event c1 i1

/-- R412: a detection that raises a further event at the same instant. -/
def State.detectWith (s : State) (det status : Nat) (q : Option Nat) (inst : Nat) (inj : Bool) (code cinst : Nat) : State :=
  let v := b2n inj <<< 63 + det <<< 48 + status <<< 40 + (q.getD 0xFFFFF) <<< 20 + inst % 2 ^ 20
  (s.setReg .glbErrLast v).eventPair 0x03 (det <<< 20 + inst % 2 ^ 20) code cinst

/-- R331: an entry of the deadlock record: queue, kind, sequence number, flag address. -/
def deadlockEntry (q kind : Nat) (seq : W32) (addr : Nat) : Bytes :=
  leBytes 4 (q + kind <<< 24) ++ leBytes 4 seq.toNat ++ leBytes 8 addr

/-- Insertion of a wait-set member in ascending order of queue. -/
def insertByQueue (x : Nat × Nat × W32 × Nat) : List (Nat × Nat × W32 × Nat) → List (Nat × Nat × W32 × Nat)
  | [] => [x]
  | y :: ys => if x.1 < y.1 then x :: y :: ys else if x.1 = y.1 then y :: ys else y :: insertByQueue x ys

/-- R330, R331: freeze the wait set (queue, kind, sequence number, flag address), write the deadlock record, set DETECTED and
COUNT, raise the event. -/
def State.deadlock (s : State) (wait : List (Nat × Nat × W32 × Nat)) (q : Option Nat) (inj : Bool) : State :=
  let ws := wait.foldl (fun l x => insertByQueue x l) []
  let n := min 255 ws.length
  let s1 := ws.foldl (fun s w =>
    let q := w.1
    (s.modQueue q fun r =>
      { r with cmds := r.cmds.map fun c =>
          if s.expectedSeq q c.idx = w.2.2.1 then { c with frozen := true } else c }).setQState q 3 St.deadlock) s
  let rec_ := leBytes 4 n ++ leBytes 4 0 ++ leBytes 8 (s.fld TelIntervalCnt.count) ++
    (ws.take 255).flatMap fun w => deadlockEntry w.1 w.2.1 w.2.2.1 w.2.2.2
  let s2 := (s1.clearRaw (areaBase 9) 4096).setRaw (areaBase 9) rec_
  let s3 := (s2.setFld QdirDlStatus.detected 1).setFld QdirDlStatus.count n
  s3.detectWith 0x10 St.deadlock q 0 inj 0x07 n

/-! ### Flag waits -/

/-- REMOTE of a FLAG_WAIT entry. -/
def waitRemote (e : Bytes) : Bool := bitOf (leField e 33 1) 0
/-- TIMEOUT_US of a FLAG_WAIT entry. -/
def waitTimeout (e : Bytes) : Nat := leField e 36 4

/-- R314: the checks of a flag address on this device. -/
def State.flagAddrErr (s : State) (a : Nat) : List Err :=
  if a % 8 ≠ 0 || s.isHome a || s.grade.zone a = .reserved || s.grade.zone a = .scratch || s.grade.zone a = .control then
    [descErr 0x55 16] else []

/-- R314, R316: the checks of a FLAG_WAIT. -/
def State.flagWaitErrs (s : State) (c : Cmd) : List Err :=
  let e := c.entry
  s.flagAddrErr (leField e 16 8) ++ operandErr (2 < leField e 32 1) 32 ++
    operandErr (if waitRemote e then 1000000 < waitTimeout e else waitTimeout e ≠ 0) 36

/-- NOP: completes with OK (R311). -/
def State.doNop (s : State) (q : Nat) : State :=
  if queueOk q then s.runCmd q (isOp 0x01) plainRanges (fun _ _ => []) (fun s c => s.endOk q c.idx) else s

/-- A FLAG_SET of queue `q` to another device is not acknowledged yet (R306, R315). -/
def State.flagsOut (s : State) (q : Nat) : Bool :=
  s.requests.any fun r => match r.2.owner with
    | .flagSet q' _ => q' = q
    | _ => false

/-- FENCE: after every earlier command has completed and every write of theirs has been acknowledged (R306). -/
def State.doFence (s : State) (q : Nat) : State :=
  if queueOk q && !s.flagsOut q then
    s.runCmd q (isOp 0x02) plainRanges (fun _ _ => [])
      (fun s c => (s.settle fun p => p.q = q).endOk q c.idx)
  else s

/-- FLAG_WAIT: completes with OK when its comparison holds, now or later (R316); on a closing queue an unsatisfied one
completes with QUEUE_HELD (R293). -/
def State.doFlagWait (s : State) (q : Nat) : State :=
  if queueOk q then
    (s.runRow q { want := isOp 0x04, ranges := plainRanges, regions := noRanges, errs := fun s c => s.flagWaitErrs c,
                  body := fun s _ => s }).closeStep q
  else s

/-- FLAG_WAIT_TIMEOUT: the oldest REMOTE wait of the queue with a timeout that has not held completes with DEADLOCK, cause
0x5A, and the queue is held (R316). -/
def State.doFlagWaitTimeout (s : State) (q : Nat) : State :=
  match (s.queue q).cmds.find? (·.isWait) with
  | none => s
  | some c =>
    if queueOk q && waitRemote c.entry && waitTimeout c.entry ≠ 0 && !s.waitHolds c.entry then
      let f := (s.flagWord (leField c.entry 16 8)).toNat % 2 ^ 32
      (s.endCmd q c.idx St.deadlock 6 (s.qCp q) (0x5A <<< 40 + f)).setQState q 2 St.deadlock
    else s

/-- R329, first condition of the flag wait: the oldest uncompleted command of the queue is a FLAG_WAIT without REMOTE whose
comparison does not hold. -/
def State.stuckWait (s : State) (q : Nat) : Option Cmd :=
  match (s.queue q).cmds.head? with
  | some c => if s.qState q = 1 && c.isWait && !c.frozen && !waitRemote c.entry && !s.waitHolds c.entry then some c else none
  | none => none

/-- R329, second condition: a command that does not prevent the detection. -/
def State.idleCmd (s : State) (q : Nat) (c : Cmd) : Bool :=
  c.phase ≠ .running || c.frozen || (c.isWait && waitRemote c.entry) || (s.stuckWait q).map (·.idx) = some c.idx ||
    (opcodeOf c.entry = 0x21 && (match s.seg with | some r => r.stuck && r.q = q && r.idx = c.idx | none => false))

/-- R130 QUIESCENT: the conditions of R126 other than the first two hold: no token is under way, no credit is on its way back,
and every token without references has been released. A handshake is whole in one row, so none is ever in progress. -/
def State.quiescent (s : State) : Bool :=
  s.routes.all (fun r => r.2.inflight.isEmpty && r.2.returning = 0) && s.live.all (fun t => t.2.refs ≠ 0)

/-- R329, fourth condition: a write from a front port or a Laulo port to the flag of a waiting FLAG_WAIT has arrived and is not performed
yet; one of a front port is performed as it arrives. -/
def State.flagArriving (s : State) : Bool :=
  s.inbox.any fun p => p.1 < 8 && (p.2.kind = 0x01 || p.2.kind = 0x05) && s.queueNums.any fun q => (s.queue q).cmds.any fun c =>
    c.isWait && !s.waitHolds c.entry &&
      rangesMeet p.2.addr (if p.2.kind = 0x05 then 8 else p.2.pay.length) (leField c.entry 16 8) 8

/-- R330: the wait set of a flag wait (queue, kind, sequence number, flag address). -/
def State.waitSet (s : State) : List (Nat × Nat × W32 × Nat) :=
  s.queueNums.filterMap fun q => (s.stuckWait q).map fun c => (q, 0, s.expectedSeq q c.idx, leField c.entry 16 8)

/-- R329: the four conditions of the flag wait. -/
def State.flagStuck (s : State) : Bool :=
  !s.waitSet.isEmpty && (s.queueNums.all fun q => (s.queue q).cmds.all fun c => s.idleCmd q c) &&
    (s.quiescent || (match s.seg with | some r => r.stuck | none => false)) && !s.flagArriving

/-- FLAG_WAIT_QUIESCENCE: the four conditions of the flag wait have held for 10 µs (R329); an
injection forces the check whether or not a queue waits (R411). -/
def State.doQuiescence (s : State) : State :=
  let ws := s.waitSet
  let f := s.fire 0x10 0 fun _ => true
  if f.1.isSome then f.2.deadlock ws (ws.head?.map (·.1)) true
  else if s.flagStuck then s.deadlock ws (ws.head?.map (·.1)) false
  else f.2

/-- NOP (R311). -/
def execNop (q : Nat) (s : State) : Outcome := .next (s.doNop q)
/-- FENCE (R306). -/
def execFence (q : Nat) (s : State) : Outcome := .next (s.doFence q)
/-- FLAG_WAIT (R316). -/
def execFlagWait (q : Nat) (s : State) : Outcome := .next (s.doFlagWait q)
/-- FLAG_WAIT_TIMEOUT (R316). -/
def execFlagWaitTimeout (q : Nat) (s : State) : Outcome := .next (s.doFlagWaitTimeout q)
/-- FLAG_WAIT_QUIESCENCE (R329). -/
def execFlagWaitQuiescence (s : State) : Outcome := .next s.doQuiescence

end Sys2Proof.Machine
end

