-- ==== Sys2Proof/Machine/Hash.lean ====
section
/-!
DEFINITION. The two published functions that the manual names and that give values a rule reads: SipHash-2-4 (R167) and
SHA-384 (R22, R91, R495, R499).
-/
namespace Sys2Proof.Machine

/-! ### SipHash-2-4 -/

/-- The four words of SipHash. -/
structure Sip where
  v0 : W64
  v1 : W64
  v2 : W64
  v3 : W64
  deriving DecidableEq, Repr

/-- One SipRound. -/
def Sip.round (s : Sip) : Sip :=
  let a0 := s.v0 + s.v1
  let a1 := (s.v1.rotateLeft 13) ^^^ a0
  let a0r := a0.rotateLeft 32
  let a2 := s.v2 + s.v3
  let a3 := (s.v3.rotateLeft 16) ^^^ a2
  let b0 := a0r + a3
  let b3 := (a3.rotateLeft 21) ^^^ b0
  let b2 := a2 + a1
  let b1 := (a1.rotateLeft 17) ^^^ b2
  { v0 := b0, v1 := b1, v2 := b2.rotateLeft 32, v3 := b3 }

/-- Absorb one message word with two rounds. -/
def Sip.absorb (s : Sip) (m : W64) : Sip :=
  let t := ({ s with v3 := s.v3 ^^^ m } : Sip).round.round
  { t with v0 := t.v0 ^^^ m }

/-- R167: SipHash-2-4 of a message of whole 64-bit words under a 128-bit key. -/
def sipHash (k0 k1 : W64) (msg : List W64) : W64 :=
  let s0 : Sip := { v0 := k0 ^^^ 0x736f6d6570736575, v1 := k1 ^^^ 0x646f72616e646f6d,
                    v2 := k0 ^^^ 0x6c7967656e657261, v3 := k1 ^^^ 0x7465646279746573 }
  let s1 := msg.foldl Sip.absorb s0
  let s2 := s1.absorb (BitVec.ofNat 64 (msg.length * 8 % 256) <<< 56)
  let s3 := ({ s2 with v2 := s2.v2 ^^^ 0xff } : Sip).round.round.round.round
  s3.v0 ^^^ s3.v1 ^^^ s3.v2 ^^^ s3.v3

/-! ### SHA-384 -/

/-- The root of degree `k` of `n`, rounded down, found bit by bit from bit `b - 1` downwards, `r` holding the bits found above. -/
def rootBits (k n : Nat) : Nat → Nat → Nat
  | 0, r => r
  | b + 1, r => rootBits k n b (if (r + 2 ^ b) ^ k ≤ n then r + 2 ^ b else r)

/-- The first 64 bits of the fraction of the root of degree `k` of a number below 512. -/
def rootFraction (k p : Nat) : W64 := BitVec.ofNat 64 (rootBits k (p * 2 ^ (64 * k)) 70 0)

/-- The primes below 410: eighty of them, each without a divisor from 2 to 20 but itself. -/
def smallPrimes : List Nat :=
  ((List.range 408).map (· + 2)).filter fun n => (List.range 19).all fun d => n % (d + 2) ≠ 0 || n = d + 2

/-- The eighty round constants of SHA-384 (FIPS 180-4): the fractions of the cube roots of the first eighty primes. -/
def shaK : List W64 := smallPrimes.map (rootFraction 3)

/-- The initial hash value of SHA-384 (FIPS 180-4): the fractions of the square roots of the ninth to the sixteenth prime. -/
def shaInit : List W64 := ((smallPrimes.drop 8).take 8).map (rootFraction 2)

/-- A big-endian 64-bit word of eight bytes. -/
def beWord (bs : Bytes) : W64 := BitVec.ofNat 64 (bs.foldl (fun n b => n * 256 + b.toNat) 0)

/-- Big-endian bytes of a word. -/
def beBytes (len n : Nat) : Bytes := (leBytes len n).reverse

/-- Split a byte string into pieces of `k` bytes, at most `n` of them. -/
def pieces (k : Nat) : Nat → Bytes → List Bytes
  | 0, _ => []
  | n + 1, bs => bs.take k :: pieces k n (bs.drop k)

/-- The message schedule: the last sixteen words, newest first, extended `n` times; answers all words in order. -/
def shaSchedule : Nat → List W64 → List W64
  | 0, ws => ws.reverse
  | n + 1, ws =>
    let w (i : Nat) : W64 := ws.getD i 0
    let s0 := ((w 14).rotateRight 1) ^^^ ((w 14).rotateRight 8) ^^^ ((w 14) >>> 7)
    let s1 := ((w 1).rotateRight 19) ^^^ ((w 1).rotateRight 61) ^^^ ((w 1) >>> 6)
    shaSchedule n ((w 15 + s0 + w 6 + s1) :: ws)

/-- One round on the eight working words. -/
def shaRound (h : List W64) (kw : W64 × W64) : List W64 :=
  match h with
  | [a, b, c, d, e, f, g, x] =>
    let s1 := (e.rotateRight 14) ^^^ (e.rotateRight 18) ^^^ (e.rotateRight 41)
    let ch := (e &&& f) ^^^ ((~~~e) &&& g)
    let t1 := x + s1 + ch + kw.1 + kw.2
    let s0 := (a.rotateRight 28) ^^^ (a.rotateRight 34) ^^^ (a.rotateRight 39)
    let mj := (a &&& b) ^^^ (a &&& c) ^^^ (b &&& c)
    [t1 + (s0 + mj), a, b, c, d + t1, e, f, g]
  | l => l

/-- Compress one block of 128 bytes. -/
def shaBlock (h : List W64) (block : Bytes) : List W64 :=
  let ws := shaSchedule 64 ((pieces 8 16 block).map beWord).reverse
  let h' := (shaK.zip ws).foldl shaRound h
  List.zipWith (· + ·) h h'

/-- SHA-384 of a byte string: 48 bytes. -/
def sha384 (msg : Bytes) : Bytes :=
  let n := msg.length
  let padLen := (128 - (n + 17) % 128) % 128
  let padded := msg ++ [0x80] ++ List.replicate padLen 0 ++ beBytes 16 (8 * n)
  let h := (pieces 128 (padded.length / 128) padded).foldl shaBlock shaInit
  (h.take 6).flatMap fun w => beBytes 8 w.toNat

end Sys2Proof.Machine
end

