-- ==== Sys2Proof/Machine/Laulo.lean ====
section
/-!
DEFINITION. Laulo packets, routes and requests (14_laulo_links_and_collectives.md): the header flit, what a device sends and
where it leaves, the requests that wait for answers, and FLAG_SET. The rows of the links stand in LauloRows.lean.
-/
namespace Sys2Proof.Machine

/-! ### CRC-32 (R368, R388) -/

/-- One bit of the IEEE 802.3 CRC, least significant bit first. -/
def crcBit (c : Nat) : Nat := if c % 2 = 1 then (c / 2) ^^^ 0xEDB88320 else c / 2

/-- CRC-32 with the IEEE 802.3 polynomial over a byte string. -/
def crc32 (bs : Bytes) : Nat :=
  (bs.foldl (fun c b => (List.range 8).foldl (fun c _ => crcBit c) (c ^^^ b.toNat)) 0xFFFFFFFF) ^^^ 0xFFFFFFFF

/-! ### Packets (R371 to R373) -/

namespace Pk
/-- Packet kinds (R373). -/
def write : Nat := 0x01
def writeAck : Nat := 0x02
def readReq : Nat := 0x03
def readResp : Nat := 0x04
def flag : Nat := 0x05
def flagAck : Nat := 0x06
def stream : Nat := 0x07
def streamCredit : Nat := 0x08
def collData : Nat := 0x09
def collAbort : Nat := 0x0A
def lost : Nat := 0x0B
def mgmt : Nat := 0x0C
/-- Classes (R368). -/
def classX : Nat := 1
def classC : Nat := 2
def classB : Nat := 3
def classM : Nat := 4
end Pk

/-- Bytes cut into whole 64-byte flits, the last filled with zeros. -/
def flitsOf (bs : Bytes) : List Bytes := (List.range (ceilDiv bs.length 64)).map fun i => sliceBytes bs (64 * i) 64

/-- R372: the header flit. -/
def Packet.header (p : Packet) : Bytes :=
  leBytes 1 p.kind ++ leBytes 1 p.hops ++ leBytes 2 (ceilDiv p.pay.length 64) ++ leBytes 4 p.dst ++ leBytes 4 p.src ++
    leBytes 4 p.step ++ leBytes 2 p.domain ++ leBytes 2 0 ++ leBytes 4 p.reqId ++ leBytes 8 p.addr ++ sliceBytes p.arg 0 32

/-- The flits of a packet, the first marked. -/
def Packet.flits (p : Packet) : List (Bool × Bytes) := (true, p.header) :: (flitsOf p.pay).map fun f => (false, f)

/-- R372: the packet of a header flit and its payload flits. -/
def parsePacket (cls : Nat) (h : Bytes) (pay : List Bytes) : Packet :=
  { cls, kind := leField h 0 1, hops := leField h 1 1, dst := leField h 4 4 % 2 ^ 24, src := leField h 8 4 % 2 ^ 24,
    step := leField h 12 4, domain := leField h 16 2, reqId := leField h 20 4, addr := leField h 24 8,
    arg := sliceBytes h 32 32, pay := pay.flatMap id }

/-- Payload flits of a packet. -/
def Packet.payFlits (p : Packet) : Nat := ceilDiv p.pay.length 64

/-- R373: the device discards a packet of a reserved kind, and one of class X with more than four payload flits. -/
def Packet.reserved (p : Packet) : Bool := p.kind = 0 || 0x0C < p.kind || (p.cls = Pk.classX && 4 < p.payFlits)

/-- ARG of an answer (log entry 30): status, then 6 bytes of detail. -/
def answerArg (status detail : Nat) : Bytes := leBytes 1 status ++ leBytes 6 detail

/-! ### Ports and routes (R374 to R379) -/

/-- A Laulo port's record. -/
def State.lport (s : State) (k : Nat) : LPort := Sparse.get {} s.lports k
/-- Replace it. -/
def State.setLport (s : State) (k : Nat) (p : LPort) : State := { s with lports := Sparse.set {} s.lports k p }
/-- Change it. -/
def State.modLport (s : State) (k : Nat) (f : LPort → LPort) : State := s.setLport k (f (s.lport k))

/-- The port is present and UP (R401). -/
def State.lauUp (s : State) (k : Nat) : Bool := k < s.grade.laulo && s.fld (LauPortStatus.state k) = 2

/-- No position, or the peer of the link (R377). -/
def noPos : Nat := 0xFFFFFF

/-- This device's position (R377). -/
def State.pos (s : State) : Nat := s.fld LauPosition.pos

/-- R378: the first valid route entry of a destination. -/
def State.routeEntry (s : State) (dst : Nat) : Option Nat :=
  (List.range 64).find? fun i => s.flag (LauRoute.valid i) && s.fld (LauRoute.lo i) ≤ dst && dst ≤ s.fld (LauRoute.hi i)

/-- R378: the port of an entry. -/
def State.routePort (s : State) (i : Nat) : Nat :=
  if s.flag (LauRoute.useAlt i) then s.fld (LauRoute.alt i) else s.fld (LauRoute.pri i)

/-- R378: the port at which a packet for a destination leaves; 15 when no entry matches. -/
def State.egress (s : State) (dst : Nat) : Nat := ((s.routeEntry dst).map s.routePort).getD 15

/-- Queue a packet's flits for transmission on a port (R371). -/
def State.sendOn (s : State) (k : Nat) (p : Packet) : State :=
  s.modLport k fun l =>
    { l with txq := Sparse.set [] l.txq p.cls (Sparse.get [] l.txq p.cls ++ p.flits) }

/-- R379: a discard at port `k`: HOP_DROP and counter 0x018. -/
def State.hopDrop (s : State) (k : Nat) : State :=
  if k < s.grade.laulo then (s.setFld (LauPortStatus.hopDrop k) 1).count 0x018 k 1 else s

/-- R379, R383: a packet of a stream for the device at the other end of port `k`: a port that is not UP discards it. Answers whether it was
sent; the discard is counted. -/
def State.sendPeer (s : State) (k : Nat) (p : Packet) : Bool × State :=
  if s.lauUp k then (true, s.sendOn k p) else (false, s.hopDrop k)

/-- R378, R379: send a packet that this device originates: its own position takes it in at once (port 15); otherwise it leaves
at its route's port; answers whether it found a port that is UP. -/
def State.originate (s : State) (q : Option Nat) (p : Packet) : Bool × State :=
  let p1 := { p with src := s.pos, hops := s.fld LauCtrl.hopInit }
  if s.pos ≠ noPos && p.dst = s.pos then (true, { s with inbox := s.inbox ++ [(15, p1)] })
  else
    let k := s.egress p.dst
    let r := s.fire 0x0E k fun _ => true
    match r.1 with
    | some _ => (false, (r.2.detect 0x0E St.linkLost q k true).hopDrop k)
    | none => if r.2.lauUp k then (true, r.2.sendOn k p1)
              else (false, (r.2.detect 0x0E St.linkLost q (k % 16) false).hopDrop k)

/-- R381: the detail of LINK_LOST. -/
def linkLostDetail (dst port : Nat) : Nat := dst <<< 24 + port

/-- R381: issue a request: it takes the next REQ_ID and waits for its answer; answers whether it was sent. -/
def State.request (s : State) (q : Option Nat) (p : Packet) (owner : ReqOwner) : Bool × State :=
  let id := s.nextReq
  let r := s.originate q { p with reqId := id }
  if r.1 then
    (true, { r.2 with nextReq := (id + 1) % 2 ^ 32,
                      requests := Sparse.insert r.2.requests id { kind := p.kind, dst := p.dst, port := s.egress p.dst, owner } })
  else r

/-- R382: answer a request on the port it came on, in its class. -/
def State.answer (s : State) (port : Nat) (rq : Packet) (kind status detail : Nat) (pay : Bytes) : State :=
  let p : Packet := { cls := rq.cls, kind, hops := 0, dst := rq.src, src := 0, step := rq.step, domain := rq.domain,
                      reqId := rq.reqId, addr := rq.addr, arg := answerArg status detail, pay }
  if rq.src = noPos && port < s.grade.laulo then s.sendOn port { p with src := s.pos, hops := s.fld LauCtrl.hopInit }
  else (s.originate none p).2

/-! ### FLAG_SET (R314, R315) -/

/-- TARGET of a FLAG_SET entry. -/
def flagTarget (e : Bytes) : Nat := leField e 36 4 % 2 ^ 24

/-- The flag lies on this device. -/
def State.flagLocal (s : State) (e : Bytes) : Bool := flagTarget e = noPos || flagTarget e = s.pos

/-- R315: the write or add of a flag, as one indivisible operation. -/
def State.setFlagWord (s : State) (a op : Nat) (v : W64) : State :=
  let s1 := s.settleRange a 8
  let new := if op = 0 then v else s1.flagWord a + v
  s1.agentWrite (rangeOf a (leBytes 8 new.toNat))

/-- R314: the checks of a FLAG_SET. A TARGET that names this device's own position is checked as 0xFF_FFFF is. -/
def State.flagSetErrs (s : State) (q : Nat) (c : Cmd) : List Err :=
  let e := c.entry
  operandErr (1 < leField e 32 1) 32 ++
    (if s.flagLocal e then
      s.flagAddrErr (leField e 16 8) ++
        (if flagTarget e = noPos then [] else s.rangeErr (s.qDomain q) ⟨leField e 16 8, 8, false⟩)
     else [])

/-- R315: run a FLAG_SET. A remote one with VISIBLE 1 waits for its acknowledgement; one that finds no route ends with
LINK_LOST (R381). -/
def State.runFlagSet (s : State) (q : Nat) (c : Cmd) : State :=
  let e := c.entry
  let v := BitVec.ofNat 64 (leField e 24 8)
  if s.flagLocal e then (s.setFlagWord (leField e 16 8) (leField e 32 1) v).endOk q c.idx
  else
    let p : Packet := { cls := Pk.classX, kind := Pk.flag, hops := 0, dst := flagTarget e, src := 0,
                        step := (stepTag e).toNat, domain := s.qDomain q, addr := leField e 16 8,
                        arg := leBytes 8 (leField e 24 8) ++ leBytes 1 (leField e 32 1) }
    let r := s.request (some q) p (.flagSet q c.idx)
    if r.1 then (if visibleOf e then r.2 else r.2.endOk q c.idx)
    else (r.2.mark St.linkLost 0x0E (some (q, c.idx)) false (r.2.flag GlbErrLast.injected)).endCmd q c.idx St.linkLost 6 (s.qCp q)
           (linkLostDetail p.dst (s.egress p.dst))

/-- FLAG_SET (R315). -/
def State.doFlagSet (s : State) (q : Nat) : State :=
  if queueOk q then
    s.runRow q { want := isOp 0x03, ranges := plainRanges, regions := noRanges, errs := fun s c => s.flagSetErrs q c,
                 body := fun s c => s.runFlagSet q c }
  else s

/-- FLAG_SET (R315). -/
def execFlagSet (q : Nat) (s : State) : Outcome := .next (s.doFlagSet q)

end Sys2Proof.Machine
end

