-- ==== Sys2Proof/Machine/Snapshots.lean ====
section
/-!
DEFINITION. Snapshots (16_snapshots_and_lizards.md): arms, generations, the update and carriage taps, the sweep at the
commit point, the end of a generation, and the restore. The rows that steps and updates share with other chapters call these.
-/
namespace Sys2Proof.Machine

/-! ### Generations (R429 to R431, R446) -/

/-- A generation slot. -/
def State.gen (s : State) (g : Nat) : SnapGen := Sparse.get {} s.gens g
/-- Replace it. -/
def State.setGen (s : State) (g : Nat) (x : SnapGen) : State := { s with gens := Sparse.set {} s.gens g x }

/-- The generation that is open (filling). -/
def State.openGen (s : State) : Option Nat := [0, 1].find? fun g => (s.gen g).state = 1

/-- The newest complete generation among those a test accepts. -/
def State.newestGen (s : State) (ok : SnapGen → Bool) : Option Nat :=
  let c := fun g => (s.gen g).state = 2 && ok (s.gen g)
  if c 0 && c 1 then some (if serialAfter (s.gen 1).step (s.gen 0).step then 1 else 0)
  else if c 0 then some 0 else if c 1 then some 1 else none

/-- R446: bring HBM.SNAP_STATUS up to date. -/
def State.snapRefresh (s : State) : State :=
  let n := s.newestGen fun _ => true
  let s1 := (s.setFld HbmSnapStatus.state0 (s.gen 0).state).setFld HbmSnapStatus.state1 (s.gen 1).state
  let s2 := s1.setFld HbmSnapStatus.armed (b2n s.snapArm.isSome)
  (s2.setFld HbmSnapStatus.newest (n.getD 0)).setFld HbmSnapStatus.newestStep
    (match n with | some g => (s.gen g).step.toNat | none => 0)

/-- R429, R436: the open generation has completed or failed: a later schedule takes effect, a waiting SNAP_DISARM ends the
arm and completes. -/
def State.genEnded (s : State) : State :=
  let s1 := match s.snapNext with
    | some a => { s with snapArm := some a, snapNext := none }
    | none => s
  let s2 := match s.snapDisarm with
    | some (q, i) => ({ s1 with snapDisarm := none, snapArm := none, snapNext := none }).endOk q i
    | none => s1
  (s2.setFld HbmSnapStatus.sweeping 0).snapRefresh

/-- R435: the open generation fails; it opens again at the next STEP_BEGIN. -/
def State.snapFail (s : State) : State :=
  match s.openGen with
  | none => s
  | some g =>
    let s1 := s.setGen g { s.gen g with state := 3, tapped := [], dropped := [], waiting := [], committed := false, gov := 0 }
    (({ s1 with snapArm := s1.snapArm.map fun a => { a with reopen := true } } : State).setFld HbmSnapStatus.fillFail 1).genEnded

/-- R429: a target on this device. -/
def State.targetLocal (s : State) (t : SnapTarget) : Bool := t.kind ≠ 0 || t.pos = noPos || t.pos = s.pos
/-- R429, R535: base of a generation's region. -/
def SnapTarget.at (t : SnapTarget) (g : Nat) : Nat := if t.kind = 1 then areaBase (3 + g) else t.base

/-- R436: move the carts of a range of a KIND 2 target to the lower tier before their write. -/
def State.lowerRange (s : State) (a len : Nat) : State := (cartsOf a len).foldl (fun s c => s.moveToCxl (s.headOf c)) s

/-- R273, R410, R435: an access that a copy makes to [a, a + len) of this device: whether it succeeds. An error is detected, but marks no
step and holds no queue. -/
def State.copyAccess (s : State) (a len : Nat) : Bool × State :=
  let x := (cartsOf a len).foldl (fun (acc : Bool × State) k =>
    let m := acc.2.cartMeets .nobody k a len
    match m.1 with
    | some (st, det, inst, inj) => (false, m.2.detect det st none inst inj)
    | none => (acc.1, m.2)) (true, s)
  let y := x.2.reservedMeets .nobody a len
  (s.grade.scratchParts a len).foldl (fun (acc : Bool × State) part =>
    let n := (part.1 - spBase) / 2097152
    let m := acc.2.scratchMeets part.1 part.2
    m.1.foldl (fun acc inj => (false, acc.2.detect 0x01 St.uncorrectable none n inj)) (acc.1, m.2)) (x.1 && !y.1, y.2)

/-- R435: write bytes into a region of this device: a KIND 0 or 2 target lies in data carts of the arming queue's domain. -/
def State.putLocal (s : State) (a : SnapArm) (t : SnapTarget) (adr : Nat) (bs : Bytes) : State :=
  if t.kind ≠ 1 && !s.dataRange a.domain adr bs.length then s.snapFail
  else
    let s1 := if t.kind = 2 then s.lowerRange adr bs.length else s
    let m := s1.copyAccess adr bs.length
    if m.1 then (m.2.performRange (rangeOf adr bs)).dirty adr bs.length else m.2.snapFail

/-- R435: copy bytes into the open generation's region: on this device at once, to a peer as WRITE packets of at most 256
flits (class B, the domain of the arming queue). -/
def State.snapPut (s : State) (g off : Nat) (bs : Bytes) : State :=
  match s.snapArm with
  | none => s
  | some a =>
    let t := a.targets.getD g ⟨noPos, 1, 0⟩
    let adr := t.at g + off
    if (s.gen g).state ≠ 1 || bs.isEmpty then s
    else if s.targetLocal t then s.putLocal a t adr bs
    else
      (List.range (ceilDiv bs.length 16384)).foldl (fun s i =>
        if (s.gen g).state ≠ 1 then s
        else
          let p : Packet := { cls := Pk.classB, kind := Pk.write, hops := 0, dst := t.pos, src := 0,
                              step := (s.gen g).step.toNat, domain := a.domain, addr := adr + 16384 * i,
                              pay := (bs.drop (16384 * i)).take 16384 }
          let r := s.request none p .tap
          if r.1 then r.2.setGen g { r.2.gen g with waiting := (r.2.gen g).waiting ++ [s.nextReq] } else r.2.snapFail) s

/-- R431, R435: the write `id` of a generation to a peer has been performed. -/
def State.tapAcked (s : State) (id : Nat) : State :=
  [0, 1].foldl (fun s g => s.setGen g { s.gen g with waiting := (s.gen g).waiting.filter (· ≠ id) }) s

/-- R435: the write `id` of a generation to a peer has failed: the open generation fails when the write is its own; one whose last
header is lost keeps STATE 1 at the holder, so it has failed too (log entry 31). -/
def State.tapFailed (s : State) (id : Nat) : State :=
  match [0, 1].find? fun g => (s.gen g).waiting.contains id with
  | none => s
  | some g =>
    if (s.gen g).state = 1 then s.snapFail
    else ((s.setGen g { s.gen g with state := 3, waiting := [] }).setFld HbmSnapStatus.fillFail 1).snapRefresh

/-- Governor entries in use (R176): the numbers of the entries whose TENSOR_ID is not 0. -/
def State.govUsed (s : State) : List Nat := indicesWhere 4096 fun i => s.rawNat (areaBase 5 + 128 * i) 4 ≠ 0

/-- R430: the header of a generation. -/
def State.snapHeader (s : State) (a : SnapArm) (g state gov : Nat) : Bytes :=
  leBytes 4 0x50414E53 ++ leBytes 4 (s.gen g).step.toNat ++ leBytes 1 state ++ leBytes 1 g ++ leBytes 1 a.entries.length ++
    leBytes 1 0 ++ leBytes 4 s.pos ++ leBytes 8 (Sparse.get 0 s.genKeys g : W64).toNat ++ leBytes 4 gov ++ leBytes 36 0

/-- R431: a generation of step `n` is due at its STEP_BEGIN. -/
def SnapArm.due (a : SnapArm) (n : W32) : Bool :=
  a.reopen || a.auto || n = a.first ||
    (a.period ≠ 0 && serialAtOrAfter n a.first && (n - a.first).toNat % a.period = 0)

/-- R431: the STEP_BEGIN of step `n` opens a generation when one is due and none is open. -/
def State.snapBegin (s : State) (n : W32) (key : W64) : State :=
  match s.snapArm with
  | none => s
  | some a =>
    if !a.due n then s
    else if s.openGen.isSome then s.setFld HbmSnapStatus.skipped 1
    else
      let g := if s.newestGen (fun x => serialAtOrAfter s.committed x.step) = some 0 then 1 else 0
      let a1 := { a with reopen := false, auto := false, first := if a.auto then n else a.first }
      let s1 := { s.setGen g { state := 1, step := n } with snapArm := some a1, genKeys := Sparse.set 0 s.genKeys g key }
      (s1.snapPut g 0 (s1.snapHeader a1 g 1 0 ++ sliceBytes a.dir 0 2048)).snapRefresh

/-! ### Taps (R432, R433) -/

/-- Offset of the copy of page `k` of an entry (R430). -/
def SnapEntry.copyAt (e : SnapEntry) (k : Nat) : Nat :=
  if k < e.rpages then e.offset + 50240 * k else e.offset + 50240 * e.rpages + 65536 * (k - e.rpages)
/-- Length of that copy. -/
def SnapEntry.copyLen (e : SnapEntry) (k : Nat) : Nat := if k < e.rpages then 50240 else 65536

/-- The directory entry that enrols a page. -/
def SnapArm.entryOf (a : SnapArm) (page : Nat) : Option SnapEntry :=
  a.entries.find? fun e => e.kind = 0 && e.addr / 131072 ≤ page && page < e.addr / 131072 + e.rpages + e.cpages

/-- R432: bytes of the flits of a class B queue that belong to tap copies of this device; `mine` tells whether the packet in progress is
one. -/
def tapBytes (own : Bytes → Bool) : Bool → List (Bool × Bytes) → Nat
  | _, [] => 0
  | mine, (first, d) :: rest =>
    let m := if first then own d else mine
    (if m then 64 else 0) + tapBytes own m rest

/-- R432: bytes of tap copies that wait in the buffer of the port die of port `k`. -/
def State.tapBuffered (s : State) (k : Nat) : Nat :=
  let ids := (s.gen 0).waiting ++ (s.gen 1).waiting
  let own := fun h => leField h 0 1 = Pk.write && leField h 8 4 = s.pos && ids.contains (leField h 20 4)
  (List.range 4).foldl (fun n i =>
    let l := s.lport (k / 4 * 4 + i)
    let before := (l.sent.flatMap fun f => f.flits.filter fun x => x.cls = Pk.classB && x.first).getLast?
    n + tapBytes own ((before.map fun x => own x.data).getD false) (Sparse.get [] l.txq Pk.classB)) 0

/-- R432: the update tap of the bytes [off, off + len) of a page's shadow; a page that does not fit in the buffer is left to
the sweep. -/
def State.tapShadow (s : State) (page off len : Nat) : State :=
  match s.snapArm, s.openGen with
  | some a, some g =>
    match a.entryOf page with
    | none => s
    | some e =>
      let x := s.gen g
      let k := page - e.addr / 131072
      let t := a.targets.getD g ⟨noPos, 1, 0⟩
      let lo := off / 64 * 64
      let hi := min (ceilDiv (off + len) 64 * 64) (e.copyLen k)
      if x.committed || x.dropped.contains page || hi ≤ lo then s
      else if !s.targetLocal t && 16777216 < s.tapBuffered (s.egress t.pos) + (hi - lo) then
        (s.setGen g { x with dropped := x.dropped ++ [page] }).satFld HbmSnapStatus.tapDrops 1
      else
        let s1 := s.setGen g { x with tapped := if x.tapped.contains page then x.tapped else x.tapped ++ [page] }
        s1.snapPut g (e.copyAt k + lo) (s.raw (slotPlace page (!s.committedSlot page) lo) (hi - lo))
  | _, _ => s

/-- R435: a copy reads ranges of this device: whether every read succeeds. -/
def State.copyReads (s : State) (rs : List (Nat × Nat)) : Bool × State :=
  rs.foldl (fun (acc : Bool × State) x =>
    let m := acc.2.copyAccess x.1 x.2
    (acc.1 && m.1, m.2)) (true, s)

/-- R433: the carriage tap of tile `t` of a tensor: its values and scales, read from the lines `reads`; a chain whose TILES differs from
the entry's fails the generation, and so does a read that fails (R435). -/
def State.tapTile (s : State) (tensor tiles t : Nat) (reads : List (Nat × Nat)) (vals scales : Bytes) : State :=
  match s.snapArm, s.openGen with
  | some a, some g =>
    match a.entries.find? fun e => e.kind = 1 && e.tensor = tensor with
    | none => s
    | some e =>
      if (s.gen g).committed then s
      else if e.rpages ≠ tiles then s.snapFail
      else if t < tiles then
        let m := s.copyReads reads
        if !m.1 then m.2.snapFail
        else
          let s1 := m.2.snapPut g (e.offset + t * vals.length) vals
          if scales.isEmpty then s1 else s1.snapPut g (e.offset + tiles * vals.length + 64 * t) scales
      else s
  | _, _ => s

/-! ### Commit and end (R431, R434) -/

/-- R434: with SWEEP_WAIT 1 the commit point of a later step waits for the sweep. -/
def State.sweepHolds (s : State) : Bool :=
  match s.snapArm, s.openGen with
  | some a, some g => a.sweepWait && (s.gen g).committed
  | _, _ => false

/-- R434, R435: the sweep reads the view of a page and copies it; a read that fails ends the generation. -/
def State.sweepPage (s : State) (g page off len : Nat) : State :=
  if (s.gen g).state ≠ 1 then s
  else
    let m := s.copyAccess (slotPlace page (s.committedSlot page) 0) len
    if m.1 then m.2.snapPut g off (m.2.raw (slotPlace page (m.2.committedSlot page) 0) len) else m.2.snapFail

/-- R434: at the commit point of step `n`: a generation that still sweeps fails; that of step `n` takes the governor entries
and copies every enrolled page that the step did not write or the tap dropped. -/
def State.snapCommit (s : State) (n : W32) : State :=
  match s.snapArm, s.openGen with
  | some a, some g =>
    if (s.gen g).committed then s.snapFail
    else if (s.gen g).step ≠ n then s
    else
      let used := s.govUsed
      let s0 := s.setGen g { s.gen g with gov := used.length }
      let s1 := s0.snapPut g 4096 (used.flatMap fun i => s.raw (areaBase 5 + 128 * i) 64)
      let s2 := s1.snapPut g 0 (s1.snapHeader a g 1 used.length)
      let x := s2.gen g
      let pages := a.entries.flatMap fun e =>
        if e.kind = 0 then (List.range (e.rpages + e.cpages)).map fun k => (e, k) else []
      let todo := pages.filter fun ek =>
        let p := ek.1.addr / 131072 + ek.2
        !x.tapped.contains p || x.dropped.contains p
      let s3 := todo.foldl (fun s ek =>
        let p := ek.1.addr / 131072 + ek.2
        s.sweepPage g p (ek.1.copyAt ek.2) (ek.1.copyLen ek.2)) s2
      if (s3.gen g).state = 1 then (s3.setGen g { s3.gen g with committed := true }).setFld HbmSnapStatus.sweeping 1 else s3
  | _, _ => s

/-- R435: step `n` is abandoned or its STEP_COMMIT completes with STEP_ABORTED: its generation fails. -/
def State.snapAbandon (s : State) : State :=
  match s.openGen with
  | some g => if (s.gen g).committed then s else s.snapFail
  | none => s

/-- GENERATION_COMPLETE: every copy has been performed after the commit point: STATE 2 is written and the generation is
complete (R431, R434); a one-shot arm has then done its work. -/
def State.doGenerationComplete (s : State) : State :=
  match s.snapArm, s.openGen with
  | some a, some g =>
    let x := s.gen g
    if x.committed && x.waiting.isEmpty then
      let s1 := s.snapPut g 0 (s.snapHeader a g 2 x.gov)
      if (s1.gen g).state ≠ 1 then s1
      else
        let s2 := s1.setGen g { state := 2, step := x.step, waiting := (s1.gen g).waiting }
        ({ s2 with snapArm := if a.period = 0 then none else s2.snapArm }).genEnded
    else s
  | _, _ => s

/-! ### SNAP_ARM and SNAP_DISARM (R429, R430, R436) -/

/-- R429: a directory entry of 32 bytes. -/
def parseSnapEntry (b : Bytes) : SnapEntry :=
  { tensor := leField b 0 4, kind := leField b 4 1, fmt := leField b 5 1, addr := leField b 8 8, rpages := leField b 16 4,
    cpages := leField b 20 4, offset := leField b 24 8 }

/-- R430: bytes of an entry's copies. -/
def SnapEntry.size (e : SnapEntry) : Nat :=
  if e.kind = 0 then 50240 * e.rpages + 65536 * e.cpages
  else e.rpages * tileBytes e.fmt + (if scaledFmt e.fmt then 64 * e.rpages else 0)

/-- R429: TARGET of a descriptor at a byte offset. -/
def parseTarget (d : Bytes) (o : Nat) : SnapTarget :=
  { pos := leField d o 4 % 2 ^ 24, kind := leField d (o + 3) 1, base := leField d (o + 8) 8 }

/-- R429: a TARGET out of range or with a nonzero reserved field. -/
def targetBad (d : Bytes) (o : Nat) : Bool :=
  let t := parseTarget d o
  2 < t.kind || leField d (o + 4) 4 ≠ 0 || t.base % 65536 ≠ 0 || 2 ^ 48 ≤ t.base || (t.kind = 1 && t.base ≠ 0)

/-- The arm of a descriptor and its directory. -/
def parseArm (d dir : Bytes) (domain : Nat) : SnapArm :=
  { first := BitVec.ofNat 32 (leField d 0 4), period := leField d 4 2, sweepWait := bitOf (leField d 6 1) 0,
    entries := (List.range (leField d 7 1)).map fun i => parseSnapEntry (sliceBytes dir (32 * i) 32), dir,
    targets := [parseTarget d 16, parseTarget d 32], length := leField d 48 8, domain }

/-- R429: an entry out of range. -/
def snapEntryBad (b : Bytes) : Bool :=
  let e := parseSnapEntry b
  1 < e.kind || leField b 6 2 ≠ 0 || e.offset % 64 ≠ 0 || e.offset < 266240 || e.tensor = 0 ||
    (if e.kind = 0 then e.fmt ≠ 0 || e.addr % 131072 ≠ 0 else !fmtOk e.fmt || e.cpages ≠ 0)

/-- Two entries' copies overlap. -/
def snapOverlap : List SnapEntry → Bool
  | [] => false
  | e :: es => es.any (fun f => rangesMeet e.offset e.size f.offset f.size) || snapOverlap es

/-- R429, R430, R535: the checks of an arm. -/
def armErrs (d dir : Bytes) : List Err :=
  let a := parseArm d dir 0
  let n := leField d 7 1
  let bad := n = 0 || 64 < n || leField d 6 1 / 2 ≠ 0 || leField d 8 8 % 64 ≠ 0 || targetBad d 16 || targetBad d 32 ||
    !zeroField d 56 8 || (List.range n).any (fun i => snapEntryBad (sliceBytes dir (32 * i) 32)) || snapOverlap a.entries
  let long := a.entries.any (fun e => a.length < e.offset + e.size) ||
    a.targets.zipIdx.any (fun t => t.1.kind = 1 && (areaOf (3 + t.2)).2 < a.length)
  (if bad then [descErr 0xA0 0] else []) ++ (if long then [descErr 0xA1 0] else [])

/-- The directory range that an arm descriptor names. -/
def dirRange (d : Bytes) : Range := ⟨leField d 8 8, 32 * leField d 7 1, false⟩

/-- R429: a SNAP_ARM declares its descriptor and its directory. -/
def State.armRanges (s : State) (e : Bytes) : List Range :=
  entryRanges e ++ [dirRange (s.bytes (leField e 16 8) 64)]

/-- R429: arm a schedule; with a generation open it takes effect once that has ended. -/
def State.arm (s : State) (a : SnapArm) : State :=
  (if s.openGen.isSome then { s with snapNext := some a } else { s with snapArm := some a }).snapRefresh

/-- R429, R430: the checks of a SNAP_ARM. -/
def State.armCmdErrs (s : State) (q : Nat) (e : Bytes) : List Err :=
  let d := s.bytes (leField e 16 8) 64
  operandErr (leField e 16 8 % 64 ≠ 0) 16 ++ s.rangeErr (s.qDomain q) (dirRange d) ++
    armErrs d (s.bytes (leField d 8 8) (32 * leField d 7 1))

/-- R429: what SNAP_ARM does once it has passed its checks. -/
def State.runSnapArm (s : State) (q : Nat) (c : Cmd) : State :=
  let d := s.bytes (leField c.entry 16 8) 64
  (s.arm (parseArm d (s.bytes (leField d 8 8) (32 * leField d 7 1)) (s.qDomain q))).endOk q c.idx

/-- SNAP_ARM (R429). -/
def State.doSnapArm (s : State) (q : Nat) : State :=
  if queueOk q then
    s.runCmd q (isOp 0xA0) (fun s e => s.armRanges e) (fun s c => s.armCmdErrs q c.entry) (fun s c => s.runSnapArm q c)
  else s

/-- R436: what SNAP_DISARM does once it has passed its checks. -/
def State.runSnapDisarm (s : State) (q : Nat) (c : Cmd) : State :=
  if s.openGen.isSome then { s with snapDisarm := some (q, c.idx) }
  else (({ s with snapArm := none, snapNext := none }).snapRefresh).endOk q c.idx

/-- SNAP_DISARM (R436): it ends the arm at once, or when the open generation has completed or failed. -/
def State.doSnapDisarm (s : State) (q : Nat) : State :=
  if queueOk q && s.snapDisarm.isNone then
    s.runCmd q (isOp 0xA1) noRanges (fun _ c => operandErr (leField c.entry 16 8 ≠ 0) 16)
      (fun s c => s.runSnapDisarm q c)
  else s

/-- R428: arm the preset descriptor as SNAP_ARM would, for domain 0, opening at the next STEP_BEGIN; a descriptor that fails
the checks arms nothing. -/
def State.armPreset (s : State) : State :=
  let adr := s.fld TelHealthPreset.addr
  let d := s.bytes adr 64
  let r := dirRange d
  let dir := s.bytes r.base r.len
  let errs := operandErr (adr % 64 ≠ 0) 16 ++ s.rangeErr 0 ⟨adr, 64, false⟩ ++ s.rangeErr 0 r ++ armErrs d dir
  if errs.isEmpty then (s.arm { parseArm d dir 0 with auto := true }).setFld TelHealthStatus.autoArmed 1 else s

/-! ### SNAP_RESTORE (R439, R440) -/

/-- What a restore has of a generation's region: this device's bytes, or what the peer sent. -/
def State.restoreBytes (s : State) (r : RestoreRt) (g off len : Nat) : Bytes :=
  let t := r.targets.getD g ⟨noPos, 1, 0⟩
  if s.targetLocal t then s.bytes (t.at g + off) len
  else (List.range len).map fun i => Sparse.get 0 r.buf (g * 2 ^ 48 + off + i)

/-- R273, R410, R435: a restore reads a range of this device: the status and detail of what fails it. -/
def State.restoreLocal (s : State) (r : RestoreRt) (t : SnapTarget) (a len : Nat) : Option (Nat × Nat) × State :=
  match (if t.kind = 1 then none else pickErr (s.rangeErr (s.qDomain r.q) ⟨a, len, false⟩)) with
  | some e => (some (e.status, e.detail), s)
  | none =>
    let o := Owner.command r.q r.idx false
    let x := (cartsOf a len).foldl (fun (acc : Option (Nat × Nat) × State) k =>
      let m := acc.2.cartAccess o k a len
      (acc.1.orElse fun _ => if m.1 = 0 then none else some (m.1, k), m.2)) (none, s)
    let y := x.2.reservedMeets o a len
    (x.1.orElse fun _ => if y.1 then some (St.uncorrectable, 0) else none, y.2)

/-- Read a range of a generation's region: of this device at once (a failed tier fails it, R273), of a peer by READ_REQ of at
most 16,384 bytes. -/
def State.restoreRead (s : State) (r : RestoreRt) (g off len : Nat) : RestoreRt × State :=
  let t := r.targets.getD g ⟨noPos, 1, 0⟩
  if s.targetLocal t then
    let m := s.restoreLocal r t (t.at g + off) len
    ({ r with bad := r.bad ++ (m.1.map fun x => (g, x.1, x.2)).toList }, m.2)
  else
    (List.range (ceilDiv len 16384)).foldl (fun (x : RestoreRt × State) i =>
      let n := min 16384 (len - 16384 * i)
      let p : Packet := { cls := Pk.classB, kind := Pk.readReq, hops := 0, dst := t.pos, src := 0, step := r.tag,
                          domain := x.2.qDomain r.q, addr := t.at g + off + 16384 * i, arg := leBytes 4 n }
      let y := x.2.request (some r.q) p (.restore g (off + 16384 * i))
      if y.1 then ({ x.1 with todo := x.1.todo + 1 }, y.2)
      else ({ x.1 with bad := x.1.bad ++ [(g, St.linkLost, linkLostDetail t.pos (s.egress t.pos % 16))] }, y.2)) (r, s)

/-- R440: a header is a candidate: magic, source and STATE 2 agree. -/
def State.candidate (s : State) (r : RestoreRt) (g : Nat) : Bool :=
  let h := s.restoreBytes r g 0 64
  !(r.bad.any (·.1 = g)) && (r.sel = 0 || r.sel = g + 1) && leField h 0 4 = 0x50414E53 && leField h 8 1 = 2 &&
    leField h 12 4 % 2 ^ 24 = r.source

/-- STEP of a generation's header. -/
def State.genStep (s : State) (r : RestoreRt) (g : Nat) : W32 := BitVec.ofNat 32 (leNat (s.restoreBytes r g 4 4))

/-- The directory of a generation. -/
def State.genDir (s : State) (r : RestoreRt) (g : Nat) : List SnapEntry :=
  let n := leNat (s.restoreBytes r g 10 1)
  (List.range (min 64 n)).map fun i => parseSnapEntry (s.restoreBytes r g (64 + 32 * i) 32)

/-- R440: the home of a KIND 0 entry is mapped as home pages with the TENSOR_ID and PAGE of the directory. -/
def State.homeAgrees (s : State) (e : SnapEntry) : Bool :=
  e.kind ≠ 0 || (List.range (e.rpages + e.cpages)).all fun k =>
    let p := e.addr / 131072 + k
    s.isHome (p * 131072) &&
      [false, true].all fun v => s.rawNat (slotPlace p v 0) 4 = e.tensor && s.rawNat (slotPlace p v 4) 4 = k

/-- R440: choose the generation: by GEN_SEL, or the candidate of the later step. -/
def State.chooseGen (s : State) (r : RestoreRt) : Option Nat :=
  let c := s.candidate r
  if c 0 && c 1 then some (if serialAfter (s.genStep r 1) (s.genStep r 0) then 1 else 0)
  else if c 0 then some 0 else if c 1 then some 1 else none

/-- R440: the pages of the KIND 0 entries of a directory, each with its entry and number. -/
def dirPages (es : List SnapEntry) : List (SnapEntry × Nat) :=
  es.flatMap fun e => if e.kind = 0 then (List.range (e.rpages + e.cpages)).map fun k => (e, k) else []

/-- R440: a page of a home takes its copy in both slots, with P clear and V 0; a write like any other (R265, R270). -/
def State.restorePage (s : State) (page : Nat) (bs : Bytes) : State :=
  let put := fun (s : State) v => ((s.clearRaw (slotPlace page v 0) 65536).setRaw (slotPlace page v 0) bs).cleanWords
    (slotPlace page v 0) 65536
  ((((put (put s false) true).setVersion page {}).dirty (page * 131072) 65536).dirty (page * 131072 + 65536) 65536).touchRange
    (page * 131072) 65536

/-- R439: the homes and tensors that a restore of these entries writes. -/
def dirRanges (es : List SnapEntry) : List Range :=
  es.flatMap fun e =>
    if e.kind = 0 then [⟨e.addr, 131072 * (e.rpages + e.cpages), true⟩]
    else [⟨e.addr, e.size, true⟩]

/-- R440: write the governor area, the pages and the carried tensors of the generation chosen. -/
def State.restoreApply (s : State) (r : RestoreRt) : State :=
  let g := r.chosen
  let es := s.genDir r g
  let gov := min 4096 (leNat (s.restoreBytes r g 24 4))
  let s1 := s.clearRaw (areaBase 5) 524288
  let s2 := (List.range gov).foldl (fun t i => t.setRaw (areaBase 5 + 128 * i) (s.restoreBytes r g (4096 + 64 * i) 64)) s1
  let s3 := (dirPages es).foldl (fun t x => t.restorePage (x.1.addr / 131072 + x.2)
    (s.restoreBytes r g (x.1.copyAt x.2) (x.1.copyLen x.2))) (s2.setFld FabGovCtrl.entries gov)
  (es.filter (·.kind ≠ 0)).foldl (fun t e =>
    let b := e.rpages * tileBytes e.fmt
    let t1 := t.agentWrite (rangeOf e.addr (s.restoreBytes r g e.offset b))
    if scaledFmt e.fmt then t1.agentWrite (rangeOf (e.addr + b) (s.restoreBytes r g (e.offset + b) (64 * e.rpages))) else t1) s3

/-- R273: what the writes of a restore meet: the status and detail of the first cart that fails. -/
def State.restoreWrites (s : State) (r : RestoreRt) : Option (Nat × Nat) × State :=
  (dirRanges (s.genDir r r.chosen)).foldl (fun (acc : Option (Nat × Nat) × State) w =>
    (cartsOf w.base w.len).foldl (fun (acc : Option (Nat × Nat) × State) k =>
      if acc.1.isSome then acc
      else
        let m := acc.2.cartAccess (.command r.q r.idx false) k w.base w.len
        (if m.1 = 0 then none else some (m.1, k), m.2)) acc) (none, s)

/-- A restore ends. -/
def State.restoreEnd (s : State) (r : RestoreRt) (status detail : Nat) : State :=
  (({ s with restore := none }).setFld HbmSnapStatus.restoring 0).endCmd r.q r.idx status 6 (s.qCp r.q) detail

/-- R440: a restore that failed after "clear committed_valid". -/
def State.restoreFailed (s : State) (r : RestoreRt) (f : Nat × Nat) : State :=
  (s.setFld QdirStepStatus.restoreFail 1).restoreEnd r f.1 f.2

/-- R440: the highest offset that a generation's copies reach. -/
def dirExtent (es : List SnapEntry) : Nat := es.foldl (fun n e => max n (e.offset + e.size)) 266240

/-- R440: begin the pages of the generation chosen. -/
def State.restorePages (s : State) (r : RestoreRt) : State :=
  let x := (s.setFld QdirStepStatus.committedValid 0).restoreRead { r with phase := 1, step := s.genStep r r.chosen } r.chosen 0
    (dirExtent (s.genDir r r.chosen))
  { x.2 with restore := some x.1 }

/-- R440: the other candidate serves as fallback. -/
def State.fallbackGen (s : State) (r : RestoreRt) : Option Nat :=
  let o := 1 - r.chosen
  if r.fallback && s.candidate { r with sel := 0 } o && s.genDir r o = s.genDir r r.chosen then some o else none

/-- R439: the regions that a restore of the generations of these numbers writes, once their headers are known. -/
def State.restoreRegions (s : State) (r : RestoreRt) (gs : List Nat) : List Region :=
  (gs.flatMap fun g => dirRanges (s.genDir r g)).map (·.region)

/-- R440: a read of the generation chosen has failed: the restore falls back and runs again from the page checks, or fails. -/
def State.restoreMissed (s : State) (r : RestoreRt) (f : Nat × Nat) : State :=
  match s.fallbackGen r with
  | some o =>
    let r1 := { r with chosen := o, fallbacks := r.fallbacks + 1, bad := r.bad ++ [(r.chosen, f.1, f.2)] }
    if (s.genDir r o).all s.homeAgrees then s.restorePages r1 else s.restoreFailed r1 (St.descInvalid, 0xA3 <<< 40)
  | none => s.restoreFailed r f

/-- R440: one phase of a restore whose reads have all been answered. -/
def State.restorePhase (s : State) (r : RestoreRt) : State :=
  let failure := (r.bad.find? (·.1 = r.chosen)).map (·.2)
  if r.phase = 0 then
    match s.chooseGen r with
    | none => (match r.bad.head? with
               | some b => s.restoreEnd r b.2.1 b.2.2
               | none => s.restoreEnd r St.descInvalid (0xA2 <<< 40))
    | some g =>
      if !(s.genDir r g).all s.homeAgrees then s.restoreEnd r St.descInvalid (0xA3 <<< 40)
      else (s.modCmd r.q r.idx fun c => { c with regions := s.restoreRegions r [g] }).restorePages { r with chosen := g }
  else if r.phase = 1 then
    match failure with
    | some f => s.restoreMissed r f
    | none =>
      let w := s.restoreWrites r
      (match w.1 with
       | some f => w.2.restoreFailed r f
       | none =>
         let x := (w.2.restoreApply r).restoreRead { r with phase := 2 } r.chosen 0 64
         { x.2 with restore := some x.1 })
  else
    let st := s.genStep r r.chosen
    match failure.orElse fun _ =>
        if leNat (s.restoreBytes r r.chosen 8 1) ≠ 2 || st ≠ r.step then some (St.uncorrectable, 0) else none with
    | some f => s.restoreMissed r f
    | none =>
      let s1 := ((s.setFld QdirStepStatus.committed st.toNat).setFld QdirStepStatus.committedValid 1).setFld
        QdirStepStatus.restoreFail 0
      let drop := fun (s : State) g =>
        if (s.gen g).state = 2 && serialAfter (s.gen g).step st then s.setGen g {} else s
      ((drop (drop s1 0) 1).snapRefresh).restoreEnd r St.ok (r.chosen <<< 40 + min 255 r.fallbacks <<< 32 + st.toNat)

/-- R440: run the phases of a restore while nothing is awaited from a peer. -/
def State.restoreRun (s : State) : Nat → State
  | 0 => s
  | n + 1 => match s.restore with
    | some r => if r.todo = 0 then (s.restorePhase r).restoreRun n else s
    | none => s

/-- R439: the checks of a restore descriptor. -/
def State.restoreErrs (s : State) (c : Cmd) : List Err :=
  let d := s.bytes (leField c.entry 16 8) 64
  operandErr (leField c.entry 16 8 % 64 ≠ 0) 16 ++
    (if s.inStep || s.openGen.isSome then [descErr 0xA5 0] else []) ++
    (if 2 < leField d 0 1 || leField d 1 1 / 2 ≠ 0 || leField d 2 2 ≠ 0 || leField d 7 1 ≠ 0 || !zeroField d 8 8 ||
        targetBad d 16 || targetBad d 32 || !zeroField d 48 16 then [descErr 0xA0 0] else [])

/-- R439: the restore that a descriptor asks for. -/
def restoreOf (q : Nat) (idx : W32) (tag : Nat) (d : Bytes) : RestoreRt :=
  { q, idx, source := leField d 4 4 % 2 ^ 24, sel := leField d 0 1, fallback := bitOf (leField d 1 1) 0,
    targets := [parseTarget d 16, parseTarget d 32], tag }

/-- R439: a restore declares the homes named in the directory. Before the headers of a peer's generations have been read it cannot know
them: it then declares the whole range, and the homes once it knows them (log entry 31). -/
def State.restoreRanges (s : State) (e : Bytes) : List Range :=
  let d := s.bytes (leField e 16 8) 64
  let r := restoreOf 0 0 0 d
  if r.targets.all s.targetLocal then ([0, 1].filter (s.candidate r)).flatMap fun g => dirRanges (s.genDir r g)
  else [⟨0, 2 ^ 48, true⟩]

/-- R439, R440: what SNAP_RESTORE does once it has passed its checks. -/
def State.runSnapRestore (s : State) (q : Nat) (c : Cmd) : State :=
  let r := restoreOf q c.idx (stepTag c.entry).toNat (s.bytes (leField c.entry 16 8) 64)
  let x := (s.setFld HbmSnapStatus.restoring 1).restoreRead r 0 0 4096
  let y := x.2.restoreRead x.1 1 0 4096
  ({ y.2 with restore := some y.1 }).restoreRun 8

/-- SNAP_RESTORE (R439, R440). -/
def State.doSnapRestore (s : State) (q : Nat) : State :=
  if queueOk q && s.restore.isNone then
    s.runRow q { want := isOp 0xA2, ranges := plainRanges, regions := State.restoreRanges, errs := fun s c => s.restoreErrs c,
                 body := fun s c => s.runSnapRestore q c }
  else s

/-- A read of a restore has been answered with bytes, or has failed with a status. -/
def State.restoreAnswer (s : State) (g off : Nat) (res : Sum Bytes (Nat × Nat)) : State :=
  match s.restore with
  | none => s
  | some r =>
    let r1 := match res with
      | .inl bs => { r with todo := r.todo - 1,
                            buf := (bs.zipIdx (g * 2 ^ 48 + off)).foldl (fun m x => Sparse.set 0 m x.2 x.1) r.buf }
      | .inr f => { r with todo := r.todo - 1, bad := r.bad ++ [(g, f.1, f.2)] }
    (({ s with restore := some r1 }).restoreRun 8).evalFlags

/-- SNAP_ARM (R429). -/
def execSnapArm (q : Nat) (s : State) : Outcome := .next (s.doSnapArm q)
/-- SNAP_DISARM (R436). -/
def execSnapDisarm (q : Nat) (s : State) : Outcome := .next (s.doSnapDisarm q)
/-- SNAP_RESTORE (R440). -/
def execSnapRestore (q : Nat) (s : State) : Outcome := .next (s.doSnapRestore q)
/-- GENERATION_COMPLETE (R431). -/
def execGenerationComplete (s : State) : Outcome := .next s.doGenerationComplete.evalFlags

end Sys2Proof.Machine
end

