-- ==== Sys2Proof/Machine/Update.lean ====
section
/-!
DEFINITION. The parameter update (10_parameter_update.md), the keyed generator and the format governor
(07_number_formats_and_rounding.md), UPDATE_STREAM and GRAD_SUM.
-/
namespace Sys2Proof.Machine

/-! ### The keyed generator (R167, R168) -/

/-- R167: bits [15:0] of the draw for the message words; both key halves are zero while no step is in progress. -/
def State.drawBits (s : State) (w0 w1 w2 : Nat) : Nat :=
  let k0 := if s.inStep then s.step.runKey else 0
  let k1 := if s.inStep then s.stepNum.toNat else 0
  (sipHash k0 (BitVec.ofNat 64 k1) [BitVec.ofNat 64 w0, BitVec.ofNat 64 w1, BitVec.ofNat 64 w2]).toNat % 65536

/-- R168: w0: tensor, micro-batch and use. -/
def drawW0 (tensor mb use : Nat) : Nat := use <<< 48 + mb <<< 32 + tensor
/-- R168: w1 of a rounding in a core. -/
def drawW1 (core tile e : Nat) : Nat := core <<< 48 + (tile % 2 ^ 36) <<< 12 + e

/-! ### The format governor (R171 to R178) -/

/-- Place of governor entry `i` (R176). -/
def govPlace (i : Nat) : Nat := areaBase 5 + 128 * i

/-- The governor entry of a tensor. -/
def State.govEntry (s : State) (id : Nat) : Option Nat := s.govUsed.find? fun i => s.rawNat (govPlace i) 4 = id

/-- R171: the format fixed for a governed tensor in this step; BF16 for one without an entry (R175). -/
def State.stepFormat (s : State) (id : Nat) : Nat := ((s.step.formats.find? (·.1 = id)).map (·.2)).getD 6

/-- Committed statistics and thresholds of a governor entry that R174 reads. -/
structure GovStat where
  fmt : Nat
  hold : Nat
  holdSteps : Nat
  ufUp : Nat
  satUp : Nat
  ufDown : Nat
  satDown : Nat
  count : Nat
  uf4 : Nat
  uf5 : Nat
  sat : Nat
  deriving DecidableEq, Repr

/-- Underflows of a format (R174). -/
def GovStat.uf (g : GovStat) (f : Nat) : Nat := if f = 4 then g.uf4 else if f = 5 then g.uf5 else 0

/-- R174: the narrowest format wider than the entry's whose underflows are within UF_UP. -/
def GovStat.widen (g : GovStat) : Nat :=
  ((List.range 3).map (· + 4)).find? (fun f => g.fmt < f && g.uf f * 65536 ≤ g.ufUp * g.count) |>.getD 6

/-- R174: the new format and HOLD of a governed entry from its committed statistics. -/
def GovStat.next (g : GovStat) : Nat × Nat :=
  if g.count = 0 ∧ g.sat = 0 then (g.fmt, g.hold)
  else if g.satUp * g.count < g.sat * 65536 then (6, 0)
  else if g.ufUp * g.count < g.uf g.fmt * 65536 then (g.widen, 0)
  else if g.fmt ≠ 4 then
    let n := g.fmt - 1
    if g.uf n * 65536 < g.ufDown * g.count ∧ g.sat * 65536 < g.satDown * g.count then
      let h := min (g.hold + 1) 255
      if g.holdSteps ≤ h then (n, 0) else (g.fmt, h)
    else (g.fmt, 0)
  else (g.fmt, 0)

/-- R176: read an entry; R177: an FMT that is none of the three is taken as BF16. -/
def State.govRead (s : State) (i : Nat) : GovStat :=
  let f := fun o n => s.rawNat (govPlace i + o) n
  { fmt := if 4 ≤ f 4 1 ∧ f 4 1 ≤ 6 then f 4 1 else 6, hold := f 5 1, holdSteps := f 6 1, ufUp := f 8 2, satUp := f 10 2,
    ufDown := f 12 2, satDown := f 14 2, count := f 16 8, uf4 := f 24 8, uf5 := f 32 8, sat := f 40 8 }

/-- R173, R174: at STEP_BEGIN each entry fixes its format and its pending statistics become zero. -/
def State.govBegin (s : State) : State :=
  let used := s.govUsed
  let s1 := used.foldl (fun s i =>
    let r := (s.govRead i).next
    ((s.setRawNat (govPlace i + 4) 1 r.1).setRawNat (govPlace i + 5) 1 r.2).clearRaw (govPlace i + 64) 48) s
  { s1 with step := { s1.step with formats := used.map fun i => (s1.rawNat (govPlace i) 4, s1.rawNat (govPlace i + 4) 1) } }

/-- R173: at the commit point the pending statistics become the committed ones. -/
def State.govCommit (s : State) : State :=
  s.govUsed.foldl (fun s i => (s.setRaw (govPlace i + 16) (s.raw (govPlace i + 64) 48)).clearRaw (govPlace i + 64) 48) s

/-- R173: at an abandon the pending statistics are discarded. -/
def State.govDiscard (s : State) : State := s.govUsed.foldl (fun s i => s.clearRaw (govPlace i + 64) 48) s

/-- R173: the pending statistics saved at the start of a SEGMENT_RUN, by place. -/
def State.govSaved (s : State) : List (Nat × Byte) :=
  s.mem.filter fun c => areaBase 5 ≤ c.1 && c.1 < areaBase 5 + 524288 && 64 ≤ (c.1 - areaBase 5) % 128 &&
    (c.1 - areaBase 5) % 128 < 112

/-- R173: a replay restores them. -/
def State.govRestore (s : State) (saved : List (Nat × Byte)) : State :=
  saved.foldl (fun s c => s.setRawByte c.1 c.2) s.govDiscard

/-- R175: at an ACTIVATE every governed tensor of the image has an entry, with the image's thresholds; one created in a step
runs it in START. -/
def State.govActivate (s : State) (im : Image) : State :=
  let g := im.gov
  (im.tensorRecs.filter (·.fmt = 0x0F)).foldl (fun s r =>
    let limits := fun (s : State) i =>
      (s.setRawNat (govPlace i + 6) 1 g.hold).setRaw (govPlace i + 8)
        (leBytes 2 g.ufUp ++ leBytes 2 g.satUp ++ leBytes 2 g.ufDown ++ leBytes 2 g.satDown)
    match s.govEntry r.id with
    | some i => limits s i
    | none =>
      match (List.range 4096).find? fun i => s.rawNat (govPlace i) 4 = 0 with
      | none => s.setFld FabGovCtrl.full 1
      | some i =>
        let s1 := limits (((s.clearRaw (govPlace i) 128).setRawNat (govPlace i) 4 r.id).setRawNat (govPlace i + 4) 1 g.start) i
        { s1 with step := { s1.step with formats := s1.step.formats ++ [(r.id, g.start)] } }) s

/-- A finite, nonzero value. -/
def Num.live : Num → Bool
  | .fin _ m _ => m ≠ 0
  | _ => false
/-- NaN or infinite. -/
def Num.bad : Num → Bool
  | .fin _ _ _ => false
  | _ => true
/-- |x| < 2^k. -/
def Num.below (k : Int) : Num → Bool
  | .fin _ m e => m = 0 || (topBit m : Int) + e < k
  | _ => false

/-- R172: bin of a block's largest magnitude. -/
def histBin (xs : List Num) : Nat :=
  if xs.any Num.bad then 7
  else if xs.all (fun x => !x.live) then 0
  else ([-32, -24, -16, -8, 0, 8] : List Int).findIdx? (fun k => xs.all (Num.below k)) |>.elim 7 (· + 1)

/-- R172: a magnitude above the largest finite BF16 value. -/
def overBf16 : Num → Bool
  | .fin _ m e => !magLe m e 255 120
  | _ => true

/-- R172: values of a block that underflow in a scaled format whose least subnormal is 2^(k+1). -/
def underflows (fmt : Nat) (k : Int) (xs : List Nat) : Nat :=
  let fin := xs.filter fun x => !(f32 x).bad
  let sc := blockScale fmt fin
  (fin.filter fun x => (f32 x).live && (f32 x |>.scale (127 - (sc : Int))).below k).length

/-- R172: a conversion of FP32 values by ordinal adds to the pending statistics of a governed tensor. -/
def State.govCount (s : State) (id : Nat) (xs : List Nat) : State :=
  match s.govEntry id with
  | none => s
  | some i =>
    let blocks := (List.range (xs.length / 64)).map fun b => (xs.drop (64 * b)).take 64
    let ns := xs.map f32
    let add := fun (s : State) o n (v : Nat) => s.setRawNat (govPlace i + o) n (satAdd (8 * n) (s.rawNat (govPlace i + o) n) v)
    let s1 := add s 64 8 (ns.filter Num.live).length
    let s2 := add s1 72 8 ((blocks.map (underflows 4 (-10))).foldl (· + ·) 0)
    let s3 := add s2 80 8 ((blocks.map (underflows 5 (-17))).foldl (· + ·) 0)
    let s4 := add s3 88 8 (ns.filter overBf16).length
    blocks.foldl (fun s b => add s (96 + 2 * histBin (b.map f32)) 2 1) s4

/-! ### Parameter groups (R233) -/

/-- R233: at STEP_BEGIN the whole group table is copied. -/
def State.copyGroups (s : State) : State :=
  let g := (s.mem.filter fun c => areaBase 6 ≤ c.1 && c.1 < areaBase 6 + 131072).map fun c => (c.1 - areaBase 6, c.2)
  { s with step := { s.step with groups := g } }

/-- A field of a group of the step's copy. -/
def State.group (s : State) (g off len : Nat) : Nat :=
  leNat ((List.range len).map fun i => Sparse.get 0 s.step.groups (32 * g + off + i))

/-! ### The rule (R234 to R236) -/

/-- R235: pow(b, t) by the bits of t from 31 down to 0. -/
def fpow (b t : Nat) : Nat :=
  ((List.range 32).map (31 - ·)).foldl (fun p i => let p2 := fmul p p; if bitOf t i then fmul p2 b else p2) 0x3F800000

/-- R235: new m, v and w in FP32 from the group's values. -/
def updateRule (lr b1 b2 eps decay gscale : Nat) (bias : Bool) (t w m v g0 : Nat) : Nat × Nat × Nat × Nat :=
  let one := 0x3F800000
  let g := fmul g0 gscale
  let m1 := fadd (fmul b1 m) (fmul (fsub one b1) g)
  let v1 := fadd (fmul b2 v) (fmul (fmul (fsub one b2) g) g)
  let mh := if bias then fdiv m1 (fsub one (fpow b1 t)) else m1
  let vh := if bias then fdiv v1 (fsub one (fpow b2 t)) else v1
  let u := fdiv mh (fadd (fsqrt vh) eps)
  let w1 := fsub w (fmul lr (fadd u (fmul decay w)))
  (g, w1, m1, v1)

/-- R234 to R236: the record of one parameter after the update: 6 bytes, whether it was written, and whether a value was NaN
or infinite. `old` is its committed record, `x` its index in the PARAM record. -/
def State.updateParam (s : State) (tensor group fmt t x : Nat) (live : Bool) (old : Bytes) (g : Num) : Bytes × Bool × Bool :=
  if !live then (old, false, false)
  else
    let f := fun o => s.group group o 4
    let bias := bitOf (s.group group 28 1) 1
    let r := updateRule (f 0) (f 4) (f 8) (f 12) (f 16) (f 20) bias t
      (toF32 (decodeNum fmt (leField old 0 2))) (toF32 (decodeNum 6 (leField old 2 2)))
      (toF32 (decodeNum 6 (leField old 4 2))) (toF32 g)
    let rnd := fun use c v => convertNum c (.stochastic (s.drawBits (drawW0 tensor 0 use) x 0)) false (f32 v)
    let w := rnd 3 fmt r.2.1
    let m := rnd 4 6 r.2.2.1
    let v := rnd 5 6 r.2.2.2
    if g.bad || (f32 r.1).bad || (decodeNum fmt w).bad || (decodeNum 6 m).bad || (decodeNum 6 v).bad then (old, false, true)
    else (leBytes 2 w ++ leBytes 2 m ++ leBytes 2 v, true, false)

/-! ### An update (R232, R242, R243, R248, R249) -/

/-- What an update writes: tensor, group, mask identifier and home; its flags; the weight format that its FORMAT record names
(0 none, R249); whether a SEGMENT_RUN makes it; the touch units it names; the parameter blocks (block row, block column) it
writes, and the rows of them that it updates (those of its units, where a block holds rows of several units); the blocks of its
extent (R242); the instance that updates a page (R240, R249). -/
structure Upd where
  tensor : Nat
  group : Nat
  maskId : Nat
  home : Nat
  touched : Bool
  masked : Bool
  fmt : Nat
  run : Bool
  units : List Nat
  blocks : List (Nat × Nat)
  named : Nat → Bool
  extent : List Nat
  inst : Nat → Nat

/-- Geometry of a parameter matrix (R230, R231). -/
structure Geom where
  rows : Nat
  cols : Nat
  touch : Nat
  deriving DecidableEq, Repr

/-- The committed slot's bytes of a page. -/
def State.slotNat (s : State) (page off len : Nat) : Nat := s.rawNat (slotPlace page (s.committedSlot page) off) len

/-- Geometry in the first slot header of a home. -/
def State.geom (s : State) (home : Nat) : Geom :=
  { rows := s.slotNat (pageOf home) 8 4, cols := s.slotNat (pageOf home) 12 4, touch := s.slotNat (pageOf home) 16 4 }

/-- R231: number of parameter block (block row, block column). -/
def Geom.block (g : Geom) (br bc : Nat) : Nat :=
  let rb := g.rows / 8
  let cb := g.cols / 8
  let tr := br / 8
  let tc := bc / 8
  tr * 8 * cb + tc * 8 * min 8 (rb - 8 * tr) + br % 8 * min 8 (cb - 8 * tc) + bc % 8

/-- Record pages of the matrix (R226). -/
def Geom.pages (g : Geom) : Nat := ceilDiv (g.rows * g.cols) 8192

/-- Units (R231). -/
def Geom.units (g : Geom) (touched : Bool) : Nat :=
  if touched then (if g.touch = 0 then 0 else g.rows / g.touch) else ceilDiv g.rows 64

/-- Record page of a block. -/
def Upd.recPage (u : Upd) (j : Nat) : Nat := pageOf u.home + j / 128
/-- Count page of a unit, and the offset of its entry in the slot. -/
def Upd.countPlace (u : Upd) (g : Geom) (unit : Nat) : Nat × Nat := (pageOf u.home + g.pages + unit / 8184, 64 + 8 * (unit % 8184))

/-- R249 cause 0x32: a page's committed slot header differs from what the update expects. -/
def State.headerBad (s : State) (u : Upd) (g : Geom) (page kind : Nat) : Bool :=
  let f := fun o n => s.slotNat page o n
  f 0 4 ≠ u.tensor || f 4 4 ≠ page - pageOf u.home || f 20 1 ≠ kind || (u.masked && f 28 4 ≠ u.maskId) ||
    (kind = 0 && (f 21 1 ≠ 6 && f 21 1 ≠ 7 || (u.fmt ≠ 0 && f 21 1 ≠ u.fmt))) ||
    (if u.touched then g.touch = 0 || g.rows % g.touch ≠ 0 else g.touch ≠ 0) || f 16 4 ≠ g.touch

/-- R242: carry a page before its first write of the step: P, and every byte of the committed slot outside the extent's block
records. `skip` is the offsets of the block records of the extent. -/
def State.carry (s : State) (page : Nat) (skip : List Nat) : State :=
  if (s.version page).p then s
  else
    let src := slotPlace page (s.committedSlot page) 0
    let dst := slotPlace page (!s.committedSlot page) 0
    let kept := fun o => !skip.any fun b => b ≤ o && o < b + 384
    let new := (s.mem.filter fun c => src ≤ c.1 && c.1 < src + 65536 && kept (c.1 - src)).map fun c => (c.1 - src + dst, c.2)
    let s1 := { s with mem := s.mem.filter fun c => !(dst ≤ c.1 && c.1 < dst + 65536 && kept (c.1 - dst)) }
    let s2 := new.foldl (fun s c => s.setRawByte c.1 c.2) s1
    (s2.setVersion page { s2.version page with p := true, loose := false }).tapShadow page 0 65536

/-- R230: write into the shadow of a page: the bytes, then the header's WSTEP. -/
def State.shadowWrite (s : State) (page off : Nat) (bs : Bytes) : State :=
  let at' := slotPlace page (!s.committedSlot page)
  let s1 := s.setRaw (at' off) bs
  let s2 := s1.setRawNat (at' 24) 4 s1.stepNum.toNat
  (s2.tapShadow page off bs.length).tapShadow page 24 4

/-- R232: the count that a touch of a unit returns in this step, without writing it. -/
def State.peekTouch (s : State) (u : Upd) (g : Geom) (unit : Nat) : Nat :=
  let p := u.countPlace g unit
  let at' := slotPlace p.1 (if (s.version p.1).p then !s.committedSlot p.1 else s.committedSlot p.1) p.2
  let n := s.rawNat at' 4
  if s.rawNat (at' + 4) 4 ≠ s.stepNum.toNat then min (n + 1) 0xFFFFFFFF else n

/-- R232: the touch of a unit's entry in the shadow, after the carry. -/
def State.touchUnit (s : State) (u : Upd) (g : Geom) (unit : Nat) : State :=
  let p := u.countPlace g unit
  let s1 := s.carry p.1 []
  let at' := slotPlace p.1 (!s1.committedSlot p.1) p.2
  let n := s1.rawNat at' 4
  if s1.rawNat (at' + 4) 4 = s1.stepNum.toNat then s1
  else
    let s2 := s1.shadowWrite p.1 p.2 (leBytes 4 (min (n + 1) 0xFFFFFFFF) ++ leBytes 4 s1.stepNum.toNat)
    let s3 := s2.touchRange (p.1 * 131072) 65536
    if n = 0xFFFFFFFF then
      ((s3.setFld HbmUpdStatus.rowSat 1).setReg .hbmUpdSatLast (u.tensor <<< 32 + unit)).event 0x06 (u.inst (p.1 - pageOf u.home))
    else s3

/-- What an update has done so far: units with a written parameter and non-finite values by instance. -/
structure UpdAcc where
  written : List Nat := []
  bad : List (Nat × Nat) := []

/-- R234 to R236: update one block. -/
def State.updateBlock (s : State) (u : Upd) (g : Geom) (grad : Nat → Nat → Num) (acc : UpdAcc) (br bc : Nat) :
    State × UpdAcc :=
  let j := g.block br bc
  let page := u.recPage j
  let unit := if u.touched then br * 8 / g.touch else 0
  let s1 := s.carry page ((u.extent.filter fun x => u.recPage x = page).map fun x => 64 + 384 * (x % 128))
  let slot := slotPlace page (s1.committedSlot page)
  let fmt := s1.rawNat (slot 21) 1
  let mask := s1.rawNat (slot (49216 + 8 * (j % 128))) 8
  let rs := (List.range 64).map fun p =>
    let r := br * 8 + p / 8
    let t := if u.touched then s1.peekTouch u g (r / g.touch)
             else (s1.stepNum.toNat + 2 ^ 32 - s1.group u.group 24 4 + 1) % 2 ^ 32
    let live := u.named r && (!u.masked || bitOf mask p)
    (r, s1.updateParam u.tensor u.group fmt t (64 * j + p) live (s1.raw (slot (64 + 384 * (j % 128) + 6 * p)) 6)
      (grad r (bc * 8 + p % 8)))
  let s2 := s1.shadowWrite page (64 + 384 * (j % 128)) (rs.flatMap (·.2.1))
  let s3 := s2.shadowWrite page (49216 + 8 * (j % 128)) (leBytes 8 mask)
  let us := ((rs.filter (·.2.2.1)).map fun r => if u.touched then r.1 / g.touch else unit).eraseDups
  let n := (rs.filter (·.2.2.2)).length
  let s4 := { s3 with step := { s3.step with written := s3.step.written ++ [({ page, block := j, run := u.run } : BlockMark)] } }
  (s4.touchRange (page * 131072) 65536,
   { written := (acc.written ++ us).eraseDups,
     bad := if n = 0 then acc.bad else acc.bad ++ [(u.inst (page - pageOf u.home), n)] })

/-- An error of an update (R249): detail [47:40] cause, [31:0] TENSOR_ID. -/
def updErr (status cause tensor : Nat) : Err :=
  { status, det := 0x14, cause, key := tensor, detail := cause <<< 40 + tensor }

/-- R248, R249: the checks of an update. -/
def State.updErrs (s : State) (u : Upd) : List Err :=
  let g := s.geom u.home
  let js := u.blocks.map fun b => g.block b.1 b.2
  let recs := (js.map u.recPage).eraseDups
  let counts := if u.touched then (u.units.map fun x => (u.countPlace g x).1).eraseDups else []
  let twice := js.any fun j => s.step.written.any fun m => m.page = u.recPage j && m.block = j
  let badUnit := u.units.find? fun x => g.units u.touched ≤ x
  (if !s.inStep then [updErr St.descInvalid 0x31 u.tensor] else []) ++
    (if s.headerBad u g (pageOf u.home) 0 || recs.any (fun p => s.headerBad u g p 0) || counts.any (fun p => s.headerBad u g p 1)
     then [updErr St.descInvalid 0x32 u.tensor] else []) ++
    (if twice then [updErr St.descInvalid 0x33 u.tensor] else []) ++
    (if u.group ≥ 4096 || !bitOf (s.group u.group 28 1) 0 then [updErr St.descInvalid 0x34 u.tensor] else []) ++
    (match badUnit with
     | some x => [{ status := St.indexRange, det := 0x11, key := x, detail := x }]
     | none => [])

/-- R234 to R249: an update: its errors, or its writes and what non-finite values bring. An injected failure of detector 0x14
fails the header check (log entry 32). -/
def State.update (s : State) (u : Upd) (grad : Nat → Nat → Num) : State × List Err :=
  let f14 := s.fire 0x14 (u.inst 0) fun _ => true
  let f11 := f14.2.fire 0x11 (5 <<< 16 + u.inst 0) fun _ => true
  let unit := u.units.headD 0
  let errs := (if f14.1.isSome then [updErr St.descInvalid 0x32 u.tensor] else []) ++
    (if f11.1.isSome then [({ status := St.indexRange, det := 0x11, key := unit, detail := unit } : Err)] else []) ++
    f11.2.updErrs u
  if !errs.isEmpty then
    ((if errs.any (·.cause = 0x33) then f11.2.setFld HbmUpdStatus.twice 1 else f11.2), errs)
  else
    let g := s.geom u.home
    let r := u.blocks.foldl (fun (x : State × UpdAcc) b => x.1.updateBlock u g grad x.2 b.1 b.2) (f11.2, ({} : UpdAcc))
    let s1 := if u.touched then r.2.written.foldl (fun s x => s.touchUnit u g x) r.1 else r.1
    if r.2.bad.isEmpty then (s1, [])
    else
      let s2 := r.2.bad.foldl (fun s x => s.count 0x014 x.1 x.2) (s1.setFld HbmUpdStatus.nonfinite 1)
      (s2, if bitOf (s.group u.group 28 1) 2 then [updErr St.stepAborted 0x35 u.tensor] else [])

/-- R231: the blocks (block row, block column) that hold rows [r0, r1) of a matrix, in the order of R231. -/
def Geom.rowBlocks (g : Geom) (r0 r1 : Nat) : List (Nat × Nat) :=
  (List.range (ceilDiv (min r1 g.rows) 8 - r0 / 8)).flatMap fun i => (List.range (g.cols / 8)).map fun bc => (r0 / 8 + i, bc)

/-- R265: the pages that an update writes: those of its blocks, and those of its units' count entries. -/
def Upd.pages (u : Upd) (g : Geom) : List Nat :=
  (u.blocks.map (fun b => u.recPage (g.block b.1 b.2)) ++
    (if u.touched then u.units.map fun x => (u.countPlace g x).1 else [])).eraseDups

/-! ### UPDATE_STREAM (R239, R240) -/

/-- The engine that updates a page of a home (R240). -/
def State.updEngine (s : State) (home k : Nat) : Nat :=
  let c := s.cart (cartOf (home + 131072 * k))
  if framePlace c.frameA = 0 then 2 * frameStack c.frameA + k % 2 else k % s.grade.upd

/-- R239: the units that a descriptor names. -/
def State.streamUnits (s : State) (d : Bytes) : List Nat :=
  let n := leField d 44 4
  if leField d 32 8 = 0 then (List.range n).map (· + leField d 40 4)
  else (List.range n).map fun i => s.num (leField d 32 8 + 4 * i) 4

/-- R239: rows of a named unit. -/
def streamHeight (g : Geom) (d : Bytes) : Nat := if bitOf (leField d 6 1) 0 then g.touch else 64

/-- R239: the format of the gradient. -/
def State.streamFmt (s : State) (d : Bytes) : Nat :=
  if leField d 7 1 = 0x0F then s.stepFormat (leField d 48 4) else leField d 7 1

/-- Tiles of the gradient matrix. -/
def streamTiles (g : Geom) (d : Bytes) : Nat := ceilDiv (leField d 44 4 * streamHeight g d) 64 * ceilDiv g.cols 64

/-- R249 cause 0x37: a descriptor out of range. -/
def State.streamBad (s : State) (d : Bytes) : Bool :=
  let f := leField d 7 1
  let us := leField d 32 8
  let n := leField d 44 4
  4096 ≤ leField d 4 2 || leField d 6 1 / 4 ≠ 0 || !(fmtOk f || f = 0x0F) || leField d 8 8 % 131072 ≠ 0 ||
    0x100000000000 ≤ leField d 8 8 || leField d 16 8 % 256 ≠ 0 || leField d 24 8 % 64 ≠ 0 ||
    (!scaledFmt (s.streamFmt d) && leField d 24 8 ≠ 0 && f ≠ 0x0F) || us % 4 ≠ 0 || (us ≠ 0 && leField d 40 4 ≠ 0) ||
    n = 0 || 16777215 < n || (us ≠ 0 && !ascending (s.streamUnits d)) ||
    (if f = 0x0F then (s.govEntry (leField d 48 4)).isNone || leField d 48 4 = 0 else leField d 48 4 ≠ 0) ||
    (!bitOf (leField d 6 1) 1 && leField d 52 4 ≠ 0) || !zeroField d 56 8

/-- R239: what an UPDATE_STREAM updates. -/
def State.streamUpd (s : State) (d : Bytes) : Upd :=
  let home := leField d 8 8
  let g := s.geom home
  let h := streamHeight g d
  let us := s.streamUnits d
  let blocks := (us.flatMap fun u => g.rowBlocks (u * h) (u * h + h)).eraseDups
  { tensor := leField d 0 4, group := leField d 4 2, maskId := leField d 52 4, home, touched := bitOf (leField d 6 1) 0,
    masked := bitOf (leField d 6 1) 1, fmt := 0, run := false, units := us, blocks,
    named := fun row => us.contains (row / h), extent := blocks.map fun b => g.block b.1 b.2, inst := s.updEngine home }

/-- R239: the ranges that an UPDATE_STREAM reads: descriptor, unit list, gradient values and scales; a bad descriptor names only
itself. -/
def State.streamReads (s : State) (e : Bytes) : List Range :=
  let d := s.bytes (leField e 16 8) 64
  let f := s.streamFmt d
  let n := streamTiles (s.geom (leField d 8 8)) d
  entryRanges e ++ if s.streamBad d then [] else
    [⟨leField d 32 8, if leField d 32 8 = 0 then 0 else 4 * leField d 44 4, false⟩,
     ⟨leField d 16 8, n * tileBytes f, false⟩, ⟨leField d 24 8, if scaledFmt f then 64 * n else 0, false⟩]

/-- R311: what an UPDATE_STREAM declares: what it reads, and its home. -/
def State.streamRegions (s : State) (e : Bytes) : List Range :=
  let d := s.bytes (leField e 16 8) 64
  let g := s.geom (leField d 8 8)
  let u := if bitOf (leField d 6 1) 0 then g.units true else 0
  s.streamReads e ++ if s.streamBad d then [] else [⟨leField d 8 8, homeBytes (g.rows * g.cols) u, true⟩]

/-- R265, R273: what an UPDATE_STREAM accesses: what it reads, and the pages that it updates. -/
def State.streamRanges (s : State) (e : Bytes) : List Range :=
  let d := s.bytes (leField e 16 8) 64
  let u := s.streamUpd d
  let g := s.geom u.home
  s.streamReads e ++ if s.streamBad d || (u.units.any fun x => g.units u.touched ≤ x) then [] else
    (u.pages g).map fun p => ⟨p * 131072, 65536, true⟩

/-- R239: the gradient element of a row and column of the parameter matrix. -/
def State.streamGrad (s : State) (d : Bytes) (u : Upd) (r c : Nat) : Num :=
  let g := s.geom u.home
  let h := streamHeight g d
  let k := (u.units.findIdx? (· = r / h)).getD 0
  let row := k * h + r % h
  let f := s.streamFmt d
  let j := row / 64 * ceilDiv g.cols 64 + c / 64
  let e := ordinal (row % 64) (c % 64)
  let w := fmtBits f
  let base := leField d 16 8 + j * tileBytes f
  let code := s.num (base + e / 4 * (w / 2)) (w / 2) / 2 ^ (w * (e % 4)) % 2 ^ w
  if scaledFmt f then
    let sc := s.num (leField d 24 8 + 64 * j + e / 64) 1
    if sc = 0xFF then .nan else scaleNum sc (decodeNum f code)
  else decodeNum f code

/-- Report the errors of an update that a command makes: each detection, and a mark (R249). -/
def State.updDetect (s : State) (q : Nat) (c : Cmd) (u : Upd) (es : List Err) (inj : Bool) : State :=
  es.foldl (fun s e =>
    let inst := if e.det = 0x11 then 5 <<< 16 + u.inst 0 else u.inst 0
    (s.detect e.det e.status (some q) inst inj).mark e.status e.det (some (q, c.idx)) false inj) s

/-- R312: the checks of the ranges of an UPDATE_STREAM; its home is written by the device's own path (R227). -/
def State.streamErrs (s : State) (q : Nat) (c : Cmd) : List Err :=
  let adr := leField c.entry 16 8
  operandErr (adr % 64 ≠ 0) 16 ++
    (s.streamRegions c.entry).flatMap fun r => s.rangeErr (s.qDomain q) { r with write := false }

/-- R239 to R249: the update of a descriptor: cause 0x37 for a bad one. -/
def State.streamUpdate (s : State) (d : Bytes) (u : Upd) : State × List Err :=
  if s.streamBad d then (s, [updErr St.descInvalid 0x37 u.tensor]) else s.update u (s.streamGrad d u)

/-- R239: what UPDATE_STREAM does once it has passed its checks. -/
def State.runUpdateStream (s : State) (q : Nat) (c : Cmd) : State :=
  let d := s.bytes (leField c.entry 16 8) 64
  let u := s.streamUpd d
  let r := s.streamUpdate d u
  match pickErr r.2 with
  | none => r.1.endCmd q c.idx St.ok 5 (u.inst 0) 0
  | some e => (r.1.updDetect q c u r.2 (s.fld InjStatus.fired ≠ r.1.fld InjStatus.fired)).endCmd q c.idx e.status 5 (u.inst 0) e.detail

/-- UPDATE_STREAM (R239); an update that fails a check marks the step (R249). -/
def State.doUpdateStream (s : State) (q : Nat) : State :=
  if queueOk q then
    s.runRow q { want := isOp 0x80, ranges := State.streamRanges, regions := State.streamRegions, errs := fun s c => s.streamErrs q c,
                 body := fun s c => s.runUpdateStream q c }
  else s

/-! ### GRAD_SUM (R225) -/

/-- A buffer word: address and format. -/
def bufWord (w : Nat) : Nat × Nat := (w % 2 ^ 48, bitsOf w 55 48)

/-- Whole bytes of a buffer: values and scales. -/
def bufLen (tiles fmt : Nat) : Nat := tiles * tileBytes fmt + (if scaledFmt fmt then 64 * tiles else 0)

/-- A buffer word that R326 does not allow. -/
def bufBad (w : Nat) : Bool := w / 2 ^ 56 ≠ 0 || bitsOf w 55 48 < 4 || 8 < bitsOf w 55 48 || w % 256 ≠ 0

/-- R326: the checks of a GRAD_SUM. -/
def gradSumErrs (e : Bytes) : List Err :=
  let n := leField e 32 1
  let tiles := leField e 24 4
  let dst := bufWord (leField e 16 8)
  let words := (List.range (min 8 n)).map fun k => leField e (64 + 8 * k) 8
  let clash := words.zipIdx.any fun w =>
    let b := bufWord w.1
    !(w.2 = 0 && b = dst) && rangesMeet dst.1 (bufLen tiles dst.2) b.1 (bufLen tiles b.2)
  operandErr (bufBad (leField e 16 8)) 16 ++ operandErr (tiles = 0 || 2 ^ 24 < tiles) 24 ++ operandErr (n < 2 || 8 < n) 32 ++
    operandErr (1 < leField e 33 1) 33 ++
    (List.range 8).flatMap (fun k =>
      let w := leField e (64 + 8 * k) 8
      operandErr (if k < n then bufBad w else w ≠ 0) (64 + 8 * k)) ++
    (if clash then [{ status := St.overlapRejected }] else [])

/-- The FP32 values by ordinal of tile `t` of a buffer. -/
def State.bufTile (s : State) (b : Nat × Nat) (tiles t : Nat) : Array Nat :=
  let n := tileBytes b.2
  (decodeTile b.2 (s.bytes (b.1 + t * n) n)
    (if scaledFmt b.2 then s.bytes (b.1 + tiles * n + 64 * t) 64 else [])).map toF32

/-- R225: the sum of tile `t` of the buffers, in order. -/
def State.sumTiles (s : State) (bufs : List (Nat × Nat)) (tiles t : Nat) : List Nat :=
  match bufs with
  | [] => []
  | b :: rest =>
    (rest.foldl (fun (acc : Array Nat) x =>
      let y := s.bufTile x tiles t
      (Array.range 4096).map fun e => fadd (acc.getD e 0) (y.getD e 0)) (s.bufTile b tiles t)).toList

/-- R225: what GRAD_SUM does once it has passed its checks. -/
def State.runGradSum (s : State) (q : Nat) (c : Cmd) : State :=
  let e := c.entry
  let tiles := leField e 24 4
  let dst := bufWord (leField e 16 8)
  let bufs := (List.range (leField e 32 1)).map fun k => bufWord (leField e (64 + 8 * k) 8)
  let mode := fun t x => if leField e 33 1 = 0 then Mode.nearest
    else .stochastic (s.drawBits (drawW0 (leField e 28 4) 0xFFFF 2) (drawW1 0 t x) 0)
  let out := (List.range tiles).map fun t => encodeTile dst.2 (mode t) (s.sumTiles bufs tiles t)
  let s1 := s.cmdWrite q c (rangeOf dst.1 (out.flatMap (·.1)))
  let s2 := if scaledFmt dst.2 then s1.cmdWrite q c (rangeOf (dst.1 + tiles * tileBytes dst.2) (out.flatMap (·.2))) else s1
  s2.endOk q c.idx

/-- GRAD_SUM (R225). -/
def State.doGradSum (s : State) (q : Nat) : State :=
  if queueOk q then
    s.runCmd q (isOp 0x81) plainRanges (fun _ c => gradSumErrs c.entry) (fun s c => s.runGradSum q c)
  else s

/-- UPDATE_STREAM (R239). -/
def execUpdateStream (q : Nat) (s : State) : Outcome := .next (s.doUpdateStream q)
/-- GRAD_SUM (R225). -/
def execGradSum (q : Nat) (s : State) : Outcome := .next (s.doGradSum q)

end Sys2Proof.Machine
end

