-- ==== Sys2Proof/Machine/Validate.lean ====
section
/-!
DEFINITION. Validation of a staged coach image (R72 to R93, R111, R115, R131 to R151, R180, R198, R213, R214, R224, R237,
R238, R383, R449, R554): each check in the order of R91, the first failing one with its validation code, status and detail.
-/
namespace Sys2Proof.Machine

/-- A failed STAGE (R92): the validation code of R93, the status and the detail. -/
structure VFail where
  vcode : Nat
  status : Nat
  detail : Nat
  deriving DecidableEq, Repr

/-- R92: DESC_INVALID with the validation code, the section type and the record index or byte offset. -/
def vbad (code ty idx : Nat) : VFail := { vcode := code, status := St.descInvalid, detail := code <<< 40 + ty <<< 32 + idx }

/-- A failure when the condition holds. -/
def failIf (b : Bool) (f : VFail) : Option VFail := if b then some f else none

/-- The first failure of a list of checks. -/
def firstFail : List (Option VFail) → Option VFail
  | [] => none
  | c :: cs => match c with
    | some f => some f
    | none => firstFail cs

/-- The first failure over the records of a list with their indices. -/
def eachRec {α : Type} (l : List α) (f : Nat → α → Option VFail) : Option VFail :=
  l.zipIdx.findSome? fun x => f x.2 x.1

/-! ### Header and directory (R72 to R76) -/

/-- R76: a directory entry: type, offset, length, record count. -/
structure DirEntry where
  ty : Nat
  off : Nat
  len : Nat
  count : Nat
  deriving DecidableEq, Repr

/-- SECTION_COUNT. -/
def sectionCount (b : Bytes) : Nat := leField b 12 2

/-- The directory of an image. -/
def directory (b : Bytes) : List DirEntry :=
  (List.range (sectionCount b)).map fun i =>
    let o := 128 + 16 * i
    { ty := leField b o 2, off := leField b (o + 4) 4, len := leField b (o + 8) 4, count := leField b (o + 12) 4 }

/-- R76, R77: the bytes that the records of a section occupy. -/
def recordBytes (e : DirEntry) : Nat :=
  match e.ty with
  | 0x0001 => 32 * e.count
  | 0x0002 => e.count
  | 0x0006 => e.count
  | 0x0008 => if e.count = 0 then 0 else 32 + 16 * (e.count - 1)
  | 0x0009 => 32 * e.count
  | _ => 16 * e.count

/-- The image that a byte string holds. -/
def parseImage (b : Bytes) : Image :=
  { hdr := sliceBytes b 0 128,
    secs := (directory b).map fun e => (e.ty, e.count, sliceBytes b e.off (recordBytes e)) }

/-- R91 step 1. -/
def headerCheck (g : Nat) (b : Bytes) (length : Nat) : Option VFail :=
  firstFail [
    failIf (leField b 0 4 ≠ 0x414F4351) (vbad 0x01 0 0),
    failIf (leField b 5 1 ≠ 1) (vbad 0x02 0 5),
    failIf (leField b 4 1 ≠ 0) (vbad 0x02 0 4),
    failIf (g = 0 || leField b 6 1 ≠ g) (vbad 0x03 0 6),
    failIf (leField b 8 4 % 1024 ≠ 0 || 50331648 < leField b 8 4 || leField b 8 4 ≠ length) (vbad 0x04 0 8),
    failIf (sectionCount b = 0 || 16 < sectionCount b) (vbad 0x07 0 12),
    failIf (1 < leField b 7 1) (vbad 0x09 0 7),
    (firstNonzero (sliceBytes b 0 128) [(14, 2), (27, 1), (30, 2), (80, 48)]).map (vbad 0x09 0)]

/-- R75: the digest of an image: bytes 32 to 79 taken as zero. -/
def bodyHash (b : Bytes) : Bytes := sha384 (b.take 32 ++ List.replicate 48 0 ++ b.drop 80)

/-- R91 step 4: the first unit that a mask names and the part lacks, as ENGINE_ABSENT. -/
def maskCheck (g : Grade) (b : Bytes) : Option VFail :=
  let one (kind mask have' : Nat) : Option VFail :=
    (((maskBits 16 mask).find? fun i => have' ≤ i)).map fun i =>
      { vcode := 0x17, status := St.engineAbsent, detail := kind <<< 32 + i }
  firstFail [one 3 (leField b 24 1) g.coll, one 4 (leField b 25 1) g.comp, one 1 (leField b 26 1) g.laulo,
             one 5 (leField b 28 2) g.upd]

/-- R91 step 5: the directory. A TYPE outside the R77 table is code 0x07, and a missing section has offset 0 (DESIGN CHOICE, log entry
43). -/
def directoryCheck (b : Bytes) : Option VFail :=
  let n := sectionCount b
  let len := leField b 8 4
  let es := directory b
  let known (t : Nat) : Bool := 1 ≤ t && t ≤ 0x000B
  firstFail [
    failIf (len < 128 + 16 * n) (vbad 0x07 0 12),
    eachRec es fun i e =>
      let o := 128 + 16 * i
      firstFail [
        (firstNonzero (sliceBytes b o 16) [(2, 2)]).map fun k => vbad 0x09 0 (o + k),
        failIf (!known e.ty || (es.take i).any fun x => e.ty ≤ x.ty) (vbad 0x07 0 o),
        failIf (e.off % 256 ≠ 0 || e.off < 128 + 16 * n || len < e.off + e.len) (vbad 0x07 0 (o + 4)),
        failIf ((es.take i).any fun x => rangesMeet x.off x.len e.off e.len) (vbad 0x07 0 (o + 4)),
        failIf (e.len < recordBytes e) (vbad 0x07 0 (o + 8)),
        failIf ((e.ty = 0x0008 || e.ty = 0x000B) && e.count = 0) (vbad 0x07 0 (o + 12))],
    failIf (!(es.any (·.ty = 0x0001)) || !(es.any (·.ty = 0x0008))) (vbad 0x08 0 0),
    ((List.range len).find? fun k =>
      128 + 16 * n ≤ k && b.getD k 0 ≠ 0 && !(es.any fun e => e.off ≤ k && k < e.off + e.len)).map (vbad 0x09 0)]

/-- R76: padding of a section after its records is zero; the byte offset of a failure counts from the start of the image (DESIGN CHOICE,
log entry 43). -/
def paddingCheck (b : Bytes) (e : DirEntry) : Option VFail :=
  ((List.range (e.len - recordBytes e)).find? fun k => b.getD (e.off + recordBytes e + k) 0 ≠ 0).map fun k =>
    vbad 0x09 e.ty (e.off + recordBytes e + k)

/-! ### Records (R77 to R88) -/

/-- R77, R91: record `i` does not follow the one before it in the order of their keys. -/
def disorderAt {α : Type} (lt : α → α → Bool) (l : List α) : Nat → Bool
  | 0 => false
  | i + 1 => match l[i]?, l[i + 1]? with
    | some a, some b => !lt a b
    | _, _ => false

/-- A record's reserved bytes. -/
def reservedRec (ty i : Nat) (r : Bytes) (rs : List (Nat × Nat)) : Option VFail :=
  failIf ((firstNonzero r rs).isSome) (vbad 0x09 ty i)

/-- R78: the CORE section. -/
def coreCheck (g : Grade) (im : Image) : Option VFail :=
  let n := im.secCount 1
  firstFail [
    failIf (n ≠ g.cores) (vbad 0x0A 1 (min n g.cores)),
    eachRec (im.recs 1 32 id) fun i r =>
      let c := parseCore r
      firstFail [
        failIf (1 < c.role || 1 < c.flags || 4 < c.tables) (vbad 0x09 1 i),
        reservedRec 1 i r [(3, 1), (20, 12)],
        failIf (c.role = 0 && c.progLen ≠ 0) (vbad 0x09 1 i)]]

/-- R77, R78: programs lie in the PROG section. A failure is reported with the type of the PROG section and the CORE record's index, after
the whole CORE section; an idle core with a program is code 0x09 (DESIGN CHOICE, log entry 43). -/
def progCheck (im : Image) : Option VFail :=
  eachRec im.coreRecs fun i c =>
    failIf (16384 < c.progLen || c.progLen % 4 ≠ 0 ||
      (c.progLen ≠ 0 && (c.progOff % 4 ≠ 0 || im.secCount 2 < c.progOff + c.progLen))) (vbad 0x0B 2 i)

/-- R79: in queues. -/
def QueueRec.isIn (q : QueueRec) : Bool := q.kind ≤ 1
/-- R79: control queues. -/
def QueueRec.isCtrl (q : QueueRec) : Bool := q.kind = 1 || q.kind = 3

/-- R79: the QUEUE section. An out queue whose ROUTE names a route that does not start at it is code 0x0D with this section's type (DESIGN
CHOICE, log entry 43). -/
def queueCheck (im : Image) : Option VFail :=
  let qs := im.queueRecs
  eachRec (im.recs 3 16 id) fun i r =>
      let q := parseQueue r
      firstFail [
        failIf (disorderAt (fun a b => a.core < b.core || (a.core = b.core && a.q < b.q)) qs i) (vbad 0x0A 3 i),
        reservedRec 3 i r [(7, 1), (12, 4)],
        failIf (3 < leField r 3 1 || 6 < q.unit || (q.isIn && q.route ≠ 0xFFFFFFFF)) (vbad 0x09 3 i),
        failIf (im.secCount 1 ≤ q.core || !im.active q.core || 63 < q.q || q.depth = 0 || 64 < q.depth ||
                256 < ((qs.take (i + 1)).filter (·.core = q.core)).foldl (fun n x => n + x.depth) 0) (vbad 0x0C 3 i),
        failIf (!q.isIn && (match im.route? q.route with
                            | some t => !(t.srcKind = 0 && t.src = q.core && t.srcQ = q.q)
                            | none => true)) (vbad 0x0D 3 i)]

/-- R80: the mask or the part names this unit. -/
def unitNamed (im : Image) (u : Nat) : Bool :=
  let i := unitInstOf u
  match unitKindOf u with
  | 1 => i < 8 && bitOf (leField im.hdr 26 1) i
  | 2 => i < 4
  | 3 => i < 8 && bitOf (leField im.hdr 24 1) i
  | 4 => i < 8 && bitOf (leField im.hdr 25 1) i
  | 5 => i < 16 && bitOf (leField im.hdr 28 2) i
  | 6 => i < 2
  | _ => false

/-- The gradient output operand of a core that names an out queue with SRC 1. -/
def Image.gradOut (im : Image) (core q : Nat) : Option OperandRec :=
  (im.tables core).findSome? fun t => t.operands.find? fun o => o.role = 4 && o.src = 1 && o.arg = q

/-- R85: a trained parameter. -/
def ParamRec.trained (p : ParamRec) : Bool := !ParamFlags.frozen p

/-- Every gradient output of the image: core, operand. -/
def Image.gradOutputs (im : Image) : List (Nat × OperandRec) :=
  (List.range (im.secCount 1)).flatMap fun n =>
    (im.tables n).flatMap fun t => (t.operands.filter (·.role = 4)).map fun o => (n, o)

/-- R86: the distinct use numbers of a parameter. -/
def Image.uses (im : Image) (id : Nat) : List Nat :=
  ((im.gradOutputs.filter fun x => x.2.tensor = id).map fun x => x.2.use).eraseDups

/-- R80, R111, R213, R214, R238, R383, R86: whether one ROUTE record is allowed. -/
def routeOk (im : Image) (i : Nat) (t : RouteRec) : Bool :=
  let rs := im.routeRecs
  let unitOk (u : Nat) : Bool := unitNamed im u
  let coreEnd (c q : Nat) (wantIn : Bool) : Option QueueRec :=
    match im.queue? c q with
    | some x => if x.isIn = wantIn then some x else none
    | none => none
  let src := if t.srcKind = 0 then coreEnd t.src t.srcQ false else none
  let dst := if t.dstKind = 0 then coreEnd t.dst t.dstQ true else none
  let srcOk := if t.srcKind = 0 then (match src with | some x => x.route = i | none => false) else unitOk t.src
  let dstOk := if t.dstKind = 0 then
      (match dst with
       | some _ => !((rs.take i).any fun o => o.dstKind = 0 && o.dst = t.dst && o.dstQ = t.dstQ)
       | none => false)
    else unitOk t.dst
  let unitEnd := if t.srcKind = 1 then t.src else t.dst
  let k := unitKindOf unitEnd
  let q := if t.srcKind = 1 then dst else src
  let ctrl := match q with | some x => x.isCtrl | none => false
  let sameEnds (o : RouteRec) : Bool :=
    if t.dstKind = 1 then o.dstKind = 1 && o.dst = t.dst && o.srcKind = 0 && o.src = t.src &&
        ((im.queue? o.src o.srcQ).map QueueRec.isCtrl).getD false = ctrl
    else o.srcKind = 1 && o.src = t.src && o.dstKind = 0 && o.dst = t.dst
  let classOk :=
    if t.srcKind = 0 && t.dstKind = 0 then
      t.cls = 0 && t.spread = 0xFF && (match src, dst with | some a, some b => a.isCtrl = b.isCtrl | _, _ => false)
    else if t.srcKind = 1 && t.dstKind = 1 then false
    else
      1 ≤ t.cls && t.cls ≤ 5 &&
      (t.spread = 0xFF || im.spreadRecs.any (·.set = t.spread)) &&
      (if k = 1 then t.cls ≤ 4 && (t.cls = 1) = ctrl else true) &&
      (if k = 4 || k = 6 then t.cls = 5 && !((rs.take i).any sameEnds) else true) &&
      (if k = 5 && t.dstKind = 1 then
         (match im.gradOut t.src t.srcQ with
          | some o =>
            (match im.param? o.tensor with
             | some p => p.trained && ParamFlags.streamed p && (im.uses o.tensor).length ≤ 1 &&
                         (match src with | some x => decide (x.kind = 2) | none => false)
             | none => false)
          | none => false)
       else true)
  srcOk && dstOk && classOk

/-- R80: the ROUTE section. -/
def routeCheck (im : Image) : Option VFail :=
  eachRec (im.recs 4 16 id) fun i r =>
    let t := parseRoute r
    firstFail [
      reservedRec 4 i r [(10, 6)],
      failIf (1 < t.srcKind || 1 < t.dstKind || (t.srcKind = 1 && t.srcQ ≠ 0) || (t.dstKind = 1 && t.dstQ ≠ 0)) (vbad 0x09 4 i),
      failIf (!routeOk im i t) (vbad 0x0D 4 i)]

/-- R81, R115: the STEER section. -/
def steerCheck (im : Image) : Option VFail :=
  let ss := im.steerRecs
  let dataOut (c q : Nat) : Bool := match im.queue? c q with | some x => x.kind = 2 | none => false
  let lt := fun (a b : SteerRec) =>
    a.core < b.core || (a.core = b.core && (a.ctrlQ < b.ctrlQ || (a.ctrlQ = b.ctrlQ && a.sel ≤ b.sel)))
  eachRec (im.recs 5 16 id) fun i r =>
      let s := parseSteer r
      let queueIs (q kind : Nat) : Bool := match im.queue? s.core q with | some x => x.kind = kind && x.unit = 5 | none => false
      let outsOk :=
        match s.action with
        | 0 => dataOut s.core s.outA && s.outB = 0xFF
        | 1 => dataOut s.core s.outA && dataOut s.core s.outB && s.outA ≠ s.outB
        | _ => s.outA = 0xFF && s.outB = 0xFF
      let before := (ss.take i).filter (·.core = s.core)
      firstFail [
        failIf (disorderAt lt ss i) (vbad 0x0A 5 i),
        reservedRec 5 i r [(8, 8)],
        failIf (15 < s.sel || 3 < s.action) (vbad 0x09 5 i),
        failIf (!queueIs s.ctrlQ 1 || !queueIs s.dataQ 0 || !outsOk ||
                before.any (fun x => x.ctrlQ = s.ctrlQ && (x.sel = s.sel || x.dataQ ≠ s.dataQ)) ||
                before.any (fun x => x.dataQ = s.dataQ && x.ctrlQ ≠ s.ctrlQ)) (vbad 0x0E 5 i)]

/-! ### Loop tables (R131 to R139, R180, R198, R237) -/

/-- R136: the least and the greatest tile index of a linear form over all iterations. -/
def tileExtremes (t : LoopTable) (o : OperandRec) : Int × Int :=
  t.levels.zipIdx.foldl (fun (acc : Int × Int) x =>
    let s := o.stride.getD x.2 0 * ((x.1.count : Int) - 1)
    (acc.1 + min 0 s, acc.2 + max 0 s)) (0, 0)

/-- R136, R139: the byte range that tiles of `unit` bytes take from `base` on over the extremes of a linear form; a half tile takes
half of that. -/
def linearRange (base unit : Nat) (half : Bool) (ex : Int × Int) : Int × Int :=
  let u := if half then unit / 2 else unit
  ((base : Int) + ex.1 * u, (base : Int) + (ex.2 + 1) * u)

/-- R139: every tile and scale of a resident operand lies in the core's memory of `limit` bytes. -/
def residentOk (t : LoopTable) (o : OperandRec) (limit : Nat) : Bool :=
  let half := t.isMatrix && t.outShape = 1 && (o.role = 3 || o.role = 4)
  let ex := tileExtremes t o
  let v := linearRange o.base (tileBytes o.fmt) half ex
  let sc := linearRange o.scaleBase 64 half ex
  0 ≤ v.1 && v.2 ≤ limit && (!scaledFmt o.fmt || (0 ≤ sc.1 && sc.2 ≤ limit))

/-- R196: inputs that a vector operation takes: least and most. -/
def vectorArity : Nat → Nat × Nat
  | 1 => (2, 2) | 2 => (2, 2) | 3 => (3, 3) | 4 => (2, 4) | 5 => (2, 2) | 6 => (1, 1) | 7 => (1, 1) | 8 => (1, 1)
  | 9 => (2, 2) | 10 => (1, 1) | 11 => (1, 1) | 12 => (2, 2) | _ => (5, 0)

/-- R139: the queue of a SRC 1 operand. -/
def operandQueueOk (im : Image) (core : Nat) (t : LoopTable) (o : OperandRec) : Bool :=
  match im.queue? core o.arg with
  | none => false
  | some q =>
    if o.role = 3 || o.role = 4 then q.kind = 2 && q.unit = (if t.isMatrix then 2 else 3)
    else q.kind = 0 && q.unit = (if t.isMatrix then (if o.role = 0 then 0 else 1) else 3)

/-- R237: the output of a vector table is an update output. -/
def Image.updateOutput (im : Image) (t : LoopTable) : Option ParamRec :=
  if t.unit = 1 then
    (t.operands.find? (·.role = 3)).bind fun o =>
      (im.param? o.tensor).bind fun p => if p.trained && !ParamFlags.streamed p then some p else none
  else none

/-- R228, R237: [a, a + len) lies wholly in the scratchpad of the core, or in those of the members of its gang. -/
def inOwnMemory (g : Grade) (gangMask core a len : Nat) : Bool :=
  let own := fun (m : Nat) => m = core || (bitOf gangMask (g.cluster core).1 && (g.cluster m).1 = (g.cluster core).1)
  let m0 := (a - spBase) / 2097152
  spBase ≤ a && a + len ≤ spBase + g.cores * 2097152 &&
    (List.range ((a + max 1 len - 1 - spBase) / 2097152 + 1 - m0)).all fun k => own (m0 + k)

/-- R139: the range rules of one operand; `size` gives the bytes of a parameter's home. -/
def operandOk (g : Grade) (size : ParamRec → Nat) (im : Image) (core : Nat) (t : LoopTable) (o : OperandRec) (limit : Nat) : Bool :=
  let out := o.role = 3 || o.role = 4
  let nl := t.levels.length
  o.role ≤ 4 && o.src ≤ 3 && fmtOk o.fmt && o.hold ≤ nl &&
  (o.src ≠ 0 || o.hold = 0) &&
  ((o.src = 1 || o.src = 2) || o.arg = 0xFF) &&
  (o.role = 4 || o.use = 0) &&
  (scaledFmt o.fmt || o.scaleBase = 0xFFFFFFFF) &&
  (o.stride.drop nl).all (· = 0) &&
  (!out || o.src ≤ 1) &&
  (o.src ≠ 3 || t.unit = 2) &&
  ((o.src ≠ 2 && o.src ≠ 3) || o.stride.all (· = 0)) &&
  (if t.isMatrix then o.role ≠ 2 && (out || o.fmt ≠ 8) else o.role ≠ 4) &&
  (!out || (t.levels.zipIdx.all fun l =>
      if l.1.kind = 1 then o.stride.getD l.2 0 = 0 else l.1.count ≤ 1 || o.stride.getD l.2 0 ≠ 0)) &&
  (o.src ≠ 1 || operandQueueOk im core t o) &&
  (o.src ≠ 0 || residentOk t o limit ||
    (out && (match im.updateOutput t with | some _ => true | none => false))) &&
  (o.role ≠ 4 || (match im.param? o.tensor with | some p => p.trained | none => false)) &&
  (match im.updateOutput t with
   | some p => !out || (o.fmt = 8 && inOwnMemory g im.gangMask core p.home (size p))
   | none => true)

/-- R131 to R139, R180, R198: the rules of one table. -/
def tableOk (g : Grade) (size : ParamRec → Nat) (im : Image) (core : Nat) (t : LoopTable) : Bool :=
  let limit := if bitOf im.gangMask (g.cluster core).1 then 33554432 else 2097152
  let nl := t.levels.length
  let role (r : Nat) : Nat := (t.operands.filter (·.role = r)).length
  let inputs := (t.operands.filter (·.role ≤ 2)).length
  t.unit ≤ 2 && 1 ≤ nl && nl ≤ 6 && 1 ≤ t.operands.length && t.operands.length ≤ 6 &&
  (if t.isMatrix then t.accFmt ≤ 1 && t.outShape ≤ 1 && t.op ≤ 3 else t.accFmt = 0 && t.outShape = 0) &&
  (t.spillOff = 0xFFFFFFFF || t.spillOff % 256 = 0) &&
  (t.levels.all fun l => l.kind ≤ 1 && 1 ≤ l.count && l.count ≤ 65536) &&
  ((List.range nl).all fun k => (t.levels.filter (·.nest = k)).length = 1) &&
  t.total = t.levels.foldl (fun n l => n * l.count) 1 &&
  (if t.isMatrix then role 0 = 1 && role 1 = 1 && role 3 + role 4 = 1
   else
     role 3 = 1 && role 4 = 0 && inputs ≤ 4 && (vectorArity t.op).1 ≤ inputs && inputs ≤ (vectorArity t.op).2 &&
     t.levels.all fun l => l.kind = 0 || l.count ≤ 1) &&
  (t.unit ≠ 2 || (t.operands.filter (·.src = 3)).length = 1) &&
  t.operands.all fun o => operandOk g size im core t o limit

/-- R132 to R134: the reserved fields of a table that starts a byte string are zero. -/
def tableReserved (bs : Bytes) : Bool :=
  let nl := leField bs 1 1
  let no := leField bs 2 1
  (firstNonzero bs ([(7, 1), (16, 16)] ++
    (List.range nl).flatMap (fun i => [(32 + 16 * i + 3, 1), (32 + 16 * i + 8, 8)]) ++
    (List.range no).map (fun i => (32 + 16 * nl + 32 * i + 5, 1)))).isNone &&
  leField bs 3 1 ≤ 1 && (List.range nl).all fun i => leField bs (32 + 16 * i + 2) 1 ≤ 1

/-- The byte strings of a core's tables, laid end to end, while they lie inside LOOP_LEN; `none` when one does not. -/
def tableSlices : Bytes → Nat → Option (List Bytes)
  | _, 0 => some []
  | bs, n + 1 =>
    let l := tableLen (leField bs 1 1) (leField bs 2 1)
    if bs.length < 32 ∨ bs.length < l then none
    else (tableSlices (bs.drop l) n).map fun r => bs.take l :: r

/-- R139: the LOOP section, core by core. -/
def loopCheck (g : Grade) (size : ParamRec → Nat) (im : Image) : Option VFail :=
  eachRec im.coreRecs fun i c =>
    if c.role = 0 then failIf (c.tables ≠ 0 || c.loopLen ≠ 0) (vbad 0x0F 6 i)
    else if c.tables = 0 then none
    else if c.loopOff % 16 ≠ 0 || im.secCount 6 < c.loopOff + c.loopLen then some (vbad 0x0F 6 i)
    else match tableSlices (sliceBytes (im.sec 6) c.loopOff c.loopLen) c.tables with
      | none => some (vbad 0x0F 6 i)
      | some ss =>
        let ts := ss.map parseTable
        let queues := ts.flatMap fun t => (t.operands.filter (·.src = 1)).map (·.arg)
        firstFail [
          failIf (!ss.all tableReserved) (vbad 0x09 6 i),
          failIf (!(ts.all (tableOk g size im i)) || queues.eraseDups.length ≠ queues.length) (vbad 0x0F 6 i)]

/-! ### Windows, formats, parameters, chains, clusters -/

/-- R83: the WINDOW section. -/
def windowCheck (g : Grade) (im : Image) : Option VFail :=
  let ws := im.windowRecs
  eachRec (im.recs 7 16 id) fun i r =>
      let w := parseWindow r
      let limit := if bitOf im.gangMask (g.cluster w.core).1 then 33554432 else 2097152
      firstFail [
        failIf (disorderAt (fun a b => a.core < b.core || (a.core = b.core && a.w < b.w)) ws i) (vbad 0x0A 7 i),
        reservedRec 7 i r [(6, 2)],
        failIf (7 < w.access) (vbad 0x09 7 i),
        failIf (im.secCount 1 ≤ w.core || !im.active w.core || 15 < w.w || w.base % 256 ≠ 0 || w.len % 256 ≠ 0 || w.len < 256 ||
                limit < w.base + w.len ||
                (ws.take i).any fun x => x.core = w.core && rangesMeet x.base x.len w.base w.len) (vbad 0x10 7 i)]

/-- R84: the FORMAT section. -/
def formatCheck (im : Image) : Option VFail :=
  let gov := sliceBytes (im.sec 8) 0 32
  let v := parseGov gov
  let ts := (List.range (im.secCount 8 - 1)).map fun n => sliceBytes (im.sec 8) (32 + 16 * n) 16
  firstFail [
    reservedRec 8 0 gov [(10, 22)],
    failIf (v.hold = 0 || v.start < 4 || 6 < v.start || v.ufUp < v.ufDown || v.satUp < v.satDown) (vbad 0x11 8 0),
    eachRec ts fun i r =>
      let t := parseTensor r
      firstFail [
        failIf (disorderAt (fun a b : Bytes => (parseTensor a).id < (parseTensor b).id) ts i) (vbad 0x0A 8 (i + 1)),
        reservedRec 8 (i + 1) r [(8, 8)],
        failIf (1 < t.scale || 1 < t.round || 4 < t.role) (vbad 0x09 8 (i + 1)),
        failIf (t.id = 0 || !(fmtOk t.fmt || t.fmt = 0x0F) || (scaledFmt t.fmt && t.scale = 0) ||
                (t.fmt = 0x0F && t.role ≠ 2)) (vbad 0x11 8 (i + 1))]]

/-- R554: the slot header of page 0 of a TOUCHED_ROWS home, read through its view. -/
structure HomeHeader where
  id : Nat
  page : Nat
  rows : Nat
  cols : Nat
  touchRows : Nat
  kind : Nat
  fmt : Nat
  wstep : Nat
  maskId : Nat
  deriving DecidableEq, Repr

/-- R230: parse a slot header. -/
def parseHomeHeader (b : Bytes) : HomeHeader :=
  { id := leField b 0 4, page := leField b 4 4, rows := leField b 8 4, cols := leField b 12 4, touchRows := leField b 16 4,
    kind := leField b 20 1, fmt := leField b 21 1, wstep := leField b 24 4, maskId := leField b 28 4 }

/-- R554: the header of page 0 of a home as a STAGE of domain `d` reads it, when it can. A home in the scratchpads has no cart whose domain
could differ, and a header in a cart whose access fails cannot be read (DESIGN CHOICE, log entry 43). -/
def State.homeHeader (s : State) (d home : Nat) : Option HomeHeader :=
  let ok := if home < 0x100000000000 then s.mapped (cartOf home) && (s.cart (cartOf home)).domain = d && !s.cartFails (cartOf home)
            else spBase ≤ home && home < spBase + s.grade.cores * 2097152
  if ok then some (parseHomeHeader (s.raw (slotPlace (pageOf home) (s.committedSlot (pageOf home)) 0) 64)) else none

/-- R554: touch units of a parameter at the STAGE; `none` when the header fails. -/
def State.paramUnits (s : State) (d : Nat) (p : ParamRec) : Option Nat :=
  if !ParamFlags.touched p then some 0
  else
    (s.homeHeader d p.home).bind fun h =>
      if h.id = p.id && h.page = 0 && h.kind = 0 && h.rows * h.cols = p.count && h.touchRows ≠ 0 && h.rows % h.touchRows = 0
      then some (h.rows / h.touchRows) else none

/-- R85: bytes of the home of a parameter at the STAGE. -/
def State.paramSize (s : State) (d : Nat) (p : ParamRec) : Nat := homeBytes p.count ((s.paramUnits d p).getD 0)

/-- R85, R554: the PARAM section. -/
def State.paramCheck (s : State) (d : Nat) (im : Image) : Option VFail :=
  let ps := im.paramRecs
  let range (p : ParamRec) : Nat × Nat := (p.home, s.paramSize d p)
  eachRec (im.recs 9 32 id) fun i r =>
      let p := parseParam r
      firstFail [
        failIf (disorderAt (fun a b => a.id < b.id) ps i) (vbad 0x0A 9 i),
        reservedRec 9 i r [(7, 1), (28, 4)],
        failIf (4095 < p.group || 15 < p.flags) (vbad 0x09 9 i),
        failIf ((im.tensor? p.id).isNone) (vbad 0x12 9 i),
        failIf (p.home % 131072 ≠ 0 || p.count = 0 || (!ParamFlags.masked p && p.maskId ≠ 0) ||
                (match im.tensor? p.id with
                 | some t => t.role ≠ 0 || (p.trained && t.fmt ≠ 6 && t.fmt ≠ 7)
                 | none => false)) (vbad 0x11 9 i),
        failIf ((s.paramUnits d p).isNone) (vbad 0x12 9 i),
        failIf ((ps.take i).any fun o => rangesMeet (range o).1 (range o).2 (range p).1 (range p).2) (vbad 0x12 9 i)]

/-- The members of a chain, in position order. -/
def Image.chain (im : Image) (c : Nat) : List CarriageRec := im.carriageRecs.filter (·.chain = c)

/-- The chain numbers of the image, ascending. -/
def Image.chainNums (im : Image) : List Nat := (im.carriageRecs.map (·.chain)).eraseDups

/-- R149: the UNIT 6 queues of a core of one direction, by QNUM. -/
def Image.chainQueues (im : Image) (core : Nat) (isIn : Bool) : List QueueRec :=
  im.queueRecs.filter fun q => q.core = core && q.unit = 6 && q.isIn = isIn && !q.isCtrl

/-- R149: the chains of a core, ascending; with `out` those in which it is not last. -/
def Image.coreChains (im : Image) (core : Nat) (out : Bool) : List Nat :=
  im.chainNums.filter fun c =>
    let ms := im.chain c
    ms.any fun m => m.core = core && (!out || m.pos + 1 < ms.length)

/-- R149: the in queue of a member. -/
def Image.chainIn (im : Image) (core c : Nat) : Option QueueRec :=
  (im.coreChains core false).idxOf? c |>.bind fun k => (im.chainQueues core true)[k]?

/-- R149: the out queue of a member that is not last. -/
def Image.chainOut (im : Image) (core c : Nat) : Option QueueRec :=
  (im.coreChains core true).idxOf? c |>.bind fun k => (im.chainQueues core false)[k]?

/-- The route that ends at a core's in queue, with its index. -/
def Image.routeInto (im : Image) (core q : Nat) : Option (Nat × RouteRec) :=
  (im.routeRecs.zipIdx.find? fun r => r.1.dstKind = 0 && r.1.dst = core && r.1.dstQ = q).map fun r => (r.2, r.1)

/-- R137: takes of an operand in one run of its table: 1 plus the changes of levels whose NEST is at least HOLD. -/
def takesPerRun (t : LoopTable) (o : OperandRec) : Nat :=
  (t.levels.filter fun l => o.hold ≤ l.nest).foldl (fun n l => n * l.count) 1

/-- R149: the queues and routes of a chain's member. -/
def memberOk (im : Image) (m : CarriageRec) : Bool :=
  let ms := im.chain m.chain
  match im.chainIn m.core m.chain with
  | none => false
  | some q =>
    (m.pos + 1 = ms.length || (im.chainOut m.core m.chain).isSome) &&
    (match im.routeInto m.core q.q with
     | none => false
     | some (_, r) =>
       if m.pos = 0 then r.srcKind = 1 || !(ms.any (·.core = r.src))
       else
         match ms.find? (·.pos = m.pos - 1) with
         | none => false
         | some p => (match im.chainOut p.core m.chain with
           | some o => r.srcKind = 0 && r.src = p.core && r.srcQ = o.q
           | none => false))

/-- R449: the tenant feeds of the image: chain, route index, window 15 of the head core. -/
def Image.feedRoute (im : Image) (c : Nat) : Option (Nat × CarriageRec × ParamRec) :=
  ((im.chain c).find? (·.pos = 0)).bind fun h =>
    (im.chainIn h.core c).bind fun q =>
      (im.routeInto h.core q.q).bind fun r =>
        if r.2.srcKind = 1 && unitKindOf r.2.src = 6 then
          (im.param? h.tensor).bind fun p => if ParamFlags.touched p then some (r.1, h, p) else none
        else none

/-- R449: whether a feed is allowed. -/
def State.feedOk (s : State) (d : Nat) (im : Image) (c : Nat) : Option VFail :=
  match im.feedRoute c with
  | none => none
  | some (route, h, p) =>
    let w := im.windowRecs.find? fun w => w.core = h.core && w.w = 15
    let hd := (s.homeHeader d p.home).getD (parseHomeHeader [])
    let depth := ((im.chainIn h.core c).map (·.depth)).getD 0
    let ok := match w with
      | none => false
      | some w => bitOf w.access 0 && depth ≤ w.len / max 1 (tileBytes hd.fmt) &&
                  h.tiles = ceilDiv hd.touchRows 64 * ceilDiv hd.cols 64
    failIf (!ok) (vbad 0x0D 4 route)

/-- R87, R149 to R151, R449: the CARRIAGE section. A chain whose records differ in TENSOR_ID or TILES is reported with the index of its
first record (DESIGN CHOICE, log entry 43). -/
def State.carriageCheck (s : State) (d : Nat) (im : Image) : Option VFail :=
  let cs := im.carriageRecs
  let headIdx (c : Nat) : Nat := ((cs.zipIdx.find? fun x => x.1.chain = c && x.1.pos = 0).map (·.2)).getD 0
  firstFail [
    eachRec (im.recs 10 16 id) fun i r =>
      let m := parseCarriage r
      let ms := im.chain m.chain
      firstFail [
        failIf (disorderAt (fun a b => a.chain < b.chain || (a.chain = b.chain && a.pos < b.pos)) cs i) (vbad 0x0A 10 i),
        reservedRec 10 i r [(6, 2)],
        failIf (255 < m.chain || im.secCount 1 ≤ m.core || !im.active m.core ||
                (ms.filter (·.core = m.core)).length ≠ 1 || ((ms.map (·.pos)).idxOf? m.pos) ≠ some m.pos ||
                ms.any (fun x => x.tensor ≠ m.tensor || x.tiles ≠ m.tiles) || !memberOk im m) (vbad 0x13 10 i)],
    (List.range (im.secCount 1)).findSome? fun n =>
      (im.tables n).findSome? fun t => t.operands.findSome? fun o =>
        if o.src ≠ 2 then none
        else
          let ms := im.chain o.arg
          failIf (!(ms.any (·.core = n)) || (ms.head?.map (·.tiles)) ≠ some (takesPerRun t o))
            (vbad 0x13 10 (headIdx o.arg)),
    im.chainNums.findSome? (s.feedOk d im)]

/-- R88: the CLUSTER section. -/
def clusterCheck (g : Grade) (im : Image) : Option VFail :=
  let ss := im.spreadRecs
  if im.secCount 11 = 0 then none
  else firstFail [
    failIf (leField (im.sec 11) 0 8 / 2 ^ g.clusters ≠ 0) (vbad 0x14 11 0),
    failIf (leField (im.sec 11) 8 8 ≠ 0) (vbad 0x09 11 0),
    eachRec ((List.range (im.secCount 11 - 1)).map fun n => sliceBytes (im.sec 11) (16 + 16 * n) 16) fun i r =>
      let x := parseSpread r
      firstFail [
        failIf (disorderAt (fun a b : SpreadRec => a.set ≤ b.set) ss i) (vbad 0x0A 11 (i + 1)),
        reservedRec 11 (i + 1) r [(3, 1)],
        failIf (31 < x.set || (ss.take i).any (·.set = x.set) || 1 < x.die || x.len = 0 || 12 < x.len ||
                !ascending (x.routers.take x.len) || !((x.routers.take x.len).all (onEdge g x.die)) ||
                !((x.routers.drop x.len).all (· = 0xFF))) (vbad 0x14 11 (i + 1))]]

/-! ### Tied parameters and accumulators (R86, R144 to R146, R224) -/

/-- R86: the place of a gradient output, where the image fixes it: its core, and the range from the lowest to the highest byte that its
tiles and scales take over all iterations. -/
def Image.gradPlace (im : Image) (core : Nat) (t : LoopTable) (o : OperandRec) : Option (Nat × Int × Int) :=
  let ex := tileExtremes t o
  let half := t.outShape = 1
  let v := linearRange o.base (tileBytes o.fmt) half ex
  let sc := linearRange o.scaleBase 64 half ex
  let r := if scaledFmt o.fmt then (min v.1 sc.1, max v.2 sc.2) else v
  if o.src = 0 then some (core, r)
  else
    (im.queue? core o.arg).bind fun q => (im.route? q.route).bind fun x =>
      if x.dstKind = 0 then some (x.dst, r) else none

/-- R86, R224: the tied-parameter rule. -/
def tiedCheck (im : Image) : Option VFail :=
  let split := bitOf (leField im.hdr 7 1) 0
  let outs := (List.range (im.secCount 1)).flatMap fun n =>
    (im.tables n).flatMap fun t => (t.operands.filter (·.role = 4)).map fun o => (o, im.gradPlace n t o)
  let tied (id : Nat) : VFail := { vcode := 0x18, status := St.tiedParameter, detail := id }
  im.paramRecs.findSome? fun p =>
    if !p.trained || (im.uses p.id).length ≤ 1 then none
    else if !split || !ParamFlags.streamed p then some (tied p.id)
    else
      let mine := outs.filter fun x => x.1.tensor = p.id
      failIf (mine.any fun a => mine.any fun b =>
        a.1.use ≠ b.1.use &&
        (match a.2, b.2 with
         | some (c1, r1), some (c2, r2) => c1 = c2 && r1.1 < r2.2 && r2.1 < r1.2
         | _, _ => false)) (tied p.id)

/-- R146: a table spills: it received C ≥ 1 tiles against P > C. -/
def needsSpill (t : LoopTable) (c : Nat) : Bool := t.isMatrix && 1 ≤ c && c < t.inFlight

/-- R145, R146: the accumulator count of a core. -/
def accCheck (im : Image) (n : Nat) : Option VFail :=
  let c := im.core n
  let ts := im.tables n
  let ms := ts.filter (·.isMatrix)
  let spill := bitOf c.flags 0
  let as := accAssign ts 196608
  let same := match ms with
    | [] => true
    | t :: rest => rest.all fun x => x.accFmt = t.accFmt && x.outShape = t.outShape
  let unit := if same then (ms.head?.map (·.accBytes)).getD 8192 else 8192
  let tooMany : VFail :=
    { vcode := 0x19, status := St.accOvercommit,
      detail := 0x06 <<< 32 + n <<< 16 + (min 255 (ceilDiv (accDemand ts) unit)) <<< 8 + 196608 / unit }
  if c.role = 0 then none
  else if !spill then failIf (196608 < accDemand ts) tooMany
  else (ts.zip as).findSome? fun x =>
    if !x.1.isMatrix then none
    else if x.2 = 0 then some tooMany
    else failIf (needsSpill x.1 x.2 &&
      (x.1.spillOff = 0xFFFFFFFF || 2097152 < x.1.spillOff + (x.1.inFlight - x.2 + 1) * x.1.accBytes)) (vbad 0x0F 6 n)

/-! ### The whole of R91 -/

/-- R91 steps 1 to 8 on `length` staged bytes, for a queue of domain `d`; `room` is what R89 leaves for the image. -/
def State.validate (s : State) (d : Nat) (b : Bytes) (length room : Nat) : Option VFail :=
  let g := s.grade
  match headerCheck s.geomClass b length with
  | some f => some f
  | none =>
    if room < length then some (vbad 0x05 0 8)
    else if bodyHash b ≠ sliceBytes b 32 48 then some (vbad 0x06 0 32)
    else match maskCheck g b with
    | some f => some f
    | none =>
      match directoryCheck b with
      | some f => some f
      | none =>
        let im := parseImage b
        let pad (ty : Nat) : Option VFail := ((directory b).find? (·.ty = ty)).bind (paddingCheck b)
        firstFail [coreCheck g im, pad 1, progCheck im, pad 2, queueCheck im, pad 3, routeCheck im, pad 4, steerCheck im, pad 5,
          loopCheck g (s.paramSize d) im, pad 6, windowCheck g im, pad 7, formatCheck im, pad 8, s.paramCheck d im, pad 9,
          s.carriageCheck d im, pad 10, clusterCheck g im, pad 11,
          tiedCheck im, (List.range (im.secCount 1)).findSome? (accCheck im)]

end Sys2Proof.Machine
end

