-- ==== Sys2Proof/Machine/Tokens.lean ====
section
/-!
DEFINITION. Tokens, token queues, steering and carriage chains (05_tokens_and_steering.md, the chains of
06_loop_tables_and_tiles.md), and the accesses of the fabric's units to scratchpads.
-/
namespace Sys2Proof
open Sys2Proof.Machine

/-! ### Headers (R107) -/

/-- OFFSET of a data token. -/
def TokHdr.offset (h : TokHdr) : Nat := h.arg.toNat % 2 ^ 32
/-- SCALE_OFF of a data token. -/
def TokHdr.scaleOff (h : TokHdr) : Nat := h.arg.toNat / 2 ^ 32
/-- The 16 bytes of a header. -/
def TokHdr.bytes (h : TokHdr) : Bytes :=
  leBytes 1 (h.selector % 16 * 16 + b2n h.control * 4 + h.epoch % 4) ++ leBytes 1 h.fmt ++ leBytes 2 h.tenant ++
    leBytes 2 h.mb ++ leBytes 2 h.granules ++ leBytes 8 h.arg.toNat
/-- Bytes of values and of scales that a data token carries. -/
def TokHdr.valLen (h : TokHdr) : Nat := if h.control then 0 else 64 * h.granules
/-- Scale bytes of a data token. -/
def TokHdr.scaleLen (h : TokHdr) : Nat := if h.control || h.scaleOff = 0xFFFFFFFF then 0 else 64

end Sys2Proof

namespace Sys2Proof.Machine

/-! ### Cores and routes -/

/-- A core. -/
def State.core (s : State) (n : Nat) : CoreRt := Sparse.get {} s.cores n
/-- Change a core. -/
def State.modCore (s : State) (n : Nat) (f : CoreRt → CoreRt) : State := { s with cores := Sparse.set {} s.cores n (f (s.core n)) }
/-- A route. -/
def State.route (s : State) (k : Nat) : RouteRt := Sparse.get {} s.routes k
/-- Change a route. -/
def State.modRoute (s : State) (k : Nat) (f : RouteRt → RouteRt) : State :=
  { s with routes := Sparse.set {} s.routes k (f (s.route k)) }

/-- The active image; an empty one when none is. -/
def State.im (s : State) : Image := s.image.getD { hdr := [], secs := [] }

/-- R98: the coach epoch. -/
def State.epoch (s : State) : Nat := s.fld FabCoachStatus.epoch

/-- R415: the run has met an uncorrectable error, so that cores and routers start no handshake. -/
def State.halted (s : State) : Bool :=
  match s.seg with
  | some r => r.errs.any fun e => e.1 = St.uncorrectable
  | none => false

/-- The cores work: an image is active, a SEGMENT_RUN is in progress and has not stopped. -/
def State.working (s : State) : Bool := s.image.isSome && s.seg.isSome && !s.halted

/-- R109, R456: the domain whose windows admit payloads. -/
def State.segDomain (s : State) : Nat := ((s.seg.map (·.domain)).getD (s.fld FabDomCtl.domain))

/-! ### Errors of the fabric's stores (R49, R189, R408, R409) -/

/-- R411: an access of a word of a core's store by detector `det`: an injected flip of one bit is corrected and counted; one of
two bits is an uncorrectable error. -/
def State.flipCheck (s : State) (det n counter : Nat) : State :=
  let r := s.fire det n fun _ => true
  match r.1 with
  | none => r.2
  | some j =>
    if j.bits = 1 then (r.2.count counter n 1).corrected
    else
      let s1 := if det = 0x01 then r.2.setFld (CoreStatus.spUe n) 1
                else if det = 0x02 then r.2.setFld (CoreEngStatus.accUe n) 1 else r.2
      s1.fabricError St.uncorrectable det n 0 n true

/-- R409: a watchdog trip that an injection forces at a handshake of core `n`. -/
def State.watchCheck (s : State) (n : Nat) : State :=
  let r := s.fire 0x05 n fun _ => true
  if r.1.isSome then r.2.fabricError St.uncorrectable 0x05 n 0 n true else r.2

/-- R408, R409: the checks of one handshake of a core. -/
def State.coreCheck (s : State) (n : Nat) : State := (s.flipCheck 0x03 n 0x001).watchCheck n

/-- The parts of [off, off + len) of core `n`'s memory that lie in one line of a scratchpad, as unified ranges (R45, R59). -/
def State.spLines (s : State) (n off len : Nat) : List (Nat × Nat) :=
  (List.range ((off + len - 1) / 256 + 1 - off / 256)).filterMap fun k =>
    let line := (off / 256 + k) * 256
    let lo := max off line
    if lo < s.spLimit n then some (s.spAddr n lo, min (off + len) (line + 256) - lo) else none

/-- R48, R49: a read through the wide view: every line that holds a part of the range is read whole. -/
def State.spTouch (s : State) (n off len : Nat) : State :=
  if len = 0 || (s.injections.isEmpty && s.badWords.isEmpty) then s
  else (s.spLines n off len).foldl (fun s x => s.scratchRead .fabric (x.1 / 256 * 256) 256) s

/-- R48, R49: a read of one word through the narrow view. -/
def State.spWord (s : State) (n off : Nat) : State :=
  (s.spLines n (off / 4 * 4) 4).foldl (fun s x => s.scratchRead .fabric x.1 x.2) s

/-- R49, R414: a write replaces the flipped bits of the words it covers. -/
def State.spClean (s : State) (n off len : Nat) : State :=
  if len = 0 || s.badWords.isEmpty then s
  else (s.spLines n off len).foldl (fun s x => s.cleanWords x.1 x.2) s

/-- Write bytes into a core's scratchpad or gang memory; a discard by a home page is counted (R227). -/
def State.spStore (s : State) (n off : Nat) (bs : Bytes) : State :=
  let s1 := if !s.spHomes.isEmpty && (s.spLines n off bs.length).any (fun x => s.discards x.1 x.2) then s.homeWrite else s
  (s1.spClean n off bs.length).spWrite n off bs

/-- R147: write bytes into core `n`'s own scratchpad, whatever its cluster's mode. -/
def State.ownStore (s : State) (n off : Nat) (bs : Bytes) : State := s.performRange (rangeOf (spBase + n * 2097152 + off) bs)

/-- A header from its bytes. -/
def parseHdr (b : Bytes) : TokHdr :=
  { epoch := leField b 0 1 % 4, control := bitOf (leField b 0 1) 2, selector := leField b 0 1 / 16, fmt := leField b 1 1,
    tenant := leField b 2 2, mb := leField b 4 2, granules := leField b 6 2, arg := BitVec.ofNat 64 (leField b 8 8) }
/-- A data header. -/
def dataHdr (epoch fmt tenant mb granules off scaleOff : Nat) : TokHdr :=
  { epoch, control := false, selector := 0, fmt, tenant, mb, granules, arg := BitVec.ofNat 64 (off + scaleOff <<< 32) }

/-! ### Live tokens (R113) -/

/-- A token that holds a credit. -/
def State.tok? (s : State) (id : Nat) : Option LiveTok := (s.live.find? (·.1 = id)).map (·.2)
/-- Header of a token. -/
def State.tokHdr (s : State) (id : Nat) : TokHdr := ((s.tok? id).map (·.hdr)).getD (dataHdr 0 0 0 0 0 0 0xFFFFFFFF)

/-- Change a token's references. -/
def State.addRef (s : State) (id n : Nat) : State :=
  { s with live := s.live.map fun t => if t.1 = id then (t.1, { t.2 with refs := t.2.refs + n }) else t }
/-- One reference ends. -/
def State.dropRef (s : State) (id : Nat) : State :=
  { s with live := s.live.map fun t => if t.1 = id then (t.1, { t.2 with refs := t.2.refs - 1 }) else t }

/-- Tokens in a core's in queue. -/
def State.coreQ (s : State) (n q : Nat) : List Nat := Sparse.get [] (s.core n).queues q
/-- Replace them. -/
def State.setCoreQ (s : State) (n q : Nat) (l : List Nat) : State :=
  s.modCore n fun c => { c with queues := Sparse.set [] c.queues q l }

/-- R108: a header is entered into a core's in queue. -/
def State.enterQueue (s : State) (n q k : Nat) (h : TokHdr) (parent : Option Nat) : State :=
  let id := s.nextTok
  { s.setCoreQ n q (s.coreQ n q ++ [id]) with
      live := Sparse.insert s.live id { hdr := h, route := k, refs := 1, parent }, nextTok := id + 1 }

/-- R113: TOKEN_RELEASE: a token without references is released and its credit starts back. -/
def State.release (s : State) (id : Nat) : State :=
  match s.tok? id with
  | none => s
  | some t =>
    if t.refs = 0 then
      let s1 := ({ s with live := Sparse.erase s.live id }).modRoute t.route fun r => { r with returning := r.returning + 1 }
      match t.parent with
      | some p => s1.dropRef p
      | none => s1
    else s

/-! ### Sending (R108, R109, R112, R383) -/

/-- R112: the sender of a route may start one more token than those that wait. -/
def State.canSend (s : State) (k : Nat) : Bool := (s.route k).waiting.length < (s.route k).credits

/-- Put a token at the sender of a route. -/
def State.queueTok (s : State) (k : Nat) (w : WaitTok) : State := s.modRoute k fun r => { r with waiting := r.waiting ++ [w] }

/-- The route of a core's out queue. -/
def State.outRoute (s : State) (n q : Nat) : Option Nat := (s.im.queue? n q).map (·.route)

/-- R109: a payload written into core `n` is admitted: its values lie in one open window of the run's domain, and its scales in one,
which may be another (DESIGN CHOICE, log entry 24: the rule speaks of one write and one window). -/
def State.payloadAdmitted (s : State) (n : Nat) (h : TokHdr) : Bool :=
  let ok := fun lo len => len = 0 || s.windowAdmits n s.segDomain true lo (lo + len - 1)
  ok h.offset h.valLen && ok h.scaleOff h.scaleLen

/-- R109: a refused payload: detector 0x12, WINDOW_FAULT with cause 0x92, the core and address bits [31:16]. -/
def State.refusePayload (s : State) (n : Nat) (h : TokHdr) (inj : Bool) : State :=
  s.fabricError St.windowFault 0x12 n (0x92 <<< 40 + n <<< 16 + (spBase + n * 2097152 + h.offset) / 65536 % 65536) n inj

/-- The source core of a route, if it starts at one. -/
def RouteRec.srcCore (r : RouteRec) : Option Nat := if r.srcKind = 0 then some r.src else none

/-- R112: TOKEN_SEND: spend a credit, pass the mesh (R54, R408), write the payload into the receiving core, and put the token under way. -/
def State.sendTok (s : State) (k : Nat) (r : RouteRec) (w : WaitTok) : State :=
  let s1 := ({ s with sends := s.sends + 1 } : State).modRoute k fun x =>
    { x with credits := x.credits - 1, inflight := x.inflight ++ [{ w with seq := s.sends }] }
  let s2 := if w.inPlace then s1 else s1.meshPass .fabric (s1.tokenRoute s1.im r)
  if w.inPlace then s2
  else
    let s3 :=
      if r.dstKind = 0 && !w.hdr.control then
        let inj := if r.srcCore = some r.dst then (none, s2) else s2.fire 0x12 r.dst fun _ => true
        if r.srcCore = some r.dst || (inj.1.isNone && inj.2.payloadAdmitted r.dst w.hdr) then
          (inj.2.spStore r.dst w.hdr.offset w.values).spStore r.dst w.hdr.scaleOff w.scales
        else inj.2.refusePayload r.dst w.hdr inj.1.isSome
      else s2
    match w.parent with
    | some p => s3.dropRef p
    | none => s3

/-- TOKEN_SEND (R112): the token that waits at the sender, which a router discards with its payload when it is stale (R123); a front port,
collective engine or command processor with none waiting sends the one that its command gives it (R108). -/
def State.doTokenSend (s : State) (k : Nat) (tok : Option (TokHdr × Bytes)) : State :=
  match s.im.route? k with
  | none => s
  | some r =>
    let x := s.route k
    if s.image.isNone || s.halted || x.credits = 0 then s
    else match x.waiting, tok with
      | w :: rest, _ =>
        let s1 := s.modRoute k fun x => { x with waiting := rest }
        if w.hdr.epoch ≠ s.epoch then
          (match w.parent with
           | some p => s1.dropRef p
           | none => s1).count 0x005 0xFFFFF 1
        else s1.sendTok k r w
      | [], some (h, bs) =>
        if r.srcKind = 1 && [2, 3, 6].contains (unitKindOf r.src) then
          let h1 := { h with epoch := s.epoch }
          s.sendTok k r { hdr := h1, values := bs.take h1.valLen, scales := (bs.drop h1.valLen).take h1.scaleLen,
                          parent := none, inPlace := false }
        else s
      | [], none => s

/-- R383: stream number of a route to or from a Laulo port: its ordinal among the image's routes of that direction. -/
def Image.streamNum (im : Image) (k : Nat) (toPort : Bool) (u : Nat) : Nat :=
  ((im.routeRecs.take k).filter fun r => if toPort then r.dstKind = 1 && r.dst = u else r.srcKind = 1 && r.src = u).length

/-- R383: send the tokens that wait at a Laulo port while the stream holds credits, as STREAM packets to the peer. -/
def State.flushStream (s : State) (k : Nat) (r : RouteRec) : State :=
  let x := s.route k
  let n := min x.stream x.unitIn.length
  let port := unitInstOf r.dst
  (x.unitIn.take n).foldl (fun s w =>
    let y := s.sendPeer port
      { cls := r.cls, kind := Pk.stream, hops := s.fld LauCtrl.hopInit, dst := noPos, src := s.pos, step := s.stepNum.toNat,
        domain := s.segDomain, addr := s.im.streamNum k true r.dst, arg := w.hdr.bytes, pay := w.values ++ w.scales }
    if y.1 then y.2 else y.2.fabricError St.linkLost 0x0E port (linkLostDetail noPos port) port false)
    (s.modRoute k fun x => { x with unitIn := x.unitIn.drop n, stream := x.stream - n, returning := x.returning + n })

/-- R55: a token under way from the same end to the same core in the same class was sent before `w` on another route. -/
def State.overtakes (s : State) (k : Nat) (r : RouteRec) (w : WaitTok) : Bool :=
  r.dstKind = 0 && r.srcCore ≠ some r.dst && s.routes.any fun x =>
    x.1 ≠ k && x.2.inflight.any (·.seq < w.seq) &&
      (match s.im.route? x.1 with
       | some o => o.srcKind = r.srcKind && o.src = r.src && o.cls = r.cls && o.dstKind = 0 && o.dst = r.dst
       | none => false)

/-- R55, R108, R122, R123: the token is where its route ends, behind those sent before it in its class: a stale one is discarded; in a
core its header enters the in queue; at a unit it is handed over (a front port or collective engine takes it at once). -/
def State.doHeaderEntry (s : State) (k : Nat) : State :=
  match s.im.route? k, (s.route k).inflight with
  | some r, w :: rest =>
    let s1 := s.modRoute k fun x => { x with inflight := rest }
    if s.overtakes k r w then s
    else if w.hdr.epoch ≠ s.epoch then
      (s1.count 0x005 (if r.dstKind = 0 then r.dst else 0xFFFFF) 1).modRoute k fun x => { x with returning := x.returning + 1 }
    else if r.dstKind = 0 then s1.enterQueue r.dst r.dstQ k w.hdr (if w.inPlace then w.parent else none)
    else if unitKindOf r.dst = 2 || unitKindOf r.dst = 3 then s1.modRoute k fun x => { x with returning := x.returning + 1 }
    else
      let s2 := s1.modRoute k fun x => { x with unitIn := x.unitIn ++ [{ w with parent := none, inPlace := false }] }
      if unitKindOf r.dst = 1 then s2.flushStream k r else s2
  | _, _ => s

/-- R121: CREDIT_ARRIVAL: one credit reaches the sender; a stream's credit goes back to the peer as a STREAM_CREDIT (R383). -/
def State.doCreditArrival (s : State) (k : Nat) : State :=
  let x := s.route k
  if x.returning = 0 then s
  else
    let s1 := s.modRoute k fun x => { x with returning := x.returning - 1, credits := x.credits + 1 }
    match s.im.route? k with
    | some r =>
      if r.srcKind = 1 && unitKindOf r.src = 1 then
        (s1.sendPeer (unitInstOf r.src)
          { cls := r.cls, kind := Pk.streamCredit, hops := s.fld LauCtrl.hopInit, dst := noPos, src := s.pos,
            domain := s.segDomain, addr := s.im.streamNum k false r.src, arg := leBytes 4 1 }).2
      else s1
    | none => s1

/-- R123: every queue and every steering unit discards the tokens of another epoch that it holds, and so do the senders; counter 0x005. A
unit keeps what it has taken; what is under way is discarded where it arrives. -/
def State.discardOld (s : State) : State :=
  let old := fun (id : Nat) => decide ((s.tokHdr id).epoch ≠ s.epoch)
  let s1 := s.cores.foldl (fun s c => c.2.queues.foldl (fun s q =>
    let gone := q.2.filter old
    if gone.isEmpty then s
    else gone.foldl (fun s id => (s.dropRef id).release id)
      ((s.setCoreQ c.1 q.1 (q.2.filter fun id => !old id)).count 0x005 c.1 gone.length)) s) s
  s1.routes.foldl (fun s r =>
    let stale := fun (w : WaitTok) => decide (w.hdr.epoch ≠ s.epoch)
    let sent := r.2.unitIn.filter stale
    let gone := sent ++ r.2.waiting.filter stale
    if gone.isEmpty then s
    else
      let s2 := s.modRoute r.1 fun x =>
        { x with unitIn := x.unitIn.filter fun w => !stale w, waiting := x.waiting.filter fun w => !stale w,
                 returning := x.returning + sent.length }
      (gone.foldl (fun s w => match w.parent with
        | some p => (s.dropRef p).release p
        | none => s) s2).count 0x005 0xFFFFF gone.length) s1

/-! ### Copies of a data token (R113, R118) -/

/-- A copy of a token of core `n` for an out queue: in place when the route ends in the same core, otherwise with the payload
read from the core. -/
def State.copyTok (s : State) (n id : Nat) (r : RouteRec) : State × WaitTok :=
  let h := { s.tokHdr id with epoch := s.epoch }
  if r.dstKind = 0 && r.dst = n then (s, { hdr := h, values := [], scales := [], parent := some id, inPlace := true })
  else
    let s1 := (s.spTouch n h.offset h.valLen).spTouch n h.scaleOff h.scaleLen
    (s1, { hdr := h, values := s.spBytes n h.offset h.valLen, scales := s.spBytes n h.scaleOff h.scaleLen, parent := some id,
           inPlace := false })

/-- Send a copy of a token on an out queue of core `n`. -/
def State.forwardTok (s : State) (n id q : Nat) : State :=
  match s.outRoute n q with
  | none => s
  | some k => match s.im.route? k with
    | none => s
    | some r => let x := s.copyTok n id r; x.1.queueTok k x.2

/-- A credit is free on the route of an out queue. -/
def State.outFree (s : State) (n q : Nat) : Bool := match s.outRoute n q with
  | some k => s.canSend k
  | none => false

/-! ### Steering (R115 to R119) -/

/-- R117: the action of a steering entry on the head pair; `none` while its condition does not hold. -/
def State.steerAct (s : State) (n d : Nat) (e : SteerRec) : Option State :=
  if e.action = 0 then (if s.outFree n e.outA then some (s.forwardTok n d e.outA) else none)
  else if e.action = 1 then
    (if s.outFree n e.outA && s.outFree n e.outB then some (((s.addRef d 1).forwardTok n d e.outA).forwardTok n d e.outB) else none)
  else if e.action = 2 then some (s.dropRef d)
  else if (s.core n).deferred.length < 32 then
    let s1 := s.modCore n fun c => { c with deferred := c.deferred ++ [d] }
    some (s1.setFld (CoreDeferStatus.highWater n) (max (s1.fld (CoreDeferStatus.highWater n)) (s1.core n).deferred.length))
  else none

/-- STEER_PAIR_RETIRE (R117, R119): the head pair of an input pair; a full deferred list makes an ACTION 3 pair wait, which
counter 0x008 counts (R212). -/
def State.doSteer (s : State) (n ctrlQ : Nat) : State :=
  let recs := s.im.steerRecs.filter fun r => r.core = n && r.ctrlQ = ctrlQ
  match recs.head? with
  | none => s
  | some r0 =>
    match s.coreQ n ctrlQ, s.coreQ n r0.dataQ with
    | c :: cs, d :: ds =>
      if !s.working then s
      else
        let s0 := s.coreCheck n
        if s0.halted then s0
        else
          let taken := fun (s : State) => ((s.setCoreQ n ctrlQ cs).setCoreQ n r0.dataQ ds).dropRef c
          match recs.find? fun r => r.sel = (s.tokHdr c).selector with
          | none => ((taken s0).dropRef d).count 0x004 n 1
          | some e =>
            match (taken s0).steerAct n d e with
            | some t => t
            | none => if e.action = 3 then s0.count 0x008 n 1 else s0
    | _, _ => s

/-! ### Carriage (R149, R150) -/

/-- A chain at a member. -/
def State.chain (s : State) (n c : Nat) : ChainRt := Sparse.get {} (s.core n).chains c
/-- Replace it. -/
def State.setChain (s : State) (n c : Nat) (x : ChainRt) : State :=
  s.modCore n fun r => { r with chains := Sparse.set {} r.chains c x }

/-- The operands of a core that name a chain, as table * 8 + operand. -/
def Image.chainUsers (im : Image) (n c : Nat) : List Nat :=
  (im.tables n).zipIdx.flatMap fun t => t.1.operands.zipIdx.filterMap fun o =>
    if o.1.src = 2 && o.1.arg = c then some (t.2 * 8 + o.2) else none

/-- R150: the tiles that every naming operand has finished with leave the chain. `finished` counts an operand's tiles. -/
def State.trimChain (s : State) (n c : Nat) : State :=
  let x := s.chain n c
  let users := s.im.chainUsers n c
  let done := users.foldl (fun m u => min m (Sparse.get 0 x.taken u)) (x.base + x.tiles.length)
  let k := done - x.base
  (x.tiles.take k).foldl (fun s t => s.dropRef t) (s.setChain n c { x with tiles := x.tiles.drop k, base := x.base + k })

/-- CARRIAGE_FORWARD (R150): the head of the chain's in queue is made available to the member's operands and relayed. -/
def State.doCarriage (s : State) (n c : Nat) : State :=
  match s.im.chainIn n c with
  | none => s
  | some qin =>
    match s.coreQ n qin.q with
    | [] => s
    | t :: rest =>
      let out := s.im.chainOut n c
      let free := match out with
        | some o => s.outFree n o.q
        | none => true
      if !s.working || !free then s
      else
        let s0 := s.coreCheck n
        if s0.halted then s0
        else
          let head := ((s.im.chain c).head?).map (·.core) = some n
          let x := s0.chain n c
          let h := s.tokHdr t
          let rec0 := (s.im.chain c).headD { chain := c, pos := 0, core := n, tensor := 0, tiles := 0 }
          let s1 := if head then (s0.setChain n c { x with tapped := x.tapped + 1 }).tapTile rec0.tensor rec0.tiles x.tapped
                ((s0.spLines n h.offset h.valLen ++ s0.spLines n h.scaleOff h.scaleLen).map fun y => (y.1 / 256 * 256, 256))
                (s0.spBytes n h.offset h.valLen) (s0.spBytes n h.scaleOff h.scaleLen) else s0
          let s2 := s1.setCoreQ n qin.q rest
          let s3 := match out with
            | some o => (s2.addRef t 1).forwardTok n t o.q
            | none => s2
          (s3.setChain n c { s3.chain n c with tiles := (s3.chain n c).tiles ++ [t] }).trimChain n c

/-- TOKEN_SEND (R112). -/
def execTokenSend (route : Nat) (tok : Option (TokHdr × Bytes)) (s : State) : Outcome := .next (s.doTokenSend route tok).evalFlags
/-- TOKEN_HEADER_ENTRY (R108). -/
def execTokenHeaderEntry (route : Nat) (s : State) : Outcome := .next (s.doHeaderEntry route)
/-- STEER_PAIR_RETIRE (R117). -/
def execSteerPairRetire (core ctrlQ : Nat) (s : State) : Outcome := .next (s.doSteer core ctrlQ)
/-- TOKEN_RELEASE (R113). -/
def execTokenRelease (token : Nat) (s : State) : Outcome := .next (s.release token)
/-- CREDIT_ARRIVAL (R121). -/
def execCreditArrival (route : Nat) (s : State) : Outcome := .next (s.doCreditArrival route)
/-- CARRIAGE_FORWARD (R150). -/
def execCarriageForward (core chain : Nat) (s : State) : Outcome := .next (s.doCarriage core chain)

end Sys2Proof.Machine
end

