-- ==== Sys2Proof/Machine/Tables.lean ====
section
/-!
DEFINITION. Loop tables, tile products, the accumulator store, drains and vector iterations (06_loop_tables_and_tiles.md,
08_matrix_engine_and_accumulation.md, the deferred list of 09_backward_pass.md), and the updates that tiles make (R237, R238).
-/
namespace Sys2Proof.Machine

/-! ### Accesses of a segment to memory (R254, R273, R453) -/

/-- R254, R453: the refusals of a range of memory that a segment names. -/
def State.segRangeErrs (s : State) (a len : Nat) : List Err :=
  s.unmappedErr ⟨a, len, false⟩ ++
  (match s.firstForeign s.segDomain a len with
   | some x => [windowErr 0x91 (x / 65536)]
   | none => []) ++
  (match s.firstReserved a len with
   | some x => [windowErr 0x93 (x / 65536)]
   | none => []) ++
  (if a + len ≤ spBase ∨ spBase + s.grade.cores * 2097152 ≤ a then []
   else [windowRefusal ((max a spBase - spBase) / 2097152) a])

/-- An access of the segment to a range of memory: refused, failed (R273, R410), or touched (R265). -/
def State.segAccess (s : State) (a len : Nat) : Bool × State :=
  match pickErr (s.segRangeErrs a len) with
  | some e => (false, s.fabricError e.status 0 e.key e.detail 0 false)
  | none =>
    let r := (cartsOf a len).foldl (fun (x : Bool × State) k =>
      let y := x.2.cartAccess .fabric k a len
      (x.1 && y.1 = 0, y.2)) (true, s)
    (r.1, if r.1 then (r.2.settleFree a len).touchRange a len else r.2)

/-- Bytes that the segment reads from memory; zeros where the access is refused or fails (R254). -/
def State.segRead (s : State) (a len : Nat) : Bytes × State :=
  if len = 0 then ([], s)
  else
    let r := s.segAccess a len
    (if r.1 then r.2.bytes a len else List.replicate len 0, r.2)

/-- Bytes that the segment writes to memory, and whether the write was performed; none where the access is refused or fails. A
home page discards them (R227). -/
def State.segWrite (s : State) (a : Nat) (bs : Bytes) : Bool × State :=
  if bs.isEmpty then (true, s)
  else
    let r := s.segAccess a bs.length
    if !r.1 then r
    else
      let s1 := if r.2.discards a bs.length then r.2.homeWrite else r.2
      (true, (s1.performRange (rangeOf a bs)).dirty a bs.length)

/-! ### Runs of a table (R135 to R137) -/

/-- A loop table of a core. -/
def State.table? (s : State) (n j : Nat) : Option LoopTable := (s.im.tables n)[j]?
/-- Its run. -/
def State.tableRt (s : State) (n j : Nat) : TableRt := Sparse.get {} (s.core n).tables j
/-- Change its run. -/
def State.modTable (s : State) (n j : Nat) (f : TableRt → TableRt) : State :=
  s.modCore n fun c => { c with tables := Sparse.set {} c.tables j (f (Sparse.get {} c.tables j)) }

/-- Micro-batches of the run. -/
def State.batches (s : State) : List Nat := (s.seg.map (·.tenants)).getD []

/-- Runs that a table makes in the segment (R135). -/
def State.runsOf (s : State) (t : LoopTable) : Nat := if t.perRun then 1 else s.batches.length

/-- MB of a table's current run: 0xFFFF for a PER_RUN table (R168). -/
def runMb (t : LoopTable) (r : TableRt) : Nat := if t.perRun then 0xFFFF else r.runs % 65536
/-- TENANT of a table's current run; 0 for a PER_RUN table (log entry 33). -/
def State.runTenant (s : State) (t : LoopTable) (r : TableRt) : Nat := if t.perRun then 0 else s.batches.getD r.runs 0

/-- R133: first and last value of a level. -/
def LevelRec.firstVal (l : LevelRec) : Nat := if bitOf l.dir 0 then l.count - 1 else 0
/-- The other end. -/
def LevelRec.lastVal (l : LevelRec) : Nat := if bitOf l.dir 0 then 0 else l.count - 1

/-- The run as its next iteration finds it: a new run has every level at its first value and takes every token (R135, R137). -/
def TableRt.atIteration (r : TableRt) (t : LoopTable) : TableRt :=
  if r.active then r
  else { r with active := true, levels := t.levels.map LevelRec.firstVal, iters := 0, held := t.operands.map fun _ => none,
                changed := t.levels.length + 1, touched := 0, bufs := [] }

/-- R135: advance the levels from nest 0 outward: the values, one more than the highest nest whose value changed, and whether
the outermost level passed its last value. -/
def advanceLevels (t : LoopTable) (vals : List Nat) : List Nat × Nat × Bool :=
  (List.range t.levels.length).foldl (fun (x : List Nat × Nat × Bool) k =>
    if !x.2.2 then x
    else match t.levels.findIdx? (·.nest = k) with
      | none => x
      | some l =>
        let r := t.levels.getD l { nest := 0, kind := 0, dir := 0, count := 1 }
        let v := x.1.getD l 0
        let moved := if 1 < r.count then k + 1 else x.2.1
        if v = r.lastVal then (x.1.set l r.firstVal, moved, true)
        else (x.1.set l (if bitOf r.dir 0 then v - 1 else v + 1), moved, false)) (vals, 0, true)

/-- R136: the tile index of an operand. -/
def tileIndex (o : OperandRec) (vals : List Nat) : Int :=
  (List.zipWith (fun (s : Int) (v : Nat) => s * v) o.stride vals).foldl (· + ·) 0

/-- The free-level indices as one number. -/
def freeIndex (t : LoopTable) (vals : List Nat) : Nat :=
  (t.levels.zip vals).foldl (fun n x => if x.1.kind = 0 then n * x.1.count + x.2 else n) 0

/-- Every reduction level is at its first value. -/
def atFirst (t : LoopTable) (vals : List Nat) : Bool := (t.levels.zip vals).all fun x => x.1.kind ≠ 1 || x.2 = x.1.firstVal
/-- Every reduction level is at its last value. -/
def atLast (t : LoopTable) (vals : List Nat) : Bool := (t.levels.zip vals).all fun x => x.1.kind ≠ 1 || x.2 = x.1.lastVal

/-- R137: the operands that take a token at this iteration, with their numbers. -/
def dueTakes (t : LoopTable) (r : TableRt) : List (OperandRec × Nat) :=
  t.operands.zipIdx.filter fun o => o.1.role ≤ 2 && o.1.src ≠ 0 && o.1.hold < r.changed

/-- The output or gradient output of a table. -/
def LoopTable.out? (t : LoopTable) : Option OperandRec := t.operands.find? fun o => o.role = 3 || o.role = 4

/-- R184, R207: the token that an operand is due is present. -/
def State.takeReady (s : State) (n j : Nat) (r : TableRt) (o : OperandRec × Nat) : Bool :=
  if o.1.src = 1 then !(s.coreQ n o.1.arg).isEmpty
  else if o.1.src = 2 then
    let c := s.chain n o.1.arg
    let k := Sparse.get 0 c.taken (j * 8 + o.2) + b2n ((r.held.getD o.2 none).isSome)
    k < c.base + c.tiles.length
  else !(s.core n).deferred.isEmpty

/-- R137: an operand's reading of the token it holds ends. -/
def State.dropHeld (s : State) (n j : Nat) (o : OperandRec) (k : Nat) : State :=
  match (s.tableRt n j).held.getD k none with
  | none => s
  | some id =>
    let s1 := s.modTable n j fun r => { r with held := r.held.set k none }
    if o.src = 2 then
      let c := s1.chain n o.arg
      let key := j * 8 + k
      (s1.setChain n o.arg { c with taken := Sparse.set 0 c.taken key (Sparse.get 0 c.taken key + 1) }).trimChain n o.arg
    else s1.dropRef id

/-- R208: the MB of an entry that a UNIT 2 table takes differs from that of its run. R513 gives the event no counter of its own: it is
counted under the reserved number 0x01B, which reads zero (DESIGN CHOICE, log entry 33). -/
def State.mbCheck (s : State) (n : Nat) (t : LoopTable) (r : TableRt) (id : Nat) : State :=
  if t.unit = 2 && !t.perRun then
    let f := s.fire 0x13 n fun _ => true
    if (s.tokHdr id).mb ≠ runMb t r || f.1.isSome then
      ((f.2.count 0x01B n 1).setFld (CoreDeferStatus.mbMismatch n) 1).fabricError St.epochMismatch 0x13 n
        (n <<< 16 + 0xFF <<< 8 + 1) n f.1.isSome
    else f.2
  else s

/-- R137: an operand takes its next token. -/
def State.takeOperand (s : State) (n j : Nat) (t : LoopTable) (o : OperandRec × Nat) : State :=
  let s1 := s.dropHeld n j o.1 o.2
  let hold := fun (s : State) id => s.modTable n j fun r => { r with held := r.held.set o.2 (some id) }
  if o.1.src = 1 then
    match s1.coreQ n o.1.arg with
    | id :: rest => hold (s1.setCoreQ n o.1.arg rest) id
    | [] => s1
  else if o.1.src = 2 then
    let c := s1.chain n o.1.arg
    match c.tiles[Sparse.get 0 c.taken (j * 8 + o.2) - c.base]? with
    | some id => hold s1 id
    | none => s1
  else
    match (s1.core n).deferred with
    | id :: rest =>
      let s2 := hold (s1.modCore n fun c => { c with deferred := rest }) id
      s2.mbCheck n t (s2.tableRt n j) id
    | [] => s1

/-- Start an iteration of a table: the run's levels stand, and the tokens due are taken. -/
def State.beginIteration (s : State) (n j : Nat) (t : LoopTable) : State :=
  let r := (s.tableRt n j).atIteration t
  (dueTakes t r).foldl (fun s o => s.takeOperand n j t o) (s.modTable n j fun _ => r)

/-- End an iteration: advance the levels; at the end of the run every operand ends its reading. -/
def State.endIteration (s : State) (n j : Nat) (t : LoopTable) : State :=
  let r := s.tableRt n j
  let a := advanceLevels t r.levels
  if a.2.2 then
    let s1 := t.operands.zipIdx.foldl (fun s o => s.dropHeld n j o.1 o.2) s
    s1.modTable n j fun r => { r with active := false, runs := r.runs + 1, levels := [], iters := 0, held := [], changed := 0,
                                      touched := 0, bufs := [] }
  else s.modTable n j fun r => { r with levels := a.1, changed := a.2.1, iters := r.iters + 1 }

/-! ### Operand tiles (R136, R171, R185) -/

/-- R171: the tensor is governed. -/
def State.governed (s : State) (id : Nat) : Bool := ((s.im.tensor? id).map (·.fmt)) = some 0x0F

/-- An offset of the record, in 32 bits. -/
def offset32 (x : Int) : Nat := (x % 4294967296).toNat

/-- R171: the format in which an operand's tile is read: that of the token's header for a governed tensor. -/
def State.operandFmt (s : State) (o : OperandRec) (h : Option TokHdr) : Nat :=
  if s.governed o.tensor then (match h with
    | some h => h.fmt
    | none => s.stepFormat o.tensor)
  else o.fmt

/-- R136, R137: where the tile of an operand lies at the current iteration: the token held, the offsets of its values and scales and its
format; no bytes yet. -/
def State.operandPlace (s : State) (n j : Nat) (o : OperandRec × Nat) : TileBuf :=
  let r := s.tableRt n j
  let held := r.held.getD o.2 none
  let h := held.map s.tokHdr
  let fmt := s.operandFmt o.1 h
  let t := tileIndex o.1 r.levels
  { held, fmt, vals := [], scales := [],
    off := (match h with
      | some h => h.offset
      | none => offset32 ((o.1.base : Int) + t * tileBytes fmt)),
    scaleOff := (match h with
      | some h => h.scaleOff
      | none => offset32 ((o.1.scaleBase : Int) + t * 64)) }

/-- Two buffers hold the same tile (R183): the same held token, or the same address of a resident operand. -/
def TileBuf.same (a b : TileBuf) : Bool := a.held = b.held && a.off = b.off && a.scaleOff = b.scaleOff && a.fmt = b.fmt

/-- R48, R49: a tile read from a core's scratchpad through the wide read ports. -/
def State.readTile (s : State) (n : Nat) (p : TileBuf) : TileBuf × State :=
  let scLen := if scaledFmt p.fmt then 64 else 0
  let s1 := (s.spTouch n p.off (tileBytes p.fmt)).spTouch n p.scaleOff scLen
  ({ p with vals := s1.spBytes n p.off (tileBytes p.fmt), scales := s1.spBytes n p.scaleOff scLen }, s1)

/-- A list of lists with at least `k` members. -/
def padTo {α : Type} (l : List (List α)) (k : Nat) : List (List α) := l ++ List.replicate (k - l.length) []

/-- R182, R183: the tile of an operand of the matrix engine in one of the operand's two buffers: read whole, unless the previous iteration
of the table in this run used the same tile. -/
def State.bufferTile (s : State) (n j : Nat) (o : OperandRec × Nat) : TileBuf × State :=
  let p := s.operandPlace n j o
  let bufs := (s.tableRt n j).bufs
  match (bufs.getD o.2 []).head? with
  | some b => if b.same p then (b, s) else
      let x := s.readTile n p
      (x.1, x.2.modTable n j fun r => { r with bufs := (padTo r.bufs (o.2 + 1)).set o.2 ([x.1, b]) })
  | none =>
    let x := s.readTile n p
    (x.1, x.2.modTable n j fun r => { r with bufs := (padTo r.bufs (o.2 + 1)).set o.2 [x.1] })

/-- The values by ordinal of a tile. -/
def TileBuf.nums (b : TileBuf) : Array Num := decodeTile b.fmt b.vals b.scales

/-! ### A tile product (R179 to R187) -/

/-- R179: array mode: 0 64 × 128, 1 64 × 64, 2 32 × 64. -/
def arrayMode (fa fb : Nat) : Nat := if fa = 1 && fb = 1 then 0 else if fmtBits fa = 16 || fmtBits fb = 16 then 2 else 1

/-- R185, R9: add values two at a time, in an order that `pick` gives. -/
def mergeSum (pick : Nat → Nat × Nat) : Nat → List Nat → Nat
  | 0, xs => xs.headD 0
  | k + 1, xs =>
    if xs.length < 2 then xs.headD 0
    else
      let p := pick k
      let i := p.1 % xs.length
      let rest := xs.eraseIdx i
      let j := p.2 % rest.length
      mergeSum pick k (fadd (xs.getD i 0) (rest.getD j 0) :: rest.eraseIdx j)

/-- R185: element (r, c) of a tile product of two oriented tiles by ordinal. -/
def productElem (mode : Nat) (a b : Array Num) (r c : Nat) : Nat :=
  mergeSum (Config.sumPair mode r c) 63 ((List.range 64).map fun k =>
    toF32 ((a.getD (ordinal r k) .zero).mul (b.getD (ordinal k c) .zero)))

/-- First ordinal of the half tile that an output tile index names: 0, or 2,048 for the second half (R136). -/
def halfBase (t : LoopTable) (out : Int) : Nat := if t.outShape = 1 && out % 2 = 1 then 2048 else 0
/-- Elements of an output tile. -/
def LoopTable.outElems (t : LoopTable) : Nat := if t.outShape = 1 then 2048 else 4096

/-- R185: the contribution of an iteration, by ordinal of the output tile. -/
def contribution (t : LoopTable) (mode : Nat) (a b : Array Num) (out : Int) : List Nat :=
  let a1 := if bitOf t.op 0 then transposeOf .zero a else a
  let b1 := if bitOf t.op 1 then transposeOf .zero b else b
  (List.range t.outElems).map fun k =>
    let rc := elementOf (k + halfBase t out)
    productElem mode a1 b1 rc.1 rc.2

/-! ### The accumulator store (R143 to R147, R186, R187) -/

/-- R146, R186: accumulator tiles assigned to table `j`. -/
def State.accTiles (s : State) (n j : Nat) : Nat := (accAssign (s.im.tables n) 196608).getD j 0

/-- R146: the rank of a tile. -/
def AccTile.rank (a : AccTile) (t : LoopTable) : Nat := a.first % max 1 t.inFlight
/-- The accumulator tile that a rank uses, of `c` assigned. -/
def accSlot (c rank : Nat) : Nat := min rank (c - 1)

/-- Change the accumulator entries of a core. -/
def State.modAcc (s : State) (n : Nat) (f : List AccTile → List AccTile) : State := s.modCore n fun c => { c with acc := f c.acc }

/-- The open tile of table `j` with these free-level indices. -/
def State.openTile (s : State) (n j idx : Nat) : Option AccTile :=
  (s.core n).acc.find? fun a => a.table = j && a.tile = idx && !a.complete

/-- Replace an open tile. -/
def State.setOpen (s : State) (n : Nat) (x : AccTile) : State :=
  s.modAcc n fun l => l.map fun a => if a.table = x.table && a.tile = x.tile && !a.complete then x else a

/-- The rank that the current iteration of a table touches. -/
def State.touchRank (s : State) (n j : Nat) (t : LoopTable) (r : TableRt) : Nat :=
  ((s.openTile n j (freeIndex t r.levels)).map fun a => a.first % max 1 t.inFlight).getD (r.touched % max 1 t.inFlight)

/-- R184: no complete tile waits to drain in the accumulator tile that the iteration needs. -/
def State.accFree (s : State) (n j : Nat) (t : LoopTable) (r : TableRt) : Bool :=
  let c := s.accTiles n j
  let slot := accSlot c (s.touchRank n j t r)
  !(s.core n).acc.any fun a => a.table = j && a.complete && accSlot c (a.rank t) = slot

/-- Bytes of one accumulator element (R143). -/
def LoopTable.accWidth (t : LoopTable) : Nat := if t.accFmt = 1 then 2 else 4

/-- R146: spill slot of a rank. -/
def spillPlace (t : LoopTable) (c rank : Nat) : Nat := t.spillOff + (rank + 1 - c) * t.accBytes

/-- R146, R147: before an iteration touches a rotating rank that is not in the rotating tile, the occupant is written to its
spill slot unless it is complete. -/
def State.spill (s : State) (n j : Nat) (t : LoopTable) (rank : Nat) : State :=
  let c := s.accTiles n j
  if rank + 1 < c then s
  else match (s.core n).acc.find? fun a => a.table = j && !a.complete && !a.spilled && c ≤ a.rank t + 1 && a.rank t ≠ rank with
    | none => s
    | some a =>
      let s1 := s.ownStore n (spillPlace t c (a.rank t)) (a.vals.flatMap fun v => leBytes t.accWidth v)
      (s1.setOpen n { a with spilled := true, vals := [] }).count 0x006 n 1

/-- R146, R147: the needed rank is read back from its slot. -/
def State.reload (s : State) (n : Nat) (t : LoopTable) (a : AccTile) : AccTile × State :=
  if !a.spilled then (a, s)
  else
    let off := spillPlace t (s.accTiles n a.table) (a.rank t)
    let w := t.accWidth
    let s1 := s.scratchRead .fabric (spBase + n * 2097152 + off) t.accBytes
    let bs := s1.ownBytes n off t.accBytes
    ({ a with spilled := false, vals := (List.range t.outElems).map fun i => leField bs (w * i) w }, s1.count 0x007 n 1)

/-- R187: add a contribution to a tile: FP32 to nearest even; compact BF16 stochastically with use 1. -/
def State.accumulate (s : State) (n : Nat) (t : LoopTable) (tensor : Nat) (a : AccTile) (xs : List Nat) : AccTile :=
  let add := fun (x : (Nat × Nat) × Nat) =>
    let old := x.1.1
    if t.accFmt = 1 then
      let r := s.drawBits (drawW0 tensor a.mb 1) (drawW1 n a.first (x.2 + halfBase t a.out)) a.adds
      convertNum 6 (.stochastic r) false ((decodeNum 6 old).add (f32 x.1.2))
    else fadd old x.1.2
  { a with vals := ((a.vals.zip xs).zipIdx).map add, adds := a.adds + 1 }

/-! ### TILE_PRODUCT (R184, R190) -/

/-- R207: a UNIT 2 table may start its next run; the PER_RUN ones in table order (log entry 33). -/
def State.unit2Ready (s : State) (n j : Nat) (t : LoopTable) : Bool :=
  let k := (s.tableRt n j).runs
  (s.im.tables n).zipIdx.all fun x =>
    if x.1.unit ≠ 2 || x.2 = j then true
    else
      let r := (s.tableRt n x.2).runs
      if t.perRun then (if x.1.perRun then j ≤ x.2 || 1 ≤ r else s.batches.length ≤ r)
      else if x.1.perRun then true
      else if x.2 < j then k < r else k ≤ r

/-- R184: a matrix table can start a tile product. -/
def State.canProduct (s : State) (n j : Nat) (t : LoopTable) : Bool :=
  let r0 := s.tableRt n j
  let r := r0.atIteration t
  r0.runs < s.runsOf t && (r0.active || t.unit ≠ 2 || s.unit2Ready n j t) &&
    (dueTakes t r).all (s.takeReady n j r) && s.accFree n j t r

/-- R190: the table that the matrix engine starts. -/
def State.pickTable (s : State) (n : Nat) : Option (LoopTable × Nat) :=
  let ts := (s.im.tables n).zipIdx
  let first := fun u => ts.find? fun t => t.1.unit = u && s.canProduct n t.2 t.1
  if 32 ≤ (s.core n).deferred.length then (first 2).orElse fun _ => first 0 else (first 0).orElse fun _ => first 2

/-- R184 to R187: one tile product of a table. -/
def State.product (s : State) (n j : Nat) (t : LoopTable) : State :=
  let s1 := s.beginIteration n j t
  let r := s1.tableRt n j
  let idx := freeIndex t r.levels
  let o := t.out?.getD (parseOperand [])
  let out := tileIndex o r.levels
  let s2 := s1.spill n j t (s1.touchRank n j t r)
  let zero := List.replicate t.outElems 0
  let new : AccTile := { table := j, tile := idx, first := r.touched, out, adds := 0, vals := zero, complete := false,
                         spilled := false, mb := runMb t r, tenant := s.runTenant t r }
  let s3 := if atFirst t r.levels then (s2.modAcc n fun l => l ++ [new]).modTable n j fun r => { r with touched := r.touched + 1 }
            else s2
  match s3.openTile n j idx, t.operands.zipIdx.find? (·.1.role = 0), t.operands.zipIdx.find? (·.1.role = 1) with
  | some a, some oa, some ob =>
    let x := s3.reload n t a
    let y := x.2.bufferTile n j oa
    let z := y.2.bufferTile n j ob
    let s4 := z.2.flipCheck 0x02 n 0x002
    let c := contribution t (arrayMode y.1.fmt z.1.fmt) y.1.nums z.1.nums out
    let a1 := s4.accumulate n t o.tensor x.1 c
    let s5 := (s4.setOpen n { a1 with complete := atLast t r.levels }).endIteration n j t
    (s5.count 0x009 n 1).setFld (CoreLoopStatus.table n) j
  | _, _, _ => s3

/-- TILE_PRODUCT (R184): the table that R190 names starts a tile product. -/
def State.doTileProduct (s : State) (n : Nat) : State :=
  if !s.working then s
  else
    match s.pickTable n with
    | none => s
    | some t =>
      let s0 := s.coreCheck n
      if s0.halted then s0 else s0.product n t.2 t.1

/-! ### Output tiles (R138, R164, R188) -/

/-- R164: the mode of the conversion of an output tile: the ROUND field of its FORMAT record, with use 2. -/
def State.outMode (s : State) (n tensor mb first base : Nat) (e : Nat) : Mode :=
  if ((s.im.tensor? tensor).map (·.round)) = some 1 then
    .stochastic (s.drawBits (drawW0 tensor mb 2) (drawW1 n first (e + base)) 0)
  else .nearest

/-- The place of an output tile is free to be written: a token needs a credit (R112). -/
def State.outReady (s : State) (n : Nat) (o : OperandRec) : Bool := o.src ≠ 1 || s.outFree n o.arg

/-- R139: the output map of a table is one to one: distinct indices of its free levels give distinct tiles. Strides that each pass all
that the smaller ones reach make it so; otherwise the sums are compared. -/
def LoopTable.oneToOne (t : LoopTable) (o : OperandRec) : Bool :=
  let ls := (t.levels.zipIdx.filter fun l => l.1.kind = 0 && 1 < l.1.count).map fun l => ((o.stride.getD l.2 0).natAbs, l.1.count)
  let sorted := ls.foldl (fun (acc : List (Nat × Nat)) x => acc.takeWhile (·.1 < x.1) ++ x :: acc.dropWhile (·.1 < x.1)) []
  let far := sorted.foldl (fun (acc : Bool × Nat) x => (acc.1 && acc.2 < x.1, acc.2 + x.1 * (x.2 - 1))) (true, 0)
  far.1 || decide (ls.foldl (fun (acc : List Nat) x => acc.flatMap fun v => (List.range x.2).map fun k => v + x.1 * k) [0]).Nodup

/-- R8, R139: bytes that a table writes whose output map is not one to one are unspecified. -/
def State.r8Bytes (s : State) (sound : Bool) (base : Nat) (bs : Bytes) : Bytes :=
  if sound then bs else (List.range bs.length).map fun i => Config.unspecifiedByte s.draws (base + i)

/-- R136, R138: convert FP32 values by ordinal to the operand's format and write or send them. `half` is 1 for half tiles; `sound` tells
that the table's output map is one to one. -/
def State.putTile (s0 : State) (n : Nat) (o : OperandRec) (half : Nat) (sound : Bool) (out : Int) (mb tenant first : Nat)
    (xs : List Nat) : State :=
  let s := if sound then s0 else { s0 with draws := s0.draws + 1 }
  let gov := s.governed o.tensor
  let fmt := if gov then s.stepFormat o.tensor else o.fmt
  let base := if half = 1 && out % 2 = 1 then 2048 else 0
  let w := encodeTile fmt (s.outMode n o.tensor mb first base) xs
  let v := (s0.r8Bytes sound 0 w.1, s0.r8Bytes sound 16384 w.2)
  let s1 := if gov then s.govCount o.tensor xs else s
  let off := offset32 ((o.base : Int) + out * (tileBytes fmt / (half + 1) : Nat))
  let sc := if v.2.isEmpty then 0xFFFFFFFF else offset32 ((o.scaleBase : Int) + out * (64 / (half + 1) : Nat))
  if o.src = 1 then
    match s1.outRoute n o.arg with
    | some k =>
      s1.queueTok k { hdr := dataHdr s1.epoch fmt tenant mb (v.1.length / 64) off sc, values := v.1, scales := v.2, parent := none,
                      inPlace := false }
    | none => s1
  else (s1.spStore n off v.1).spStore n sc v.2

/-- ACCUMULATOR_DRAIN (R138, R188): the oldest complete tile of a table. -/
def State.doDrain (s : State) (n j : Nat) : State :=
  match s.table? n j, (s.core n).acc.find? fun a => a.table = j && a.complete with
  | some t, some a =>
    let o := t.out?.getD (parseOperand [])
    if !s.working || !s.outReady n o then s
    else
      let s0 := s.coreCheck n
      if s0.halted then s0
      else
        let s1 := s0.flipCheck 0x02 n 0x002
        let xs := if t.accFmt = 1 then a.vals.map fun v => toF32 (decodeNum 6 v) else a.vals
        let s2 := s1.putTile n o t.outShape (t.oneToOne o) a.out a.mb a.tenant a.first xs
        (s2.modAcc n fun l => l.erase a).count 0x00B n 1
  | _, _ => s

/-! ### Updates by tiles (R237, R238, R448) -/

/-- R448: the unit that the tenant map gives a tag for a domain; `none` on a miss. -/
def State.tmapLookup (s : State) (d tag : Nat) : Option Nat × State :=
  match (List.range 64).find? fun k => s.flag (FabTmap.valid k) && s.fld (FabTmap.domain k) = d with
  | none => (none, s)
  | some k =>
    if s.fld (FabTmap.carts k) * 16384 ≤ tag then (none, s)
    else
      let r := s.segRead (s.fld (FabTmap.base k) * 65536 + 4 * tag) 4
      let w := leNat r.1
      (if bitOf w 31 then some (w % 2 ^ 31) else none, r.2)

/-- R448: a miss for a segment: INDEX_RANGE, and the step cannot commit. -/
def State.tmapMiss (s : State) (tag : Nat) : State := s.fabricError St.indexRange 0 tag (0x94 <<< 40 + tag) 0 false

/-- R237: rows [top, bottom) of the matrix of a unit's rows that tile `t` gives; `lo` and `height` tell the rows of the tile that are
given, `rows` those of the unit. -/
def Geom.tileRows (g : Geom) (rows t lo height : Nat) : Nat × Nat :=
  let top := 64 * (t / ceilDiv g.cols 64) + lo
  (top, min (top + height) rows)

/-- R237: the blocks that hold rows of tile `t` of the rows [r0, r0 + rows) of a matrix. -/
def Geom.tileBlocks (g : Geom) (r0 rows t lo height : Nat) : List (Nat × Nat) :=
  let c0 := 8 * (t % ceilDiv g.cols 64)
  let x := g.tileRows rows t lo height
  if x.2 ≤ x.1 then []
  else (List.range (ceilDiv (r0 + x.2) 8 - (r0 + x.1) / 8)).flatMap fun i =>
    (List.range (min 8 (g.cols / 8 - c0))).map fun c => ((r0 + x.1) / 8 + i, c0 + c)

/-- R237: what an output tile updates, for the unit that it belongs to. -/
def State.tileUpd (s : State) (p : ParamRec) (unit t lo height inst : Nat) : Upd :=
  let touched := ParamFlags.touched p
  let g := s.geom p.home
  let r0 := if touched then unit * g.touch else 0
  let rows := if touched then g.touch else g.rows
  let x := g.tileRows rows t lo height
  let blocks := g.tileBlocks r0 rows t lo height
  { tensor := p.id, group := p.group % 4096, maskId := p.maskId, home := p.home, touched, masked := ParamFlags.masked p,
    fmt := ((s.im.tensor? p.id).map (·.fmt)).getD 0, run := true, units := if touched then [unit] else [], blocks,
    named := fun row => r0 + x.1 ≤ row && row < r0 + x.2,
    extent := (if touched then g.rowBlocks r0 (r0 + rows) else blocks).map fun b => g.block b.1 b.2, inst := fun _ => inst }

/-- R49: the reads that an update makes of a home in a scratchpad: the records and masks of its blocks, and a page whole that it must
carry first (R242). -/
def State.homeReads (s : State) (u : Upd) : State :=
  let g := s.geom u.home
  let places := u.blocks.flatMap fun b =>
    let j := g.block b.1 b.2
    let page := u.recPage j
    let at' := slotPlace page (s.committedSlot page)
    if (s.version page).p then [(at' (64 + 384 * (j % 128)), 384), (at' (49216 + 8 * (j % 128)), 8)] else [(at' 0, 65536)]
  places.eraseDups.foldl (fun s x => s.scratchRead .fabric x.1 x.2) s

/-- R237, R254, R273: the segment's access to the pages that an update writes; a refusal is judged over the whole home. -/
def State.updAccess (s : State) (u : Upd) (count : Nat) (p : ParamRec) : Bool × State :=
  if spBase ≤ u.home then (true, s.homeReads u)
  else match pickErr (s.segRangeErrs u.home (homeBytes count (s.homeUnits p))) with
    | some e => (false, s.fabricError e.status 0 e.key e.detail 0 false)
    | none =>
      (u.pages (s.geom u.home)).foldl (fun (acc : Bool × State) page =>
        let r := acc.2.segAccess (page * 131072) 65536
        (acc.1 && r.1, r.2)) (true, s)

/-- R237: update the parameters that an output tile covers; a tile outside the matrix covers none. `grad` holds the tile's values by
ordinal, `lo` and `height` the rows of the tile that it gives. A STREAMED home in a scratchpad fails with cause 0x37 (R249). -/
def State.tileUpdate (s : State) (p : ParamRec) (tile : Int) (lo height tenant inst : Nat) (grad : Array Num) : State :=
  let touched := ParamFlags.touched p
  let t := tile.toNat
  if tile < 0 then s
  else if ParamFlags.streamed p && spBase ≤ p.home then
    s.fabricError St.descInvalid 0x14 p.id (0x37 <<< 40 + p.id) inst false
  else
    let look : Option Nat × State := if touched then s.tmapLookup s.segDomain tenant else (some 0, s)
    match look.1 with
    | none => look.2.tmapMiss tenant
    | some unit =>
      let access := look.2.updAccess (look.2.tileUpd p unit t lo height inst) p.count p
      if !access.1 then access.2
      else
        let s1 := access.2
        let g := s1.geom p.home
        let r0 := if touched then unit * g.touch else 0
        let tc := ceilDiv g.cols 64
        let r := s1.update (s1.tileUpd p unit t lo height inst) fun row col =>
          grad.getD (ordinal ((row - r0 - 64 * (t / tc)) % 64) ((col - 64 * (t % tc)) % 64)) .zero
        let inj := s1.fld InjStatus.fired ≠ r.1.fld InjStatus.fired
        r.2.foldl (fun s e => s.fabricError e.status e.det e.key e.detail (if e.det = 0x11 then 5 <<< 16 + inst else inst) inj) r.1

/-- UPDATE_ENGINE_TILE (R238): the oldest gradient tile that came on a route to an update engine. A half tile updates its own
rows (log entry 33). -/
def State.doEngineTile (s : State) (k : Nat) : State :=
  match s.im.route? k, (s.route k).unitIn with
  | some r, w :: rest =>
    if !(r.dstKind = 1 && unitKindOf r.dst = 5) || s.image.isNone || s.halted then s
    else
      let s1 := s.modRoute k fun x => { x with unitIn := rest, returning := x.returning + 1 }
      match s.im.gradOut r.src r.srcQ with
      | none => s1
      | some o =>
        match s.im.param? o.tensor with
        | none => s1
        | some p =>
          let b := tileBytes w.hdr.fmt
          let half := b ≠ 0 && w.values.length * 2 = b
          let unit := max 1 (if half then b / 2 else b)
          let t : Int := ((w.hdr.offset : Int) - o.base) / (unit : Int)
          let lo := if half then 32 * (t % 2).toNat else 0
          let codes := decodeTile w.hdr.fmt w.values w.scales
          let grad := if half then (Array.range 4096).map fun e => codes.getD (e % 2048) .zero else codes
          s1.tileUpdate p (if half then t / 2 else t) lo (if half then 32 else 64) w.hdr.tenant (unitInstOf r.dst) grad
  | _, _ => s

/-! ### The vector unit (R196 to R199) -/

/-- R197: a value within 2 units in the last place of a correctly rounded finite one. -/
def withinUlp (op a b code : Nat) : Nat :=
  let sign := code / 2 ^ 31 * 2 ^ 31
  let m : Int := ((code % 2 ^ 31 : Nat) : Int) + ((Config.ulp op a b % 5 : Nat) : Int) - 2
  sign + (min 0x7F800000 (max 0 m)).toNat

/-- An FP32 code that is neither zero, infinite nor NaN. -/
def ordinary (a : Nat) : Bool := (f32 a).live
/-- A finite result of an ordinary computation. -/
def finiteCode (a : Nat) : Bool := !(f32 a).bad

/-- R196 EXP. -/
def vexp (a : Nat) : Nat := let c := expRounded a; if ordinary a && finiteCode c then withinUlp 7 a 0 c else c
/-- R196 RSQRT. -/
def vrsqrt (a : Nat) : Nat := let c := rsqrtRounded a; if ordinary a && finiteCode c then withinUlp 8 a 0 c else c
/-- R196 SILU_MUL. -/
def vsilu (a b : Nat) : Nat :=
  let c := siluRounded a b
  if ordinary a && ordinary b && finiteCode c then withinUlp 9 a b c else c

/-- R197: sum of values pairwise, level by level. -/
def pairSum : Nat → List Nat → Nat
  | 0, xs => xs.headD 0
  | k + 1, xs => pairSum k ((List.range (xs.length / 2)).map fun i => fadd (xs.getD (2 * i) 0) (xs.getD (2 * i + 1) 0))

/-- R196: the result by ordinal of a vector operation on FP32 inputs by ordinal. -/
def vectorOp (op : Nat) (ins : List (Array Nat)) : List Nat :=
  let x := fun i e => (ins.getD i #[]).getD e 0
  let row := fun r => (List.range 64).map fun c => x 0 (ordinal r c)
  (List.range 4096).map fun e =>
    let rc := elementOf e
    match op with
    | 1 => fadd (x 0 e) (x 1 e)
    | 2 => fmul (x 0 e) (x 1 e)
    | 3 => ffma (x 0 e) (x 1 e) (x 2 e)
    | 4 =>
      match ins.length with
      | 2 => fadd (x 0 e) (x 1 e)
      | 3 => fadd (fadd (x 0 e) (x 1 e)) (x 2 e)
      | _ => fadd (fadd (x 0 e) (x 1 e)) (fadd (x 2 e) (x 3 e))
    | 5 => fmax (x 0 e) (x 1 e)
    | 6 => x 0 e
    | 7 => vexp (x 0 e)
    | 8 => vrsqrt (x 0 e)
    | 9 => vsilu (x 0 e) (x 1 e)
    | 10 => if rc.2 = 0 then pairSum 6 (row rc.1) else 0
    | 11 => if rc.2 = 0 then (match row rc.1 with
        | v :: vs => vs.foldl fmax v
        | [] => 0) else 0
    | _ => fmul (x 0 e) (x 1 (ordinal rc.1 0))

/-- R199: a vector table can start an iteration. -/
def State.canVector (s : State) (n j : Nat) (t : LoopTable) : Bool :=
  let r0 := s.tableRt n j
  let r := r0.atIteration t
  let o := t.out?.getD (parseOperand [])
  t.unit = 1 && r0.runs < s.runsOf t && (dueTakes t r).all (s.takeReady n j r) &&
    ((s.im.updateOutput t).isSome || s.outReady n o)

/-- R196 to R199: one iteration of a vector table: the result is written or sent, or updates the parameters it covers (R237). -/
def State.vectorPass (s : State) (n j : Nat) (t : LoopTable) : State :=
  let s1 := s.beginIteration n j t
  let r := s1.tableRt n j
  let o := t.out?.getD (parseOperand [])
  let x := (t.operands.zipIdx.filter (·.1.role ≤ 2)).foldl (fun (x : List (Array Nat) × State) p =>
    let y := x.2.readTile n (x.2.operandPlace n j p)
    (x.1 ++ [y.1.nums.map toF32], y.2)) ([], s1)
  let xs := vectorOp t.op x.1
  let out := tileIndex o r.levels
  let s2 := match s.im.updateOutput t with
    | some p => x.2.tileUpdate p out 0 64 (s.runTenant t r) (16 + n) (xs.map f32).toArray
    | none => x.2.putTile n o 0 (t.oneToOne o) out (runMb t r) (s.runTenant t r) r.touched xs
  ((s2.modTable n j fun r => { r with touched := r.touched + 1 }).endIteration n j t).count 0x00A n 1

/-- VECTOR_ITERATION (R199). -/
def State.doVector (s : State) (n j : Nat) : State :=
  match s.table? n j with
  | none => s
  | some t =>
    if !s.working || !s.canVector n j t then s
    else
      let s0 := s.coreCheck n
      if s0.halted then s0 else s0.vectorPass n j t

/-- TILE_PRODUCT (R184). -/
def execTileProduct (core : Nat) (s : State) : Outcome := .next (s.doTileProduct core)
/-- ACCUMULATOR_DRAIN (R188). -/
def execAccumulatorDrain (core table : Nat) (s : State) : Outcome := .next (s.doDrain core table)
/-- VECTOR_ITERATION (R199). -/
def execVectorIteration (core table : Nat) (s : State) : Outcome := .next (s.doVector core table)
/-- UPDATE_ENGINE_TILE (R238). -/
def execUpdateEngineTile (route : Nat) (s : State) : Outcome := .next (s.doEngineTile route)

end Sys2Proof.Machine
end

