-- ==== Sys2Proof/Machine/Ckpt.lean ====
section
/-!
DEFINITION. Checkpoint orders (R213 to R220) and tenant feeds (R449).
-/
namespace Sys2Proof.Machine

/-! ### Lossless records (R218) -/

/-- R218: words of the values of a tile: width in bytes. -/
def wordBytes (fmt : Nat) : Nat := if fmtBits fmt = 16 then 2 else if fmtBits fmt = 32 then 4 else 1

/-- Little-endian words of `w` bytes. -/
def wordsOf (w : Nat) (bs : Bytes) : List Nat := (List.range (bs.length / max 1 w)).map fun i => leField bs (w * i) w
/-- Their bytes. -/
def bytesOfWords (w : Nat) (ws : List Nat) : Bytes := ws.flatMap fun x => leBytes w x

/-- R218: word i, for i ≥ 1, replaced by word i XOR word i − 1. -/
def deltaWords (ws : List Nat) : List Nat :=
  match ws with
  | [] => []
  | x :: rest => x :: List.zipWith (fun a b => a ^^^ b) rest ws
/-- The words of a delta series. -/
def undelta (ws : List Nat) : List Nat :=
  (ws.foldl (fun (acc : List Nat × Nat) d => let x := acc.2 ^^^ d; (acc.1 ++ [x], x)) ([], 0)).1

/-- R218: a zero-run coding of words: at each control byte the free values choose a zero run or literals and their number. -/
def runCode (pick : Nat → Nat) (w : Nat) : Nat → List Nat → Bytes
  | 0, _ => []
  | fuel + 1, ws =>
    if ws.isEmpty then []
    else
      let zeros := (ws.takeWhile (· = 0)).length
      let p := pick ws.length
      if 0 < zeros && p % 2 = 0 then
        let n := 1 + p / 2 % min 128 zeros
        leBytes 1 (n - 1) ++ runCode pick w fuel (ws.drop n)
      else
        let n := 1 + p / 2 % min 128 ws.length
        leBytes 1 (0x80 + (n - 1)) ++ bytesOfWords w (ws.take n) ++ runCode pick w fuel (ws.drop n)

/-- R218: decode a zero-run series to exactly `n` words; `none` when it does not. -/
def runDecode (w : Nat) : Nat → Nat → Bytes → Option (List Nat)
  | 0, n, bs => if n = 0 ∧ bs = [] then some [] else none
  | fuel + 1, n, bs =>
    match bs with
    | [] => if n = 0 then some [] else none
    | c :: rest =>
      let k := c.toNat % 128 + 1
      if n < k then none
      else if c.toNat < 128 then (runDecode w fuel (n - k) rest).map fun ws => List.replicate k 0 ++ ws
      else if rest.length < k * w then none
      else (runDecode w fuel (n - k) (rest.drop (k * w))).map fun ws => wordsOf w (rest.take (k * w)) ++ ws

/-- R218: a lossless record of a tile, in the METHOD and control bytes that the free values choose; a coding longer than the
values is not allowed, so the values are then stored. -/
def losslessRecord (pick : Nat → Nat) (fmt : Nat) (values scales : Bytes) : Bytes :=
  let w := wordBytes fmt
  let ws := wordsOf w values
  let m := pick 0 % 3
  let coded := runCode (fun p => pick (1 + p)) w ws.length (if m = 2 then deltaWords ws else ws)
  let stored := m = 0 || values.length < coded.length
  let body := if stored then values else coded
  leBytes 1 (if stored then 0 else m) ++ leBytes 1 fmt ++ leBytes 2 0 ++ leBytes 4 body.length ++ body ++ scales

/-- R218: the values and scales of a record; `none` when it does not decode. -/
def decodeRecord (fmt : Nat) (r : Bytes) : Option (Bytes × Bytes) :=
  let b := tileBytes fmt
  let sLen := if scaledFmt fmt then 64 else 0
  let n := leField r 4 4
  let w := wordBytes fmt
  let body := sliceBytes r 8 n
  let sc := sliceBytes r (8 + n) sLen
  if r.length ≠ 8 + n + sLen || leField r 1 1 ≠ fmt || leField r 2 2 ≠ 0 || b < n then none
  else match leField r 0 1 with
    | 0 => if n = b then some (body, sc) else none
    | 1 => (runDecode w n (b / w) body).map fun ws => (bytesOfWords w ws, sc)
    | 2 => (runDecode w n (b / w) body).map fun ws => (bytesOfWords w (undelta ws), sc)
    | _ => none

/-! ### Orders (R214, R215, R220) -/

/-- The order that a unit serves for a core. -/
def State.ckptOf (s : State) (u n : Nat) : Option CkptRt := (s.ckpt.find? (·.1 = u * 1024 + n)).map (·.2)
/-- Replace it. -/
def State.setCkpt (s : State) (u n : Nat) (c : Option CkptRt) : State :=
  match c with
  | some x => { s with ckpt := Sparse.insert s.ckpt (u * 1024 + n) x }
  | none => { s with ckpt := Sparse.erase s.ckpt (u * 1024 + n) }

/-- R214: the routes of a core to a unit: the control route (`ctrl`) or the data route. -/
def Image.ckptRoute (im : Image) (u n : Nat) (ctrl : Bool) : Option Nat :=
  im.routeRecs.findIdx? fun r => r.dstKind = 1 && r.dst = u && r.srcKind = 0 && r.src = n &&
    ((im.queue? n r.srcQ).map QueueRec.isCtrl).getD false = ctrl
/-- R214: the data route from a unit to a core. -/
def Image.ckptBack (im : Image) (u n : Nat) : Option Nat :=
  im.routeRecs.findIdx? fun r => r.srcKind = 1 && r.src = u && r.dstKind = 0 && r.dst = n

/-- R220: an invalid order is an error of the SEGMENT_RUN, which R416 ranks with the others; all but the first of a run are counted. -/
def State.ckptInvalid (s : State) (u n cause : Nat) : State :=
  let detail := cause <<< 40 + unitKindOf u <<< 32 + n <<< 16 + unitInstOf u
  match s.seg with
  | none => s.mark St.descInvalid 0 none true false
  | some r =>
    let s1 := ({ s with seg := some { r with ckptBad := r.ckptBad + 1 } } : State).fabricError St.descInvalid 0 n detail 0 false
    if r.ckptBad = 0 then s1 else s1.count 0x01A u 1

/-- R215: the order of a descriptor. -/
def parseCkpt (d : Bytes) (addr : Nat) (save : Bool) (tenant mb : Nat) : CkptRt :=
  { save, desc := addr, mode := leField d 0 1, srcFmt := leField d 1 1, outFmt := leField d 2 1, tiles := leField d 4 4,
    data := leField d 8 8, aux := leField d 16 8, destOff := leField d 24 4, destScale := leField d 28 4,
    slots := leField d 32 2, next := 0, used := 0, tenant, mb, bad := 0 }

/-- R215: TILES is within its range. -/
def CkptRt.tilesOk (c : CkptRt) : Bool := 1 ≤ c.tiles && c.tiles ≤ 16777215

/-- R215, R220 cause 0x21: a field is out of range, or a reserved field is nonzero. The DEST fields are a RESTORE's. -/
def ckptFieldBad (d : Bytes) (c : CkptRt) : Bool :=
  let needAux := c.mode = 0 || c.mode = 1 || scaledFmt c.srcFmt
  2 < c.mode || !fmtOk c.srcFmt || leField d 3 1 ≠ 0 || !zeroField d 34 6 || !zeroField d 56 8 || !c.tilesOk ||
    (if c.mode = 1 then c.srcFmt < 6 || !([4, 6, 8].contains c.outFmt) else c.outFmt ≠ c.srcFmt) ||
    c.data % 256 ≠ 0 || 2 ^ 48 ≤ c.data || c.aux % 64 ≠ 0 || 2 ^ 48 ≤ c.aux || (!needAux && c.aux ≠ 0) ||
    (!c.save && (c.destOff % 256 ≠ 0 || c.slots = 0 || 64 < c.slots ||
      (if scaledFmt c.outFmt then c.destScale % 64 ≠ 0 else c.destScale ≠ 0xFFFFFFFF)))

/-- R220: the cause for which an order is invalid; 0 for a valid one. -/
def State.ckptCause (s : State) (u : Nat) (d : Bytes) (c : CkptRt) : Nat :=
  let st := leField d 40 8
  if ckptFieldBad d c then 0x21
  else if unitKindOf u = 6 && c.mode ≠ 2 then 0x22
  else if !c.save && !(bitOf st 63 && st % 2 ^ 32 = s.stepNum.toNat && bitsOf st 55 32 = c.tiles) then 0x23
  else 0

/-- Take the oldest control token of a core's control route to a unit, when a test accepts its selector. -/
def State.takeOrder (s : State) (u n : Nat) (sel : Nat → Bool) : Option (TokHdr × State) :=
  match s.im.ckptRoute u n true with
  | none => none
  | some k => match (s.route k).unitIn with
    | [] => none
    | w :: rest =>
      if sel w.hdr.selector then
        some (w.hdr, s.modRoute k fun x => { x with unitIn := rest, returning := x.returning + 1 })
      else none

/-- R214 to R219: a unit begins an order: reads the descriptor that ARG[47:0] names and checks it. A SAVE that is valid writes STATUS
as zero. An order that is not valid still takes or sends the tokens of its TILES (R220). -/
def State.beginOrder (s : State) (u n : Nat) (h : TokHdr) (save : Bool) : State :=
  let addr := h.arg.toNat % 2 ^ 48
  let r := s.segRead addr 64
  let c := parseCkpt r.1 addr save h.tenant h.mb
  let cause := if h.arg.toNat / 2 ^ 48 ≠ 0 || addr % 64 ≠ 0 then 0x21 else r.2.ckptCause u r.1 c
  let s1 := if cause ≠ 0 then r.2.ckptInvalid u n cause else r.2
  if !c.tilesOk then s1
  else if cause ≠ 0 then s1.setCkpt u n (some { c with bad := cause })
  else if save then
    let w := s1.segWrite (addr + 40) (leBytes 8 0)
    w.2.setCkpt u n (some { c with refused := !w.1 })
  else s1.setCkpt u n (some c)

/-! ### SAVE (R216, R217) -/

/-- Two writes of a segment, one after the other. -/
def State.segWrites (s : State) (a : Nat) (x : Bytes) (b : Nat) (y : Bytes) : Bool × State :=
  let r := s.segWrite a x
  let t := r.2.segWrite b y
  (r.1 && t.1, t.2)

/-- R218 mode 1: tile `t` of a save as FP32: its values and scales at their places. -/
def State.storeF32 (s : State) (c : CkptRt) (w : WaitTok) : Bool × State :=
  let v := encodeTile 4 nearestAll ((decodeTile c.srcFmt w.values w.scales).map toF32).toList
  s.segWrites (c.data + c.next * 4096) v.1 (c.aux + c.next * 64) v.2

/-- R218 mode 2: the tile in its own format. -/
def State.storePlain (s : State) (c : CkptRt) (w : WaitTok) : Bool × State :=
  s.segWrites (c.data + c.next * tileBytes c.srcFmt) w.values (c.aux + c.next * 64) (if scaledFmt c.srcFmt then w.scales else [])

/-- R218 mode 3: the tile as a lossless record, with the index entry that names it; the bytes used after it. -/
def State.storeLossless (s : State) (c : CkptRt) (w : WaitTok) : Bool × Nat × State :=
  let rec_ := losslessRecord (Config.losslessPick s.draws) c.srcFmt w.values (if scaledFmt c.srcFmt then w.scales else [])
  let off := (c.used + 63) / 64 * 64
  let pad := (List.range (off - c.used)).map (Config.unspecifiedByte s.draws)
  let r := ({ s with draws := s.draws + 1 } : State).segWrites (c.data + c.used) (pad ++ rec_) (c.aux + 8 * c.next)
    (leBytes 8 (off % 2 ^ 40 + rec_.length <<< 40))
  (r.1, off + rec_.length, r.2)

/-- R217: store tile `t` of an order: whether every write was performed, the bytes of the data region used so far. -/
def State.storeTile (s : State) (c : CkptRt) (w : WaitTok) : Bool × Nat × State :=
  if c.mode = 1 then ((s.storeF32 c w).1, (c.next + 1) * 4096, (s.storeF32 c w).2)
  else if c.mode = 2 then ((s.storePlain c w).1, (c.next + 1) * tileBytes c.srcFmt, (s.storePlain c w).2)
  else s.storeLossless c w

/-- R216: the unit takes the next data token of the order. -/
def State.absorbTile (s : State) (u n k : Nat) (c : CkptRt) : State :=
  match (s.route k).unitIn with
  | [] => s
  | w :: rest =>
    let s1 := s.modRoute k fun x => { x with unitIn := rest, returning := x.returning + 1 }
    if c.bad ≠ 0 then s1.setCkpt u n (some { c with next := c.next + 1 })
    else
      let r := s1.storeTile c w
      r.2.2.setCkpt u n (some { c with next := c.next + 1, used := r.2.1, refused := c.refused || !r.1 })

/-- R216 step 4: USED, then STATUS with VALID, TILES and the step number, once every byte has been written; a save of which a write
was refused writes neither (log entry 35). -/
def State.finishSave (s : State) (u n : Nat) (c : CkptRt) : State :=
  let s1 := s.setCkpt u n none
  if c.bad ≠ 0 || c.refused then s1
  else
    let r := s1.segWrite (c.desc + 48) (leBytes 8 c.used)
    if r.1 then (r.2.segWrite (c.desc + 40) (leBytes 8 (2 ^ 63 + c.tiles <<< 32 + s.stepNum.toNat))).2 else r.2

/-- Go on with a SAVE while data tokens wait. -/
def State.saveRun (s : State) (u n : Nat) : Nat → State
  | 0 => s
  | fuel + 1 =>
    match s.ckptOf u n, s.im.ckptRoute u n false with
    | some c, some k =>
      if !c.save then s
      else if c.tiles ≤ c.next then s.finishSave u n c
      else if (s.route k).unitIn.isEmpty then s
      else (s.absorbTile u n k c).saveRun u n fuel
    | some c, none => if c.save && c.tiles ≤ c.next then s.finishSave u n c else s
    | none, _ => s

/-- CHECKPOINT_SAVE (R216): the unit takes the core's next SAVE order, when it serves none, and the data tokens that wait. An order of
another selector than 1 or 2 is invalid and takes no tokens (R214, R220; log entry 35). -/
def State.doSave (s : State) (u n : Nat) : State :=
  if s.image.isNone || s.halted then s
  else
    let s1 := if (s.ckptOf u n).isSome then s
      else match s.takeOrder u n (· ≠ 2) with
        | some x => if x.1.selector = 1 then x.2.beginOrder u n x.1 true else x.2.ckptInvalid u n 0x21
        | none => s
    let waiting := ((s1.im.ckptRoute u n false).map fun k => (s1.route k).unitIn.length).getD 0
    s1.saveRun u n (waiting + 1)

/-! ### RESTORE (R219) -/

/-- R219: tile `t` of a restore: its values and scales in OUT_FMT; `none` when a lossless record or index entry does not
decode. -/
def State.loadTile (s : State) (c : CkptRt) : Option (Bytes × Bytes) × State :=
  let t := c.next
  let b := tileBytes c.srcFmt
  if c.mode = 1 then
    let v := s.segRead (c.data + t * 4096) 4096
    let a := v.2.segRead (c.aux + t * 64) 64
    if c.outFmt = 4 then (some (v.1, a.1), a.2)
    else (some (encodeTile c.outFmt nearestAll ((decodeTile 4 v.1 a.1).map toF32).toList), a.2)
  else if c.mode = 2 then
    let v := s.segRead (c.data + t * b) b
    let a := v.2.segRead (c.aux + t * 64) (if scaledFmt c.srcFmt then 64 else 0)
    (some (v.1, a.1), a.2)
  else
    let i := s.segRead (c.aux + 8 * t) 8
    let e := leNat i.1
    let len := e / 2 ^ 40
    if 8 + b + 64 < len then (none, i.2)
    else
      let r := i.2.segRead (c.data + e % 2 ^ 40) len
      (decodeRecord c.srcFmt r.1, r.2)

/-- R219: the offset of the slot that takes the next tile. -/
def CkptRt.slotOff (c : CkptRt) : Nat := (c.destOff + c.next % max 1 c.slots * tileBytes c.outFmt) % 2 ^ 32

/-- R219, R220: queue the next data token of a restore on its route; an invalid order sends zeros. -/
def State.restoreTile (s : State) (u n k : Nat) (c : CkptRt) : State :=
  let b := tileBytes c.outFmt
  let scaled := scaledFmt c.outFmt
  let zero : Bytes × Bytes := (List.replicate b 0, if scaled then List.replicate 64 0 else [])
  let r : (Option (Bytes × Bytes)) × State := if c.bad ≠ 0 then (some zero, s) else s.loadTile c
  let s1 := if r.1.isNone then r.2.ckptInvalid u n 0x24 else r.2
  let v := r.1.getD zero
  let i := c.next % max 1 c.slots
  let h := dataHdr s1.epoch c.outFmt c.tenant c.mb (b / 64) c.slotOff
    (if scaled then (c.destScale + i * 64) % 2 ^ 32 else 0xFFFFFFFF)
  let s2 := s1.queueTok k { hdr := h, values := v.1, scales := v.2, parent := none, inPlace := false }
  let c1 := { c with next := c.next + 1, bad := if r.1.isNone then 0x24 else c.bad }
  s2.setCkpt u n (if c1.tiles ≤ c1.next then none else some c1)

/-- R113, R219: the slot at an offset may be written: no token of the route with this offset waits, is under way or is still referenced,
and no credit is on its way back (which of the tokens it protects, a credit does not say; log entry 35). -/
def State.slotFree (s : State) (k off : Nat) : Bool :=
  let x := s.route k
  x.returning = 0 && (x.waiting ++ x.inflight).all (·.hdr.offset ≠ off) &&
    s.live.all fun t => t.2.route ≠ k || t.2.hdr.offset ≠ off

/-- Go on with a RESTORE while its route has credits and its next slot is free. -/
def State.restoreTiles (s : State) (u n : Nat) : Nat → State
  | 0 => s
  | fuel + 1 =>
    match s.ckptOf u n, s.im.ckptBack u n with
    | some c, some k => if c.save || !s.canSend k || !s.slotFree k c.slotOff then s else (s.restoreTile u n k c).restoreTiles u n fuel
    | _, _ => s

/-- CHECKPOINT_RESTORE (R219): the unit takes the core's next RESTORE order, when it serves none, and sends tokens while the
route has credits. -/
def State.doRestore (s : State) (u n : Nat) : State :=
  if s.image.isNone || s.halted then s
  else
    let s1 := if (s.ckptOf u n).isSome then s
      else match s.takeOrder u n (· = 2) with
        | some x => x.2.beginOrder u n x.1 false
        | none => s
    s1.restoreTiles u n (((s1.im.ckptBack u n).map fun k => (s1.route k).credits).getD 0)

/-! ### Tenant feeds (R449) -/

/-- R449: the chain and PARAM record of a route that is a tenant feed. -/
def Image.feed? (im : Image) (k : Nat) : Option (CarriageRec × ParamRec) :=
  match im.route? k with
  | none => none
  | some r =>
    if !(r.srcKind = 1 && unitKindOf r.src = 6 && r.dstKind = 0) then none
    else
      (im.carriageRecs.find? fun c => c.pos = 0 && c.core = r.dst && ((im.chainIn r.dst c.chain).map (·.q)) = some r.dstQ).bind
        fun c => (im.param? c.tensor).bind fun p => if ParamFlags.touched p then some (c, p) else none

/-- The code of a weight of a home's committed slot. -/
def State.weightCode (s : State) (home : Nat) (g : Geom) (row col : Nat) : Nat :=
  let j := g.block (row / 8) (col / 8)
  s.slotNat (pageOf home + j / 128) (64 + 384 * (j % 128) + 6 * (row % 8 * 8 + col % 8)) 2

/-- R449: the values of tile `t` of a unit's rows, pad elements zero. -/
def State.feedTile (s : State) (home : Nat) (g : Geom) (unit t : Nat) : Bytes :=
  let tc := max 1 (ceilDiv g.cols 64)
  packCodes 16 ((List.range 4096).map fun e =>
    let rc := elementOf e
    let r := 64 * (t / tc) + rc.1
    let c := 64 * (t % tc) + rc.2
    if r < g.touch && c < g.cols then s.weightCode home g (unit * g.touch + r) c else 0)

/-- R449: the pages of a home that hold the rows of tile `t` of a unit. -/
def feedPages (home : Nat) (g : Geom) (unit t : Nat) : List Nat :=
  ((g.tileBlocks (unit * g.touch) g.touch t 0 64).map fun b => pageOf home + g.block b.1 b.2 / 128).eraseDups

/-- R49, R273, R449: the feed reads the committed slot of some pages. -/
def State.feedReads (s : State) (home : Nat) (pages : List Nat) : Bool × State :=
  pages.foldl (fun (acc : Bool × State) p =>
    if spBase ≤ home then (acc.1, acc.2.scratchRead .fabric (slotPlace p (acc.2.committedSlot p) 0) 49216)
    else
      let r := acc.2.segAccess (p * 131072) 65536
      (acc.1 && r.1, r.2)) (true, s)

/-- TENANT_FEED (R449): the feed of a route sends the next tile of the run's micro-batches. A tag that misses, or a unit out of
range, is an error at the micro-batch's first tile and sends zeros (log entry 35). -/
def State.doFeed (s : State) (k : Nat) : State :=
  match s.im.feed? k, s.seg, s.im.route? k with
  | some f, some r, some rt =>
    let sent := Sparse.get 0 r.feeds k
    let mb := sent / max 1 f.1.tiles
    let t := sent % max 1 f.1.tiles
    let win := s.im.windowRecs.find? fun w => w.core = rt.dst && w.w = 15
    let slots := max 1 ((win.map (·.len)).getD 0 / 8192)
    let off := (win.map (·.base)).getD 0 + t % slots * 8192
    if !s.working || r.tenants.length * f.1.tiles ≤ sent || !s.canSend k || !s.slotFree k off then s
    else
      let tag := r.tenants.getD mb 0
      let s0 := { s with seg := some { r with feeds := Sparse.set 0 r.feeds k (sent + 1) } }
      let look := s0.tmapLookup r.domain tag
      let g := look.2.geom f.2.home
      let fmt := look.2.slotNat (pageOf f.2.home) 21 1
      let unit := look.1.filter (· < g.units true)
      let s1 := if t ≠ 0 || unit.isSome then look.2
        else match look.1 with
          | none => look.2.tmapMiss tag
          | some u => look.2.fabricError St.indexRange 0 u u 0 false
      let acc : Bool × State := match unit with
        | some u => s1.feedReads f.2.home (feedPages f.2.home g u t)
        | none => (false, s1)
      let bs := if acc.1 then acc.2.feedTile f.2.home g (unit.getD 0) t else List.replicate 8192 0
      acc.2.queueTok k { hdr := dataHdr s1.epoch fmt tag (mb % 65536) 128 off 0xFFFFFFFF, values := bs, scales := [],
                         parent := none, inPlace := false }
  | _, _, _ => s

/-- CHECKPOINT_SAVE (R216). -/
def execCheckpointSave (unit core : Nat) (s : State) : Outcome := .next (s.doSave unit core).evalFlags
/-- CHECKPOINT_RESTORE (R219). -/
def execCheckpointRestore (unit core : Nat) (s : State) : Outcome := .next (s.doRestore unit core).evalFlags
/-- TENANT_FEED (R449). -/
def execTenantFeed (route : Nat) (s : State) : Outcome := .next (s.doFeed route)

end Sys2Proof.Machine
end

