-- ==== Sys2Proof/Machine/Scalar.lean ====
section
/-!
DEFINITION. The scalar core (R200 to R205): RV32I with the M extension, its data map and token registers, faults and halts.
-/
namespace Sys2Proof.Machine

/-! ### Fields of an instruction -/

/-- Bits [hi:lo] of an instruction as a number. -/
def insBits (w : W32) (hi lo : Nat) : Nat := bitsOf w.toNat hi lo
/-- Sign-extended number of `n` bits. -/
def sext (n v : Nat) : W32 := (BitVec.ofNat n v).signExtend 32
/-- I-type immediate. -/
def immI (w : W32) : W32 := sext 12 (insBits w 31 20)
/-- S-type immediate. -/
def immS (w : W32) : W32 := sext 12 (insBits w 31 25 <<< 5 + insBits w 11 7)
/-- B-type immediate. -/
def immB (w : W32) : W32 :=
  sext 13 (insBits w 31 31 <<< 12 + insBits w 7 7 <<< 11 + insBits w 30 25 <<< 5 + insBits w 11 8 <<< 1)
/-- U-type immediate. -/
def immU (w : W32) : W32 := w &&& 0xFFFFF000
/-- J-type immediate. -/
def immJ (w : W32) : W32 :=
  sext 21 (insBits w 31 31 <<< 20 + insBits w 19 12 <<< 12 + insBits w 20 20 <<< 11 + insBits w 30 21 <<< 1)

/-! ### Arithmetic -/

/-- RV32I operations on two registers or a register and an immediate; `alt` is bit 30. -/
def aluOp (f3 : Nat) (alt : Bool) (a b : W32) : W32 :=
  let sh := b.toNat % 32
  match f3 with
  | 0 => if alt then a - b else a + b
  | 1 => a <<< sh
  | 2 => if a.toInt < b.toInt then 1 else 0
  | 3 => if a.toNat < b.toNat then 1 else 0
  | 4 => a ^^^ b
  | 5 => if alt then a.sshiftRight sh else a >>> sh
  | 6 => a ||| b
  | _ => a &&& b

/-- M extension: products and quotients, with the results that the RISC-V manual gives for a zero divisor and for overflow. -/
def mulOp (f3 : Nat) (a b : W32) : W32 :=
  let hi := fun (x y : BitVec 64) => ((x * y) >>> 32).truncate 32
  match f3 with
  | 0 => a * b
  | 1 => hi (a.signExtend 64) (b.signExtend 64)
  | 2 => hi (a.signExtend 64) (b.zeroExtend 64)
  | 3 => hi (a.zeroExtend 64) (b.zeroExtend 64)
  | 4 => if b = 0 then BitVec.allOnes 32 else a.sdiv b
  | 5 => if b = 0 then BitVec.allOnes 32 else a.udiv b
  | 6 => if b = 0 then a else a.srem b
  | _ => if b = 0 then a else a.umod b

/-- Branch conditions; `none` for a reserved code. -/
def branchTaken (f3 : Nat) (a b : W32) : Option Bool :=
  match f3 with
  | 0 => some (a = b)
  | 1 => some (a ≠ b)
  | 4 => some (a.toInt < b.toInt)
  | 5 => some (b.toInt ≤ a.toInt)
  | 6 => some (a.toNat < b.toNat)
  | 7 => some (b.toNat ≤ a.toNat)
  | _ => none

/-! ### The hart -/

/-- A register; x0 reads zero. -/
def ScalarRt.reg (h : ScalarRt) (r : Nat) : W32 := if r = 0 then 0 else Sparse.get 0 h.x r
/-- Write a register; x0 discards writes. -/
def ScalarRt.setReg (h : ScalarRt) (r : Nat) (v : W32) : ScalarRt := if r = 0 then h else { h with x := Sparse.set 0 h.x r v }

/-- The scalar core of a core. -/
def State.hart (s : State) (n : Nat) : ScalarRt := (s.core n).scalar
/-- Change it. -/
def State.modHart (s : State) (n : Nat) (f : ScalarRt → ScalarRt) : State := s.modCore n fun c => { c with scalar := f c.scalar }

/-- R203: a token still held when the program halts is released. -/
def State.dropTaken (s : State) (n : Nat) : State :=
  let s1 := (s.hart n).taken.foldl (fun s e => match e.2 with
    | some id => s.dropRef id
    | none => s) s
  s1.modHart n fun h => { h with taken := [] }

/-- R204: a fault halts the program: ENG_STATUS, STATE 4, a mark on the step; the segment stays held up. -/
def State.scalarFault (s : State) (n cause : Nat) (inj : Bool) : State :=
  let pc := (s.hart n).pc.toNat
  let s1 := (s.dropTaken n).modHart n fun h => { h with running := false, faulted := true }
  let s2 := (((s1.setFld (CoreEngStatus.scalarFault n) 1).setFld (CoreEngStatus.faultCause n) cause).setFld
    (CoreEngStatus.faultPc n) pc).setFld (CoreEngStatus.scalarRun n) 0
  let s3 := s2.setFld (CoreStatus.state n) 4
  (s3.detect 0x15 St.stepAborted (s.seg.map (·.q)) n inj).mark St.stepAborted 0x15 s.segCmd true inj

/-- R200, R203: the program halts. -/
def State.scalarHalt (s : State) (n : Nat) : State :=
  ((s.dropTaken n).modHart n fun h => { h with running := false, halted := h.halted + 1 }).setFld (CoreEngStatus.scalarRun n) 0

/-- Complete an instruction: write a register, go to the next program counter, count it (R205). -/
def State.retire (s : State) (n rd : Nat) (v : W32) (next : W32) : State :=
  (s.modHart n fun h => { h.setReg rd v with pc := next }).count 0x00C n 1

/-- SCALAR_PROGRAM_START (R201): the program for the next micro-batch starts at byte 0 with x1 to x31 zero. -/
def State.doScalarStart (s : State) (n : Nat) : State :=
  let h := s.hart n
  if s.working && n < s.grade.cores && (s.im.core n).progLen ≠ 0 && !h.running && !h.faulted && h.halted < s.batches.length then
    (s.modHart n fun h => { h with running := true, pc := 0, x := [] }).setFld (CoreEngStatus.scalarRun n) 1
  else s

/-! ### Token registers (R203) -/

/-- The current micro-batch of a hart. -/
def ScalarRt.mb (h : ScalarRt) : Nat := h.halted % 65536

/-- A token register other than TAKE read as a word. -/
def State.tokenReg (s : State) (n off : Nat) : W32 :=
  let h := s.hart n
  match off with
  | 0x00 => h.argLo
  | 0x04 => h.argHi
  | 0x10 => h.takeQ
  | 0x14 => h.hdr1
  | 0x18 => h.hdr2
  | 0x1C => h.hdr3
  | 0x20 => BitVec.ofNat 32 (s.batches.getD h.halted 0 <<< 16 + h.mb)
  | 0x24 => BitVec.ofNat 32 (s.batches.length % 65536)
  | 0x28 => s.stepNum
  | _ => 0

/-- A token register other than SEND written as a word; read-only ones ignore it. -/
def State.setTokenReg (s : State) (n off : Nat) (v : W32) : State :=
  match off with
  | 0x00 => s.modHart n fun h => { h with argLo := v }
  | 0x04 => s.modHart n fun h => { h with argHi := v }
  | 0x10 => s.modHart n fun h => { h with takeQ := v &&& 0x3F }
  | _ => s

/-- R203: SEND names a control out queue whose UNIT is 4. -/
def Image.sendQueue (im : Image) (n q : Nat) : Bool := match im.queue? n q with
  | some r => r.kind = 3 && r.unit = 4
  | none => false
/-- R203: TAKE_Q names an in queue whose UNIT is 4. -/
def Image.takeQueue (im : Image) (n q : Nat) : Bool := match im.queue? n q with
  | some r => r.isIn && r.unit = 4
  | none => false

/-- R203: a write of SEND completes once a credit is there: a control token with ARG, the current TENANT, MB and epoch. -/
def State.scalarSend (s : State) (n : Nat) (v : W32) : State :=
  let q := insBits v 21 16
  let h := s.hart n
  if !s.im.sendQueue n q then s.scalarFault n 6 false
  else if !s.outFree n q then s
  else match s.outRoute n q with
    | none => s
    | some k =>
      let t : TokHdr := { epoch := s.epoch, control := true, selector := insBits v 3 0, fmt := 0,
                          tenant := s.batches.getD h.halted 0, mb := h.mb, granules := 0,
                          arg := BitVec.ofNat 64 (h.argLo.toNat + h.argHi.toNat <<< 32) }
      (s.queueTok k { hdr := t, values := [], scales := [], parent := none, inPlace := false }).retire n 0 0 (h.pc + 4)

/-- Bytes [off, off + w) of a 32-bit register as a load of code `f3` gives them. -/
def loadPart (f3 off : Nat) (v : W32) : W32 :=
  let w := if f3 % 4 = 0 then 1 else if f3 % 4 = 1 then 2 else 4
  let x := v.toNat / 2 ^ (8 * off) % 2 ^ (8 * w)
  if f3 < 2 then sext (8 * w) x else BitVec.ofNat 32 x

/-- R203: a read of TAKE completes once the queue named holds a token. A narrower load takes it too, and gives the bytes at its address
(log entry 34). -/
def State.scalarTake (s : State) (n rd f3 off : Nat) : State :=
  let h := s.hart n
  let q := h.takeQ.toNat
  if !s.im.takeQueue n q then s.scalarFault n 6 false
  else match s.coreQ n q with
    | [] => s
    | id :: rest =>
      let s1 := match Sparse.get none h.taken q with
        | some old => s.dropRef old
        | none => s
      let b := (s.tokHdr id).bytes
      let w := fun o => BitVec.ofNat 32 (leField b o 4)
      let s2 := (s1.setCoreQ n q rest).modHart n fun h =>
        { h with taken := Sparse.set none h.taken q (some id), hdr0 := w 0, hdr1 := w 4, hdr2 := w 8, hdr3 := w 12 }
      s2.retire n rd (loadPart f3 off (w 0)) (h.pc + 4)

/-! ### Loads and stores (R202) -/

/-- Width in bytes of a load or store code; 0 for a reserved one. -/
def accessWidth (f3 : Nat) (load : Bool) : Nat :=
  match f3 with
  | 0 => 1 | 1 => 2 | 2 => 4
  | 4 => if load then 1 else 0
  | 5 => if load then 2 else 0
  | _ => 0

/-- The address lies in the token registers. -/
def inTokenRegs (a : Nat) : Bool := 0x04000000 ≤ a && a < 0x04000030

/-- R202: cause of the fault of an access: 0 none. -/
def State.accessFault (s : State) (n a w : Nat) : Nat :=
  if a % w ≠ 0 then 2
  else if inTokenRegs a then 0
  else if a + w ≤ s.spLimit n then 0 else 3

/-- A store of `w` bytes at offset `off` of a 32-bit register that holds `old` (log entry 34). -/
def storePart (old : W32) (off w : Nat) (v : W32) : W32 :=
  BitVec.ofNat 32 (putBits old.toNat (8 * (off + w) - 1) (8 * off) (v.toNat % 2 ^ (8 * w)))

/-- A load of a scratchpad or of a token register other than TAKE. -/
def State.scalarLoad (s : State) (n rd f3 a : Nat) : State :=
  let w := accessWidth f3 true
  let pc := (s.hart n).pc
  let f := s.accessFault n a w
  if f ≠ 0 then s.scalarFault n f false
  else if inTokenRegs a then s.retire n rd (loadPart f3 (a % 4) (s.tokenReg n (a / 4 * 4 - 0x04000000))) (pc + 4)
  else
    let s1 := s.spWord n a
    let v := leNat (s1.spBytes n a w)
    s1.retire n rd (if f3 < 2 then sext (8 * w) v else BitVec.ofNat 32 v) (pc + 4)

/-- A store to a scratchpad or to a token register other than SEND. A store narrower than a word reads the word first (R48). -/
def State.scalarStore (s : State) (n f3 a : Nat) (v : W32) : State :=
  let w := accessWidth f3 false
  let pc := (s.hart n).pc
  let f := s.accessFault n a w
  if f ≠ 0 then s.scalarFault n f false
  else if inTokenRegs a then
    let r := a / 4 * 4 - 0x04000000
    (s.setTokenReg n r (storePart (s.tokenReg n r) (a % 4) w v)).retire n 0 0 (pc + 4)
  else
    let s1 := if w < 4 then s.spWord n a else s
    (s1.spStore n a (leBytes w v.toNat)).retire n 0 0 (pc + 4)

/-! ### Instructions (R200) -/

/-- Which row an instruction belongs to: an access of SEND, an access of TAKE, or any other. -/
inductive ScalarKind where
  | send | take | other
  deriving DecidableEq, Repr

/-- An access of `w` bytes at `a` is aligned and lies in the word at `reg`. -/
def accessesWord (a w reg : Nat) : Bool := w ≠ 0 && a % w = 0 && a / 4 * 4 = reg

/-- The row of an instruction with the registers of a hart. -/
def ScalarRt.kind (h : ScalarRt) (w : W32) : ScalarKind :=
  let a := h.reg (insBits w 19 15)
  let f3 := insBits w 14 12
  if insBits w 6 0 = 0x23 && accessesWord (a + immS w).toNat (accessWidth f3 false) 0x04000008 then .send
  else if insBits w 6 0 = 0x03 && accessesWord (a + immI w).toNat (accessWidth f3 true) 0x0400000C then .take
  else .other

/-- The word that a store into SEND writes: its bytes in their places, the others zero (log entry 34). -/
def ScalarRt.sendWord (h : ScalarRt) (w : W32) : W32 :=
  let a := h.reg (insBits w 19 15) + immS w
  storePart 0 (a.toNat % 4) (accessWidth (insBits w 14 12) false) (h.reg (insBits w 24 20))

/-- A jump to a target: a misaligned one faults at the jump (log entry 34). -/
def State.jumpTo (s : State) (n rd : Nat) (v target : W32) : State :=
  if target.toNat % 4 ≠ 0 then s.scalarFault n 2 false else s.retire n rd v target

/-- R200: run an instruction other than an access of SEND or TAKE. -/
def State.runScalar (s : State) (n : Nat) (w : W32) : State :=
  let h := s.hart n
  let rd := insBits w 11 7
  let f3 := insBits w 14 12
  let f7 := insBits w 31 25
  let a := h.reg (insBits w 19 15)
  let b := h.reg (insBits w 24 20)
  let pc := h.pc
  let next := pc + 4
  let illegal := s.scalarFault n 1 false
  match insBits w 6 0 with
  | 0x37 => s.retire n rd (immU w) next
  | 0x17 => s.retire n rd (pc + immU w) next
  | 0x6F => s.jumpTo n rd next (pc + immJ w)
  | 0x67 => if f3 = 0 then s.jumpTo n rd next ((a + immI w) &&& 0xFFFFFFFE) else illegal
  | 0x63 =>
    match branchTaken f3 a b with
    | none => illegal
    | some t => if t then s.jumpTo n 0 0 (pc + immB w) else s.retire n 0 0 next
  | 0x03 => if accessWidth f3 true = 0 then illegal else s.scalarLoad n rd f3 (a + immI w).toNat
  | 0x23 => if accessWidth f3 false = 0 then illegal else s.scalarStore n f3 (a + immS w).toNat b
  | 0x13 =>
    if f3 = 1 && f7 ≠ 0 then illegal
    else if f3 = 5 && f7 ≠ 0 && f7 ≠ 0x20 then illegal
    else s.retire n rd (aluOp f3 (f3 = 5 && f7 = 0x20) a (if f3 = 1 || f3 = 5 then BitVec.ofNat 32 (insBits w 24 20) else immI w)) next
  | 0x33 =>
    if f7 = 1 then s.retire n rd (mulOp f3 a b) next
    else if f7 = 0 || (f7 = 0x20 && (f3 = 0 || f3 = 5)) then s.retire n rd (aluOp f3 (f7 = 0x20) a b) next
    else illegal
  | 0x0F => if f3 ≤ 1 then s.retire n 0 0 next else illegal
  | 0x73 =>
    if w = 0x00100073 then (s.count 0x00C n 1).scalarHalt n
    else if w = 0x00000073 then s.scalarFault n 4 false
    else illegal
  | _ => illegal

/-- The scalar rows: the next instruction of the core's program, when it belongs to the row. -/
def State.doScalar (s : State) (n : Nat) (want : ScalarKind) : State :=
  let h := s.hart n
  let len := (s.im.core n).progLen
  if !s.working || !h.running then s
  else if len ≤ h.pc.toNat then (if want = .other then s.scalarFault n 5 false else s)
  else
    let w := BitVec.ofNat 32 (leField (s.im.prog n) h.pc.toNat 4)
    if h.kind w ≠ want then s
    else
      let s0 := s.coreCheck n
      let f := s0.fire 0x15 n fun _ => true
      if f.1.isSome then
        let d := f.2.draw Config.forcedCause
        d.2.scalarFault n (1 + d.1 % 6) true
      else if s0.halted then f.2
      else match want with
        | .send => f.2.scalarSend n (h.sendWord w)
        | .take => f.2.scalarTake n (insBits w 11 7) (insBits w 14 12) ((h.reg (insBits w 19 15) + immI w).toNat % 4)
        | .other => f.2.runScalar n w

/-- SCALAR_PROGRAM_START (R201). -/
def execScalarProgramStart (core : Nat) (s : State) : Outcome := .next (s.doScalarStart core)
/-- SCALAR_INSTRUCTION (R200). -/
def execScalarInstruction (core : Nat) (s : State) : Outcome := .next (s.doScalar core .other)
/-- SEND (R203). -/
def execSend (core : Nat) (s : State) : Outcome := .next (s.doScalar core .send)
/-- TAKE (R203). -/
def execTake (core : Nat) (s : State) : Outcome := .next (s.doScalar core .take)

end Sys2Proof.Machine
end

