-- ==== Sys2Proof/Machine/Coach.lean ====
section
/-!
DEFINITION. The coach store and coach changes (04_coach_images.md), forced changes with the leftover region
(17_tenants_and_windows.md), SEGMENT_RUN, segment end, stuck segments (05_tokens_and_steering.md) and device replay
(15_consistency_errors_recovery.md).
-/
namespace Sys2Proof.Machine

/-! ### Slots (R89, R94, R104) -/

/-- R89: bytes of the coach store. -/
def storeSize : Nat := 50331648

/-- The bytes of a slot. -/
def State.slotBytes (s : State) (k : Nat) : Bytes := Sparse.get [] s.slots k
/-- A slot is VALID. -/
def State.slotValid (s : State) (k : Nat) : Bool := s.fld (FabCoachSlot.state k) = 2
/-- R89: what the store leaves for an image in slot `k`: the other VALID slots take their lengths. -/
def State.storeRoom (s : State) (k : Nat) : Nat :=
  storeSize - ((List.range 8).filter fun j => j ≠ k && s.slotValid j).foldl (fun n j => n + (s.slotBytes j).length) 0

/-- R91, R94: the slot is locked, active, or named by a pending ACTIVATE. -/
def State.slotBusy (s : State) (k : Nat) : Bool :=
  s.flag (FabCoachSlot.locked k) || s.fld FabCoachStatus.activeSlot = k || s.acts.any (·.slot = k)

/-- R91: STAGE `bytes` into slot `k`: `none` on success, otherwise status and detail of the failure. -/
def State.stageInto (s : State) (d k : Nat) (bytes : Bytes) (length : Nat) : Option (Nat × Nat) × State :=
  if s.slotBusy k then (some (St.descInvalid, 0x15 <<< 40 + k), s)
  else
    let r := s.validate d bytes length (s.storeRoom k)
    let word := leField bytes 16 4 <<< 32 + (if r.isNone then 2 else 3) <<< 30 + ((r.map (·.vcode)).getD 0) <<< 16 +
      min 0xFFFF (length / 1024)
    let s1 := ({ s with slots := Sparse.set [] s.slots k bytes }).setReg (.fabCoachSlot k) word
    (r.map fun f => (f.status, f.detail), s1)

/-- R317: the checks of a COACH_LOAD's operands. -/
def loadErrs (e : Bytes) : List Err :=
  operandErr (2 < loadMode e) 16 ++ operandErr (7 < loadSlot e) 17 ++ operandErr (loadMode e = 0 && loadForce e) 18 ++
    operandErr (leField e 24 8 % 256 ≠ 0 || (loadMode e = 1 && leField e 24 8 ≠ 0)) 24 ++
    operandErr (loadMode e = 1 && leField e 32 4 ≠ 0) 32

/-- The command is a COACH_LOAD of a mode, with or without force. -/
def isLoad (mode : Nat) (force : Option Bool) (e : Bytes) : Bool :=
  isOp 0x20 e && (if mode = 0 then loadMode e = 0 || 2 < loadMode e else loadMode e = mode) &&
    (match force with
     | some f => loadForce e = f
     | none => true)

/-- The STAGE half of a COACH_LOAD (R91). -/
def State.stageHalf (s : State) (q : Nat) (c : Cmd) : Option (Nat × Nat) × State :=
  let n := leField c.entry 32 4
  s.stageInto (s.qDomain q) (loadSlot c.entry) (s.bytes (leField c.entry 24 8) n) n

/-- R91: what STAGE does once it has passed its checks. -/
def State.runStage (s : State) (q : Nat) (c : Cmd) : State :=
  match s.stageHalf q c with
  | (none, s1) => s1.endOk q c.idx
  | (some f, s1) => s1.endCmd q c.idx f.1 6 (s.qCp q) f.2

/-- R91, R94: what a STAGE reads: its source, unless its slot is busy. -/
def State.stageReads (s : State) (e : Bytes) : List Range := if s.slotBusy (loadSlot e) then [] else entryRanges e

/-- R91: the copy of a STAGE has failed: the slot is FAILED, without an image and with VCODE 0, for R93 has no code for it (DESIGN
CHOICE, log entry 43). -/
def State.stageFailed (s : State) (q : Nat) (c : Cmd) (e : Err) : State :=
  let k := loadSlot c.entry
  (({ s with slots := Sparse.set [] s.slots k [] } : State).setReg (.fabCoachSlot k)
    (3 <<< 30 + min 0xFFFF (leField c.entry 32 4 / 1024))).endMet q c e

/-- A row of COACH_LOAD in a STAGE mode. -/
def stageRow (q : Nat) (want : Bytes → Bool) (body : State → Cmd → State) : Row :=
  { want, ranges := fun s e => s.stageReads e, regions := plainRanges, errs := fun _ c => loadErrs c.entry,
    met := fun s _ c e => s.stageFailed q c e, body }

/-- STAGE (R91). -/
def State.doStage (s : State) (q : Nat) : State :=
  if queueOk q then s.runRow q (stageRow q (isLoad 0 none) fun s c => s.runStage q c) else s

/-! ### Routes of an image -/

/-- Credits that the sender of a route holds when nothing is under way: the depth of its in queue, or of its out queue where it
ends at a port-die unit (log entry 22). -/
def Image.routeDepth (im : Image) (r : RouteRec) : Nat :=
  if r.dstKind = 0 then ((im.queue? r.dst r.dstQ).map (·.depth)).getD 0 else ((im.queue? r.src r.srcQ).map (·.depth)).getD 0

/-- R383: the routes of an image with every credit at its sender. -/
def Image.freshRoutes (im : Image) : List (Nat × RouteRt) :=
  im.routeRecs.zipIdx.filterMap fun x =>
    let d := im.routeDepth x.1
    if d = 0 then none else some (x.2, { credits := d })

/-- R205: no program runs any more, so SCALAR_RUN reads 0 at every core. -/
def State.stopScalars (s : State) : State :=
  s.cores.foldl (fun s c => if c.2.scalar.running then s.setFld (CoreEngStatus.scalarRun c.1) 0 else s) s

/-- R99, R415: the fabric is emptied: every token, deferred-list entry, accumulator tile and run is discarded and every credit
is back at its sender; what waits in a port-die unit stays. -/
def State.emptyFabric (s : State) : State :=
  let im := s.im
  let emptied := fun (x : RouteRec × Nat) =>
    let r := s.route x.2
    ({ r with credits := im.routeDepth x.1 - r.unitIn.length, returning := 0, inflight := [],
              waiting := if x.1.srcKind = 1 then r.waiting else [] } : RouteRt)
  { s.stopScalars with cores := [], live := [], ckpt := [],
                       routes := im.routeRecs.zipIdx.filterMap fun x => if emptied x = {} then none else some (x.2, emptied x) }

/-- Set STATE of every core (R66). -/
def State.setCores (s : State) (v : Nat) : State :=
  (List.range s.grade.cores).foldl (fun s n => s.setFld (CoreStatus.state n) v) s

/-! ### SEGMENT_RUN (R318) -/

/-- The records of MB_LIST. -/
def State.batchRecs (s : State) (e : Bytes) : List Nat :=
  (List.range (leField e 24 2)).map fun i => s.num (leField e 16 8 + 4 * i) 4
/-- The region records. -/
def State.regionRecs (s : State) (e : Bytes) : List Bytes :=
  (List.range (leField e 26 2)).map fun i => s.bytes (leField e 32 8 + 16 * i) 16
/-- R318: a region record out of range. -/
def regionBad (r : Bytes) : Bool :=
  leField r 8 6 = 0 || 2 ^ 40 < leField r 8 6 || leField r 14 1 = 0 || 3 < leField r 14 1 || leField r 15 1 ≠ 0
/-- R318: the ranges that a SEGMENT_RUN declares. -/
def State.runRegions (s : State) (e : Bytes) : List Range :=
  if 64 < leField e 26 2 then [] else (s.regionRecs e).filterMap fun r =>
    if regionBad r then none else some ⟨leField r 0 8, leField r 8 6, bitOf (leField r 14 1) 1⟩

/-- R312, R317, R318, R456: the checks of a SEGMENT_RUN. A region is judged as a range of the command that reads or writes it; a home
page in it is written by the device's own path (R227), which is no write of the command. -/
def State.segmentErrs (s : State) (q : Nat) (e : Bytes) : List Err :=
  operandErr (leField e 16 8 % 4 ≠ 0 || (s.batchRecs e).any (65535 < ·)) 16 ++
    operandErr (leField e 24 2 = 0) 24 ++ operandErr (64 < leField e 26 2) 26 ++ operandErr (leField e 32 8 % 16 ≠ 0) 32 ++
    (if 64 < leField e 26 2 then [] else
      (s.regionRecs e).zipIdx.flatMap fun r => if regionBad r.1 then [descErr 0x58 r.2] else []) ++
    (s.runRegions e).flatMap (fun r => s.unmappedErr r ++ s.rangeWindowErr (s.qDomain q) r) ++
    (if s.flag FabDomCtl.claimed && s.fld FabDomCtl.domain ≠ s.qDomain q then [windowErr 0x96 0] else [])

/-- Place of a command in the order of dispatch. -/
def State.placeOf (s : State) (q : Nat) (idx : W32) : Nat := ((s.cmd? q idx).map (·.serial)).getD 0

/-- R481: a SELFTEST runs. -/
def State.testing (s : State) : Bool := ((s.selftest.map (·.was.isSome)).getD false)

/-- R318: the SEGMENT_RUNs dispatched that have not started, as (place, queue, index). -/
def State.waitingRuns (s : State) : List (Nat × Nat × W32) :=
  s.queueNums.flatMap fun q => (s.queue q).cmds.filterMap fun c =>
    if opcodeOf c.entry = 0x21 && c.phase = .running && s.segCmd ≠ some (q, c.idx) then some (c.serial, q, c.idx) else none

/-- The member of a list with the lowest place. -/
def lowestPlace : List (Nat × Nat × W32) → Option (Nat × Nat × W32)
  | [] => none
  | x :: xs => match lowestPlace xs with
    | some y => if y.1 < x.1 then some y else some x
    | none => some x

/-- R96, R206: every core starts the run afresh: tables, accumulators and programs; its queues, its deferred list and the chains
stay. -/
def CoreRt.fresh (c : CoreRt) : CoreRt := { c with tables := [], acc := [], scalar := {} }

/-- Active cores. -/
def State.activeCores (s : State) : List Nat := (List.range s.grade.cores).filter s.im.active

/-- Set STATE of every active core. -/
def State.setActive (s : State) (v : Nat) : State :=
  s.activeCores.foldl (fun s n => s.setFld (CoreStatus.state n) v) s

/-- R318: the segment of a run starts: its micro-batches from 0. -/
def State.startSegment (s : State) (r : SegRt) : State :=
  let s1 := { s.stopScalars with seg := some r, cores := Sparse.update {} (fun _ c => c.fresh) s.cores }
  (s1.setActive 2).setFld FabCoachStatus.phase 2

/-- R318, R415: a dispatched SEGMENT_RUN whose turn has come: without an active image, or after a run that ended under R415, it
completes with DESC_INVALID; otherwise it starts. -/
def State.startRun (s : State) (q : Nat) (idx : W32) : State :=
  match s.cmd? q idx with
  | none => s
  | some c =>
    if s.image.isNone then s.endErr q idx (descErr 0x55 0)
    else if s.segDead then s.endErr q idx (descErr 0x59 0)
    else
      let s1 := { s with step := { s.step with segments := s.step.segments + 1 } }
      s1.startSegment { q, idx, tenants := (s.batchRecs c.entry).map (· % 65536), domain := s.fld FabDomCtl.domain,
                        saved := s.govSaved, wrote := s.step.written.length }

/-- R95, R318: start the waiting SEGMENT_RUNs whose turn has come; one that completes at once lets the next start. -/
def State.startNext (s : State) : Nat → State
  | 0 => s
  | n + 1 =>
    match s.seg, lowestPlace s.waitingRuns with
    | none, some (p, q, idx) =>
      if s.testing || s.acts.any (fun a => a.force || s.placeOf a.q a.idx < p) then s else (s.startRun q idx).startNext n
    | _, _ => s

/-- As many runs may wait as commands are in flight. -/
def State.startRuns (s : State) : State := s.startNext (s.waitingRuns.length)

/-! ### ACTIVATE (R95, R99 to R101, R456) -/

/-- R95, R456: the checks of an ACTIVATE at dispatch. -/
def State.activateErrs (s : State) (q k : Nat) (force : Bool) : List Err :=
  let d := s.qDomain q
  let claimed := s.flag FabDomCtl.claimed
  let fd := if claimed then s.fld FabDomCtl.domain else d
  let im := parseImage (s.slotBytes k)
  (if s.slotValid k then [] else [descErr 0x55 17]) ++
    (if claimed && fd ≠ d && !(force && s.fld FabCoachStatus.activeSlot = k && d = 0) then [windowErr 0x96 0] else []) ++
    (if s.slotValid k then
       (match im.windowRecs.findIdx? fun w => w.domain ≠ fd with
        | some i => [windowErr 0x95 i]
        | none => [])
     else [])

/-- R103: PENDING_SLOT and PHASE follow the ACTIVATEs that wait. -/
def State.showActs (s : State) : State :=
  let s1 := s.setFld FabCoachStatus.pendingSlot ((s.acts.head?.map (·.slot)).getD 15)
  match s.acts.head? with
  | some a => if a.force then s1.setFld FabCoachStatus.phase 5
              else if s.seg.isSome then s1.setFld FabCoachStatus.phase 3 else s1
  | none => s1

/-- R456: an ACTIVATE claims an unclaimed fabric. -/
def State.claim (s : State) (q : Nat) : State :=
  if s.flag FabDomCtl.claimed then s
  else (s.setFld FabDomCtl.claimed 1).setFld FabDomCtl.domain (s.qDomain q)

/-- R464: the tokens that core `n` holds, as the headers of each queue with its number, the deferred list, and the router's
headers with their routes. Tokens waiting to leave an out queue stand in that queue. The router, which holds 12, has the newest of those
under way to the core, and of those under way from it to a port-die unit the oldest that fit; the others stand in their in or out queue
(log entry 24). -/
def State.coreTokens (s : State) (n : Nat) : List (Nat × List TokHdr) × List TokHdr × List (TokHdr × Nat) :=
  let pick := fun (p : RouteRec → Bool) (q : RouteRec → Nat) (f : RouteRt → List WaitTok) => s.routes.flatMap fun r =>
    match s.im.route? r.1 with
    | some x => if p x then (f r.2).map fun w => (w.hdr, r.1, q x) else []
    | none => []
  let coming := pick (fun x => x.dstKind = 0 && x.dst = n) (·.dstQ) (·.inflight)
  let going := pick (fun x => x.dstKind = 1 && x.src = n) (·.srcQ) (·.inflight)
  let entered := coming.take (coming.length - 12)
  let near := coming.drop (coming.length - 12)
  let waiting := pick (fun x => x.srcKind = 0 && x.src = n) (·.srcQ) (·.waiting)
  let held := going.drop (12 - near.length) ++ waiting
  let qs := (List.range 64).map fun q =>
    (q, (s.coreQ n q).map s.tokHdr ++ ((entered ++ held).filter (·.2.2 = q)).map (·.1))
  (qs, ((s.core n).deferred).map s.tokHdr, (near ++ going.take (12 - near.length)).map fun x => (x.1, x.2.1))

/-- R464: the block of a core, without its unused tail, and the tokens saved in it. -/
def State.leftoverBlock (s : State) (n : Nat) : Bytes × Nat :=
  let t := s.coreTokens n
  let queued := t.1.flatMap (·.2)
  let count := queued.length + t.2.1.length + t.2.2.length
  let head := leBytes 2 n ++ leBytes 2 count ++ leBytes 1 t.2.1.length ++ leBytes 1 t.2.2.length
  (if count = 0 then head
   else sliceBytes head 0 64 ++ t.1.flatMap (fun q => leBytes 1 q.2.length) ++
     sliceBytes ((queued.take 256).flatMap (·.bytes)) 0 4096 ++ sliceBytes (t.2.1.flatMap (·.bytes)) 0 512 ++
     sliceBytes (t.2.2.flatMap fun x => x.1.bytes ++ leBytes 4 x.2 ++ leBytes 12 0) 0 384, count)

/-- R99 step 3, R464: save every token of the fabric in the leftover region; answers how many. -/
def State.saveLeftover (s : State) (slotNew : Nat) (doomed : Nat → Bool) : Nat × State :=
  let blocks := (List.range s.grade.cores).map fun n => (n, s.leftoverBlock n)
  let count := blocks.foldl (fun n b => n + b.2.2) 0
  let base := areaBase 2
  let flags := b2n s.seg.isSome + 2 * b2n (doomed count) + 4 * b2n s.inStep
  let hdr := leBytes 4 0x54464F4C ++ leBytes 1 s.epoch ++ leBytes 1 (s.fld FabCoachStatus.activeSlot) ++ leBytes 1 slotNew ++
    leBytes 1 flags ++ leBytes 4 count ++ leBytes 4 (if s.inStep then s.stepNum.toNat else 0) ++
    leBytes 8 (s.fld TelIntervalCnt.count) ++ leBytes 2 s.grade.cores
  let s1 := (s.clearRaw base (4096 + 5120 * s.grade.cores)).setRaw base hdr
  let s2 := blocks.foldl (fun s b => s.setRaw (base + 4096 + 5120 * b.1) b.2.1) s1
  (count, s2.setFld FabCoachLeftover.count count)

/-- R101: a forced ACTIVATE supersedes every ACTIVATE without force that has not passed step 2. -/
def State.supersede (s : State) : State :=
  let old := s.acts.filter fun a => !a.force
  let s1 := old.foldl (fun s a => s.endCmd a.q a.idx St.stepAborted 6 (s.qCp a.q) (0x01 <<< 40)) s
  { s1 with acts := s.acts.filter (·.force) }

/-- The SEGMENT_RUN in progress ends with the best-ranked of its errors (R416), or with OK. -/
def State.endRun (s : State) (r : SegRt) (errs : List (Nat × Nat × Nat × Nat)) : State :=
  let es := errs.map fun e =>
    ({ status := e.1, det := e.2.1, cause := e.2.2.2 / 2 ^ 40 % 256, key := e.2.2.1, detail := e.2.2.2 } : Err)
  let best := pickErr es
  let st := (best.map (·.status)).getD (if r.attempts = 0 then St.ok else St.replayed)
  let detail := (best.map (·.detail)).getD (if r.attempts = 0 then 0 else r.firstStatus <<< 8 + r.attempts)
  (({ s with seg := none }).setFld GlbRecovStatus.replaying 0).endCmd r.q r.idx st 6 (s.qCp r.q) detail

/-- R99, R100: a forced change stops the fabric, saves its tokens, ends a SEGMENT_RUN in progress and may doom the step. -/
def State.forceChange (s : State) (slotNew : Nat) : State :=
  let dooms := fun n => s.inStep && (s.seg.isSome || 0 < n)
  let x := s.saveLeftover slotNew dooms
  let s1 := x.2
  let s2 :=
    if dooms x.1 then
      let m := s1.mark St.stepAborted 0 s1.segCmd s1.seg.isSome false
      ({ m with step := { m.step with doomed := true } }).setFld FabCoachStatus.doomed 1
    else s1
  let s3 := s2.emptyFabric.setFld NewtStatus.result 0
  match s3.seg with
  | some r => s3.endRun r (r.errs ++ [(St.stepAborted, 0, 0, 0x02 <<< 40 + x.1)])
  | none => s3

/-- R95 to R101: an ACTIVATE that has passed its checks. -/
def State.queueAct (s : State) (q : Nat) (c : Cmd) (k : Nat) (force : Bool) : State :=
  let s1 := s.claim q
  let s2 := if force then (s1.supersede).forceChange k else s1
  ({ s2 with acts := s2.acts ++ [({ q, idx := c.idx, slot := k, force } : Act)] }).showActs

/-- ACTIVATE (R95). -/
def State.doActivate (s : State) (q : Nat) : State :=
  if queueOk q then
    s.runCmd q (isLoad 1 (some false)) plainRanges
      (fun s c => loadErrs c.entry ++ s.activateErrs q (loadSlot c.entry) false)
      (fun s c => s.queueAct q c (loadSlot c.entry) false)
  else s

/-- FORCED_ACTIVATE (R99); it waits while a SELFTEST runs (R481). -/
def State.doForcedActivate (s : State) (q : Nat) : State :=
  if queueOk q && !s.testing then
    s.runCmd q (isLoad 1 (some true)) plainRanges
      (fun s c => loadErrs c.entry ++ s.activateErrs q (loadSlot c.entry) true)
      (fun s c => s.queueAct q c (loadSlot c.entry) true)
  else s

/-- R90: what STAGE_AND_ACTIVATE does once it has passed its checks. -/
def State.runStageAndActivate (s : State) (q : Nat) (c : Cmd) : State :=
  match s.stageHalf q c with
  | (some f, s1) => s1.endCmd q c.idx f.1 6 (s.qCp q) f.2
  | (none, s1) =>
    let k := loadSlot c.entry
    match pickErr (s1.activateErrs q k (loadForce c.entry)) with
    | some e => s1.endErr q c.idx e
    | none => s1.queueAct q c k (loadForce c.entry)

/-- STAGE_AND_ACTIVATE (R90): the ACTIVATE half is judged once the STAGE half has succeeded. -/
def State.doStageAndActivate (s : State) (q : Nat) : State :=
  if queueOk q then
    s.runRow q (stageRow q (fun e => isLoad 2 none e && !(s.testing && loadForce e)) fun s c => s.runStageAndActivate q c)
  else s

/-! ### Coach change (R96 to R98, R102, R124, R125) -/

/-- R125: discard and count the tokens that the old image leaves: those in in queues, and those in port-die units. -/
def State.discardStale (s : State) : State :=
  let s1 := s.cores.foldl (fun s c =>
    let n := c.2.queues.foldl (fun n q => n + q.2.length) 0
    if n = 0 then s else s.count 0x005 c.1 n) s
  s1.routes.foldl (fun s r =>
    let n := r.2.waiting.length + r.2.unitIn.length
    let dst := match s.im.route? r.1 with
      | some x => if x.dstKind = 0 then x.dst else 0xFFFFF
      | none => 0xFFFFF
    let s2 := if n = 0 then s else s.count 0x005 0xFFFFF n
    if r.2.inflight.isEmpty then s2 else s2.count 0x005 dst r.2.inflight.length) s1

/-- R97: what a change replaces, with no image: queues, tables, accumulators, windows, chains, gang modes. -/
def State.unload (s : State) : State :=
  let s1 := { s.discardStale.stopScalars with image := none, cores := [], routes := [], live := [], ckpt := [], segDead := false }
  (List.range s.grade.cores).foldl (fun s n =>
    ((s.setReg (.coreWinOpen n) 0).setFld (CoreStatus.gang n) 0).setReg (.coreLoopStatus n) 0) s1

/-- R97, R88, R153: the registers of a core under an image. -/
def State.loadCore (s : State) (im : Image) (n : Nat) : State :=
  let opened := im.windowRecs.foldl (fun m w => if w.core = n && bitOf w.access 2 then putBits m w.w w.w 1 else m) 0
  let ts := im.tables n
  let given := ((ts.zip (accAssign ts 196608)).foldl (fun m x => m + x.2 * x.1.accBytes) 0)
  let s1 := if opened = 0 then s else s.setReg (.coreWinOpen n) opened
  let s2 := if bitOf im.gangMask (s.grade.cluster n).1 then s1.setFld (CoreStatus.gang n) 1 else s1
  if im.active n then
    (s2.setFld (CoreLoopStatus.accDemand n) (min 255 (ceilDiv (accDemand ts) 8192))).setFld (CoreLoopStatus.spilling n)
      (b2n (given < accDemand ts))
  else s2

/-- R383: each stream from a Laulo port gives its peer as many stream credits as its queue holds tokens (log entry 22). -/
def State.grantStreams (s : State) (im : Image) : State :=
  im.routeRecs.zipIdx.foldl (fun s x =>
    if x.1.srcKind = 1 && unitKindOf x.1.src = 1 then
      (s.sendPeer (unitInstOf x.1.src)
        { cls := x.1.cls, kind := Pk.streamCredit, hops := s.fld LauCtrl.hopInit, dst := noPos, src := s.pos,
          domain := s.segDomain, addr := im.streamNum x.2 false x.1.src, arg := leBytes 4 (im.routeDepth x.1) }).2
    else s) s

/-- R97: an image becomes active, every core at STATE 1. -/
def State.load (s : State) (im : Image) (k : Nat) : State :=
  let s1 := { s with image := some im, routes := im.freshRoutes }
  let s2 := (List.range s.grade.cores).foldl (fun s n => s.loadCore im n) s1
  (((s2.setCores 1).setFld FabCoachStatus.activeSlot k).setFld FabCoachStatus.phase 1).grantStreams im

/-- R96 steps 3 to 5, R102: the epoch advances, the configuration is discarded, and the slot's image is read from the store, in
which `flips` bits of one word (R102) or an injection (R411) may be flipped; answers whether it became active. -/
def State.distribute (s : State) (k flips : Nat) (q : Nat) : Bool × State :=
  let s1 := (s.unload).setFld FabCoachStatus.epoch (s.epoch + 1)
  let f := s1.fire 0x09 k fun _ => true
  let n := match f.1 with
    | some j => j.bits
    | none => flips
  let s2 := f.2
  if n ≤ 1 then
    let s3 := if n = 1 then (s2.count 0x003 k 1).corrected else s2
    (true, s3.load (parseImage (s3.slotBytes k)) k)
  else
    let s3 := s2.detect 0x09 St.uncorrectable (some q) k f.1.isSome
    let s4 := ((s3.setFld (FabCoachSlot.state k) 3).setFld (FabCoachSlot.vcode k) 0x16).setCores 0
    (false, (s4.setFld FabCoachStatus.activeSlot 15).setFld FabCoachStatus.phase 0)

/-- R95, R96 step 2: the ACTIVATE at the head may proceed: no SEGMENT_RUN is in progress and none dispatched before it waits,
unless it is forced. -/
def State.mayChange (s : State) (a : Act) : Bool :=
  s.seg.isNone && !s.testing && (a.force || s.waitingRuns.all fun r => s.placeOf a.q a.idx < r.1)

/-- R499 index 14: the activation log takes in the BODY_HASH of the image of a slot. -/
def State.logActivation (s : State) (k : Nat) : State :=
  { s with actLog := sha384 (s.actLog ++ sliceBytes (s.slotBytes k) 32 48) }

/-- COACH_CHANGE (R96, R97, R102): the oldest ACTIVATE proceeds. -/
def State.doCoachChange (s : State) (flips : Nat) : State :=
  match s.acts with
  | [] => s
  | a :: rest =>
    if !s.mayChange a then s
    else
      let s0 := { s with acts := rest }
      if !s.slotValid a.slot then ((s0.endErr a.q a.idx (descErr 0x55 17)).showActs).startRuns
      else
        let x := s0.distribute a.slot flips a.q
        let s1 :=
          if x.1 then
            let s2 := x.2.govActivate x.2.im
            let s3 := if s2.inStep then
                ({ s2 with activated := if s2.activated.contains a.slot then s2.activated else s2.activated ++ [a.slot] }).setFld
                  (FabCoachSlot.locked a.slot) 1
              else s2
            (s3.logActivation a.slot).endOk a.q a.idx
          else x.2.endCmd a.q a.idx St.uncorrectable 6 (s.qCp a.q) 0
        (s1.showActs).startRuns

/-! ### Segment end (R126, R127) -/

/-- R126, first two conditions: a core has made every run of its tables, its program has halted for every micro-batch, and its
deferred list and accumulator are empty. -/
def State.coreDone (s : State) (n : Nat) : Bool :=
  ((s.im.tables n).zipIdx.all fun t => s.runsOf t.1 ≤ (s.tableRt n t.2).runs) &&
    ((s.im.core n).progLen = 0 || (s.batches.length ≤ (s.hart n).halted && !(s.hart n).running)) &&
    (s.core n).deferred.isEmpty && (s.core n).acc.isEmpty

/-- R126: the segment has ended: every active core is done, and no token waits to leave or is under way. -/
def State.segmentEnded (s : State) : Bool :=
  s.activeCores.all s.coreDone && s.quiescent && s.routes.all fun r => r.2.waiting.isEmpty

/-- R127: tokens left in in queues whose route starts at a core, as (core, queue, number); an injection counts as one token of
queue 0 of its core (log entry 32). -/
def State.leftTokens (s : State) : List (Nat × Nat × Nat) :=
  s.cores.flatMap fun c => c.2.queues.filterMap fun q =>
    match s.im.routeInto c.1 q.1 with
    | some r => if r.2.srcKind = 0 && !q.2.isEmpty then some (c.1, q.1, q.2.length) else none
    | none => none

/-- R127: discard the tokens left, restore their credits, and give the run its error. -/
def State.dropLeft (s : State) : State :=
  let f := s.activeCores.foldl (fun (x : List Nat × State) n =>
    let r := x.2.fire 0x13 n fun _ => true
    (if r.1.isSome then x.1 ++ [n] else x.1, r.2)) ([], s)
  let left := (f.1.map fun n => (n, 0, 1)) ++ f.2.leftTokens
  let total := left.foldl (fun n x => n + x.2.2) 0
  let s1 := f.2.leftTokens.foldl (fun s x =>
    (s.coreQ x.1 x.2.1).foldl (fun s id => (s.dropRef id).release id) (s.setCoreQ x.1 x.2.1 [])) f.2
  let s2 := { s1 with routes := Sparse.update {} (fun _ r => { r with credits := r.credits + r.returning, returning := 0 })
                                  s1.routes }
  let s3 := s2.setFld FabTokenStatus.lastLeft (min 0xFFFF total)
  if total = 0 then s3
  else
    let core := left.foldl (fun m x => min m x.1) 0xFFFF
    let q := (left.filter (·.1 = core)).foldl (fun m x => min m x.2.1) 255
    s3.fabricError St.epochMismatch 0x13 core (min 0xFFFF total <<< 32 + core <<< 16 + q <<< 8) core (!f.1.isEmpty)

/-! ### Device replay (R417 to R420) -/

/-- R417: the image is closed: no route has a Laulo port, front port or collective engine at either end. -/
def Image.closed (im : Image) : Bool :=
  im.routeRecs.all fun r =>
    !(r.srcKind = 1 && [1, 2, 3].contains (unitKindOf r.src)) && !(r.dstKind = 1 && [1, 2, 3].contains (unitKindOf r.dst))

/-- R410: the detector allows a device replay. -/
def replayable (e : Nat × Nat × Nat × Nat) : Bool := e.1 = St.uncorrectable && 0x01 ≤ e.2.1 && e.2.1 ≤ 0x07

/-- R423: attempts of a device replay. -/
def State.replayMax (s : State) : Nat := max 1 (s.fld GlbRecovCtrl.replayMax)

/-- R417, R419, R424: the replay decision: 0 replay, otherwise the first condition that fails. -/
def State.replayWhy (s : State) (r : SegRt) : Nat :=
  let held := r.errs.filter fun e => holdsQueue e.1
  if !s.flag GlbRecovCtrl.replayEn then 1
  else if held.isEmpty || !held.all replayable then 3
  else if !s.im.closed then 4
  else if s.replayMax ≤ r.attempts then 5
  else 0

/-- R419: remove the marks attributed to the run and its update marks. -/
def State.unmarkRun (s : State) (r : SegRt) : State :=
  let mine := fun (m : Mark) => m.run && m.q = some r.q && m.seq = s.expectedSeq r.q r.idx
  ({ s with step := { s.step with marks := s.step.marks.filter fun m => !mine m,
                                  written := s.step.written.zipIdx.filterMap
                                    fun (b : BlockMark × Nat) => if r.wrote ≤ b.2 && b.1.run then none else some b.1 } }).refreshNoCommit

/-- R319, R419: the micro-batch list of a run is read again. -/
def State.rereadList (s : State) (q : Nat) (idx : W32) : State :=
  match s.cmd? q idx with
  | none => s
  | some c =>
    let a := leField c.entry 16 8
    let n := 4 * leField c.entry 24 2
    let s1 := (cartsOf a n).foldl (fun s k => (s.cartAccess .fabric k a n).2) s
    (s1.grade.scratchParts a n).foldl (fun s p => s.scratchRead .fabric p.1 p.2) s1

/-- R419: one attempt: the fabric is empty, the active slot is activated again, and the run starts from micro-batch 0 of the same list.
A store error ends the run without an image (R102, log entry 22); no attempt has succeeded then, so the marks of the run stay (R405), and
WHY names a status that allows no replay (R417). -/
def State.replay (s : State) (r : SegRt) : State :=
  let first := if r.attempts = 0 then ((r.errs.head?).map (·.1)).getD 0 else r.firstStatus
  let s1 := ((s.unmarkRun r).govRestore r.saved).setFld GlbRecovStatus.why 0
  let x := (s1.setFld GlbRecovStatus.replaying 1).distribute (s.fld FabCoachStatus.activeSlot) 0 r.q
  if x.1 then
    (x.2.startSegment { r with attempts := r.attempts + 1, firstStatus := first, errs := [], stuck := false, feeds := [],
                               ckptBad := 0 }).rereadList r.q r.idx
  else
    let kept := ({ x.2 with step := { x.2.step with marks := s.step.marks, written := s.step.written } } : State).refreshNoCommit
    (kept.setFld GlbRecovStatus.why 3).endRun r [(St.uncorrectable, 0x09, 0, 0)]

/-- R415: a run that met an uncorrectable error: the fabric is emptied and every core enters STATE 4; then a replay follows, or
the run ends. -/
def State.endHalted (s : State) (r : SegRt) : State :=
  let s1 := (s.emptyFabric).setCores 4
  let why := s1.replayWhy r
  if why = 0 then s1.replay r
  else (({ (s1.setFld GlbRecovStatus.why why) with segDead := true }).endRun r r.errs).setFld FabCoachStatus.phase 1

/-- R412, R415, R417: the reads of a SEGMENT_RUN's own lists met an error. An uncorrectable one stops the run as one met later would,
when the fabric is not another run's (log entry 22); any other ends it. -/
def State.listFailed (s : State) (q : Nat) (c : Cmd) (e : Err) : State :=
  let r : SegRt := { q, idx := c.idx, tenants := (s.batchRecs c.entry).map (· % 65536), domain := s.fld FabDomCtl.domain,
                     saved := s.govSaved, wrote := s.step.written.length, errs := [(e.status, e.det, e.key, e.detail)] }
  if e.status = St.uncorrectable && s.seg.isNone && s.image.isSome && !s.segDead && !s.testing then
    ({ s with seg := some r, step := { s.step with segments := s.step.segments + 1 } } : State).endHalted r
  else
    let why := s.replayWhy r
    (if why = 0 then s else s.setFld GlbRecovStatus.why why).endMet q c e

/-- What a SEGMENT_RUN reads at dispatch: its two lists. -/
def runLists (_ : State) (e : Bytes) : List Range := entryRanges e
/-- R311, R318: the regions that a SEGMENT_RUN declares: its micro-batch list and what the records of its region list name. -/
def State.runDeclares (s : State) (e : Bytes) : List Range := ⟨leField e 16 8, 4 * leField e 24 2, false⟩ :: s.runRegions e

/-- SEGMENT_RUN (R318): it is dispatched, and starts when its turn has come. -/
def State.doSegmentRun (s : State) (q : Nat) : State :=
  if queueOk q then
    s.runRow q { want := isOp 0x21, ranges := runLists, regions := fun s e => s.runDeclares e,
                 errs := fun s c => s.segmentErrs q c.entry, met := fun s _ c e => s.listFailed q c e,
                 body := fun s _ => s.startRuns }
  else s

/-- R126, R127, R419: a run that reached segment end. -/
def State.endDrained (s : State) : State :=
  let s1 := s.dropLeft
  match s1.seg with
  | none => s1
  | some r =>
    if s1.halted then s1.endHalted r
    else
      let s2 := (s1.setActive 3).setFld FabCoachStatus.phase 1
      let s3 := if r.attempts = 0 then s2
        else ({ s2 with step := { s2.step with replays := s2.step.replays + 1 } }).satFld GlbRecovStatus.replays 1
      let s4 := if r.errs.isEmpty then s3 else s3.setFld GlbRecovStatus.why (s3.replayWhy r)
      s4.endRun r r.errs

/-- SEGMENT_END (R126, R415): the run in progress has drained, or has stopped. -/
def State.doSegmentEnd (s : State) : State :=
  match s.seg with
  | none => s
  | some r =>
    if s.halted then (s.endHalted r).showActs.startRuns.evalFlags
    else if s.segmentEnded then s.endDrained.showActs.startRuns.evalFlags
    else s

/-! ### Stuck segments (R129) -/

/-- The route that feeds an in queue starts at a core. -/
def State.coreFed (s : State) (n q : Nat) : Bool := ((s.im.routeInto n q).map (·.2.srcKind)).getD 0 = 0
/-- The route of an out queue ends at a core. -/
def State.coreBound (s : State) (n q : Nat) : Bool :=
  (((s.outRoute n q).bind s.im.route?).map (·.dstKind)).getD 0 = 0

/-- What a unit of the fabric does now: it can move, it waits on a route between two cores (or on nothing outside its core), or it
waits on a route from or to a port-die unit. -/
inductive Wait where
  | moves | inside | outside
  deriving DecidableEq, Repr

/-- Several waits at once: a unit moves only when none holds it. -/
def waitOf (ws : List Bool) : Wait := if ws.isEmpty then .moves else if ws.all id then .inside else .outside

/-- A loop table: what its next iteration lacks. -/
def State.tableWait (s : State) (n : Nat) (t : LoopTable) (j : Nat) : Wait :=
  let r0 := s.tableRt n j
  if s.runsOf t ≤ r0.runs then .inside
  else if if t.unit = 1 then s.canVector n j t else s.canProduct n j t then .moves
  else
    let r := r0.atIteration t
    let lacks := (dueTakes t r).filterMap fun o =>
      if s.takeReady n j r o then none
      else if o.1.src = 1 then some (s.coreFed n o.1.arg)
      else if o.1.src = 2 then some (((s.im.chainIn n o.1.arg).map fun q => s.coreFed n q.q).getD true)
      else some true
    let out := match t.out? with
      | some o => if t.unit = 1 && o.src = 1 && !s.outFree n o.arg then [s.coreBound n o.arg] else []
      | none => []
    waitOf (true :: lacks ++ out)

/-- A complete accumulator tile: whether it can drain. -/
def State.drainWait (s : State) (n : Nat) (a : AccTile) : Wait :=
  match s.table? n a.table with
  | none => .inside
  | some t =>
    let o := t.out?.getD (parseOperand [])
    if !a.complete then .inside else if s.outReady n o then .moves else if s.coreBound n o.arg then .inside else .outside

/-- An input pair of a steering unit. -/
def State.steerWait (s : State) (n : Nat) (r0 : SteerRec) : Wait :=
  match s.coreQ n r0.ctrlQ, s.coreQ n r0.dataQ with
  | c :: _, _ :: _ =>
    match s.im.steerRecs.find? fun r => r.core = n && r.ctrlQ = r0.ctrlQ && r.sel = (s.tokHdr c).selector with
    | none => .moves
    | some e =>
      let need := fun q => if s.outFree n q then [] else [s.coreBound n q]
      if e.action = 0 then waitOf (need e.outA)
      else if e.action = 1 then waitOf (need e.outA ++ need e.outB)
      else if e.action = 2 then .moves
      else if (s.core n).deferred.length < 32 then .moves else .inside
  | cs, ds =>
    waitOf (true :: (if cs.isEmpty then [s.coreFed n r0.ctrlQ] else []) ++ (if ds.isEmpty then [s.coreFed n r0.dataQ] else []))

/-- A member of a carriage chain. -/
def State.chainWait (s : State) (m : CarriageRec) : Wait :=
  match s.im.chainIn m.core m.chain with
  | none => .inside
  | some q =>
    if (s.coreQ m.core q.q).isEmpty then waitOf [s.coreFed m.core q.q]
    else match s.im.chainOut m.core m.chain with
      | none => .moves
      | some o => waitOf (if s.outFree m.core o.q then [] else [s.coreBound m.core o.q])

/-- The scalar core of a core. -/
def State.scalarWait (s : State) (n : Nat) : Wait :=
  let h := s.hart n
  if (s.im.core n).progLen = 0 || h.faulted then .inside
  else if !h.running then (if h.halted < s.batches.length then .moves else .inside)
  else if (s.im.core n).progLen ≤ h.pc.toNat then .moves
  else
    let w := BitVec.ofNat 32 (leField (s.im.prog n) h.pc.toNat 4)
    match h.kind w with
    | .other => .moves
    | .send =>
      let q := insBits (h.sendWord w) 21 16
      if s.im.sendQueue n q && !s.outFree n q then waitOf [s.coreBound n q] else .moves
    | .take =>
      let q := h.takeQ.toNat
      if s.im.takeQueue n q && (s.coreQ n q).isEmpty then waitOf [s.coreFed n q] else .moves

/-- A route: a token that waits for a credit, or one in a port-die unit. -/
def State.routeWait (s : State) (k : Nat) (r : RouteRt) : Wait :=
  if !r.unitIn.isEmpty then .outside
  else if r.waiting.isEmpty then .inside
  else if 0 < r.credits then .moves
  else match s.im.route? k with
    | some x => if x.srcKind = 0 && x.dstKind = 0 then .inside else .outside
    | none => .outside

/-- R129: every unit that waits is waiting inside the fabric. -/
def State.allInside (s : State) : Bool :=
  s.ckpt.isEmpty &&
  (s.activeCores.all fun n =>
    ((s.im.tables n).zipIdx.all fun t => s.tableWait n t.1 t.2 = .inside) &&
      ((s.core n).acc.all fun a => s.drainWait n a = .inside) && s.scalarWait n = .inside) &&
  (s.im.steerRecs.all fun r => s.steerWait r.core r = .inside) &&
  (s.im.carriageRecs.all fun m => s.chainWait m = .inside) &&
  s.routes.all fun r => s.routeWait r.1 r.2 = .inside

/-- R129, R330: the segment in progress is found stuck. Where the conditions of the flag wait hold then, a free value tells whether they
are found at the same instant; one detection then covers both. -/
def State.setStuck (s : State) (r : SegRt) (inj : Bool) : State :=
  let s1 := ({ s with seg := some { r with stuck := true } } : State).setFld FabTokenStatus.stuck 1
  let d := s1.draw Config.atOnce
  d.2.deadlock ((r.q, 1, s.expectedSeq r.q r.idx, 0) :: (if d.1 && d.2.flagStuck then d.2.waitSet else [])) (some r.q) inj

/-- SEGMENT_STUCK (R129): its three conditions have held for 10 µs, or an injection forces the detector (R411). -/
def State.doSegmentStuck (s : State) : State :=
  match s.seg with
  | none => s
  | some r =>
    if r.stuck || s.halted then s
    else
      let f := s.fire 0x10 0 fun _ => true
      if f.1.isSome then f.2.setStuck r true
      else if !s.segmentEnded && s.quiescent && s.allInside then s.setStuck r false
      else f.2

/-- STAGE (R91). -/
def execStage (q : Nat) (s : State) : Outcome := .next (s.doStage q)
/-- ACTIVATE (R95). -/
def execActivate (q : Nat) (s : State) : Outcome := .next (s.doActivate q)
/-- FORCED_ACTIVATE (R99). -/
def execForcedActivate (q : Nat) (s : State) : Outcome := .next (s.doForcedActivate q)
/-- STAGE_AND_ACTIVATE (R90). -/
def execStageAndActivate (q : Nat) (s : State) : Outcome := .next (s.doStageAndActivate q)
/-- COACH_CHANGE (R96). -/
def execCoachChange (flips : Nat) (s : State) : Outcome := .next (s.doCoachChange flips).evalFlags
/-- SEGMENT_RUN (R318). -/
def execSegmentRun (q : Nat) (s : State) : Outcome := .next (s.doSegmentRun q)
/-- SEGMENT_END (R126). -/
def execSegmentEnd (s : State) : Outcome := .next s.doSegmentEnd
/-- SEGMENT_STUCK (R129). -/
def execSegmentStuck (s : State) : Outcome := .next s.doSegmentStuck

end Sys2Proof.Machine
end

