-- ==== Sys2Proof/Machine/StepLog.lean ====
section
/-!
DEFINITION. The step log (R407) and the late contributions that a root keeps from step to step (R395).
-/
namespace Sys2Proof.Machine

/-- R407: write an entry of the step log. One that overwrites an entry of the step in progress sets LOG_LOST. -/
def State.logStep (s : State) (k : Kept) (outcome : Nat) : State :=
  let e := leBytes 4 k.collId ++ leBytes 4 (outcome <<< 24 + k.rank % 2 ^ 24) ++ leBytes 4 k.step.toNat ++ leBytes 4 k.ranks
  let s1 := s.setRaw (areaBase 8 + 65536 + 16 * (s.logNext % 65536)) e
  let lost := 65536 ≤ s.step.logCount
  let s2 := if lost then s1.setFld GlbRecovStatus.logLost 1 else s1
  { s2 with logNext := (s.logNext + 1) % 65536,
            step := { s2.step with logFirst := if s.step.logCount = 0 then s.logNext % 65536 else s.step.logFirst,
                                   logCount := s.step.logCount + 1, logLost := s.step.logLost || lost } }

/-- R395: at the commit of step `n`, contributions kept from step n − 1 are released; one that no collective folded in is
logged as dropped. -/
def State.keptCommit (s : State) (n : W32) : State :=
  let old := s.kept.filter fun k => k.step + 1 = n
  let s1 := (old.filter fun k => !k.dropped && !k.folded).foldl (fun s k => s.logStep k 4) s
  { s1 with kept := s.kept.filter fun k => k.step + 1 ≠ n }

/-- R395: when step `n` is abandoned, contributions kept in it are discarded, and those of the step before stay, unfolded. -/
def State.keptAbandon (s : State) (n : W32) : State :=
  { s with kept := (s.kept.filter fun k => k.step ≠ n).map fun k => { k with folded := false } }

end Sys2Proof.Machine
end

