-- ==== Sys2Proof/Machine/Steps.lean ====
section
/-!
DEFINITION. Steps: STEP_BEGIN, STEP_COMMIT, STEP_ABANDON (12_commands_and_queues.md), the commit point and the walks
(10_parameter_update.md), and the step record (15_consistency_errors_recovery.md).
-/
namespace Sys2Proof.Machine

/-! ### STEP_BEGIN (R319) -/

/-- R265: ages saturate at 2^30. -/
def State.boundAges (s : State) : State :=
  let now := BitVec.ofNat 32 (s.fld CxlAgeClock.count)
  let f := fun (_ : Nat) (c : Cart) =>
    if c.state ≠ .unmapped && 2 ^ 30 < (now - c.lastTouch).toNat then { c with lastTouch := now - BitVec.ofNat 32 (2 ^ 30) } else c
  { s with carts := Sparse.update {} f s.carts }

/-- R319: a STEP_BEGIN of step n is refused. -/
def State.beginRefused (s : State) (n : W32) : Bool :=
  s.inStep || s.flag QdirStepStatus.restoreFail || (s.flag QdirStepStatus.committedValid && n ≠ s.committed + 1)

/-- R319: the pending writes of commands to home views are performed. -/
def State.settleHomes (s : State) : State :=
  s.settle fun p => (cartsOf p.write.base p.write.len).any fun c => s.isHome (c * 65536)

/-- R319: an accepted STEP_BEGIN of step n with its run key, at one instant. -/
def State.beginStep (s : State) (n : W32) (key : W64) : State :=
  let s1 := (s.settleHomes).setFld QdirStepStatus.committed (n - 1).toNat
  let k := Sparse.get 0 s1.attempts n.toNat + 1
  let s2 := { s1 with step := { runKey := key, attempt := k, logFirst := s1.logNext },
                      attempts := Sparse.set 0 s1.attempts n.toNat k, activated := [],
                      cores := Sparse.update {} (fun _ c =>
                        { c with chains := c.chains.map fun (x : Nat × ChainRt) => (x.1, { x.2 with tapped := 0 }) }) s1.cores }
  let s3 := ((s2.govBegin).copyGroups).setFld CxlAgeClock.count (s2.fld CxlAgeClock.count + 1)
  let s4 := ((s3.boundAges).setFld QdirStepStatus.inProgress 1).refreshNoCommit
  s4.snapBegin n key

/-- R319: the STEP_COMMIT or STEP_ABANDON of the step before has been dispatched and its completion has not been posted. -/
def State.closePending (s : State) : Bool :=
  s.flag QdirStepStatus.closing || s.queueNums.any fun q => (s.queue q).cmds.any fun c =>
    c.phase = .ended && (opcodeOf c.entry = 0x23 || opcodeOf c.entry = 0x24) && (c.status = St.ok || c.status = St.stepAborted)

/-- R319: judge a STEP_BEGIN that has been dispatched: it waits for the close of the step before; then it is refused, or accepted once
no walk runs. -/
def State.judgeBegin (s : State) (q : Nat) (c : Cmd) : State :=
  if s.closePending then s
  else if s.beginRefused (stepTag c.entry) then s.endErr q c.idx (descErr 0x57 s.committed.toNat)
  else if s.walk = .none then (s.beginStep (stepTag c.entry) (BitVec.ofNat 64 (leField c.entry 16 8))).endOk q c.idx
  else s

/-- R319: the STEP_BEGIN of a queue that has been dispatched and waits. -/
def State.waitingBegin (s : State) (q : Nat) : Option Cmd :=
  (s.queue q).cmds.find? fun c => opcodeOf c.entry = 0x22 && c.phase = .running

/-- STEP_BEGIN (R319): one that waits is looked at again; otherwise the next one of the queue is dispatched. -/
def State.doStepBegin (s : State) (q : Nat) : State :=
  if queueOk q then
    match s.waitingBegin q with
    | some c => (s.judgeBegin q c).evalFlags
    | none =>
      s.runRow q { want := isOp 0x22, ranges := noRanges, body := fun s c => s.judgeBegin q c,
                   errs := fun s c => if !s.closePending && s.beginRefused (stepTag c.entry) then [descErr 0x57 s.committed.toNat] else [] }
  else s

/-! ### The close of a step (R320, R321, R406) -/

/-- Pages with P set. -/
def State.pendingPages (s : State) : Nat := (s.ver.filter fun v => v.2.p).length

/-- R320, R321: a step-bound command of the step that was dispatched before place `p` has not completed. -/
def State.boundBefore (s : State) (p : Nat) : Bool :=
  s.queueNums.any fun q => (s.queue q).cmds.any fun c =>
    c.phase ≠ .waiting && stepBound (opcodeOf c.entry) && stepTag c.entry = s.stepNum && c.serial < p

/-- R406: the 64-byte record of the step. -/
def State.stepRecord (s : State) (outcome : Nat) : Bytes :=
  let x := s.step
  let first := x.first.getD { status := 0, det := 0, q := none, seq := 0, run := false, inj := false }
  let n := fun f => min 0xFFFF (x.formats.filter fun y => y.2 = f).length
  leBytes 4 s.stepNum.toNat ++ leBytes 1 outcome ++ leBytes 1 (min 255 x.attempt) ++ leBytes 1 (min 255 x.replays) ++
    leBytes 1 (b2n x.injected + 2 * b2n x.doomed + 4 * b2n x.timed + 8 * b2n x.logLost) ++ leBytes 1 first.status ++
    leBytes 1 first.det ++ leBytes 2 0 ++ leBytes 4 first.seq.toNat ++ leBytes 4 (first.q.getD 0xFFFFF) ++
    leBytes 4 (min 0xFFFFFFFF x.segments) ++ leBytes 4 (min 0xFFFFFFFF s.pendingPages) ++ leBytes 2 (n 4) ++ leBytes 2 (n 5) ++
    leBytes 2 (n 6) ++ leBytes 2 (min 0xFFFF x.rooted) ++ leBytes 4 (min 0xFFFFFFFF x.included) ++
    leBytes 2 (min 0xFFFF x.lateKept) ++ leBytes 2 (min 0xFFFF x.lateDropped) ++ leBytes 2 (min 0xFFFF x.folded) ++ leBytes 2 0 ++
    leBytes 4 x.logFirst ++ leBytes 4 (min 0xFFFFFFFF x.logCount) ++ leBytes 8 (s.fld TelIntervalCnt.count)

/-- R406: write the record at the next index of the ring. -/
def State.writeRecord (s : State) (outcome : Nat) : State :=
  let i := s.recNext % 1024
  ({ s.setRaw (areaBase 8 + 64 * i) (s.stepRecord outcome) with recNext := (i + 1) % 1024 }).setFld GlbRecovStatus.lastRec i

/-- R94, R100, R321: what every close of a step does: slots are unlocked, DOOMED clears, the marks go, and no step is in progress;
the walk begins. -/
def State.closeStepOf (s : State) (w : Walk) : State :=
  let s1 := s.activated.foldl (fun s k => s.setFld (FabCoachSlot.locked k) 0) s
  let s2 := (((s1.setFld FabCoachStatus.doomed 0).setFld QdirStepStatus.inProgress 0).setFld QdirStepStatus.closing 0).setFld
    HbmUpdStatus.walk 1
  let f := fun (_ : Nat) (v : Version) => if v.p && w = .abandon then { v with loose := true } else v
  ({ s2 with activated := [], walk := w, ver := Sparse.update {} f s2.ver,
             step := { s2.step with marks := [], closer := none } }).refreshNoCommit

/-- R245, R320: the commit point of the step, its record and its completion. -/
def State.commitStep (s : State) (q : Nat) (idx : W32) : State :=
  let n := s.stepNum
  let s1 := ((s.keptCommit n).writeRecord 0).closeStepOf .commit
  let s2 := ((s1.setFld QdirStepStatus.committed n.toNat).setFld QdirStepStatus.committedValid 1).govCommit
  (({ s2 with attempts := [] }).snapCommit n).endOk q idx

/-- R553 cause 0x03: the first mark still present. -/
def State.abortDetail (s : State) : Nat :=
  match s.step.marks.head? with
  | some m => 0x03 <<< 40 + m.status <<< 32 + m.det <<< 24 + m.q.getD 0xFFFFF
  | none => 0x03 <<< 40

/-- R320, R321: the effect of STEP_ABANDON: statistics, shadows, generation, record; `outcome` as R406 gives. -/
def State.abandonStep (s : State) (outcome : Nat) : State :=
  ((((s.writeRecord outcome).govDiscard).snapAbandon).keptAbandon s.stepNum).closeStepOf .abandon

/-- R320, R321: close the step by the command of queue `q` that has been dispatched for it, once every step-bound command before it
has completed: an ABANDON, or a COMMIT of a step with a mark; otherwise a COMMIT waits for its commit point (log entry 23). -/
def State.tryClose (s : State) (q : Nat) : State :=
  match s.step.closer with
  | none => s
  | some (p, idx) =>
    if p ≠ q || s.boundBefore (s.placeOf p idx) then s
    else if ((s.cmd? p idx).map fun c => opcodeOf c.entry) = some 0x24 then
      ((s.abandonStep 2).endOk p idx).evalFlags
    else if s.step.marks.isEmpty then s
    else (((s.abandonStep 1).endCmd p idx St.stepAborted 6 (s.qCp p) s.abortDetail)).evalFlags

/-- R322: the first STEP_COMMIT or STEP_ABANDON dispatched decides the step. -/
def State.beginClose (s : State) (q : Nat) (c : Cmd) : State :=
  ({ s with step := { s.step with closer := some (q, c.idx) } }).setFld QdirStepStatus.closing 1

/-- STEP_COMMIT (R320). -/
def State.doStepCommit (s : State) (q : Nat) : State :=
  if queueOk q then
    (s.runCmd q (isOp 0x23) plainRanges (fun _ _ => []) (fun s c => s.beginClose q c)).tryClose q
  else s

/-- STEP_ABANDON (R321). -/
def State.doStepAbandon (s : State) (q : Nat) : State :=
  if queueOk q then
    (s.runCmd q (isOp 0x24) plainRanges (fun _ _ => []) (fun s c => s.beginClose q c)).tryClose q
  else s

/-- COMMIT_POINT (R245 step 3): every update of the step has been written; a sweep with SWEEP_WAIT holds it (R434). -/
def State.doCommitPoint (s : State) : State :=
  match s.step.closer with
  | none => s
  | some (q, idx) =>
    let isCommit := ((s.cmd? q idx).map fun c => opcodeOf c.entry) = some 0x23
    if !isCommit || s.boundBefore (s.placeOf q idx) then s
    else if !s.step.marks.isEmpty then s.tryClose q
    else if s.sweepHolds then s
    else (s.commitStep q idx).evalFlags

/-- R271: the commit walk still has to update the entry of a page that migrates; it does so at the switch. -/
def State.walkHeld (s : State) : Bool := s.migrations.any fun m => m.2.active && (s.cart m.1).kind = 1 && (s.version (m.1 / 2)).p

/-- COMMIT_WALK_END (R245 step 5). -/
def State.doCommitWalkEnd (s : State) : State :=
  if s.walk = .commit && !s.walkHeld then
    ({ s with ver := Sparse.update {} (fun _ v => if v.p then { v with v := !v.v, p := false } else v) s.ver,
              walk := .none }).setFld HbmUpdStatus.walk 0
  else s

/-- ABANDON_WALK_END (R245). -/
def State.doAbandonWalkEnd (s : State) : State :=
  if s.walk = .abandon then
    ({ s with ver := Sparse.update {} (fun _ v => { v with p := false }) s.ver, walk := .none }).setFld HbmUpdStatus.walk 0
  else s

/-- STEP_BEGIN (R319). -/
def execStepBegin (q : Nat) (s : State) : Outcome := .next (s.doStepBegin q)
/-- STEP_COMMIT (R320). -/
def execStepCommit (q : Nat) (s : State) : Outcome := .next (s.doStepCommit q)
/-- STEP_ABANDON (R321). -/
def execStepAbandon (q : Nat) (s : State) : Outcome := .next (s.doStepAbandon q)
/-- COMMIT_POINT (R245). -/
def execCommitPoint (s : State) : Outcome := .next s.doCommitPoint
/-- COMMIT_WALK_END (R245). -/
def execCommitWalkEnd (s : State) : Outcome := .next s.doCommitWalkEnd
/-- ABANDON_WALK_END (R245). -/
def execAbandonWalkEnd (s : State) : Outcome := .next s.doAbandonWalkEnd

end Sys2Proof.Machine
end

