-- ==== Sys2Proof/Machine/DataMove.lean ====
section
/-!
DEFINITION. Data movement and cart commands: tensor descriptors, GATHER and SCATTER_ADD (11_memory_tiers_and_layout.md), COPY,
COPY_TRANSPOSE, PERMUTE_COPY, INLINE_WRITE, MIGRATE_HINT, PIN, CART_MAP and CART_FREE (12_commands_and_queues.md).
-/
namespace Sys2Proof.Machine

/-! ### Tensor descriptors (R275 to R279) -/

/-- R275: a dimension record. -/
structure DimRec where
  extent : Nat
  shards : Nat
  extents : Nat
  stride : Nat
  deriving DecidableEq, Repr

/-- R275: a tensor descriptor with the shard extents of each dimension. -/
structure TensorDesc where
  addr : Nat
  id : Nat
  fmt : Nat
  base : Nat
  scaleBase : Nat
  repl : Nat
  rank : Nat
  devlist : Nat
  dims : List (DimRec × List Nat)
  deriving DecidableEq, Repr

/-- R275: the number of dimension records read: DIMS when it is in range. -/
def State.descDims (s : State) (a : Nat) : Nat := if 2 ≤ s.num (a + 4) 1 && s.num (a + 4) 1 ≤ 6 then s.num (a + 4) 1 else 0

/-- A dimension record. -/
def State.dimRec (s : State) (a i : Nat) : DimRec :=
  let o := a + 64 + 32 * i
  { extent := s.num o 4, shards := s.num (o + 4) 4, extents := s.num (o + 8) 8, stride := s.num (o + 16) 4 }

/-- R276: the shard extents of a dimension; none are read when SHARDS is out of range. -/
def State.shardExtents (s : State) (d : DimRec) : List Nat :=
  if d.shards = 1 then [d.extent] else if 16777215 < d.shards then []
  else (List.range d.shards).map fun k => s.num (d.extents + 4 * k) 4

/-- The descriptor at an address. -/
def State.tensorDesc (s : State) (a : Nat) : TensorDesc :=
  { addr := a, id := s.num a 4, fmt := s.num (a + 5) 1, base := s.num (a + 8) 8, scaleBase := s.num (a + 16) 8,
    repl := s.num (a + 24) 4, rank := s.num (a + 28) 4, devlist := s.num (a + 32) 8,
    dims := (List.range (s.descDims a)).map fun i => let d := s.dimRec a i; (d, s.shardExtents d) }

/-- R277: shards over all dimensions. -/
def TensorDesc.shardCount (t : TensorDesc) : Nat := t.dims.foldl (fun n d => n * d.1.shards) 1
/-- R277: the group size G. -/
def TensorDesc.group (t : TensorDesc) : Nat := t.repl * t.shardCount

/-- R277: mixed-radix digits of a number, the first radix lowest. -/
def mixedDigits : List Nat → Nat → List Nat
  | [], _ => []
  | r :: rs, n => n % max 1 r :: mixedDigits rs (n / max 1 r)

/-- R277: this device's shard index in each dimension, for a rank. -/
def TensorDesc.shardOf (t : TensorDesc) (rank : Nat) : List Nat :=
  mixedDigits (t.dims.map (·.1.shards)) (rank % max 1 t.shardCount)

/-- R276: the local extents of a rank's shard. -/
def TensorDesc.local (t : TensorDesc) (rank : Nat) : List Nat :=
  (t.dims.zip (t.shardOf rank)).map fun x => x.1.2.getD x.2 0

/-- R276: extents in tiles: whole tiles in dimensions 0 and 1. -/
def tileCounts (extents : List Nat) : List Nat := extents.zipIdx.map fun x => if x.2 < 2 then ceilDiv x.1 64 else x.1

/-- The multi-indices of a shard of tiles, dimension 0 fastest. -/
def tileIndices : List Nat → List (List Nat)
  | [] => [[]]
  | n :: ns => (tileIndices ns).flatMap fun t => (List.range n).map fun i => i :: t

/-- R277, R278: the stored tile of a multi-index, counted from BASE. -/
def TensorDesc.tileAt (t : TensorDesc) (idx : List Nat) : Nat :=
  (t.dims.zip idx).foldl (fun n x => n + x.1.1.stride * x.2) 0

/-- R276: the shard extents of dimension `i` break the rules. -/
def extentsBad (d : DimRec) (es : List Nat) (i : Nat) : Bool :=
  let nz := es.filter (0 < ·)
  (d.shards = 1 && d.extents ≠ 0) || es.foldl (· + ·) 0 ≠ d.extent || (es.zip es.tail).any (fun x => x.1 < x.2) ||
    (i < 2 && (nz.take (nz.length - 1)).any fun e => e % 64 ≠ 0)

/-- R279: the nonzero strides of dimensions 0 to `i` map two tiles of the shard to one address. -/
def TensorDesc.collides (t : TensorDesc) (i : Nat) : Bool :=
  let ns := tileCounts (t.local t.rank)
  let live := (ns.zip t.dims).zipIdx.map fun x => if x.2 ≤ i && x.1.2.1.stride ≠ 0 then x.1.1 else min 1 x.1.1
  let places := (tileIndices live).map t.tileAt
  places.eraseDups.length ≠ places.length

/-- R279: byte offset of the first failing field of a descriptor; `dest` tells whether it is used as a destination. -/
def State.descBad (s : State) (t : TensorDesc) (dest : Bool) : Option Nat :=
  let h := s.bytes t.addr 64
  let head : List (Bool × Nat) := [(t.dims.isEmpty, 4), (!fmtOk t.fmt, 5), (leField h 6 2 ≠ 0, 6), (t.base % 256 ≠ 0 || 2 ^ 48 ≤ t.base, 8),
    (t.scaleBase % 64 ≠ 0 || 2 ^ 48 ≤ t.scaleBase || (!scaledFmt t.fmt && t.scaleBase ≠ 0), 16),
    (t.repl = 0 || 16777215 < t.repl, 24), (t.group ≤ t.rank, 28),
    ((List.range t.group).any fun k => 2 ^ 24 ≤ s.num (t.devlist + 4 * k) 4, 32), (!zeroField h 40 24, 40)]
  let dims : List (Bool × Nat) := t.dims.zipIdx.flatMap fun x =>
    let o := 64 + 32 * x.2
    let d := x.1.1
    [(d.extent = 0, o), (d.shards = 0 || 16777215 < d.shards, o + 4), (extentsBad d x.1.2 x.2, o + 8),
     ((d.stride = 0 && (d.shards ≠ 1 || dest)) || t.collides x.2, o + 16),
     (!zeroField (s.bytes (t.addr + o) 32) 20 12, o + 20)]
  ((head ++ dims).find? (·.1)).map (·.2)

/-- R279: cause 0x45. -/
def State.descErrs (s : State) (t : TensorDesc) (dest : Bool) : List Err :=
  match s.descBad t dest with
  | some o => [descErr 0x45 o]
  | none => []

/-- The descriptor itself: header, dimension records, extent lists, device list. -/
def State.descRanges (s : State) (a : Nat) : List Range :=
  let t := s.tensorDesc a
  ⟨a, 64 + 32 * t.dims.length, false⟩ :: ⟨t.devlist, 4 * t.group, false⟩ ::
    t.dims.filterMap fun d => if d.1.shards = 1 then none else some ⟨d.1.extents, 4 * d.1.shards, false⟩

/-- One more than the highest stored tile of a rank's shard; 0 for a shard without storage (R276). -/
def TensorDesc.tiles (t : TensorDesc) (rank : Nat) : Nat :=
  let ns := tileCounts (t.local rank)
  if ns.any (· = 0) then 0 else t.tileAt (ns.map (· - 1)) + 1

/-- The ranges of this device's shard. -/
def TensorDesc.shardRanges (t : TensorDesc) (write : Bool) : List Range :=
  let n := t.tiles t.rank
  [⟨t.base, n * tileBytes t.fmt, write⟩, ⟨t.scaleBase, if scaledFmt t.fmt then 64 * n else 0, write⟩]

/-! ### Elements of blocked matrices -/

/-- The value of element `e` of the tile whose values and scales start at two addresses. -/
def State.elemAt (s : State) (fmt vals scales e : Nat) : Num :=
  let w := fmtBits fmt
  let code := s.num (vals + e / 4 * (w / 2)) (w / 2) / 2 ^ (w * (e % 4)) % 2 ^ w
  let x := decodeNum fmt code
  if scaledFmt fmt then
    let sc := s.num (scales + e / 64) 1
    if sc = 0xFF then .nan else scaleNum sc x
  else x

/-- The element of a row and column of a blocked matrix of `cols` columns. -/
def State.matrixElem (s : State) (fmt vals scales cols r c : Nat) : Num :=
  let t := r / 64 * ceilDiv cols 64 + c / 64
  s.elemAt fmt (vals + t * tileBytes fmt) (scales + 64 * t) (ordinal (r % 64) (c % 64))

/-- R156: a code that the device does not write into a scaled element: NaN of E4M3, NaN and infinity of E5M2. -/
def forbiddenCode (fmt code : Nat) : Bool := (fmt = 4 && code % 128 = 127) || (fmt = 5 && code / 4 % 32 = 31)

/-- R141, R156, R163: the code of a pad element: a free value among the codes that the device writes; 0 in a block of scale 0xFF. -/
def State.padCodeOf (s : State) (fmt scale at' : Nat) : Nat :=
  let c := Config.padCode s.draws at' % 2 ^ fmtBits fmt
  if scaledFmt fmt && (scale = 0xFF || forbiddenCode fmt c) then 0 else c

/-- R163, R165: a tile from its elements; a pad element (`none`) takes no part in its block's scale and its code is a free value. -/
def State.freeTile (s : State) (fmt seed : Nat) (xs : List (Option Nat)) : Bytes × Bytes :=
  let t := encodeTile fmt nearestAll (xs.map fun x => x.getD 0)
  let codes := unpackCodes (fmtBits fmt) 1024 t.1
  let out := (codes.zip xs).zipIdx.map fun x =>
    if x.1.2.isSome then x.1.1 else s.padCodeOf fmt (t.2.getD (x.2 / 64) 0).toNat (seed * 4096 + x.2)
  (packCodes (fmtBits fmt) out, t.2)

/-- A command writes tile `t` of a matrix. -/
def State.putMatrixTile (s : State) (q : Nat) (c : Cmd) (fmt vals scales t : Nat) (x : Bytes × Bytes) : State :=
  let s1 := s.cmdWrite q c (rangeOf (vals + t * tileBytes fmt) x.1)
  if scaledFmt fmt then s1.cmdWrite q c (rangeOf (scales + 64 * t) x.2) else s1

/-- The next draw, for free values already used. -/
def State.nextDraw (s : State) : State := { s with draws := s.draws + 1 }

/-- Two lists of ranges meet. -/
def rangesOverlap (xs ys : List Range) : Bool := xs.any fun x => ys.any fun y => rangesMeet x.base x.len y.base y.len

/-- OVERLAP_REJECTED (R324, R283). -/
def overlapErr (bad : Bool) : List Err := if bad then [{ status := St.overlapRejected }] else []

/-- A scale operand (R323). -/
def scaleErr (fmt a off : Nat) : List Err := operandErr (a % 64 ≠ 0 || (!scaledFmt fmt && a ≠ 0)) off

/-! ### COPY, COPY_TRANSPOSE, PERMUTE_COPY, INLINE_WRITE (R324, R325) -/

/-- The checks of a COPY. -/
def copyErrs (e : Bytes) : List Err :=
  let n := leField e 32 8
  operandErr (n = 0 || 2 ^ 40 < n) 32 ++ overlapErr (rangesMeet (leField e 16 8) n (leField e 24 8) n)

/-- R324: what COPY does once it has passed its checks. -/
def State.runCopy (s : State) (q : Nat) (c : Cmd) : State :=
  let x := s.pickEngine c.entry
  let e := c.entry
  (x.2.cmdWrite q c (x.2.copyOf (leField e 16 8) (leField e 24 8) (leField e 32 8))).endEngine q c x.1 0

/-- COPY (R324). -/
def State.doCopy (s : State) (q : Nat) : State :=
  if queueOk q then
    s.runCmd q (isOp 0x40) plainRanges (fun _ c => copyErrs c.entry) (fun s c => s.runCopy q c)
  else s

/-- The checks of a COPY_TRANSPOSE. -/
def transposeErrs (e : Bytes) : List Err :=
  let f := fun o => leField e o 8
  let rt := leField e 48 4
  let ct := leField e 52 4
  let fmt := leField e 56 1
  let inPlace := f 16 = f 24 && f 32 = f 40 && rt = ct
  let rs := entryRanges e
  operandErr (rt = 0 || 2 ^ 24 < rt) 48 ++ operandErr (ct = 0 || 2 ^ 24 < ct) 52 ++ operandErr (!fmtOk fmt) 56 ++
    scaleErr fmt (f 32) 32 ++ scaleErr fmt (f 40) 40 ++
    overlapErr (!inPlace && rangesOverlap (rs.filter (!·.write)) (rs.filter (·.write)))

/-- R160, R324: the transpose of a tile: element codes and scale bytes move, and none changes. -/
def transposeTile (fmt : Nat) (vals scales : Bytes) : Bytes × Bytes :=
  let codes := transposeOf 0 (unpackCodes (fmtBits fmt) 1024 vals).toArray
  (packCodes (fmtBits fmt) codes.toList, (List.range 64).map fun b => scales.getD (b % 8 * 8 + b / 8) 0)

/-- R324: what COPY_TRANSPOSE does once it has passed its checks. -/
def State.runTranspose (s : State) (q : Nat) (c : Cmd) : State :=
  let e := c.entry
  let f := fun o => leField e o 8
  let rt := leField e 48 4
  let ct := leField e 52 4
  let fmt := leField e 56 1
  let b := tileBytes fmt
  let x := s.pickEngine e
  let s1 := (List.range (rt * ct)).foldl (fun t k =>
    let vals := s.bytes (f 16 + k * b) b
    let scales := if scaledFmt fmt then s.bytes (f 32 + 64 * k) 64 else []
    t.putMatrixTile q c fmt (f 24) (f 40) (k % ct * rt + k / ct) (transposeTile fmt vals scales)) x.2
  s1.endEngine q c x.1 0

/-- COPY_TRANSPOSE (R324). -/
def State.doCopyTranspose (s : State) (q : Nat) : State :=
  if queueOk q then
    s.runCmd q (isOp 0x41) plainRanges (fun _ c => transposeErrs c.entry) (fun s c => s.runTranspose q c)
  else s

/-- R324: the source dimension of destination dimension `d`. -/
def permOf (e : Bytes) (d : Nat) : Nat := bitsOf (leField e 32 3) (4 * d + 3) (4 * d)

/-- R324: the ranges of a PERMUTE_COPY: both descriptors and both shards. -/
def State.permuteRanges (s : State) (e : Bytes) : List Range :=
  let a := leField e 16 8
  let b := leField e 24 8
  entryRanges e ++ s.descRanges a ++ s.descRanges b ++ (s.tensorDesc a).shardRanges false ++ (s.tensorDesc b).shardRanges true

/-- R324: the local extents that destination dimension `d` and its source dimension have differ. -/
def permBad (src dst : TensorDesc) (e : Bytes) (d : Nat) : Bool :=
  (src.local src.rank).getD (permOf e d) 0 ≠ (dst.local dst.rank).getD d 0

/-- The checks of a PERMUTE_COPY. A descriptor that is not at a multiple of 64 breaks R275 (cause 0x45). PERM is a permutation of the dimensions, which both descriptors have in one number. -/
def State.permuteErrs (s : State) (q : Nat) (e : Bytes) : List Err :=
  let a := leField e 16 8
  let b := leField e 24 8
  let src := s.tensorDesc a
  let dst := s.tensorDesc b
  let n := dst.dims.length
  let perm := (List.range n).map (permOf e)
  (if a % 64 ≠ 0 || b % 64 ≠ 0 then [descErr 0x45 0] else []) ++
    operandErr (perm.any (n ≤ ·) || perm.eraseDups.length ≠ n || 2 ^ (4 * n) ≤ leField e 32 3) 32 ++
    s.descErrs src false ++ s.descErrs dst true ++
    (if src.dims.length ≠ n then [descErr 0x45 4]
     else match (List.range n).find? (permBad src dst e) with
       | some d => [descErr 0x45 (64 + 32 * d)]
       | none => []) ++
    (s.permuteRanges e).flatMap (s.rangeErr (s.qDomain q)) ++
    overlapErr (rangesOverlap (src.shardRanges false) (dst.shardRanges true))

/-- R324: the source element of destination element (indices in elements, dimension 0 first). -/
def State.permuteElem (s : State) (e : Bytes) (src : TensorDesc) (n : Nat) (at' : List Nat) : Num :=
  let idx := (List.range n).map fun k => at'.getD (((List.range n).findIdx? fun d => permOf e d = k).getD 0) 0
  let t := src.tileAt (idx.zipIdx.map fun x => if x.2 < 2 then x.1 / 64 else x.1)
  s.elemAt src.fmt (src.base + t * tileBytes src.fmt) (src.scaleBase + 64 * t)
    (ordinal (idx.getD 1 0 % 64) (idx.getD 0 0 % 64))

/-- R324: what PERMUTE_COPY does once it has passed its checks. -/
def State.runPermuteCopy (s : State) (q : Nat) (c : Cmd) : State :=
  let e := c.entry
  let src := s.tensorDesc (leField e 16 8)
  let dst := s.tensorDesc (leField e 24 8)
  let n := dst.dims.length
  let ext := dst.local dst.rank
  let x := s.pickEngine e
  let s1 := (tileIndices (tileCounts ext)).zipIdx.foldl (fun t k =>
    let idx := k.1
    let elems := (List.range 4096).map fun o =>
      let rc := elementOf o
      let at' := idx.zipIdx.map fun y => if y.2 = 0 then 64 * y.1 + rc.2 else if y.2 = 1 then 64 * y.1 + rc.1 else y.1
      if (at'.zip ext).all (fun y => y.1 < y.2) then some (toF32 (s.permuteElem e src n at')) else none
    t.putMatrixTile q c dst.fmt dst.base dst.scaleBase (dst.tileAt idx) (s.freeTile dst.fmt k.2 elems)) x.2
  s1.nextDraw.endEngine q c x.1 0

/-- PERMUTE_COPY (R324). -/
def State.doPermuteCopy (s : State) (q : Nat) : State :=
  if queueOk q then
    s.runCmd q (isOp 0x42) (fun s e => s.permuteRanges e) (fun s c => s.permuteErrs q c.entry) (fun s c => s.runPermuteCopy q c)
  else s

/-- The checks of an INLINE_WRITE: its bytes lie in one cart. -/
def inlineErrs (e : Bytes) : List Err :=
  operandErr (cartOf (leField e 16 8) ≠ cartOf (leField e 16 8 + inlineLen e - 1)) 16

/-- R325: what INLINE_WRITE does once it has passed its checks. -/
def State.runInlineWrite (s : State) (q : Nat) (c : Cmd) : State :=
  (s.cmdWrite q c (rangeOf (leField c.entry 16 8) (sliceBytes c.entry 32 (inlineLen c.entry)))).endOk q c.idx

/-- INLINE_WRITE (R325). -/
def State.doInlineWrite (s : State) (q : Nat) : State :=
  if queueOk q then
    s.runCmd q (isOp 0x45) plainRanges (fun _ c => inlineErrs c.entry) (fun s c => s.runInlineWrite q c)
  else s

/-! ### GATHER and SCATTER_ADD (R280 to R283) -/

/-- R280: the index list of a GATHER or SCATTER_ADD. -/
def State.indexList (s : State) (e : Bytes) : List Nat :=
  (List.range (leField e 64 4)).map fun i => s.num (leField e 48 8 + 4 * i) 4

/-- R280, R411: POLICY 0 and an index out of range: the detection's instance is the engine that SUBSEL names, or engine 0. -/
def State.indexErrs (s : State) (e : Bytes) : List Err :=
  if leField e 70 1 = 0 then
    match (s.indexList e).findIdx? (leField e 56 4 ≤ ·) with
    | some p => [{ status := St.indexRange, det := 0x11, key := 7 <<< 16 + (subselOf e - 1), detail := p }]
    | none => []
  else []

/-- R283: no two of the ranges overlap, but for the destination that SCATTER_ADD both reads and writes. -/
def distinctRanges : List Range → Bool
  | [] => true
  | r :: rs => !rs.any (fun x => rangesMeet r.base r.len x.base x.len) && distinctRanges rs

/-- The checks of a GATHER or SCATTER_ADD. -/
def State.gatherErrs (s : State) (e : Bytes) (scatter : Bool) : List Err :=
  let f := fun o => leField e o 8
  let sf := leField e 68 1
  let df := leField e 69 1
  operandErr (leField e 48 8 % 4 ≠ 0) 48 ++ operandErr (!fmtOk sf) 68 ++ operandErr (!fmtOk df) 69 ++
    operandErr (2 < leField e 70 1) 70 ++ scaleErr sf (f 24) 24 ++ (if scatter then [] else scaleErr df (f 40) 40) ++
    (if scatter && fmtOk df && scaledFmt df then [descErr 0x45 69] else []) ++
    overlapErr (!distinctRanges (entryRanges e)) ++ s.indexErrs e

/-- R280: the row that a list position names after POLICY; `none` for a skipped one. -/
def rowOf (policy rows i : Nat) : Option Nat := if i < rows then some i else if policy = 2 then some 0 else none

/-- R411: an injected index fault at the engine: INDEX_RANGE at position 0 (log entry 32). -/
def State.injectedIndex (s : State) (q : Nat) (c : Cmd) (inst : Nat) : Option State × State :=
  let f := s.fire 0x11 (7 <<< 16 + inst) fun _ => true
  if f.1.isSome then
    (some ((f.2.detect 0x11 St.indexRange (some q) (7 <<< 16 + inst) true).endCmd q c.idx St.indexRange 7 inst 0), f.2)
  else (none, f.2)

/-- R265, R280: the bytes that hold row `r` of a blocked matrix of `cols` columns: in each tile its row of eight blocks, and their
scales. -/
def rowRanges (fmt vals scales cols r : Nat) (write : Bool) : List Range :=
  (List.range (ceilDiv cols 64)).flatMap fun c =>
    let t := r / 64 * ceilDiv cols 64 + c
    let b := r % 64 / 8
    ⟨vals + t * tileBytes fmt + b * (64 * fmtBits fmt), 64 * fmtBits fmt, write⟩ ::
      (if scaledFmt fmt then [⟨scales + 64 * t + 8 * b, 8, write⟩] else [])

/-- R265, R273, R280: what a GATHER reads and writes: its index list, the rows of the table that the list names, its destination. -/
def State.gatherRanges (s : State) (e : Bytes) : List Range :=
  let rows := ((s.indexList e).filterMap (rowOf (leField e 70 1) (leField e 56 4))).eraseDups
  (entryRanges e).filter (fun r => r.write || r.base = leField e 48 8) ++
    rows.flatMap fun r => rowRanges (leField e 68 1) (leField e 16 8) (leField e 24 8) (leField e 60 4) r false

/-- R265, R273, R282: what a SCATTER_ADD reads and writes: its index list, the source rows that it adds, the destination rows that the
list names. -/
def State.scatterRanges (s : State) (e : Bytes) : List Range :=
  let rows := (s.indexList e).map (rowOf (leField e 70 1) (leField e 56 4))
  let cols := leField e 60 4
  (entryRanges e).filter (·.base = leField e 48 8) ++
    (rows.zipIdx.filter (·.1.isSome)).flatMap (fun x => rowRanges (leField e 68 1) (leField e 16 8) (leField e 24 8) cols x.2 false) ++
    (rows.filterMap id).eraseDups.flatMap fun r =>
      rowRanges (leField e 69 1) (leField e 32 8) 0 cols r false ++ rowRanges (leField e 69 1) (leField e 32 8) 0 cols r true

/-- R281: element of row `p`, column `col` of the destination of a GATHER; `none` beyond the list. -/
def State.gatherElem (s : State) (e : Bytes) (idx : List Nat) (p col : Nat) : Option Nat :=
  match idx[p]? with
  | none => none
  | some i =>
    match rowOf (leField e 70 1) (leField e 56 4) i with
    | none => some 0
    | some r => some (toF32 (s.matrixElem (leField e 68 1) (leField e 16 8) (leField e 24 8) (leField e 60 4) r col))

/-- R281: what GATHER does once it has passed its checks. -/
def State.runGather (s : State) (q : Nat) (c : Cmd) : State :=
  let e := c.entry
  let x := s.pickEngine e
  match x.2.injectedIndex q c x.1 with
  | (some t, _) => t
  | (none, s0) =>
    let idx := s.indexList e
    let cw := ceilDiv (leField e 60 4) 64
    let fmt := leField e 69 1
    let s1 := (List.range (ceilDiv idx.length 64 * cw)).foldl (fun t k =>
      let elems := (List.range 4096).map fun o =>
        let rc := elementOf o
        s.gatherElem e idx (k / cw * 64 + rc.1) (k % cw * 64 + rc.2)
      t.putMatrixTile q c fmt (leField e 32 8) (leField e 40 8) k (s.freeTile fmt k elems)) s0
    s1.nextDraw.endEngine q c x.1 0

/-- GATHER (R281). -/
def State.doGather (s : State) (q : Nat) : State :=
  if queueOk q then
    s.runRow q { want := isOp 0x43, ranges := State.gatherRanges, regions := plainRanges,
                 errs := fun s c => s.gatherErrs c.entry false, body := fun s c => s.runGather q c }
  else s

/-- R282: the new element of destination row `r`. -/
def State.scatterElem (s : State) (e : Bytes) (rows : List (Option Nat)) (r col : Nat) : Nat :=
  let cols := leField e 60 4
  let df := leField e 69 1
  let acc := rows.zipIdx.foldl (fun a x =>
    if x.1 = some r then fadd a (toF32 (s.matrixElem (leField e 68 1) (leField e 16 8) (leField e 24 8) cols x.2 col)) else a)
    (toF32 (s.matrixElem df (leField e 32 8) 0 cols r col))
  convertNum df .nearest false (f32 acc)

/-- R282: a command writes one element of an unscaled matrix. -/
def State.putElem (s : State) (q : Nat) (c : Cmd) (fmt vals cols r col code : Nat) : State :=
  let t := r / 64 * ceilDiv cols 64 + col / 64
  let w := fmtBits fmt / 8
  s.cmdWrite q c (rangeOf (vals + t * tileBytes fmt + w * ordinal (r % 64) (col % 64)) (leBytes w code))

/-- R283: duplicate positions of a list. -/
def duplicates (rows : List (Option Nat)) : Nat :=
  let named := rows.filterMap id
  named.length - named.eraseDups.length

/-- R282: what SCATTER_ADD does once it has passed its checks. -/
def State.runScatterAdd (s : State) (q : Nat) (c : Cmd) : State :=
  let e := c.entry
  let x := s.pickEngine e
  match x.2.injectedIndex q c x.1 with
  | (some t, _) => t
  | (none, s0) =>
    let rows := (s.indexList e).map (rowOf (leField e 70 1) (leField e 56 4))
    let cols := leField e 60 4
    let s1 := (rows.filterMap id).eraseDups.foldl (fun t r =>
      (List.range cols).foldl (fun t col =>
        t.putElem q c (leField e 69 1) (leField e 32 8) cols r col (s.scatterElem e rows r col)) t) s0
    let n := duplicates rows
    (if n = 0 then s1 else s1.count 0x012 x.1 n).endEngine q c x.1 0

/-- SCATTER_ADD (R282). -/
def State.doScatterAdd (s : State) (q : Nat) : State :=
  if queueOk q then
    s.runRow q { want := isOp 0x44, ranges := State.scatterRanges, regions := plainRanges,
                 errs := fun s c => s.gatherErrs c.entry true, body := fun s c => s.runScatterAdd q c }
  else s

/-! ### Carts (R259, R260, R267, R268) -/

/-- BASE and COUNT of a cart command. -/
def cartBase (e : Bytes) : Nat := leField e 16 8
/-- COUNT. -/
def cartCount (e : Bytes) : Nat := leField e 24 3
/-- The carts that a cart command names. -/
def cartsNamed (e : Bytes) : List Nat := (List.range (cartCount e)).map (· + cartBase e / 65536)

/-- R323: BASE and COUNT, checked before anything else. -/
def cartOperands (e : Bytes) : List Err := operandErr (cartBase e % 65536 ≠ 0) 16 ++ operandErr (cartCount e = 0) 24

/-- R453, R259 cause 0x41: another domain's carts, reserved carts and the control space, and carts outside the memory range. -/
def State.cartReach (s : State) (d : Nat) (e : Bytes) : List Err :=
  let a := cartBase e
  let len := cartCount e * 65536
  (match s.firstForeign d a len with
   | some x => [windowErr 0x91 (x / 65536)]
   | none => []) ++
  (match s.firstReserved a len with
   | some x => if s.grade.zone x = .reserved && d = 0 then [] else [windowErr 0x93 (x / 65536)]
   | none => []) ++
  (if 0x100000000000 < a + len then [descErr 0x41 (max a 0x100000000000 / 65536 % 2 ^ 32)] else [])

/-- R267: HBM frames of pinned carts. -/
def State.pinnedFrames (s : State) : Nat :=
  s.carts.foldl (fun n c => n + (if c.2.pinned && c.2.state ≠ .unmapped then 1 else 0)) 0

/-- R267: pinned and reserved carts and `more` frames exceed the pin limit. -/
def State.pinOver (s : State) (more : Nat) : Bool :=
  s.grade.hbmFrames - s.fld CxlPoolCfg.lowFrames < s.pinnedFrames + s.grade.reservedCarts + more

/-- R259: the checks of a CART_MAP. Cause 0x42 also where neither tier has the two frames of some home page (log entry 6). -/
def State.mapErrs (s : State) (q : Nat) (e : Bytes) : List Err :=
  let ops := cartOperands e
  if !ops.isEmpty then ops
  else
    let home := bitOf (leField e 32 1) 0
    s.cartReach (s.qDomain q) e ++
      (if s.hbmFree + s.cxlFree < cartCount e || (home && s.hbmFree / 2 + s.cxlFree / 2 < cartCount e / 2) then [descErr 0x42 0]
       else []) ++
      (if (cartsNamed e).any s.mapped || (home && (cartBase e % 131072 ≠ 0 || cartCount e % 2 = 1)) then [descErr 0x43 0] else []) ++
      (if bitOf (leField e 32 1) 1 && s.pinOver (cartCount e) then [descErr 0x44 0] else [])

/-- R260: a cart's bytes read as zero, whatever frame it takes. -/
def State.zeroCart (s : State) (c : Nat) : State := s.clearRaw (c * 65536) 65536

/-- R264: map one cart, or one page by its head, in the place that R264 gives; its frames spend a draw. -/
def State.mapCart (s : State) (c kind d : Nat) (pin : Bool) : State :=
  let need := framesOfKind kind
  let fs := ((s.placeHbm c need).orElse fun _ => s.placeCxl need).getD []
  let x : Cart := { state := stateOfFrame (fs.getD 0 noFrame), kind, domain := d, pinned := pin,
                    lastTouch := BitVec.ofNat 32 (s.fld CxlAgeClock.count), frameA := fs.getD 0 noFrame, frameB := fs.getD 1 0 }
  let s1 := ({ s with draws := s.draws + 1 } : State).zeroCart c |>.setCart c x
  if kind = 1 then
    ((s1.zeroCart (c + 1)).setCart (c + 1) { x with kind := 2, frameA := 0, frameB := 0 }).setVersion (c / 2) {}
  else s1

/-- R311: a cart command writes the carts it names. -/
def cartRegion (e : Bytes) : List Range := [⟨cartBase e, cartCount e * 65536, true⟩]

/-- R259: what CART_MAP does once it has passed its checks. -/
def State.runCartMap (s : State) (q : Nat) (c : Cmd) : State :=
  let e := c.entry
  let home := bitOf (leField e 32 1) 0
  let pin := bitOf (leField e 32 1) 1
  let heads := if home then (cartsNamed e).filter fun k => k % 2 = 0 else cartsNamed e
  (heads.foldl (fun u k => u.mapCart k (if home then 1 else 0) (s.qDomain q) pin) s).endOk q c.idx

/-- CART_MAP (R259). -/
def State.doCartMap (s : State) (q : Nat) : State :=
  if queueOk q then
    s.runRow q { want := isOp 0x48, ranges := noRanges, regions := fun _ e => cartRegion e, errs := fun s c => s.mapErrs q c.entry,
                 body := fun s c => s.runCartMap q c }
  else s

/-- R259 cause 0x43: the cart cannot be freed by a command that names `named`. -/
def State.freeBad (s : State) (named : List Nat) (c : Nat) : Bool :=
  let x := s.cart c
  !s.mapped c || (x.kind = 1 && (!named.contains (c + 1) || (s.version (c / 2)).p)) || (x.kind = 2 && !named.contains (c - 1))

/-- R259: the checks of a CART_FREE. -/
def State.freeErrs (s : State) (q : Nat) (e : Bytes) : List Err :=
  let ops := cartOperands e
  if !ops.isEmpty then ops
  else s.cartReach (s.qDomain q) e ++
    (if ((cartsNamed e).filter (· < 0x10000000)).any (s.freeBad (cartsNamed e)) then [descErr 0x43 0] else [])

/-- R260: unmap a cart: its frames are free, and its content is gone. -/
def State.unmapCart (s : State) (c : Nat) : State :=
  let kind := (s.cart c).kind
  let s1 := (s.zeroCart c).setCart c {}
  let s2 := { s1 with migrations := Sparse.erase s1.migrations c, lostFrames := Sparse.erase s1.lostFrames c }
  if kind = 1 then s2.setVersion (c / 2) {} else s2

/-- R259, R260: what CART_FREE does once it has passed its checks. -/
def State.runCartFree (s : State) (q : Nat) (c : Cmd) : State :=
  let e := c.entry
  ((cartsNamed e).foldl (fun s k => s.unmapCart k) (s.settleRange (cartBase e) (cartCount e * 65536))).endOk q c.idx

/-- CART_FREE (R259, R260): the writes that commands have yet to perform into its carts are performed first. -/
def State.doCartFree (s : State) (q : Nat) : State :=
  if queueOk q then
    s.runRow q { want := isOp 0x49, ranges := noRanges, regions := fun _ e => cartRegion e, errs := fun s c => s.freeErrs q c.entry,
                 body := fun s c => s.runCartFree q c }
  else s

/-- The heads of the pages and the data carts that a command names. -/
def State.headsNamed (s : State) (e : Bytes) : List Nat := ((cartsNamed e).map s.headOf).eraseDups

/-- R267: the checks of a PIN. -/
def State.pinErrs (s : State) (q : Nat) (e : Bytes) : List Err :=
  let ops := cartOperands e
  if !ops.isEmpty then ops
  else
    let more := (s.headsNamed e).foldl (fun n h =>
      if (s.cart h).pinned then n else n + (if (s.cart h).kind = 1 then 2 else 1)) 0
    s.cartReach (s.qDomain q) e ++ s.unmappedErr ⟨cartBase e, cartCount e * 65536, false⟩ ++
      (if leField e 32 1 % 2 = 0 && s.pinOver more then [descErr 0x44 0] else [])

/-- R267: set or clear the mark of a cart or page. -/
def State.setPin (s : State) (h : Nat) (pin : Bool) : State :=
  let s1 := s.setCart h { s.cart h with pinned := pin }
  if (s1.cart h).kind = 1 then s1.setCart (h + 1) { s1.cart (h + 1) with pinned := pin } else s1

/-- R267: what PIN does once it has passed its checks. -/
def State.runPin (s : State) (q : Nat) (c : Cmd) : State :=
  ((s.headsNamed c.entry).foldl (fun s h => if (s.cart h).pinned then s else (s.moveToHbm h).setPin h true) s).endOk q c.idx

/-- PIN (R267): each cart moves to HBM if it is not there and is pinned. -/
def State.doPin (s : State) (q : Nat) : State :=
  if queueOk q then
    s.runCmd q (fun e => isOp 0x47 e && leField e 32 1 % 2 = 0) plainRanges (fun s c => s.pinErrs q c.entry)
      (fun s c => s.runPin q c)
  else s

/-- R267: what UNPIN does once it has passed its checks. -/
def State.runUnpin (s : State) (q : Nat) (c : Cmd) : State :=
  ((s.headsNamed c.entry).foldl (fun s h => s.setPin h false) s).endOk q c.idx

/-- UNPIN (R267). -/
def State.doUnpin (s : State) (q : Nat) : State :=
  if queueOk q then
    s.runCmd q (fun e => isOp 0x47 e && leField e 32 1 % 2 = 1) plainRanges (fun s c => s.pinErrs q c.entry)
      (fun s c => s.runUnpin q c)
  else s

/-- R268: the checks of a MIGRATE_HINT: reserved carts, which domain 0 may name (R453), are skipped. -/
def State.hintErrs (s : State) (q : Nat) (e : Bytes) : List Err :=
  let ops := cartOperands e
  if !ops.isEmpty then ops
  else
    let a := cartBase e
    let len := cartCount e * 65536
    let area := s.qDomain q = 0 && s.grade.zone a = .reserved
    (if area then (s.cartReach 0 e).filter (·.cause ≠ 0x41) else s.cartReach (s.qDomain q) e) ++ s.unmappedErr ⟨a, len, false⟩

/-- R268: ask for the move of a cart or page; it is skipped when pinned, reserved, already there, or without a free frame. -/
def State.hintHead (s : State) (h : Nat) (lower : Bool) : State :=
  if (s.cart h).pinned then s else if lower then s.moveToCxl h else s.moveToHbm h

/-- R268: what MIGRATE_HINT does once it has passed its checks. -/
def State.runMigrateHint (s : State) (q : Nat) (c : Cmd) : State :=
  let e := c.entry
  let s1 := (s.headsNamed e).foldl (fun s h => s.hintHead h (bitOf (leField e 32 1) 0)) s
  let moved := ((cartsNamed e).filter fun k => (s1.cart (s.headOf k)).state ≠ (s.cart (s.headOf k)).state).length
  s1.endCmd q c.idx St.ok 6 (s.qCp q) (min 0xFFFFFF moved <<< 24 + min 0xFFFFFF (cartCount e - moved))

/-- MIGRATE_HINT (R268). -/
def State.doMigrateHint (s : State) (q : Nat) : State :=
  if queueOk q then
    s.runCmd q (isOp 0x46) plainRanges (fun s c => s.hintErrs q c.entry) (fun s c => s.runMigrateHint q c)
  else s

/-- COPY (R324). -/
def execCopy (q : Nat) (s : State) : Outcome := .next (s.doCopy q)
/-- COPY_TRANSPOSE (R324). -/
def execCopyTranspose (q : Nat) (s : State) : Outcome := .next (s.doCopyTranspose q)
/-- PERMUTE_COPY (R324). -/
def execPermuteCopy (q : Nat) (s : State) : Outcome := .next (s.doPermuteCopy q)
/-- GATHER (R281). -/
def execGather (q : Nat) (s : State) : Outcome := .next (s.doGather q)
/-- SCATTER_ADD (R282). -/
def execScatterAdd (q : Nat) (s : State) : Outcome := .next (s.doScatterAdd q)
/-- INLINE_WRITE (R325). -/
def execInlineWrite (q : Nat) (s : State) : Outcome := .next (s.doInlineWrite q)
/-- MIGRATE_HINT (R268). -/
def execMigrateHint (q : Nat) (s : State) : Outcome := .next (s.doMigrateHint q)
/-- PIN (R267). -/
def execPin (q : Nat) (s : State) : Outcome := .next (s.doPin q)
/-- UNPIN (R267). -/
def execUnpin (q : Nat) (s : State) : Outcome := .next (s.doUnpin q)
/-- CART_MAP (R259). -/
def execCartMap (q : Nat) (s : State) : Outcome := .next (s.doCartMap q)
/-- CART_FREE (R260). -/
def execCartFree (q : Nat) (s : State) : Outcome := .next (s.doCartFree q)

end Sys2Proof.Machine
end

