-- ==== Sys2Proof/Machine/Collectives.lean ====
section
/-!
DEFINITION. Collectives (14_laulo_links_and_collectives.md, R387 to R396): the descriptor and its checks, trees, the exchange
of partial sums and results as COLL packets, stragglers, folding, and the ends of a collective. What the manual leaves open of
the packets' layout and of trees over replicas is in log entries 26 and 30.
-/
namespace Sys2Proof.Machine

/-! ### The descriptor (R387) -/

/-- R387: a collective descriptor with its two tensor descriptors. -/
structure CollInfo where
  op : Nat
  max : Bool
  chain : Bool
  bf16 : Bool
  drop : Bool
  root : Nat
  stage : Nat
  stageLen : Nat
  collId : Nat
  allow : Nat
  src : TensorDesc
  dst : TensorDesc
  deriving DecidableEq, Repr

/-- The descriptor at an address, for a command of opcode `op`. -/
def State.collInfo (s : State) (op a : Nat) : CollInfo :=
  { op, max := s.num a 1 = 1, chain := s.num (a + 1) 1 = 1, bf16 := s.num (a + 2) 1 = 1, drop := bitOf (s.num (a + 3) 1) 0,
    root := s.num (a + 4) 4, stage := s.num (a + 24) 8, stageLen := s.num (a + 32) 8, collId := s.num (a + 40) 4,
    allow := s.num (a + 44) 4, src := s.tensorDesc (s.num (a + 8) 8), dst := s.tensorDesc (s.num (a + 16) 8) }

/-- R390: opcodes that reduce. -/
def isReduction (op : Nat) : Bool := op = 0x60 || op = 0x61 || op = 0x63

/-- R388: the group signature. -/
def CollInfo.signature (i : CollInfo) : Nat :=
  let d := fun (t : TensorDesc) => leBytes 1 t.dims.length ++ leBytes 1 t.fmt ++ leBytes 4 t.repl ++ leBytes 4 t.group ++
    t.dims.flatMap fun x => x.2.flatMap (leBytes 4)
  crc32 (leBytes 1 (b2n i.max) ++ leBytes 1 (b2n i.chain) ++ leBytes 1 (b2n i.bf16) ++ leBytes 4 i.root ++ leBytes 4 i.allow ++
    d i.src ++ d i.dst)

/-! ### Trees (R389, R390) -/

/-- R389: the parent of node `v`. -/
def CollInfo.parent (i : CollInfo) (v : Nat) : Nat := if i.chain then v - 1 else (v - 1) / 4

/-- R389: the children of node `v` among `n`, ascending. -/
def CollInfo.children (i : CollInfo) (n v : Nat) : List Nat :=
  (if i.chain then [v + 1] else [4 * v + 1, 4 * v + 2, 4 * v + 3, 4 * v + 4]).filter (· < n)

/-- Node `u` is `v` or below it. -/
def CollInfo.under (i : CollInfo) (v u : Nat) : Nat → Bool
  | 0 => u = v
  | fuel + 1 => u = v || (v < u && i.under v (i.parent u) fuel)

/-- R407: ranks in the subtree of node `v` among `n`. -/
def CollInfo.ranksUnder (i : CollInfo) (n v : Nat) : Nat := ((List.range n).filter fun u => i.under v u n).length

/-- R390: the shards for which a tree runs over this rank: its own for REDUCE and ALL_REDUCE, every shard otherwise. -/
def CollInfo.flows (i : CollInfo) : List Nat :=
  if i.op = 0x60 || i.op = 0x61 then [i.src.rank % Nat.max 1 i.src.shardCount]
  else if i.op = 0x62 then List.range i.src.shardCount
  else if i.op = 0x63 then List.range i.dst.shardCount
  else []

/-- Nodes of the tree of shard `k`: one per replica, or one per rank. -/
def CollInfo.nodes (i : CollInfo) : Nat := if i.op = 0x60 || i.op = 0x61 then i.src.repl else i.src.group

/-- R389, R390: the rank of node `v` in the tree of shard `k`. -/
def CollInfo.rankOf (i : CollInfo) (k v : Nat) : Nat :=
  if i.op = 0x60 || i.op = 0x61 then (v + i.root / Nat.max 1 i.src.shardCount) % Nat.max 1 i.nodes * i.src.shardCount + k
  else (v + k) % Nat.max 1 i.nodes

/-- R389: this rank's node in the tree of shard `k`. -/
def CollInfo.node (i : CollInfo) (k : Nat) : Nat :=
  let n := Nat.max 1 i.nodes
  if i.op = 0x60 || i.op = 0x61 then
    (i.src.rank / Nat.max 1 i.src.shardCount + n - i.root / Nat.max 1 i.src.shardCount % n) % n
  else (i.src.rank + n - k % n) % n

/-- R276: where shard `k` of a descriptor starts, in tiles of dimensions 0 and 1 and indices of the others. -/
def TensorDesc.startTiles (t : TensorDesc) (k : Nat) : List Nat :=
  ((t.dims.zip (t.shardOf k)).map fun x => (x.1.2.take x.2).foldl (· + ·) 0).zipIdx.map fun x =>
    if x.2 < 2 then x.1 / 64 else x.1

/-- Sum of two multi-indices. -/
def addIdx (a b : List Nat) : List Nat := (a.zip b).map fun x => x.1 + x.2

/-- R391: the tiles of shard `k`, in ascending order. -/
def CollInfo.tiles (i : CollInfo) (k : Nat) : List (List Nat) :=
  tileIndices (tileCounts (if i.op = 0x63 then i.dst.local k else i.src.local k))

/-- The stored source tile of a tile of shard `k` at a rank that contributes it. -/
def CollInfo.srcTile (i : CollInfo) (k : Nat) (idx : List Nat) : Nat :=
  i.src.tileAt (if i.op = 0x63 then addIdx (i.dst.startTiles k) idx else idx)

/-- The stored destination tile of a tile of shard `k`. -/
def CollInfo.dstTile (i : CollInfo) (k : Nat) (idx : List Nat) : Nat :=
  i.dst.tileAt (if i.op = 0x62 then addIdx (i.src.startTiles k) idx else idx)

/-- The chunk index of tile `t` of shard `k` (log entry 30). -/
def chunkOf (k t : Nat) : Nat := k <<< 32 + t

/-! ### Arithmetic (R391) -/

/-- R391: a tile of the source as exact FP32 codes. -/
def State.srcCodes (s : State) (i : CollInfo) (t : Nat) : List Nat :=
  (List.range 4096).map fun o =>
    toF32 (s.elemAt i.src.fmt (i.src.base + t * tileBytes i.src.fmt) (i.src.scaleBase + 64 * t) o)

/-- R391: combine two tiles element by element. -/
def CollInfo.combine (i : CollInfo) (a b : List Nat) : List Nat :=
  (a.zip b).map fun x => if i.max then fmax x.1 x.2 else fadd x.1 x.2

/-- R391: a partial sum as it travels: FP32, or BF16 rounded to nearest even. -/
def CollInfo.wireBytes (i : CollInfo) (xs : List Nat) : Bytes :=
  if i.bf16 then xs.flatMap fun x => leBytes 2 (convertNum 6 .nearest false (f32 x)) else xs.flatMap (leBytes 4)

/-- The partial sum that a payload holds, as FP32 codes. -/
def CollInfo.wireCodes (i : CollInfo) (pay : Bytes) : List Nat :=
  (List.range 4096).map fun o => if i.bf16 then toF32 (decodeNum 6 (leField pay (2 * o) 2)) else leField pay (4 * o) 4

/-- R394: bytes of one full contribution of a child. -/
def CollInfo.contribution (i : CollInfo) (k : Nat) : Nat := (i.tiles k).length * (if i.bf16 then 8192 else 16384)

/-! ### PERMUTE (R390, R392) -/

/-- The shard and the index within it of a global index of a dimension. -/
def splitIndex : List Nat → Nat → Nat → Nat × Nat
  | [], k, g => (k, g)
  | e :: es, k, g => if g < e then (k, g) else splitIndex es (k + 1) (g - e)

/-- The global indices of an element of tile `idx` of rank `r`; `none` for a pad element. -/
def TensorDesc.globalAt (t : TensorDesc) (r : Nat) (idx : List Nat) (o : Nat) : Option (List Nat) :=
  let rc := elementOf o
  let at' := idx.zipIdx.map fun y => if y.2 = 0 then 64 * y.1 + rc.2 else if y.2 = 1 then 64 * y.1 + rc.1 else y.1
  if (at'.zip (t.local r)).all fun y => y.1 < y.2 then
    some ((t.dims.zip (t.shardOf r)).zip at' |>.map fun x => (x.1.1.2.take x.1.2).foldl (· + ·) 0 + x.2)
  else none

/-- The lowest rank that holds a global index, and the local index there (log entry 26). -/
def TensorDesc.ownerOf (t : TensorDesc) (g : List Nat) : Nat × List Nat :=
  let parts := (t.dims.zip g).map fun x => splitIndex x.1.2 0 x.2
  ((t.dims.zip parts).foldr (fun x n => x.2.1 + x.1.1.shards * n) 0, parts.map (·.2))

/-- The value of a local element of this device's source shard. -/
def State.localElem (s : State) (t : TensorDesc) (at' : List Nat) : Nat :=
  let k := t.tileAt (at'.zipIdx.map fun x => if x.2 < 2 then x.1 / 64 else x.1)
  toF32 (s.elemAt t.fmt (t.base + k * tileBytes t.fmt) (t.scaleBase + 64 * k) (ordinal (at'.getD 1 0 % 64) (at'.getD 0 0 % 64)))

/-- The source owner of each element of tile `idx` of rank `r`'s destination shard. -/
def CollInfo.owners (i : CollInfo) (r : Nat) (idx : List Nat) : List (Option (Nat × List Nat)) :=
  (List.range 4096).map fun o => (i.dst.globalAt r idx o).map i.src.ownerOf

/-- The ranks that hold some element of a tile of rank `r`'s destination shard. -/
def CollInfo.ownersOf (i : CollInfo) (r : Nat) (idx : List Nat) : List Nat := ((i.owners r idx).filterMap fun x => x.map (·.1)).eraseDups

/-- What this rank sends of a tile: its own elements as FP32 codes, zeros elsewhere. -/
def State.ownPart (s : State) (i : CollInfo) (r : Nat) (idx : List Nat) : List Nat :=
  (i.owners r idx).map fun x => match x with
    | some (w, at') => if w = i.src.rank then s.localElem i.src at' else 0
    | none => 0

/-- The destination tiles of a rank. -/
def CollInfo.dstTiles (i : CollInfo) (r : Nat) : List (List Nat) := tileIndices (tileCounts (i.dst.local r))

/-! ### Checks (R387, R388, R390, R392, R394, R396) -/

/-- The ranges of a collective. -/
def State.collRanges (s : State) (e : Bytes) : List Range :=
  let a := leField e 16 8
  let i := s.collInfo (opcodeOf e) a
  entryRanges e ++ [⟨a, 64, false⟩] ++ s.descRanges i.src.addr ++ s.descRanges i.dst.addr ++ i.src.shardRanges false ++
    i.dst.shardRanges true ++ [⟨i.stage, i.stageLen, true⟩]

/-- The positions of the group. -/
def State.devlist (s : State) (t : TensorDesc) : List Nat := (List.range t.group).map fun k => s.num (t.devlist + 4 * k) 4

/-- R390: the shardings that an operation requires. -/
def CollInfo.shardsBad (i : CollInfo) : Bool :=
  let whole := fun (t : TensorDesc) => t.dims.all (fun d => d.1.shards = 1) && t.repl = t.group
  let lists := fun (t : TensorDesc) => t.dims.map (·.2)
  let shape := fun (t : TensorDesc) => t.dims.map fun d => d.1.extent
  shape i.src ≠ shape i.dst ||
    (if i.op = 0x60 || i.op = 0x61 then lists i.src ≠ lists i.dst
     else if i.op = 0x62 then !whole i.dst
     else if i.op = 0x63 then !whole i.src || i.dst.repl ≠ 1
     else false)

/-- R387, R388, R396 cause 0x60. -/
def State.collFieldBad (s : State) (i : CollInfo) (a : Nat) : Bool :=
  let h := s.bytes a 64
  let red := isReduction i.op
  (if red then 1 < leField h 0 1 else leField h 0 1 ≠ 0) || 1 < leField h 1 1 || 1 < leField h 2 1 || 1 < leField h 3 1 ||
    (if i.op = 0x60 || i.op = 0x61 then i.src.group ≤ i.root else i.root ≠ 0) ||
    i.stage % 256 ≠ 0 || i.collId = 0 || !zeroField h 48 16 || i.src.group ≠ i.dst.group || i.src.rank ≠ i.dst.rank ||
    s.devlist i.src ≠ s.devlist i.dst || i.shardsBad

/-- R392: a PERMUTE whose destination overlaps its source. -/
def CollInfo.inPlace (i : CollInfo) : Bool :=
  i.op = 0x64 && rangesOverlap (i.src.shardRanges false) (i.dst.shardRanges true)

/-- R392, R394: the STAGE_LEN that a collective needs at this rank. -/
def CollInfo.stageNeed (i : CollInfo) : Nat :=
  if i.inPlace then
    let n := i.dst.tiles i.dst.rank
    n * tileBytes i.dst.fmt + (if scaledFmt i.dst.fmt then 64 * n else 0)
  else if i.allow = 0 then 0
  else (i.flows.filter fun k => i.node k = 0).foldl (fun n k => n + 2 * (i.children i.nodes 0).length * i.contribution k) 0

/-- The checks of a collective. A tensor descriptor that is not at a multiple of 64 breaks R275 (cause 0x45). -/
def State.collErrs (s : State) (q : Nat) (e : Bytes) : List Err :=
  let a := leField e 16 8
  let i := s.collInfo (opcodeOf e) a
  let st : List Range := [⟨i.stage, i.stageLen, true⟩]
  operandErr (a % 64 ≠ 0) 16 ++
    (if i.src.addr % 64 ≠ 0 || i.dst.addr % 64 ≠ 0 then [descErr 0x45 0] else []) ++
    (if s.collFieldBad i a then [descErr 0x60 0] else []) ++ s.descErrs i.src false ++ s.descErrs i.dst true ++
    (if (i.op = 0x62 || i.op = 0x64) && i.allow ≠ 0 then [descErr 0x62 0] else []) ++
    (if i.stageLen < i.stageNeed then [descErr 0x63 0] else []) ++
    overlapErr ((i.op ≠ 0x64 && rangesOverlap (i.src.shardRanges false) (i.dst.shardRanges true)) ||
      rangesOverlap st (i.src.shardRanges false) || rangesOverlap st (i.dst.shardRanges true)) ++
    (s.collRanges e).flatMap (s.rangeErr (s.qDomain q))

/-! ### Ends -/

/-- The collective that runs with these matching keys (R388). -/
def State.coll? (s : State) (id : Nat) (step : W32) : Option CollRt := s.colls.find? fun c => c.collId = id && c.step = step
/-- Change it. -/
def State.modColl (s : State) (id : Nat) (step : W32) (f : CollRt → CollRt) : State :=
  { s with colls := s.colls.map fun c => if c.collId = id && c.step = step then f c else c }
/-- Remove it. -/
def State.dropColl (s : State) (c : CollRt) : State :=
  { s with colls := s.colls.filter fun x => !(x.collId = c.collId && x.step = c.step) }

/-- R396: the results that a collective holds are written to its destination, those that a test selects. They are written when it ends,
since one that ends with cause 0x61 has no side effect (log entry 26). -/
def State.writeResults (s : State) (c : CollRt) (sel : Nat → Bool) : State :=
  match s.cmd? c.q c.idx with
  | none => s
  | some cmd =>
    let i := s.collInfo c.op c.desc
    (c.results.filter fun x => sel x.1).foldl (fun s x =>
      s.putMatrixTile c.q cmd i.dst.fmt i.dst.base i.dst.scaleBase x.1 x.2) s

/-- R381: a collective ends with LINK_LOST, as detector `det` found, and the step cannot commit. Free values tell which of its results had
been written. -/
def State.collLost (s : State) (c : CollRt) (det dst port : Nat) : State :=
  let c1 := (s.coll? c.collId c.step).getD c
  let s1 := (s.writeResults c1 fun t => Config.writePerformed s.draws t).nextDraw
  ((s1.dropColl c).mark St.linkLost det (some (c.q, c.idx)) false (s.flag GlbErrLast.injected)).endCmd c.q c.idx St.linkLost 3
    c.engine (linkLostDetail dst port)

/-- The tree index that marks a collective which has ended here with cause 0x61 (log entry 26). -/
def noChild : Nat := 2 ^ 32
/-- The tree index that marks a collective which has ended here with OK (log entry 26). -/
def doneChild : Nat := 2 ^ 32 + 1
/-- A collective has ended here, marked by its tree index. -/
def endMark (c : CollRt) (mark : Nat) : Kept := { collId := c.collId, step := c.step, child := mark, rank := 0, ranks := 0, dropped := true }

/-- A COLL packet to a rank. -/
def State.collPacket (s : State) (c : CollRt) (i : CollInfo) (kind rank chunk node : Nat) (pay : Bytes) : Packet :=
  { cls := Pk.classC, kind, hops := 0, dst := s.num (i.src.devlist + 4 * rank) 4 % 2 ^ 24, src := 0, step := c.step.toNat,
    domain := s.qDomain c.q, addr := c.collId, arg := leBytes 8 chunk ++ leBytes 4 node ++ leBytes 4 i.signature, pay }

/-- Send COLL_DATA; one that finds no route ends the collective (R381). -/
def State.collSend (s : State) (c : CollRt) (i : CollInfo) (rank chunk node : Nat) (pay : Bytes) : State :=
  if (s.coll? c.collId c.step).isNone then s
  else
    let p := s.collPacket c i Pk.collData rank chunk node pay
    let r := s.originate (some c.q) p
    if r.1 then r.2 else r.2.collLost c 0x0E p.dst (s.egress p.dst)

/-- R396: cause 0x61: COLL_ABORT goes to every rank, the step cannot commit, the collective ends. -/
def State.collAbortEnd (s : State) (c : CollRt) (i : CollInfo) : State :=
  let others := (List.range i.src.group).filter (· ≠ i.src.rank)
  let s1 := others.foldl (fun s r => (s.originate (some c.q) (s.collPacket c i Pk.collAbort r 0 0 [])).2) (s.dropColl c)
  (({ s1 with kept := s1.kept ++ [endMark c noChild] }).mark St.descInvalid 0 (some (c.q, c.idx)) false false).endCmd c.q c.idx St.descInvalid 3
    c.engine (0x61 <<< 40)

/-- R395: the bytes of STAGE after its use are unspecified (no rule lays them out). -/
def State.blur (s : State) (a len : Nat) : State :=
  if len = 0 then s
  else
    let cells := (List.range len).map fun k => (a + k, Config.unspecifiedByte s.draws k)
    ({ s with draws := s.draws + 1 } : State).agentWrite { base := a, len, cells }

/-- R396, R406: a collective ends with OK: its results are written, its detail, and what the step record counts. -/
def State.collEnd (s : State) (c : CollRt) (i : CollInfo) : State :=
  let roots := (i.flows.filter fun k => isReduction i.op && i.node k = 0).length
  let kids := roots * (i.children i.nodes 0).length
  let x := s.step
  let keep := if i.drop then 0 else c.late.length
  let drop := if i.drop then c.late.length else 0
  let s0 := s.writeResults c fun _ => true
  let s1 := { s0 with step := { x with rooted := x.rooted + roots, included := x.included + (kids - c.late.length),
                                       lateKept := x.lateKept + keep, lateDropped := x.lateDropped + drop,
                                       folded := x.folded + c.folds.length } }
  let s2 := if (roots ≠ 0 && i.allow ≠ 0) || i.inPlace then s1.blur i.stage i.stageLen else s1
  let s3 := s2.dropColl c
  ({ s3 with kept := s3.kept ++ [endMark c doneChild] } : State).endCmd c.q c.idx St.ok 3 c.engine
    (min 255 keep <<< 40 + min 255 drop <<< 32 + min 255 c.folds.length <<< 24)

/-! ### Progress (R391, R394) -/

/-- R394: this rank is a root whose allowance is finite, for shard `k`. -/
def CollInfo.governs (i : CollInfo) (k : Nat) : Bool := isReduction i.op && i.allow ≠ 0 && i.node k = 0

/-- A partial sum received. -/
def CollRt.part (c : CollRt) (child chunk : Nat) : Option (List Nat) :=
  (c.got.find? fun g => g.child = child && g.chunk = chunk).map (·.vals)

/-- R394: the whole contribution of a child has arrived. -/
def CollRt.whole (c : CollRt) (i : CollInfo) (k child : Nat) : Bool :=
  (List.range (i.tiles k).length).all fun t => (c.part child (chunkOf k t)).isSome

/-- The children whose partial sums a node adds: at a governed root the ones on time. -/
def CollRt.adds (c : CollRt) (i : CollInfo) (k : Nat) : List Nat :=
  (i.children i.nodes (i.node k)).filter fun u => !(i.governs k && c.late.contains u)

/-- R391: node's own tile and its children's partial sums, in order; `none` while one is missing. -/
def State.treeSum (s : State) (c : CollRt) (i : CollInfo) (k t : Nat) (idx : List Nat) : Option (List Nat) :=
  (c.adds i k).foldl (fun acc u =>
    match acc, c.part u (chunkOf k t) with
    | some a, some b => some (i.combine a b)
    | _, _ => none) (some (s.srcCodes i (i.srcTile k idx)))

/-- R394: the contributions folded into a result after the tree sum, in ascending child order. -/
def State.foldKept (s : State) (c : CollRt) (i : CollInfo) (chunk : Nat) (xs : List Nat) : List Nat :=
  c.folds.foldl (fun a u =>
    match s.kept.find? fun k => k.collId = c.collId && k.step + 1 = c.step && k.child = u with
    | some k => (match k.chunks.find? (·.1 = chunk) with
      | some v => i.combine a v.2
      | none => a)
    | none => a) xs

/-- A result tile as it travels: its codes, then its scales. -/
def resultBytes (fmt : Nat) (x : Bytes × Bytes) : Bytes := x.1 ++ (if scaledFmt fmt then x.2 else [])
/-- The result tile that a payload holds. -/
def resultOf (fmt : Nat) (pay : Bytes) : Bytes × Bytes :=
  (sliceBytes pay 0 (tileBytes fmt), if scaledFmt fmt then sliceBytes pay (tileBytes fmt) 64 else [])

/-- A result arrives or is made at a node: it is held for the destination, and goes on to the children of the node where the operation
sends results down. -/
def State.putResult (s : State) (c : CollRt) (i : CollInfo) (k t : Nat) (idx : List Nat) (x : Bytes × Bytes) : State :=
  let s1 := s.modColl c.collId c.step fun c =>
    { c with done := c.done ++ [2 * chunkOf k t + 1], results := c.results ++ [(i.dstTile k idx, x)] }
  let kids := if i.op = 0x61 || i.op = 0x62 then i.children i.nodes (i.node k) else []
  kids.foldl (fun s u => s.collSend c i (i.rankOf k u) (chunkOf k t) (i.node k) (resultBytes i.dst.fmt x)) s1

/-- What one tile of a tree can do now. -/
def State.collTile (s : State) (key : Nat × W32) (i : CollInfo) (k t : Nat) (idx : List Nat) : State :=
  match s.coll? key.1 key.2 with
  | none => s
  | some c =>
    let ch := chunkOf k t
    let v := i.node k
    if i.op = 0x62 then
      if v = 0 && !c.done.contains (2 * ch + 1) then
        s.putResult c i k t idx (encodeTile i.dst.fmt nearestAll (s.srcCodes i (i.srcTile k idx)))
      else s
    else if c.done.contains (2 * ch) || (i.governs k && !c.closed) then s
    else
      match s.treeSum c i k t idx with
      | none => s
      | some xs =>
        let s1 := s.modColl c.collId c.step fun c => { c with done := c.done ++ [2 * ch] }
        if v = 0 then s1.putResult c i k t idx (encodeTile i.dst.fmt nearestAll (s.foldKept c i ch xs))
        else s1.collSend c i (i.rankOf k (i.parent v)) ch v (i.wireBytes xs)

/-- R390: a tile of shard `k` is done at this rank. -/
def CollRt.tileDone (c : CollRt) (i : CollInfo) (k t : Nat) : Bool :=
  let ch := chunkOf k t
  if i.op = 0x62 then c.done.contains (2 * ch + 1)
  else c.done.contains (2 * ch) && (i.op ≠ 0x61 || c.done.contains (2 * ch + 1))

/-- R390, R392: the tiles of a PERMUTE that have all their elements are results. -/
def State.permuteTile (s : State) (key : Nat × W32) (i : CollInfo) (t : Nat) (idx : List Nat) : State :=
  match s.coll? key.1 key.2 with
  | none => s
  | some c =>
    let r := i.src.rank
    let ch := chunkOf r t
    let own := i.owners r idx
    if c.done.contains (2 * ch) || !(i.ownersOf r idx).all fun w => (c.part w ch).isSome then s
    else
      let elems := own.zipIdx.map fun x => match x.1 with
        | some (w, _) => (c.part w ch).map fun vs => vs.getD x.2 0
        | none => none
      let x := s.freeTile i.dst.fmt t elems
      s.nextDraw.modColl c.collId c.step fun c =>
        { c with done := c.done ++ [2 * ch], results := c.results ++ [(i.dst.tileAt idx, x)] }

/-- R394: a governed root closes once every child has contributed. -/
def State.closeFull (s : State) (key : Nat × W32) (i : CollInfo) : State :=
  match s.coll? key.1 key.2 with
  | none => s
  | some c =>
    if (i.flows.filter i.governs).all fun k => (i.children i.nodes 0).all (c.whole i k) then
      s.modColl key.1 key.2 fun c => { c with closed := true }
    else s

/-- Everything that a collective can do now, and its end. -/
def State.collAdvance (s : State) (key : Nat × W32) : State :=
  match s.coll? key.1 key.2 with
  | none => s
  | some c0 =>
    let i := s.collInfo c0.op c0.desc
    let s0 := s.closeFull key i
    let s1 := if i.op = 0x64 then
        ((i.dstTiles i.src.rank).zipIdx).foldl (fun s x => s.permuteTile key i x.2 x.1) s0
      else i.flows.foldl (fun s k => ((i.tiles k).zipIdx).foldl (fun s x => s.collTile key i k x.2 x.1) s) s0
    match s1.coll? key.1 key.2 with
    | none => s1
    | some c =>
      let every := if i.op = 0x64 then
          (List.range (i.dstTiles i.src.rank).length).all fun t => c.done.contains (2 * chunkOf i.src.rank t)
        else i.flows.all fun k => (List.range (i.tiles k).length).all fun t => c.tileDone i k t
      if every then s1.collEnd c i else s1

/-! ### Packets -/

/-- Chunk, tree index and signature of a COLL packet (log entry 30). -/
def collArg (p : Packet) : Nat × Nat × Nat := (leField p.arg 0 8, leField p.arg 8 4, leField p.arg 12 4)

/-- R394: a chunk of a late contribution: kept, or dropped; answers whether it was one. -/
def State.lateChunk (s : State) (p : Packet) (codes : List Nat) : Bool × State :=
  let a := collArg p
  let hit := fun (k : Kept) => k.collId = p.addr % 2 ^ 32 && k.step = BitVec.ofNat 32 p.step && (k.child = a.2.1 || k.child = noChild)
  if s.kept.any hit then
    (true, { s with kept := s.kept.map fun (k : Kept) =>
      if (hit k) && !k.dropped && !(k.chunks.any (·.1 = a.1)) then { k with chunks := k.chunks ++ [(a.1, codes)] } else k })
  else (false, s)

/-- A COLL_DATA packet for a collective that runs. -/
def State.collTake (s : State) (c : CollRt) (p : Packet) : State :=
  let i := s.collInfo c.op c.desc
  let a := collArg p
  let k := a.1 >>> 32
  let t := a.1 % 2 ^ 32
  if a.2.2 ≠ i.signature then s.collAbortEnd c i
  else if i.op ≠ 0x64 && i.node k ≠ 0 && a.2.1 = i.parent (i.node k) && (i.op = 0x61 || i.op = 0x62) then
    if c.done.contains (2 * a.1 + 1) then s
    else (s.putResult c i k t ((i.tiles k).getD t []) (resultOf i.dst.fmt p.pay)).collAdvance (c.collId, c.step)
  else if i.governs k && c.late.contains a.2.1 then (s.lateChunk p (i.wireCodes p.pay)).2
  else
    let codes := if i.op = 0x64 then (List.range 4096).map fun o => leField p.pay (4 * o) 4 else i.wireCodes p.pay
    (s.modColl c.collId c.step fun c => { c with got := c.got ++ [⟨a.2.1, a.1, codes⟩] }).collAdvance (c.collId, c.step)

/-- The codes of a late chunk whose collective has ended: BF16 or FP32 as its payload's length shows. -/
def lateCodes (pay : Bytes) : List Nat :=
  (List.range 4096).map fun o =>
    if pay.length = 8192 then toF32 (decodeNum 6 (leField pay (2 * o) 2)) else leField pay (4 * o) 4

/-- R388: bytes of early packets that the engines hold. -/
def State.earlyBytes (s : State) : Nat := s.early.foldl (fun n p => n + 64 + p.pay.length) 0

/-- R388: an early packet can be held. -/
def State.earlyRoom (s : State) (p : Packet) : Bool := s.earlyBytes + 64 + p.pay.length ≤ s.grade.coll * 8388608

/-- The collective of a packet has ended here with OK. -/
def State.collDone (s : State) (p : Packet) : Bool :=
  s.kept.any fun k => k.collId = p.addr % 2 ^ 32 && k.step = BitVec.ofNat 32 p.step && k.child = doneChild

/-- A COLL packet arrives (R388, R394, R396): `none` when it has to wait for room. A COLL_ABORT for a collective that has ended here with OK
marks the step in progress. -/
def State.acceptColl (s : State) (p : Packet) : Option State :=
  match s.coll? (p.addr % 2 ^ 32) (BitVec.ofNat 32 p.step) with
  | some c => some (if p.kind = Pk.collAbort then s.collAbortEnd c (s.collInfo c.op c.desc) else s.collTake c p)
  | none =>
    let l := s.lateChunk p (lateCodes p.pay)
    if p.kind = Pk.collAbort && s.collDone p then
      some (if s.inStep && s.stepNum = BitVec.ofNat 32 p.step then s.mark St.descInvalid 0 none false false else s)
    else if l.1 then some l.2 else if s.earlyRoom p then some { s with early := s.early ++ [p] } else none

/-! ### Dispatch and expiry -/

/-- R394: what a root kept for this collective: contributions of the step before that have wholly arrived are folded, every other
one is dropped (outcomes 3 and 4). -/
def State.foldBegin (s : State) (c : CollRt) (i : CollInfo) : State :=
  let mine := s.kept.filter fun (k : Kept) => k.collId = c.collId && !k.dropped && k.step ≠ c.step
  let root := (i.flows.find? fun k => isReduction i.op && i.node k = 0)
  let ok := fun (k : Kept) => match root with
    | some f => k.step + 1 = c.step && (List.range (i.tiles f).length).all fun t => k.chunks.any (·.1 = chunkOf f t)
    | none => false
  let s1 := mine.foldl (fun s k => s.logStep k (if ok k then 3 else 4)) s
  let s2 := { s1 with kept := s1.kept.map fun (k : Kept) =>
    if k.collId = c.collId && !k.dropped && k.step ≠ c.step then (if ok k then { k with folded := true } else { k with dropped := true })
    else k }
  s2.modColl c.collId c.step fun x => { x with folds := (mine.filter ok).map (·.child) }

/-- A PERMUTE sends what it holds of every rank's tiles. -/
def State.permuteSend (s : State) (c : CollRt) (i : CollInfo) : State :=
  (List.range i.src.group).foldl (fun s r =>
    ((i.dstTiles r).zipIdx).foldl (fun s x =>
      if (i.ownersOf r x.1).contains i.src.rank then
        let part := s.ownPart i r x.1
        if r = i.src.rank then
          s.modColl c.collId c.step fun y => { y with got := y.got ++ [⟨r, chunkOf r x.2, part⟩] }
        else s.collSend c i r (chunkOf r x.2) i.src.rank (part.flatMap (leBytes 4))
      else s) s) s

/-- A collective that has passed its checks: packets that came early are taken first. -/
def State.startColl (s : State) (q : Nat) (c : Cmd) : State :=
  let e := c.entry
  let a := leField e 16 8
  let x := s.pickEngine e
  let i := x.2.collInfo (opcodeOf e) a
  let rt : CollRt := { q, idx := c.idx, op := i.op, collId := i.collId, step := stepTag e, desc := a, engine := x.1 }
  let mine := fun (p : Packet) => p.addr % 2 ^ 32 = i.collId && BitVec.ofNat 32 p.step = stepTag e
  let ended := fun (k : Kept) => k.collId = i.collId && k.step = stepTag e && k.child = doneChild
  let s1 := { x.2 with colls := x.2.colls ++ [rt], early := x.2.early.filter (fun p => !mine p), kept := x.2.kept.filter fun k => !ended k }
  let s2 := s1.foldBegin rt i
  let s3 := if i.op = 0x64 then s2.permuteSend rt i else s2
  let s4 := (x.2.early.filter mine).foldl (fun s p => (s.acceptColl p).getD s) s3
  s4.collAdvance (i.collId, stepTag e)

/-- The shared operation of the five collective rows. -/
def State.doColl (s : State) (op q : Nat) : State :=
  if queueOk q then
    s.runCmd q (isOp op) (fun s e => s.collRanges e) (fun s c => s.collErrs q c.entry) (fun s c => s.startColl q c)
  else s

/-- R394: a root closes a collective whose allowance has ended with the children that have wholly contributed. -/
def State.closeLate (s : State) (c : CollRt) (i : CollInfo) (k : Nat) : State :=
  let late := (i.children i.nodes 0).filter fun u => !c.whole i k u
  let entry := fun u =>
    ({ collId := c.collId, step := c.step, child := u, rank := i.rankOf k u, ranks := i.ranksUnder i.nodes u, dropped := i.drop,
       chunks := if i.drop then [] else (c.got.filter fun g => g.child = u && g.chunk >>> 32 = k).map fun g => (g.chunk, g.vals) } : Kept)
  let s1 := late.foldl (fun s u => s.logStep (entry u) (if i.drop then 2 else 1)) s
  let s2 := { s1 with kept := s1.kept ++ late.map entry,
                      step := { s1.step with timed := s1.step.timed || !late.isEmpty } }
  s2.modColl c.collId c.step fun x => { x with closed := true, late }

/-- ALLOW_EXPIRY (R394): the allowance of the collective with this COLL_ID ends at its root. -/
def State.doAllowExpiry (s : State) (coll : Nat) : State :=
  match s.colls.find? fun c => c.collId = coll && !c.closed with
  | none => s
  | some c =>
    let i := s.collInfo c.op c.desc
    match i.flows.find? i.governs with
    | none => s
    | some k => ((s.closeLate c i k).collAdvance (c.collId, c.step)).evalFlags

/-- REDUCE (R390). -/
def execReduce (q : Nat) (s : State) : Outcome := .next (s.doColl 0x60 q)
/-- ALL_REDUCE (R390). -/
def execAllReduce (q : Nat) (s : State) : Outcome := .next (s.doColl 0x61 q)
/-- ALL_GATHER (R390). -/
def execAllGather (q : Nat) (s : State) : Outcome := .next (s.doColl 0x62 q)
/-- REDUCE_SCATTER (R390). -/
def execReduceScatter (q : Nat) (s : State) : Outcome := .next (s.doColl 0x63 q)
/-- PERMUTE (R390). -/
def execPermute (q : Nat) (s : State) : Outcome := .next (s.doColl 0x64 q)
/-- ALLOW_EXPIRY (R394). -/
def execAllowExpiry (coll : Nat) (s : State) : Outcome := .next (s.doAllowExpiry coll)

end Sys2Proof.Machine
end

