-- ==== Sys2Proof/Machine/Access.lean ====
section
/-!
DEFINITION. Who may reach the control space (R452, R526, R529), what a refused request brings (R348, R453), and the end of a
session's attachment (R356 to R360).
-/
namespace Sys2Proof.Machine

/-! ### Sessions (R342, R356 to R360) -/

/-- R342: the session number of a slot. -/
def State.sessionNumber (s : State) (k : Nat) : Nat := (s.session k).gen * 4096 + k

/-- Every open queue (R292: STATE is not 0). -/
def State.openQueues (s : State) : List Nat :=
  s.mem.filterMap fun c =>
    if ctxBase ≤ c.1 ∧ c.1 < ctxBase + 67108864 ∧ (c.1 - ctxBase) % 64 = 56 then some ((c.1 - ctxBase) / 64) else none

/-- R359: the queues of a session are closed and its slot becomes FREE; its number keeps its GEN (R342). -/
def State.releaseSession (s : State) (k : Nat) : State :=
  let n := s.sessionNumber k
  let s1 := (s.openQueues.filter fun q => s.qSession q = n).foldl (fun s q => s.closeQ q) s
  s1.setSession k { gen := (s.session k).gen, port := (s.session k).port }

/-- R356, R360: an ATTACHED session becomes DETACHED; an owner session is released at once. -/
def State.detachSession (s : State) (k : Nat) : State :=
  let x := s.session k
  if x.state = .attached then
    if x.owner then s.releaseSession k else s.setSession k { x with state := .detached }
  else s

/-- R348: refuse a request of session `k`: NAK, REFUSED, REFUSE_LAST, and the connection errs. -/
def State.refuseRequest (s : State) (port k cause addr : Nat) : State :=
  let s1 := (s.emit (.nak port k)).setFld (EthStatus.refused port) 1
  let s2 := s1.setReg (.ethRefuseLast port) (k <<< 52 + cause <<< 48 + addr % 2 ^ 48)
  s2.detachSession k

/-- Slots of the sessions attached on a port. -/
def State.attachedOn (s : State) (port : Nat) : List Nat :=
  (s.sessions.filter fun e => e.2.state = .attached && e.2.port = port).map (·.1)

/-! ### Reach (R452, R529) -/

/-- R530: the block of an offset: 0 GLB, 1 PWR, 2 PACE, 3 SEC, 4 TEL, 5 INJ, 6 NEWT, 7 other. -/
def blockOf (off : Nat) : Nat := min 7 (off / 65536)

/-- The fabric is claimed by domain `d` (R456). -/
def State.fabricOf (s : State) (d : Nat) : Bool := s.flag FabDomCtl.claimed && s.fld FabDomCtl.domain = d

/-- The agent can issue an access now: its session is ATTACHED; the management link is up. -/
def State.present (s : State) : Agent → Bool
  | .session k => (s.session k).state = .attached
  | .mgmt => s.mgmtLink
  | .mgmtAt => s.mgmtLink
  | .modctl => s.auxOk

/-- R452, R529: the agent may read the control space at an offset. -/
def State.mayRead (s : State) (a : Agent) (off : Nat) : Bool :=
  s.privileged a ||
    (match a with
     | .session _ => blockOf off = 0
     | .modctl => blockOf off = 0 || blockOf off = 1 || blockOf off = 2 || blockOf off = 4
     | .mgmt => false
     | .mgmtAt => false)

/-- R452, R529: the agent may write the control space at an offset. -/
def State.mayWrite (s : State) (a : Agent) (off : Nat) : Bool :=
  s.privileged a ||
    (match a with
     | .session k =>
       let d := (s.session k).domain
       (0x2000000 ≤ off && off < 0x2800000 && s.qDomain ((off - 0x2000000) / 8) = d) ||
       (0x2800000 ≤ off && off < 0x3000000 && s.qDomain ((off - 0x2800000) / 8) = d) ||
       (0x200000 ≤ off && off < 0x200000 + s.grade.cores * 0x1000 && off % 0x1000 = 0x20 && s.fabricOf d)
     | .modctl => blockOf off = 1
     | .mgmt => false
     | .mgmtAt => false)

/-- R526, R536: record an access of the management channel or the module controller that was ignored or refused. -/
def State.accIgnored (s : State) (a : Agent) (kind addr : Nat) : State :=
  let n := match a with | .modctl => 2 | _ => 1
  s.setReg .glbAccStatus (1 <<< 63 + kind <<< 60 + n <<< 58 + addr % 2 ^ 48)

/-- An access of the control space that R529 does not grant, or that R526 does not name: R348 for a session, with its cause;
GLB.ACC_STATUS for the management channel and the module controller. -/
def State.ctlRefuse (s : State) (a : Agent) (cause kind off : Nat) : State :=
  match a with
  | .session k => s.refuseRequest (s.session k).port k cause (ctlBase + off)
  | _ => s.accIgnored a kind (if kind = 3 then ctlBase + off else off)

/-- A write by an agent of the register at an offset: an absent agent sends nothing; one without the grant is refused;
otherwise `f` performs it, and a session's write is then acknowledged (R349). -/
def State.onWrite (s : State) (a : Agent) (off : Nat) (f : State → State) : State :=
  if !s.present a then s
  else if s.mayWrite a off then
    (match a with
     | .session k => (f s).emit (.ack (s.session k).port k)
     | _ => f s)
  else s.ctlRefuse a 4 3 off

/-- A write by an agent of a register. -/
def State.onReg (s : State) (a : Agent) (r : Reg) (f : State → State) : State := s.onWrite a (Reg.offset r) f

end Sys2Proof.Machine
end

