-- ==== Sys2Proof/Machine/Doorbells.lean ====
section
/-!
DEFINITION. Meanings of the rows DOORBELL to QCTRL_SELECT of 12_commands_and_queues.md.
-/
namespace Sys2Proof.Machine

/-- R335, R528: a write of QDIR.QCTRL selects the queue for the agent that writes it. -/
def State.selectQueue (s : State) (a : Agent) (q : Nat) : State := s.setSelOf a { s.selOf a with queue := q }

/-- R335: a write of QDIR.QCTRL with an action on a queue. -/
def State.qctrl (s : State) (a : Agent) (q : Nat) (f : State → State) : State :=
  if queueOk q then s.onReg a .qdirQctrl fun s => f (s.selectQueue a q) else s

/-- DOORBELL (R300). -/
def execDoorbell (a : Agent) (q : Nat) (v : W32) (s : State) : Outcome :=
  .next (if queueOk q then s.onReg a (.qdirDoorbell q) (·.ringDoorbell q v) else s)

/-- CQ_DOORBELL (R300). -/
def execCqDoorbell (a : Agent) (q : Nat) (v : W32) (s : State) : Outcome :=
  .next (if queueOk q then s.onReg a (.qdirCqDoorbell q) (·.cqRing q v) else s)

/-- ENTRY_FETCH (R301). -/
def execEntryFetch (q : Nat) (s : State) : Outcome := .next (s.fetch q)

/-- ENTRY_REREAD (R302). -/
def execEntryReread (q : Nat) (s : State) : Outcome := .next (s.reread q)

/-- COMPLETION_POST (R308). -/
def execCompletionPost (q : Nat) (s : State) : Outcome := .next (s.post q)

/-- OPEN (R293). -/
def execOpenQueue (a : Agent) (q : Nat) (s : State) : Outcome := .next (s.qctrl a q (·.openQ q))

/-- CLOSE (R293). -/
def execCloseQueue (a : Agent) (q : Nat) (s : State) : Outcome := .next (s.qctrl a q (·.closeQ q))

/-- RELEASE (R328). -/
def execReleaseQueue (a : Agent) (q : Nat) (s : State) : Outcome := .next (s.qctrl a q (·.releaseQ q))

/-- DISCARD (R328). -/
def execDiscardQueue (a : Agent) (q : Nat) (s : State) : Outcome := .next (s.qctrl a q (·.discardQ q))

/-- ABORT_WAIT (R328). -/
def execAbortWait (a : Agent) (q : Nat) (s : State) : Outcome := .next (s.qctrl a q (·.abortWaitQ q))

/-- QCTRL_SELECT (R335). -/
def execQctrlSelect (a : Agent) (q : Nat) (s : State) : Outcome := .next (s.qctrl a q id)

end Sys2Proof.Machine
end

