-- ==== Sys2Proof/Machine/Fec.lean ====
section
/-!
DEFINITION. Frames of a Laulo link and their error correction (14_laulo_links_and_collectives.md, R368, R369): the layout of a frame, its
CRC, and the Reed-Solomon code RS(136,132) over GF(2^8) of its eight interleaves.
-/
namespace Sys2Proof.Machine

/-! ### The field GF(2^8) with x^8 + x^4 + x^3 + x^2 + 1 (R369) -/

/-- A field element times x. -/
def gfDouble (a : Nat) : Nat := if a < 128 then 2 * a else (2 * a) ^^^ 0x11D

/-- The product of two field elements. -/
def gfMul (a b : Nat) : Nat :=
  ((List.range 8).foldl (fun (p : Nat × Nat) k => (if bitOf b k then p.1 ^^^ p.2 else p.1, gfDouble p.2)) (0, a)).1

/-- The power e of x, which generates the field. -/
def gfExp (e : Nat) : Nat := (List.range (e % 255)).foldl (fun a _ => gfDouble a) 1

/-- The inverse of a field element that is not zero: its power 254. -/
def gfInv (a : Nat) : Nat := (List.range 254).foldl (fun p _ => gfMul p a) 1

/-! ### The code RS(136,132) (R369) -/

/-- Root `m` of the generator polynomial; the first of the four consecutive ones is a free value. -/
def rsRoot (m : Nat) : Nat := gfExp (Config.rsFirst + m)

/-- The four coefficients of the generator polynomial below its leading 1, highest first. -/
def rsGenerator : List Nat :=
  ((List.range 4).foldl (fun (g : List Nat) m => ((g ++ [0]).zip (0 :: g)).map fun (x : Nat × Nat) => x.1 ^^^ gfMul (rsRoot m) x.2) [1]).drop 1

/-- The four parity bytes of a word of 132 bytes: the remainder of its polynomial by the generator. -/
def rsParity (data : List Nat) : List Nat :=
  let g := rsGenerator
  data.foldl (fun (r : List Nat) d => ((r.drop 1 ++ [0]).zip g).map fun (x : Nat × Nat) => x.1 ^^^ gfMul (d ^^^ r.headD 0) x.2) [0, 0, 0, 0]

/-- The values of a word's polynomial at the four roots; all zero for a codeword. -/
def rsSyndromes (w : List Nat) : List Nat :=
  (List.range 4).map fun m => w.foldl (fun a d => gfMul a (rsRoot m) ^^^ d) 0

/-- The errors (position, value) in at most the positions of `ps`, one or two, that give these syndromes. -/
def rsErrors (syn : List Nat) (ps : List Nat) : Option (List (Nat × Nat)) :=
  let at' := fun p => gfExp (135 - p)
  let s := fun k => syn.getD k 0
  let unroot := fun (p a : Nat) => gfMul a (gfInv (gfExp ((135 - p) * (Config.rsFirst % 255))))
  match ps with
  | [i] => if s 0 ≠ 0 && (List.range 3).all (fun k => gfMul (s k) (at' i) = s (k + 1)) then some [(i, unroot i (s 0))] else none
  | [i, j] =>
    let a := gfMul (s 1 ^^^ gfMul (s 0) (at' j)) (gfInv (at' i ^^^ at' j))
    let b := s 0 ^^^ a
    let sq := fun x => gfMul x x
    if a ≠ 0 && b ≠ 0 && gfMul a (sq (at' i)) ^^^ gfMul b (sq (at' j)) = s 2 &&
       gfMul a (gfMul (at' i) (sq (at' i))) ^^^ gfMul b (gfMul (at' j) (sq (at' j))) = s 3 then some [(i, unroot i a), (j, unroot j b)]
    else none
  | _ => none

/-- What a decoder that corrects up to two bytes makes of a word: the codeword within two bytes of it, or the word itself when there is
none. -/
def rsCorrect (w : List Nat) : List Nat :=
  let syn := rsSyndromes w
  if syn.all (· = 0) then w
  else
    let ones := (List.range 136).map fun i => [i]
    let twos := (List.range 136).flatMap fun j => (List.range j).map fun i => [i, j]
    match (ones ++ twos).findSome? (rsErrors syn) with
    | some es => es.foldl (fun w e => w.set e.1 (w.getD e.1 0 ^^^ e.2)) w
    | none => w

/-! ### Frames (R368) -/

/-- R369: the lane of a frame byte. -/
def laneOf (b : Nat) : Nat := b / 8 % 8
/-- R369: the interleave of a frame byte. -/
def interleaveOf (b : Nat) : Nat := b % 8

/-- Bytes 0 to 1,051 of a frame. -/
def frameBody (f : LFrame) : Bytes :=
  let tags := (f.flits.zipIdx).foldl (fun n x => n + (x.1.cls % 8 + 8 * b2n x.1.first) <<< (4 * x.2)) 0
  f.flits.flatMap (fun x => sliceBytes x.data 0 64) ++ leBytes 4 f.fseq.toNat ++ leBytes 4 f.ack.toNat ++ leBytes 8 tags ++
    f.credits.flatMap (leBytes 2) ++ leBytes 1 (b2n f.nak + 2 * b2n f.retrain) ++ leBytes 3 0

/-- Bytes 0 to 1,055 of a frame: all that the parity covers. -/
def frameBytes (f : LFrame) : Bytes := frameBody f ++ leBytes 4 f.crc

/-- The bytes of interleave `j` among the bytes of a frame. -/
def interleave (b : Bytes) (j : Nat) : List Nat := (List.range (b.length / 8)).map fun i => (b.getD (8 * i + j) 0).toNat

/-- R369: the parity bytes of a frame: byte 1,056 + 8 p + j is parity byte p of interleave j. -/
def frameParity (f : LFrame) : Bytes :=
  let ps := (List.range 8).map fun j => rsParity (interleave (frameBytes f) j)
  (List.range 32).map fun k => BitVec.ofNat 8 ((ps.getD (k % 8) []).getD (k / 8) 0)

/-- The frame that 1,056 bytes spell. -/
def parseFrame (b : Bytes) : LFrame :=
  { flits := (List.range 16).map fun s =>
      let t := leField b (1032 + s / 2) 1 / 16 ^ (s % 2)
      { cls := t % 8, first := bitOf t 3, data := sliceBytes b (64 * s) 64 },
    fseq := BitVec.ofNat 32 (leField b 1024 4), ack := BitVec.ofNat 32 (leField b 1028 4),
    credits := (List.range 4).map fun c => leField b (1040 + 2 * c) 2, nak := bitOf (leField b 1048 1) 0,
    retrain := bitOf (leField b 1048 1) 1, crc := leField b 1052 4 }

/-- The bytes of a frame with its parity, those of `errs` changed where their masks say. -/
def frameDamaged (f : LFrame) (errs : List (Nat × Byte)) : Bytes :=
  errs.foldl (fun b e => b.set e.1 (b.getD e.1 0 ^^^ e.2)) (frameBytes f ++ frameParity f)

/-- The damaged bytes of a frame that lie in interleaves with more than two of them: these are beyond what R369 corrects. -/
def beyondFec (errs : List (Nat × Byte)) : List (Nat × Byte) :=
  let live := errs.filter fun e => e.2 ≠ 0 && e.1 < 1088
  live.filter fun e => 2 < (live.filter fun x => interleaveOf x.1 = interleaveOf e.1).length

/-- R369: bytes 0 to 1,055 of a frame as the receiver has them after correction: an interleave with at most two damaged bytes is
restored; of any other the decoder makes what it can. -/
def frameCorrected (f : LFrame) (errs : List (Nat × Byte)) : Bytes :=
  let bad := beyondFec errs
  if bad.isEmpty then frameBytes f
  else
    let w := frameDamaged f bad
    let fixed := (List.range 8).map fun j =>
      if bad.any fun e => interleaveOf e.1 = j then rsCorrect (interleave w j) else interleave w j
    (List.range 1056).map fun b => BitVec.ofNat 8 ((fixed.getD (interleaveOf b) []).getD (b / 8) 0)

/-- R369, R370: the receiver corrects a frame and then checks its CRC: the frame as it is accepted, or `none`. -/
def frameReceived (f : LFrame) (errs : List (Nat × Byte)) : Option LFrame :=
  let b := frameCorrected f errs
  if leField b 1052 4 = crc32 (b.take 1052) then some (parseFrame b) else none

/-- A frame with its CRC. -/
def frameSealed (f : LFrame) : LFrame := { f with crc := crc32 (frameBody f) }

end Sys2Proof.Machine
end

