-- ==== Sys2Proof/Machine/Links.lean ====
section
/-!
DEFINITION. The Laulo link (14_laulo_links_and_collectives.md, R370 to R379; training R479): the choice
of flits, acknowledgement and replay, retraining, a link that goes DOWN, forwarding. Log entry 27 lists what the manual leaves
open here.
-/
namespace Sys2Proof.Machine

/-! ### Port state -/

/-- STATE of a port (R401). -/
def State.lauState (s : State) (k : Nat) : Nat := s.fld (LauPortStatus.state k)

/-- Credits of a class that a port holds toward its peer. -/
def LPort.credit (l : LPort) (c : Nat) : Nat := Sparse.get 0 l.credits c

/-- R402: TX_X shows the X credits held. -/
def State.showCredit (s : State) (k : Nat) : State := s.setFld (LauCreditX.txX k) (min 255 ((s.lport k).credit 1))

/-- R375: receive buffers of a class are free again. -/
def State.freeBuffers (s : State) (k cls n : Nat) : State :=
  if k < s.grade.laulo then s.modLport k fun l => { l with freed := Sparse.set 0 l.freed cls (Sparse.get 0 l.freed cls + n) } else s

/-- R375: the receive buffers that a port offers, by class. -/
def initialCredits : List (Nat × Nat) := [(1, 16), (2, 4096), (3, 4096), (4, 256)]

/-! ### A link that goes DOWN (R370, R378, R381) -/

/-- Flits in the order of a class, each with its mark "not acknowledged": those of the frames kept, then those that wait. -/
def LPort.classFlits (l : LPort) (c : Nat) : List (Bool × Bool × Bytes) :=
  (l.sent.flatMap fun f => (f.flits.filter fun x => x.cls = c).map fun x => (serialAtOrAfter f.fseq l.una, x.first, x.data)) ++
    (Sparse.get [] l.txq c).map fun x => (true, x.1, x.2)

/-- The packets of a class of which some flit is not acknowledged: their header flits. -/
def pendingHeaders : List (Bool × Bool × Bytes) → Option (Bool × Bytes) → List Bytes
  | [], some (true, h) => [h]
  | [], _ => []
  | (u, first, d) :: rest, cur =>
    if first then (match cur with | some (true, h) => [h] | _ => []) ++ pendingHeaders rest (some (u, d))
    else pendingHeaders rest (cur.map fun x => (x.1 || u, x.2))

/-- R381: the detail of LINK_LOST for a request. -/
def Req.lostDetail (r : Req) : Nat := linkLostDetail r.dst (r.port % 16)

/-- A request ends without its answer, or with a status that is not OK (R381, R382): the command, generation or restore that
issued it learns of it. `det` is the detector that found it lost (R410): 0x0D where a link went DOWN, 0x0E else. -/
def State.failRequest (s : State) (id status detail det : Nat) : State :=
  match s.requests.find? (·.1 = id) with
  | none => s
  | some (_, r) =>
    let s1 := { s with requests := Sparse.erase s.requests id }
    match r.owner with
    | .flagSet q idx =>
      let running := ((s1.cmd? q idx).map (·.phase)) = some .running
      let s2 := if status = St.linkLost then
          s1.mark status det (if running then some (q, idx) else none) false false else s1
      if running then s2.endCmd q idx status 6 (s2.qCp q) detail else s2
    | .tap => s1.tapFailed id
    | .restore g off => s1.restoreAnswer g off (.inr (status, detail))

/-- R381, R383: a packet of this device is lost, as detector `det` found: what it belongs to completes with LINK_LOST. -/
def State.packetLost (s : State) (det kind : Nat) (h : Packet) (port : Nat) : State :=
  if kind = Pk.write || kind = Pk.readReq || kind = Pk.flag then
    match s.requests.find? (·.1 = h.reqId) with
    | some (_, r) => s.failRequest h.reqId St.linkLost r.lostDetail det
    | none => s
  else if kind = Pk.stream then s.fabricError St.linkLost det port (linkLostDetail h.dst port) port false
  else if kind = Pk.collData || kind = Pk.collAbort then
    match s.coll? (h.addr % 2 ^ 32) (BitVec.ofNat 32 h.step) with
    | some c => s.collLost c det h.dst port
    | none => s
  else s

/-- R378: entries whose PRI port went DOWN take their ALT port when that is UP. -/
def State.reroute (s : State) (k : Nat) : State :=
  (List.range 64).foldl (fun s i =>
    if s.fld (LauRoute.pri i) = k && s.lauUp (s.fld (LauRoute.alt i)) then
      s.setFld (LauRoute.useAlt i) 1 else s) s

/-- A port goes DOWN: its packets that the link has not acknowledged are discarded. `failed` tells a failure (R370) from a port
that software takes down (R479). -/
def State.linkDown (s : State) (k : Nat) (failed : Bool) : State :=
  let l := s.lport k
  let was := s.lauState k
  let s1 := ((s.setFld (LauPortStatus.state k) 0).setLport k { txSeq := l.txSeq }).setFld (LauCreditX.txX k) 0
  let s2 := if was = 2 || was = 3 then s1.setFld (LauPortStatus.lostEvent k) 1 else s1
  let s3 := if failed then (s2.detect 0x0D St.linkLost none k false).event 0x09 k else s2
  let lost := ([1, 2, 3, 4] : List Nat).flatMap fun c => (pendingHeaders (l.classFlits c) none).map fun h => parsePacket c h []
  ((lost.filter fun (p : Packet) => p.src = s.pos).foldl (fun s p => s.packetLost 0x0D p.kind p k) (s3.reroute k)).evalFlags

/-- R370: the link retrains; the fourth retrain within 1 s takes it DOWN. -/
def State.retrain (s : State) (k : Nat) : State :=
  let now := s.timer
  let recent := ((s.lport k).retrains.filter fun t => now < t + 100000000) ++ [now]
  let s1 := (s.modLport k fun l => { l with retrains := recent, replays := 0 }).count 0x017 k 1
  let s2 := { s1 with health := { s1.health with n3 := s1.health.n3 + 64 } }
  if 4 ≤ recent.length then s2.linkDown k true else s2.setFld (LauPortStatus.state k) 3

/-! ### Sending (R370, R374) -/

/-- R374: class X may take this slot. -/
def LPort.xReady (l : LPort) : Bool :=
  !(Sparse.get [] l.txq 1).isEmpty && 0 < l.credit 1 && !(l.lastX.any id)

/-- Weight of class C, B or M (R400). -/
def State.weight (s : State) (k c : Nat) : Nat :=
  if c = 2 then s.fld (LauPortCfg.wC k) else if c = 3 then s.fld (LauPortCfg.wB k) else s.fld (LauPortCfg.wM k)

/-- R374: the class of C, B and M that takes a slot, of those with a flit and a credit, and the standings of their shares after it; one of
weight 0 takes only a slot that no other claims (log entry 27). -/
def LPort.shared (l : LPort) (w : Nat → Nat) : Option (Nat × List (Nat × Int)) :=
  shareTurn w l.share (([2, 3, 4] : List Nat).filter fun c => !(Sparse.get [] l.txq c).isEmpty && 0 < l.credit c)

/-- An idle slot (R368). -/
def idleFlit : Flit := { cls := 0, first := false, data := List.replicate 64 0 }

/-- Take the next flit of a class, or an idle slot for class 0. -/
def LPort.take (l : LPort) (c : Nat) : Flit × LPort :=
  match Sparse.get [] l.txq c with
  | (first, d) :: rest =>
    ({ cls := c, first, data := d },
     { l with txq := Sparse.set [] l.txq c rest, credits := Sparse.set 0 l.credits c (l.credit c - 1),
              lastX := (l.lastX ++ [decide (c = 1)]).drop (l.lastX.length - 2) })
  | [] => (idleFlit,
           { l with lastX := (l.lastX ++ [false]).drop (l.lastX.length - 2) })

/-- R374: the flits of `n` slots. -/
def LPort.slots (w : Nat → Nat) : Nat → LPort → List Flit × LPort
  | 0, l => ([], l)
  | n + 1, l =>
    let c := if l.xReady then (1, l.share) else (l.shared w).getD (0, [])
    let x := ({ l with share := c.2 } : LPort).take c.1
    let r := LPort.slots w n x.2
    (x.1 :: r.1, r.2)

/-- Frames sent that the peer has not acknowledged. -/
def LPort.unacked (l : LPort) : Nat := (l.txSeq - l.una).toNat

/-- R27, R368: the flits of a new frame. With 256 frames unacknowledged the link holds its data back and the frame is idle
(log entry 27). -/
def LPort.fill (w : Nat → Nat) (l : LPort) : List Flit × LPort :=
  if 256 ≤ l.unacked then (List.replicate 16 idleFlit, l) else LPort.slots w 16 l

/-- R368, R370: a new frame. The last 256 frames are kept, and every one that is not acknowledged. -/
def State.sendNew (s : State) (k : Nat) : State :=
  let l := s.lport k
  let r := l.fill (s.weight k)
  let f : LFrame := frameSealed
    { flits := r.1, fseq := l.txSeq, ack := l.rxSeq - 1, credits := ([1, 2, 3, 4] : List Nat).map fun c => min 65535 (Sparse.get 0 l.freed c),
      nak := l.nak, retrain := false, crc := 0 }
  let keep := (r.2.sent ++ [f]).drop (r.2.sent.length + 1 - max 256 (l.unacked + 1))
  (((s.setLport k { r.2 with txSeq := l.txSeq + 1, freed := Sparse.update 0 (fun _ n => n - min 65535 n) l.freed, sent := keep }).emit
    (.lauloFrame k f (frameParity f)))).showCredit k

/-- R370: the next frame of a replay; the eighth replay of the oldest frame asks for a retrain. -/
def State.sendReplay (s : State) (k : Nat) (n : W32) : State :=
  let l := s.lport k
  let count := if n = l.una then l.replays + 1 else l.replays
  let give := n = l.una && 8 ≤ count
  match l.sent.find? fun f => f.fseq = n with
  | none => s.modLport k fun l => { l with replayDue := none }
  | some f =>
    let g := frameSealed { f with ack := l.rxSeq - 1, nak := l.nak, retrain := give }
    let next := if n + 1 = l.txSeq then none else some (n + 1)
    let s1 := ((s.modLport k fun l => { l with replays := count, replayDue := next }).emit (.lauloFrame k g (frameParity g))).count 0x016 k 1
    let s2 := { s1 with health := { s1.health with n3 := s1.health.n3 + 1 } }
    if give then s2.retrain k else s2

/-- LAULO_FRAME_SEND (R368, R370, R374). -/
def State.doFrameSend (s : State) (k : Nat) : State :=
  if s.lauUp k then
    match (s.lport k).replayDue with
    | some n => s.sendReplay k n
    | none => s.sendNew k
  else s

/-! ### Receiving (R370, R373, R377 to R379) -/

/-- R379: the LOST that answers a discarded packet; it echoes STEP_TAG and ADDR, and its ARG holds the position of the device,
the packet's kind and its DST (log entry 30). -/
def State.answerLost (s : State) (p : Packet) : State :=
  let r : Packet := { cls := Pk.classM, kind := Pk.lost, hops := s.fld LauCtrl.hopInit, dst := p.src, src := s.pos, step := p.step,
                      domain := p.domain, reqId := p.reqId, addr := p.addr, arg := leBytes 4 s.pos ++ leBytes 1 p.kind ++ leBytes 3 0 ++ leBytes 4 p.dst }
  if p.kind = Pk.lost then s
  else if p.src = s.pos then { s with inbox := s.inbox ++ [(15, r)] }
  else if s.lauUp (s.egress p.src) then s.sendOn (s.egress p.src) r else s

/-- R376: traffic between two ports of different port dies passes the mesh; what its flits meet at the routers belongs to nobody. -/
def State.crossing (s : State) (k out : Nat) : State := if k / 4 = out / 4 then s else s.meshPass .nobody (crossRoute k)

/-- R379: a packet for another device goes on, or is discarded and answered. -/
def State.forward (s : State) (k : Nat) (p : Packet) : State :=
  let out := s.egress p.dst
  let f := s.fire 0x0E k fun _ => true
  if f.1.isSome || p.hops = 0 || (s.routeEntry p.dst).isNone || !s.lauUp out then
    (((f.2.detect 0x0E St.linkLost none k f.1.isSome).mark St.linkLost 0x0E none false f.1.isSome).hopDrop k).answerLost p
  else (s.crossing k out).sendOn out { p with hops := p.hops - 1 }

/-- R373, R377, R378: a whole packet has been received at a port. A packet that is served here keeps its receive buffers until it
is served. -/
def State.receivePacket (s : State) (k : Nat) (p : Packet) : State :=
  let flits := 1 + p.payFlits
  if p.reserved then (s.count 0x018 k 1).freeBuffers k p.cls flits
  else if p.dst = noPos || (s.pos ≠ noPos && p.dst = s.pos) then { s with inbox := s.inbox ++ [(k, p)] }
  else if s.pos = noPos then (s.count 0x018 k 1).freeBuffers k p.cls flits
  else (s.forward k p).freeBuffers k p.cls flits

/-- A flit received: the packet of its class grows, and is received when it is whole. -/
def State.receiveFlit (s : State) (k : Nat) (x : Flit) : State :=
  if x.cls = 0 || 4 < x.cls then s
  else
    let l := s.lport k
    let cur := if x.first then [x.data] else Sparse.get [] l.rx x.cls ++ [x.data]
    match cur with
    | h :: pay =>
      if x.first || !(Sparse.get [] l.rx x.cls).isEmpty then
        if pay.length = leField h 2 2 then
          (s.modLport k fun l => { l with rx := Sparse.set [] l.rx x.cls [] }).receivePacket k (parsePacket x.cls h pay)
        else s.modLport k fun l => { l with rx := Sparse.set [] l.rx x.cls cur }
      else s
    | [] => s

/-- R370: acknowledgement, credits and NAK of an accepted frame. -/
def LPort.control (l : LPort) (f : LFrame) : LPort :=
  let una := if serialAfter (f.ack + 1) l.una then f.ack + 1 else l.una
  let due := match l.replayDue with
    | some n => if serialBefore n una then (if una = l.txSeq then none else some una) else some n
    | none => if f.nak && una ≠ l.txSeq then some una else none
  { l with una, replays := if una = l.una then l.replays else 0, replayDue := due, nak := false, rxSeq := l.rxSeq + 1,
           credits := (f.credits.zipIdx 1).foldl (fun m x => Sparse.set 0 m x.2 (Sparse.get 0 m x.2 + x.1)) l.credits }

/-- R370: an accepted frame: its control fields, its flits, its request to retrain. -/
def State.acceptFrame (s : State) (k : Nat) (f : LFrame) : State :=
  let s1 := (s.modLport k fun l => l.control f).showCredit k
  let s2 := f.flits.foldl (fun s x => s.receiveFlit k x) s1
  if f.retrain then s2.retrain k else s2

/-- LAULO_FRAME_RECEIVE (R369, R370): a frame of the peer with the byte errors that the lanes put into it. An injected flip is
within what R369 corrects. -/
def State.doFrameReceive (s : State) (k : Nat) (f : LFrame) (errs : List (Nat × Byte)) : State :=
  if s.lauUp k then
    let s0 := (s.fire 0x0D k fun _ => true).2
    match frameReceived f errs with
    | none => (s0.detect 0x0D 0 none k false).modLport k fun l => { l with nak := true }
    | some g => if g.fseq = (s0.lport k).rxSeq then s0.acceptFrame k g else s0.modLport k fun l => { l with nak := true }
  else s

/-! ### Training (R479) and failures of the lanes -/

/-- Setting ENABLE trains a port. -/
def State.enablePort (s : State) (k : Nat) : State :=
  let s1 := s.setFld (LauPortCfg.enable k) 1
  if s1.lauState k = 0 then s1.setFld (LauPortStatus.state k) 1 else s1

/-- Clearing ENABLE takes a port DOWN at once. -/
def State.disablePort (s : State) (k : Nat) : State :=
  let s1 := s.setFld (LauPortCfg.enable k) 0
  if s1.lauState k = 0 then s1 else s1.linkDown k false

/-- LINK_ENABLE (R479 step 1). -/
def State.doLinkEnable (s : State) (a : Agent) (k : Nat) : State :=
  if k < s.grade.laulo then s.onReg a (.lauPortCfg k) fun s => s.enablePort k else s

/-- LINK_DISABLE (R479). -/
def State.doLinkDisable (s : State) (a : Agent) (k : Nat) : State :=
  if k < s.grade.laulo then s.onReg a (.lauPortCfg k) fun s => s.disablePort k else s

/-- LINK_TRAINING_COMPLETE (R479 steps 2 to 4): positions, initial credits and FSEQ are exchanged. A retrained link keeps its
frames and replays those not acknowledged. -/
def State.doTrained (s : State) (k peer cable fseq : Nat) : State :=
  if k < s.grade.laulo && s.lauState k = 1 then
    let s1 := (s.setFld (LauPortStatus.peer k) peer).setFld (LauPortStatus.cableNs k) cable
    ((s1.setLport k { txSeq := (s.lport k).txSeq, una := (s.lport k).txSeq, rxSeq := BitVec.ofNat 32 fseq,
                      credits := initialCredits }).setFld (LauPortStatus.state k) 2).showCredit k
  else if k < s.grade.laulo && s.lauState k = 3 then
    (s.modLport k fun l => { l with replayDue := if l.una = l.txSeq then none else some l.una }).setFld (LauPortStatus.state k) 2
  else s

/-- LINK_TRAINING_RETRY (R479): step 2 is not reached in 100 ms, and training starts again. -/
def State.doTrainRetry (s : State) (k : Nat) : State :=
  if k < s.grade.laulo && s.lauState k = 1 then s.setLport k { txSeq := (s.lport k).txSeq } else s

/-- LANE_LOCK_LOSS (R442): the lanes are gone, and the link goes DOWN. -/
def State.doLaneLoss (s : State) (k : Nat) : State :=
  if k < s.grade.laulo && (s.lauState k = 2 || s.lauState k = 3) then s.linkDown k true else s

/-- RETRAIN_FAILURE (R370): a retrain does not bring the link back in 2 ms. -/
def State.doRetrainFailure (s : State) (k : Nat) : State :=
  if k < s.grade.laulo && s.lauState k = 3 then s.linkDown k true else s

/-! ### Route entries (R398) -/

/-- R398: a port value of a route entry that the grade has: a port, or 15 for none. -/
def State.routePortOk (s : State) (v : Nat) : Bool := v < s.grade.laulo || v = 15

/-- A value of LAU.ROUTE[i] written: ignored with a port that the grade lacks. -/
def State.writeRoute (s : State) (i : Nat) (v : Nat) : State :=
  if s.routePortOk (bitsOf v 7 4) && s.routePortOk (bitsOf v 3 0) then s.setReg (.lauRoute i) (putBits v 13 8 0) else s

/-- ROUTE_WRITE (R398, R378). -/
def State.doRouteWrite (s : State) (a : Agent) (i : Nat) (v : W64) : State :=
  if i < 64 then
    s.onReg a (.lauRoute i) fun s => s.writeRoute i v.toNat
  else s

/-- LAULO_FRAME_RECEIVE (R370). -/
def execLauloFrameReceive (port : Nat) (frame : LFrame) (errs : List (Nat × Byte)) (s : State) : Outcome :=
  .next (s.doFrameReceive port frame errs)
/-- LAULO_FRAME_SEND (R374). -/
def execLauloFrameSend (port : Nat) (s : State) : Outcome := .next (s.doFrameSend port)
/-- LINK_ENABLE (R479). -/
def execLinkEnable (a : Agent) (k : Nat) (s : State) : Outcome := .next (s.doLinkEnable a k)
/-- LINK_DISABLE (R479). -/
def execLinkDisable (a : Agent) (k : Nat) (s : State) : Outcome := .next (s.doLinkDisable a k)
/-- LINK_TRAINING_COMPLETE (R479). -/
def execLinkTrainingComplete (k peer cableNs fseq : Nat) (s : State) : Outcome := .next (s.doTrained k peer cableNs fseq)
/-- LINK_TRAINING_RETRY (R479). -/
def execLinkTrainingRetry (k : Nat) (s : State) : Outcome := .next (s.doTrainRetry k)
/-- LANE_LOCK_LOSS (R442). -/
def execLaneLockLoss (k : Nat) (s : State) : Outcome := .next (s.doLaneLoss k)
/-- RETRAIN_FAILURE (R370). -/
def execRetrainFailure (k : Nat) (s : State) : Outcome := .next (s.doRetrainFailure k)
/-- ROUTE_WRITE (R398). -/
def execRouteWrite (a : Agent) (i : Nat) (v : W64) (s : State) : Outcome := .next (s.doRouteWrite a i v)

end Sys2Proof.Machine
end

