-- ==== Sys2Proof/Machine/Resets.lean ====
section
/-!
DEFINITION. Start-up, the losses of the inputs and the resets (18_power_start_up_and_self_test.md, R470 to R478;
22_module_physical.md, R549): what each reset kind keeps and loses, and the rows that cause them.
-/
namespace Sys2Proof.Machine

/-! ### Shared parts -/

/-- R473, R547: the module enters a state; an in-band interrupt tells of a change. -/
def State.setPwr (s : State) (v : Nat) : State :=
  let s1 := s.setFld PwrStatus.state v
  if s.fld PwrStatus.state = v then s1 else s1.raiseIbi 2

/-- R473: the state of the module. -/
def State.pwr (s : State) : Nat := s.fld PwrStatus.state

/-- R542: PWR_GOOD is released (high) in RAILS, INIT and READY. -/
def State.pwrGood (s : State) : Bool := s.pwr = 2 || s.pwr = 3 || s.pwr = 4

/-- R472: the generated rails are up: RAILS, INIT, READY, or a FAULT that left them on (R475). -/
def State.railsUp (s : State) : Bool := s.railMv ≠ 0

/-- R476, R490: PWR.RESET_CAUSE records the last reset. -/
def State.recordReset (s : State) (kind cause die : Nat) : State :=
  let n := satAdd 16 (s.fld PwrResetCause.count) 1
  (((s.setFld PwrResetCause.count n).setFld PwrResetCause.kind kind).setFld PwrResetCause.cause cause).setFld PwrResetCause.die die

/-- R505: the unlock ends: its scope is 0, every injection is disarmed, and the nonce takes a new value. -/
def State.endUnlock (s : State) : State :=
  let s1 := ((s.setFld SecStatus.scope 0).setFld InjStatus.unlocked 0).setFld InjStatus.armed 0
  { s1 with injections := [], nonceDraw := s.draws, draws := s.draws + 1 }

/-- Every register whose offset lies in [lo, hi) takes its reset value. -/
def State.resetRegs (s : State) (lo hi : Nat) : State := { s with regs := s.regs.filter fun e => !(lo ≤ e.1 && e.1 < hi) }

/-! ### Fabric reset (R477, R478) -/

/-- R477 step 1: every queue is closed without a completion; the other device fields of its context keep their values, and
what a completed command still has to write is written (log entry 36). -/
def State.closeAll (s : State) : State :=
  let s1 := s.settle fun _ => true
  s1.openQueues.foldl (fun s q => s.setQState q 0 0) { s1 with queues := [] }

/-- R477 step 1: the version state of home pages outside the scratchpads: a commit walk under way is completed; otherwise P is
cleared and V kept, and the shadow is unspecified as after an abandon. The scratchpads hold no page any more. -/
def State.settleVersions (s : State) : State :=
  let f := fun (page : Nat) (v : Version) =>
    if spBase / 131072 ≤ page then ({} : Version)
    else if !v.p then v
    else if s.walk = .commit then { v with v := !v.v, p := false }
    else { v with p := false, loose := true }
  ({ s with ver := Sparse.update {} f s.ver, walk := .none }).setFld HbmUpdStatus.walk 0

/-- R477 step 1, R478: the step in progress ends without a record; COMMITTED_VALID is 0; RESTORE_FAIL stays. -/
def State.dropStep (s : State) : State :=
  let s1 := if s.inStep then s.govDiscard else s
  let s2 := (((s1.setFld QdirStepStatus.inProgress 0).setFld QdirStepStatus.noCommit 0).setFld QdirStepStatus.closing 0).setFld
    QdirStepStatus.committedValid 0
  { s2 with step := {}, activated := [], waitReads := [] }

/-- R478: the fabric holds nothing: slots EMPTY, no image, unclaimed, windows closed, cores at their reset values, scratchpads
and accumulators zero, collectives and kept contributions gone. -/
def State.clearFabric (s : State) : State :=
  let s1 := (((s.resetRegs 0x200000 0x600000).resetRegs 0x100100 0x100140).resetRegs 0x100000 0x100018).resetRegs 0x60000 0x60008
  let s2 := ((s1.setFld FabDomCtl.claimed 0).setFld FabDomCtl.domain 0).setFld FabDomCtl.busy 0
  let s3 := (s2.clearRaw spBase (s.grade.cores * 2097152)).setFld GlbRecovStatus.replaying 0
  { s3 with slots := [], acts := [], image := none, cores := [], routes := [], live := [], seg := none, segDead := false,
            ckpt := [], selftest := none, colls := [], early := [], kept := [], adopting := none, restore := none,
            snapDisarm := none, actLog := List.replicate 48 0,
            badWords := s3.badWords.filter fun w => w.1 < spBase }

/-- R477 step 2, R381: every session is released; every UP port retrains, what it has not had acknowledged is discarded. -/
def State.resetLinks (s : State) : State :=
  let s1 := { s with sessions := Sparse.update {} (fun _ x => { gen := x.gen, port := x.port }) s.sessions }
  let up := (List.range s.grade.laulo).filter s.lauUp
  up.foldl (fun s k =>
    let mine := s.requests.filter fun r => r.2.port % 16 = k
    let s1 := mine.foldl (fun s r => s.failRequest r.1 St.linkLost r.2.lostDetail 0x0D) s
    (s1.modLport k fun l => { l with sent := [], una := l.txSeq, txq := [], replayDue := none }).retrain k) s1

/-- R477 step 4, R63, R480: start-up calibration, then the self-test of every physical core, whose failures are recorded before
the mapping is set again. -/
def State.testPhysical (s : State) (fails : List (Nat × Nat)) : State :=
  let s1 := { s with taps := [], calDraw := s.paceDraws, paceDraws := s.paceDraws + 1 }
  let bad := fails.filter fun x => x.1 < s.grade.rows && x.2 ≤ 16
  let s2 := bad.foldl (fun s x => s.recordCol x.1 x.2) s1
  if bad.isEmpty then s2 else s2.setRows

/-- R477, R478: what a fabric reset does. -/
def State.fabricEffects (s : State) (fails : List (Nat × Nat)) : State :=
  let s1 := ((s.snapAbandon.closeAll).settleVersions).dropStep
  let s2 := (s1.clearFabric.resetLinks).endUnlock
  let s3 := ({ s2 with carts := Sparse.update {} (fun _ c => { c with lastTouch := 0 }) s2.carts }).setFld CxlAgeClock.count 0
  (s3.setRows.testPhysical fails).snapRefresh

/-- R476, R489: a fabric reset with its cause, made only in READY (log entry 36). -/
def State.fabricReset (s : State) (cause : Nat) (fails : List (Nat × Nat)) : State :=
  if s.pwr = 4 then
    (((s.setPwr 3).fabricEffects fails).recordReset 1 cause 0).setPwr 4
  else s

/-! ### Module and power-on resets (R476, R478) -/

/-- R478: the flash records of a row of FAB.SPARE: REQ_COL, REQ_HW and CAND2. -/
def spareRecord (v : Nat) : Nat := putBits (putBits (putBits 16 12 8 (bitsOf v 12 8)) 18 18 (bitsOf v 18 18)) 15 15 (bitsOf v 15 15)

/-- R478: what a reset with the rails removed leaves of the registers: those a test names, and the flash records. -/
def State.lostRegs (s : State) (keep : Nat → Bool) : State :=
  let s1 := { s with regs := s.regs.filter fun e => keep e.1 }
  (List.range s.grade.rows).foldl (fun t n => t.setReg (.fabSpare n) (spareRecord (s.reg (.fabSpare n)))) s1

/-- R476, R478: the rails go, and with them HBM, the fabric and every link; `keep` names the registers that stay. -/
def State.railsOff (s : State) (keep : Nat → Bool) : State :=
  let r := State.reset
  let s1 := s.lostRegs keep
  { s1 with capsValid := false, rowFailed := false, sel := [], partnerHeld := [], mem := [], carts := [], ver := [], walk := .none,
            migrations := [], oldFrames := [], lostFrames := [], cxlPorts := [], hbmReady := false, pendingWrites := [], badWords := [], queues := [],
            served := [], serial := 0, step := {}, attempts := [], recNext := 0, logNext := 0,
            sessions := Sparse.update {} (fun _ x => { gen := x.gen, port := x.port }) s.sessions, counters := [], teleSeq := 0, teleLost := false,
            slots := [], acts := [], image := none, activated := [], cores := [], routes := [], live := [], nextTok := 0, seg := none,
            segDead := false, ckpt := [], selftest := none, spareNext := 0, lports := [], inbox := [], requests := [], nextReq := 0,
            waitReads := [], colls := [], early := [], kept := [], adopted := [], adopting := none, snapArm := none, snapNext := none,
            gens := [], snapDisarm := none, restore := none, genKeys := [], cxlDone := false, railMv := 0, droop := [], taps := [],
            dieTemp := [], stackTemp := [], health := r.health, actLog := r.actLog, perstLow := true,
            i3c := { s.i3c with ringArmed := true } }

/-- R478, R486, R490: the registers that a module reset keeps: the last detection and access record, the PWR block (HOLD_OFF,
the measurements and the count of resets), the SEC block, which the boot has set, and TEL.INTERVAL_CNT. -/
def keptByModule (off : Nat) : Bool :=
  off = 0x8 || off = 0x110 || (0x10000 ≤ off && off < 0x20000) || (0x30000 ≤ off && off < 0x40000) || off = 0x40000

/-- R474 step 6, R472, R488: with the inputs and the clocks there, and unless HOLD_OFF holds it after one of the causes 0x05 to
0x08, the module starts its rails, the core rails at the reset value of PACE.VSET; HELD shows a start-up that waits for HOLD_OFF. -/
def State.tryStart (s : State) : State :=
  let can := s.auxOk && s.mainOk && s.refclk && s.pwr = 1
  let cause := s.fld PwrResetCause.cause
  let hold := s.flag PwrCtrl.holdOff && 5 ≤ cause && cause ≤ 8
  let s1 := s.setFld PwrStatus.held (b2n (can && hold))
  if can && !hold then ({ s1 with railMv := 750, perstLow := false }).setPwr 2 else s1

/-- R476, R478: a module reset: the rails are removed, what is volatile is lost, and the module is in `state`. -/
def State.moduleLoss (s : State) (cause die state : Nat) : State :=
  (((s.endUnlock.railsOff keptByModule).recordReset 2 cause die).setFld PwrStatus.held 0).setPwr state

/-- R475: start-up ended because no firmware bank verifies. -/
def State.noFirmware (s : State) : Bool := s.pwr = 5 && s.fld PwrResetCause.cause = 0x0A

/-- R476: a module reset, which starts again at step 5 (R472); a module that cools goes on cooling, and one without firmware
stays in FAULT (log entry 36). -/
def State.moduleReset (s : State) (cause : Nat) : State :=
  if s.noFirmware then s else (s.moduleLoss cause 0 (if s.pwr = 6 then 6 else 1)).tryStart

/-- R502: the boot check of the LMS state: Q and whether flash is behind the fuses. -/
def lmsBoot (q f : Nat) : Nat × Bool :=
  if (f = 0 && q ≠ 0) || (0 < f && (q < (f - 1) * 4096 || f * 4096 < q)) then (f * 4096, true) else (q, false)

/-- R495: the security version of an image's signature block. -/
def FwImage.svn (im : FwImage) : Nat := leField im.block 5 1

/-- R495: BODY_HASH of an image's signature block. -/
def FwImage.bodyHash (im : FwImage) : Bytes := sliceBytes im.block 16 48

/-- R496: an image verifies against the fuses: MAGIC and the reserved bytes, the hashes of the signer's keys, both signatures, BODY_HASH
over the BODY_LEN bytes of the body, and the security version. -/
def FwImage.verifies (f : Fuses) (im : FwImage) : Bool :=
  let b := im.block
  let ecdsaPub := sliceBytes b 128 97
  let lmsPub := sliceBytes b 225 48
  b.length = 2109 && leField b 0 4 = 0x47535751 && zeroField b 6 2 && zeroField b 64 64 &&
    sha384 ecdsaPub ++ sha384 lmsPub = f.fwKeyHash &&
    Config.ecdsaVerifies ecdsaPub (sliceBytes b 0 128) (sliceBytes b 273 96) &&
    Config.lmsVerifies lmsPub (sliceBytes b 0 128) (sliceBytes b 369 1740) &&
    im.body.length = leField b 8 4 && sha384 im.body = im.bodyHash && f.svn ≤ im.svn

/-- R496: the SVN of a bank, that of its module controller image. -/
def Bank.svn (b : Bank) : Nat := b.mc.svn

/-- R496: a bank verifies: both of its images do, and they carry the same SVN. -/
def State.bankOk (s : State) (b : Bank) : Bool := b.mc.verifies s.fuses && b.cp.verifies s.fuses && b.mc.svn = b.cp.svn

/-- R496: the bank that boots, with whether the other was tried first; `none` when neither verifies. -/
def State.bootBank (s : State) : Option (Nat × Bool) :=
  let first := if s.flash.bank0.svn < s.flash.bank1.svn then 1 else 0
  let bank := fun k => if k = 0 then s.flash.bank0 else s.flash.bank1
  if s.bankOk (bank first) then some (first, false)
  else if s.bankOk (bank (1 - first)) then some (1 - first, true)
  else none

/-- R503: the keys of an authority check against its fused hashes. -/
def authOk (keys hash : Bytes) : Bool :=
  keys.length = 145 && hash ≠ List.replicate 96 0 && sha384 (keys.take 97) ++ sha384 (keys.drop 97) = hash

/-- R474 step 3, R496, R502, R503, R506: the boot of the module controller. -/
def State.boot (s : State) : State :=
  let l := lmsBoot s.flash.q s.fuses.lmsBlocks
  let s0 := { s with flash := { s.flash with q := l.1 } }
  let s1 := (s0.setFld SecStatus.lmsRollback (b2n l.2)).setFld SecStatus.lmsExhausted (b2n (l.1 = 1048576))
  let s2 := (s1.setFld SecStatus.ownerAuth (b2n (authOk s.flash.ownerKeys s.fuses.ownerHash))).setFld SecStatus.vendorAuth
    (b2n (authOk s.flash.vendorKeys s.fuses.vendorHash))
  let s3 := ((s2.setFld SecStatus.svnFuse s.fuses.svn).setFld SecLmsState.blocks s.fuses.lmsBlocks).setFld SecLmsState.nextLeaf l.1
  match s.bootBank with
  | some (k, other) =>
    let b := if k = 0 then s.flash.bank0 else s.flash.bank1
    (((s3.setFld SecStatus.bank k).setFld SecStatus.svnRun b.svn).setFld SecStatus.fallback (b2n other)).setPwr 1
  | none => (s3.setFld PwrResetCause.cause 0x0A).setPwr 5

/-- R472, R478: the module is OFF: everything volatile is lost, the module controller with it. -/
def State.powerOff (s : State) : State :=
  let s1 := s.endUnlock.railsOff fun _ => false
  { s1 with auxOk := false, mainOk := false, refclk := false, mgmtLink := false, sessions := [], spdm := {}, i3c := {}, thermLow := false }

/-- POWER_ON_RESET (R476, R474 steps 1 to 4): the auxiliary input is applied to a module that is OFF. -/
def State.doPowerOn (s : State) (slotId : Nat) : State :=
  if s.auxOk then s
  else (({ s.powerOff with auxOk := true, slotId := slotId % 8 } : State).boot).tryStart

/-! ### The rows of start-up (R474, R549) -/

/-- MAIN_START (R474 step 5): the main input has been above the start threshold, at least 39.5 V (R470), for 10 ms. -/
def State.doMainStart (s : State) (vin : Nat) : State :=
  if s.auxOk && !s.mainOk && 3950 ≤ vin then
    (((({ s with mainOk := true } : State).setFld PwrStatus.mainOk 1).setFld PwrStatus.vin10mv (min 65535 vin))).tryStart
  else s

/-- REFCLK_VALID (R549, R474 step 4): both clocks have met their limits for 1 ms; the management Ethernet answers. -/
def State.doRefclkValid (s : State) : State :=
  if s.auxOk then ({ s with refclk := true, mgmtLink := true } : State).tryStart else s

/-- R474 steps 7 to 9: the fabric reset of start-up begins once memories are there. -/
def State.tryInit (s : State) : State := if s.pwr = 2 && s.hbmReady && s.cxlDone then s.setPwr 3 else s

/-- HBM_TRAINING_COMPLETE (R474 step 7, R475): every frame is zero; a stack that failed three times is a FAULT. -/
def State.doHbmTrained (s : State) (failures : Nat) : State :=
  if s.pwr = 2 && !s.hbmReady then
    if 3 ≤ failures then (s.setFld PwrResetCause.cause 0x09).setPwr 5
    else ({ s with hbmReady := true, mem := [] } : State).tryInit
  else s

/-- R256: a port's device with a capacity in GiB, of which `frames` frames are within the allowance of 4 TiB. -/
def State.setCxl (s : State) (p gib frames : Nat) : State :=
  if gib = 0 then s
  else
    let s1 := { s with cxlPorts := Sparse.set {} s.cxlPorts p { frames, present := true } }
    ((s1.setFld (CxlPortStatus.up p) 1).setFld (CxlPortStatus.width p) 16).setFld (CxlPortStatus.capGib p) (frames / 16384)

/-- CXL_TRAINING_COMPLETE (R474 step 8, R256): an absent device is no fault (R475). -/
def State.doCxlTrained (s : State) (gib0 gib1 : Nat) : State :=
  if s.pwr = 2 && !s.cxlDone then
    let f0 := min (gib0 * 16384) 67108864
    let f1 := min (gib1 * 16384) (67108864 - f0)
    ((({ s with cxlDone := true } : State).setCxl 0 gib0 f0).setCxl 1 gib1 f1).tryInit
  else s

/-- READY (R474 steps 9 and 10): the fabric reset of start-up completes; the capability table is valid. A setpoint that was written
while the rails were off holds from here on (R26, R474 step 6; DESIGN CHOICE, log entry 36). -/
def State.doReady (s : State) (fails : List (Nat × Nat)) : State :=
  if s.pwr = 3 then
    ({ s.fabricEffects fails with capsValid := true, railMv := s.fld PaceVset.vsetMv } : State).setPwr 4
  else s

/-! ### Losses (R472, R549) and requested resets (R488, R489) -/

/-- AUX_LOST (R472). -/
def State.doAuxLost (s : State) : State := if s.auxOk then s.powerOff else s

/-- MAIN_UNDERVOLTAGE (R472): the rails go; without rails the input is only no longer there. -/
def State.doUndervoltage (s : State) : State :=
  if s.auxOk && s.mainOk then
    let s1 := ({ s with mainOk := false } : State).setFld PwrStatus.mainOk 0
    if s.railsUp then s1.moduleReset 0x05 else s1.tryStart
  else s

/-- MAIN_OVERVOLTAGE (R472). -/
def State.doOvervoltage (s : State) : State := if s.auxOk && s.railsUp then s.moduleReset 0x06 else s

/-- REGULATOR_FAULT (R472). -/
def State.doRegulator (s : State) : State := if s.auxOk && s.railsUp then s.moduleReset 0x08 else s

/-- REFCLK_LOSS (R549): the management Ethernet takes its clock from one of them (log entry 20). -/
def State.doRefclkLoss (s : State) : State :=
  if s.auxOk && s.refclk then
    let s1 := ({ s with refclk := false, mgmtLink := false } : State)
    if s.railsUp then s1.moduleReset 0x0B else s1.endUnlock.tryStart
  else s

/-- R546: WRITE_REG does not reach PWR.RESET_CTRL: the module controller makes resets with its own commands. -/
def State.onResetCtrl (s : State) (a : Agent) (f : State → State) : State :=
  if a = .modctl then s else s.onReg a .pwrResetCtrl f

/-- R36, R476: a junction has reached 105 °C: the core rail is removed, THERM_N is asserted, the module is COOLING. -/
def State.trip (s : State) (die : Nat) (inj : Bool) : State :=
  if s.railsUp && die < s.grade.dies then
    (({ (s.detect 0x08 0 none die inj).moduleLoss 0x07 die 6 with thermLow := true } : State)).raiseIbi 3
  else s

/-- COOLING_END (R476, R472): every die reads 85 °C or less. -/
def State.doCoolingEnd (s : State) : State :=
  if s.pwr = 6 then (({ s with thermLow := false } : State).setPwr 1).tryStart else s

/-- POWER_ON_RESET (R476). -/
def execPowerOnReset (slotId : Nat) (s : State) : Outcome := .next (s.doPowerOn slotId)
/-- MAIN_START (R474). -/
def execMainStart (vin10mv : Nat) (s : State) : Outcome := .next (s.doMainStart vin10mv)
/-- REFCLK_VALID (R549). -/
def execRefclkValid (s : State) : Outcome := .next s.doRefclkValid
/-- HBM_TRAINING_COMPLETE (R474). -/
def execHbmTrainingComplete (failures : Nat) (s : State) : Outcome := .next (s.doHbmTrained failures)
/-- CXL_TRAINING_COMPLETE (R474). -/
def execCxlTrainingComplete (gib0 gib1 : Nat) (s : State) : Outcome := .next (s.doCxlTrained gib0 gib1)
/-- READY (R474). -/
def execReady (fails : List (Nat × Nat)) (s : State) : Outcome := .next (s.doReady fails)
/-- AUX_LOST (R472). -/
def execAuxLost (s : State) : Outcome := .next s.doAuxLost
/-- MAIN_UNDERVOLTAGE (R472). -/
def execMainUndervoltage (s : State) : Outcome := .next s.doUndervoltage
/-- MAIN_OVERVOLTAGE (R472). -/
def execMainOvervoltage (s : State) : Outcome := .next s.doOvervoltage
/-- REGULATOR_FAULT (R472). -/
def execRegulatorFault (s : State) : Outcome := .next s.doRegulator
/-- REFCLK_LOSS (R549). -/
def execRefclkLoss (s : State) : Outcome := .next s.doRefclkLoss
/-- RESET_CTRL_FABRIC (R489). -/
def execResetCtrlFabric (a : Agent) (fails : List (Nat × Nat)) (s : State) : Outcome :=
  .next (s.onResetCtrl a (·.fabricReset 0x04 fails))
/-- RESET_CTRL_MODULE (R489). -/
def execResetCtrlModule (a : Agent) (s : State) : Outcome := .next (s.onResetCtrl a (·.moduleReset 0x03))
/-- HOLD_OFF_WRITE (R488). -/
def execHoldOffWrite (a : Agent) (hold : Bool) (s : State) : Outcome :=
  .next (s.onReg a .pwrCtrl fun s => (s.setFld PwrCtrl.holdOff (b2n hold)).tryStart)
/-- JUNCTION_TRIP (R36). -/
def execJunctionTrip (die : Nat) (s : State) : Outcome := .next (s.trip die false)
/-- COOLING_END (R476). -/
def execCoolingEnd (s : State) : Outcome := .next s.doCoolingEnd

end Sys2Proof.Machine
end

