-- ==== Sys2Proof/Machine/Front.lean ====
section
/-!
DEFINITION. Front ports (13_front_ports_and_ordering.md, R340 to R345, R356 to R363): partners, the attach and re-attach of
sessions, links, and how sessions are detached and released.
-/
namespace Sys2Proof.Machine

/-! ### Partners (R341, R363) -/

/-- The partner of a port, as one 128-bit address. -/
def State.partner (s : State) (port : Nat) : Nat := s.fld (EthPartnerHi.addr port) * 2 ^ 64 + s.fld (EthPartnerLo.addr port)

/-- R341, R363: the source is not the port's partner; without a partner every source is foreign. -/
def State.foreign (s : State) (port src : Nat) : Bool := s.partner port = 0 || src ≠ s.partner port

/-- R341: the port takes no packet of an attach from a source: without a partner it takes them from any source while LATCH is 1. -/
def State.foreignAttach (s : State) (port src : Nat) : Bool :=
  if s.partner port = 0 then !s.flag (EthCfg.latch port) else src ≠ s.partner port

/-- R341: FOREIGN and its count. -/
def State.markForeign (s : State) (port : Nat) : State := (s.setFld (EthStatus.foreign port) 1).count 0x019 port 1

/-- R341: the first accepted attach sets the partner of a port that has none. -/
def State.latchPartner (s : State) (port src : Nat) : State :=
  if s.partner port = 0 then
    (s.setFld (EthPartnerHi.addr port) (src / 2 ^ 64)).setFld (EthPartnerLo.addr port) (src % 2 ^ 64)
  else s

/-- A front port whose link is up takes packets. -/
def State.portUp (s : State) (port : Nat) : Bool := port < 4 && s.flag (EthStatus.linkUp port)

/-- R410, R411: a packet that arrives meets an armed flip of detector 0x0F: it is dropped and sent again. -/
def State.packetIn (s : State) (port : Nat) : State :=
  let f := s.fire 0x0F port fun _ => true
  if f.1.isSome then f.2.detect 0x0F 0 none port true else f.2

/-! ### Attach (R342 to R345, R455) -/

/-- The REQ is a re-attach (R343 FLAGS[0]). -/
def isReattach (rq : ConnReq) : Bool := bitOf rq.flags 0

/-- R455: the domain of a new attach is open to it. -/
def State.domainOpen (s : State) (role d : Nat) : Bool :=
  if role = 1 then d = 0 else bitOf (s.fld (EthDomOpen.open (d / 32))) (d % 32)

/-- An owner session is ATTACHED. -/
def State.ownerAttached (s : State) : Bool := s.sessions.any fun x => x.2.state = .attached && x.2.owner

/-- R344: the lowest FREE slot. -/
def State.freeSlot (s : State) : Option Nat := (List.range 4096).find? fun k => (s.session k).state = .free

/-- R344: the code of the first row that refuses a REQ; 0 when none does (fields out of R343's range take code 0x01, log entry
38). -/
def State.attachCode (s : State) (rq : ConnReq) : Nat :=
  let re := isReattach rq
  let k := rq.session % 4096
  let x := s.session k
  if rq.version ≠ 1 || 2 ≤ rq.role || 4 ≤ rq.flags || rq.reserved ≠ 0 || (re && rq.domain ≠ 0) || (!re && rq.session ≠ 0) then 0x01
  else if s.foreignAttach rq.port rq.src then 0x02
  else if rq.role = 1 && (!s.flag (EthCfg.ownerEn rq.port) || s.ownerAttached) then 0x03
  else if re && (rq.role = 1 || x.state = .free || x.gen ≠ rq.session / 4096 || x.owner) then 0x04
  else if !re && !s.domainOpen rq.role rq.domain then 0x05
  else if (!re && s.freeSlot.isNone) || 1024 ≤ ((s.attachedOn rq.port).filter fun j => !(re && j = k)).length then 0x06
  else 0

/-- R344 to R346: an accepted REQ binds slot `k` to its connection under a new R_Key; a connection that the slot was bound to is in the
error state from then on: its requests are no longer those of the session (R345). The selector copies of the session are zero
(R528). -/
def State.bindSession (s : State) (rq : ConnReq) (k : Nat) (x : Session) : State :=
  let d := s.draw Config.rkey
  let y : Session := { x with state := .attached, port := rq.port, src := rq.src, conn := rq.conn, express := bitOf rq.flags 1, rkey := d.1 }
  let s1 := ((d.2.setSession k y).latchPartner rq.port rq.src).setSelOf (.session k) {}
  s1.emit (.rep rq.port (x.gen * 4096 + k) d.1)

/-- R344: decide a REQ: a refusal is answered with its code; one from a source that is not the partner is counted as foreign (R341,
log entry 38). -/
def State.connect (s : State) (rq : ConnReq) : State :=
  if !s.portUp rq.port then s
  else
    let s0 := s.packetIn rq.port
    let code := s0.attachCode rq
    if code ≠ 0 then (if s0.foreignAttach rq.port rq.src then s0.markForeign rq.port else s0).emit (.rej rq.port code)
    else if isReattach rq then s0.bindSession rq (rq.session % 4096) (s0.session (rq.session % 4096))
    else
      let k := s0.freeSlot.getD 0
      s0.bindSession rq k { gen := ((s0.session k).gen + 1) % 1048576, owner := rq.role = 1, domain := rq.domain }

/-- ATTACH (R344): a REQ with SESSION 0. -/
def State.doAttach (s : State) (rq : ConnReq) : State := if rq.session = 0 then s.connect rq else s

/-- REATTACH (R345): a REQ that names a session. -/
def State.doReattach (s : State) (rq : ConnReq) : State := if rq.session = 0 then s else s.connect rq

/-! ### Detach and release (R356 to R360) -/

/-- A session number is ATTACHED with a connection of a source on a port. -/
def State.attachedAs (s : State) (port : Nat) (r : DiscReq) : Bool :=
  let x := s.session (r.session % 4096)
  x.state = .attached && x.port = port && x.src = r.src && x.conn = r.conn && x.gen = r.session / 4096

/-- DREQ (R356): the connection ends. A packet of a foreign source is dropped (R341). -/
def State.doDreq (s : State) (port : Nat) (r : DiscReq) : State :=
  if !s.portUp port then s
  else if s.foreign port r.src then s.markForeign port
  else if s.attachedAs port r then
    (((s.packetIn port).emit (.drep port)).detachSession (r.session % 4096)).evalFlags
  else s

/-- ETH_LINK_DOWN (R356, R362). -/
def State.doEthDown (s : State) (port : Nat) : State := if s.portUp port then s.setFld (EthStatus.linkUp port) 0 else s

/-- ETH_LINK_UP (R362, R474 step 10): front ports bring their links up in READY. -/
def State.doEthUp (s : State) (port : Nat) : State :=
  if port < 4 && s.pwr = 4 then s.setFld (EthStatus.linkUp port) 1 else s

/-- SESSION_DETACH (R356): the link of a port has been down for LOSS_MS. -/
def State.doSessionDetach (s : State) (port : Nat) : State :=
  let on := s.attachedOn port
  if port < 4 && !s.flag (EthStatus.linkUp port) && !on.isEmpty then
    ((on.foldl (fun s k => s.detachSession k) s).setFld (EthStatus.lossEvent port) 1).evalFlags
  else s

/-- SESSION_RELEASE (R359): a controller session DETACHED for LINGER_S of its last port. -/
def State.doSessionRelease (s : State) (slot : Nat) : State :=
  let x := s.session slot
  if x.state = .detached && s.fld (EthCfg.lingerS x.port) ≠ 0 then (s.releaseSession slot).evalFlags else s

/-- RDMA_RETRY_EXHAUSTION (R356). -/
def State.doRetryExhausted (s : State) (slot : Nat) : State :=
  if (s.session slot).state = .attached then (s.detachSession slot).evalFlags else s

/-- R363: a value of PARTNER_HI is held for the next write of PARTNER_LO. -/
def State.writePartnerHi (s : State) (port v : Nat) : State :=
  { s with partnerHeld := (s.partnerHeld.filter (·.1 ≠ port)) ++ [(port, v)] }

/-- R363: the pair takes effect; sessions attached on the port from another source become DETACHED. -/
def State.writePartnerLo (s : State) (port v : Nat) : State :=
  let hi := ((s.partnerHeld.find? (·.1 = port)).map (·.2)).getD (s.fld (EthPartnerHi.addr port))
  let s1 := ({ s with partnerHeld := s.partnerHeld.filter (·.1 ≠ port) } : State).setFld (EthPartnerHi.addr port) hi
  let s2 := s1.setFld (EthPartnerLo.addr port) v
  let p := s2.partner port
  let gone := (s2.attachedOn port).filter fun k => p = 0 || (s2.session k).src ≠ p
  (gone.foldl (fun s k => s.detachSession k) s2).evalFlags

/-- FOREIGN_PACKET_DROP (R341): a packet, not of an attach, from a source that is not the partner. -/
def State.doForeign (s : State) (port src : Nat) : State :=
  if s.portUp port && s.foreign port src then s.markForeign port else s

/-- FCS_ICRC_DROP (R410): the packet is dropped, and RoCEv2 sends it again. -/
def State.doFcsDrop (s : State) (port : Nat) : State := if s.portUp port then s.detect 0x0F 0 none port false else s

/-- MGMT_LINK_LOSS (R360, R505): the unlock ends with the link of the management Ethernet, and the SPDM connection with it. -/
def State.doMgmtLoss (s : State) : State :=
  if s.mgmtLink then { s.endUnlock with mgmtLink := false, spdm := {} } else s

/-- ATTACH (R344). -/
def execAttach (rq : ConnReq) (s : State) : Outcome := .next (s.doAttach rq)
/-- REATTACH (R345). -/
def execReattach (rq : ConnReq) (s : State) : Outcome := .next (s.doReattach rq)
/-- DREQ (R356). -/
def execDreq (port : Nat) (session : DiscReq) (s : State) : Outcome := .next (s.doDreq port session)
/-- ETH_LINK_DOWN (R356). -/
def execEthLinkDown (port : Nat) (s : State) : Outcome := .next (s.doEthDown port)
/-- ETH_LINK_UP (R362). -/
def execEthLinkUp (port : Nat) (s : State) : Outcome := .next (s.doEthUp port)
/-- SESSION_DETACH (R356). -/
def execSessionDetach (port : Nat) (s : State) : Outcome := .next (s.doSessionDetach port)
/-- SESSION_RELEASE (R359). -/
def execSessionRelease (slot : Nat) (s : State) : Outcome := .next (s.doSessionRelease slot)
/-- PARTNER_HI_WRITE (R363). -/
def execPartnerHiWrite (a : Agent) (port : Nat) (v : W64) (s : State) : Outcome :=
  .next (if port < 4 then s.onReg a (.ethPartnerHi port) (·.writePartnerHi port v.toNat) else s)
/-- PARTNER_LO_WRITE (R363). -/
def execPartnerLoWrite (a : Agent) (port : Nat) (v : W64) (s : State) : Outcome :=
  .next (if port < 4 then s.onReg a (.ethPartnerLo port) (·.writePartnerLo port v.toNat) else s)
/-- RDMA_RETRY_EXHAUSTION (R356). -/
def execRdmaRetryExhaustion (slot : Nat) (s : State) : Outcome := .next (s.doRetryExhausted slot)
/-- FOREIGN_PACKET_DROP (R341). -/
def execForeignPacketDrop (port src : Nat) (s : State) : Outcome := .next (s.doForeign port src)
/-- FCS_ICRC_DROP (R410). -/
def execFcsIcrcDrop (port : Nat) (s : State) : Outcome := .next (s.doFcsDrop port)
/-- MGMT_LINK_LOSS (R505). -/
def execMgmtLinkLoss (s : State) : Outcome := .next s.doMgmtLoss

end Sys2Proof.Machine
end

