-- ==== Sys2Proof/Machine/Pace.lean ====
section
/-!
DEFINITION. The pace governor, calibration, the handshake watchdog and the scrubber (02_clockless_timing_and_pace.md, R28 to
R36; 15_consistency_errors_recovery.md, R409; 03_cores_scratchpads_mesh.md, R49).
-/
namespace Sys2Proof.Machine

/-! ### Droop (R30 to R33) -/

/-- The fast loop of a die. -/
def State.droopOf (s : State) (die : Nat) : Droop := Sparse.get {} s.droop die

/-- R40: FAST_ACTIVE has a bit for each die between step 3 and step 6. -/
def State.setDroop (s : State) (die : Nat) (x : Droop) : State :=
  let s1 := { s with droop := Sparse.set {} s.droop die x }
  s1.setFld PaceStatus.fastActive (putBits (s.fld PaceStatus.fastActive) die die (b2n (x.phase ≠ .none)))

/-- The rails are up and the die is one of the grade's. -/
def State.dieRuns (s : State) (die : Nat) : Bool := s.railsUp && die < s.grade.dies

/-- R32: a critical droop of a die: it is recorded, an event is raised, the step cannot commit. The events CRIT_DROOP and DETECTION are
of one instant: their order is a free value (R517). -/
def State.crit (s : State) (die : Nat) (inj : Bool) : State :=
  let first := Config.eventOrder s.paceDraws
  let s1 := ({ s with paceDraws := s.paceDraws + 1 } : State).setFld PaceStatus.critEvent 1
  let s2 := (if first then s1.event 0x04 die else s1).fabricError St.uncorrectable 0x07 die 0 die inj
  if first then s2 else s2.event 0x04 die

/-- R411: a check of detector 0x07 on a die, which an injection may force. -/
def State.checkRail (s : State) (die : Nat) : State :=
  let f := s.fire 0x07 die fun _ => true
  if f.1.isSome then f.2.crit die true else f.2

/-- R30 step 3: 10 of 16 slots, delay lines stretched. -/
def Droop.hit : Droop := { phase := .active, slots := 10, stretched := true }

/-- DROOP_TRIP (R30 steps 1 to 3): a first trip starts a response; one in a later step returns the die to step 3. -/
def State.doDroopTrip (s : State) (die : Nat) : State :=
  if s.dieRuns die then
    let s1 := s.checkRail die
    if (s.droopOf die).phase = .none then
      let s2 := (s1.setDroop die Droop.hit).count 0x00D die 1
      { s2 with health := { s2.health with n1 := s2.health.n1 + 1 } }
    else s1.setDroop die Droop.hit
  else s

/-- DROOP_RECOVERY (R30 step 4). -/
def State.doDroopRecovery (s : State) (die : Nat) : State :=
  if s.dieRuns die && (s.droopOf die).phase = .active then
    (s.checkRail die).setDroop die { s.droopOf die with phase := .recovered }
  else s

/-- DROOP_HOLD_EXPIRY (R30 step 5). -/
def State.doDroopHold (s : State) (die : Nat) : State :=
  if s.dieRuns die && (s.droopOf die).phase = .recovered then s.setDroop die { s.droopOf die with phase := .releasing } else s

/-- DROOP_RELEASE_STEP (R30 step 6): one slot more; the stretch goes with the last. -/
def State.doDroopRelease (s : State) (die : Nat) : State :=
  let x := s.droopOf die
  if s.dieRuns die && x.phase = .releasing then
    if x.slots + 1 < 16 then s.setDroop die { x with slots := x.slots + 1 }
    else (s.setDroop die {}).count 0x00E die 1
  else s

/-- CRITICAL_DROOP (R32). -/
def State.doCritical (s : State) (die : Nat) : State := if s.dieRuns die then s.crit die false else s

/-- R33, R34: the matrix issue fraction of a die in 1/256: the lower of the two loops. -/
def State.issueFraction (s : State) (die : Nat) : Nat := min ((s.droopOf die).slots * 16) (s.fld PaceStatus.gapFrac + 160)

/-! ### Power and the slow loop (R34 to R36, R487) -/

/-- POWER_SAMPLE (R487): the input power over the last 10 µs and 1 s. -/
def State.doPowerSample (s : State) (p10us p1s : Nat) : State :=
  if s.auxOk then (s.setFld PwrInPower.p10usW (min 65535 p10us)).setFld PwrInPower.p1sW (min 65535 p1s) else s

/-- The readings of junctions, as the sensors give them: the first of the grade's number of parts. -/
def readings (n : Nat) (xs : List Nat) : List (Nat × Nat) :=
  (((List.range n).zip xs).filter fun x => x.2 ≠ 0)

/-- The hottest junction of a list of readings. -/
def hottest (xs : List (Nat × Nat)) : Nat := xs.foldl (fun m x => max m x.2) 0

/-- R551: the hottest junction of the module. -/
def State.hotJunction (s : State) : Nat := max (hottest s.dieTemp) (hottest s.stackTemp)

/-- R34, R36: the module is above a limit that the loop holds while it is off its floor: the hottest junction above its target, or, with
the input within 40 to 60 V, the average power of 1 s above LIMIT_W or that of 10 µs above 1.40 of it. -/
def State.overEnvelope (s : State) : Bool :=
  let limit := s.fld PaceEnvLimit.limitW
  let vin := s.fld PwrStatus.vin10mv
  s.fld PaceEnvLimit.tjTargetC < s.hotJunction ||
    (4000 ≤ vin && vin ≤ 6000 && (limit < s.fld PwrInPower.p1sW || 14 * limit < 10 * s.fld PwrInPower.p10usW))

/-- R34 to R36: the fraction that the slow loop would need is a free value, and below the floor where a limit is exceeded; the loop stays
within 10/16 and 16/16. A need below the floor sets ENV_UNHELD; each time it begins, an event is raised (log entry 37). -/
def State.setFraction (s : State) : State :=
  let need :=
    if s.overEnvelope then 0
    else Config.slowLoop s.paceDraws (s.fld PwrInPower.p10usW) (s.fld PwrInPower.p1sW) (s.fld PaceEnvLimit.limitW) s.hotJunction
      (s.fld PaceEnvLimit.tjTargetC) % 257
  let f := max 160 need
  let unheld := need < 160
  let s1 := (({ s with paceDraws := s.paceDraws + 1, envUnheld := unheld } : State).setFld PaceStatus.gapFrac (f - 160)).setFld
    PaceStatus.envActive (b2n (f < 256))
  if unheld then
    let s2 := s1.setFld PaceStatus.envUnheld 1
    if s.envUnheld then s2 else s2.event 0x05 0
  else s1

/-- R36, R411: the compute die of a junction at 105 °C, if one is; stack k attaches to die k / 2 (R533); an injection may force the
check of a die. Of several such junctions the lowest compute die is named, then that of the lowest stack, then a forced one (DESIGN
CHOICE, log entry 37: the spec names one die for the cause). -/
def State.tripDie (s : State) : Option (Nat × Bool) × State :=
  let f := (List.range s.grade.dies).foldl (fun (acc : Option Nat × State) die =>
    let r := acc.2.fire 0x08 die fun _ => true
    (if r.1.isSome then acc.1.orElse (fun _ => some die) else acc.1, r.2)) (none, s)
  match s.dieTemp.find? (105 ≤ ·.2), s.stackTemp.find? (105 ≤ ·.2), f.1 with
  | some x, _, _ => (some (x.1, false), f.2)
  | none, some x, _ => (some (x.1 / 2, false), f.2)
  | none, none, some die => (some (die, true), f.2)
  | none, none, none => (none, f.2)

/-- SLOW_LOOP_TICK (R34 to R36): the sensors are read, TJ_HIGH follows them, the fraction is set; a junction at 105 °C trips. -/
def State.doSlowLoop (s : State) (dieC stackC : List Nat) : State :=
  if s.railsUp then
    let s1 := { s with dieTemp := readings s.grade.dies dieC, stackTemp := readings s.grade.stackNum stackC }
    let s2 := s1.setFld PaceStatus.tjHigh (b2n (s.fld PaceEnvLimit.tjTargetC < s1.hotJunction))
    let t := s2.setFraction.tripDie
    match t.1 with
    | some (die, inj) => t.2.trip die inj
    | none => t.2
  else s

/-! ### Calibration (R28, R29) -/

/-- The tap setting of a replica pair. -/
def State.tapOf (s : State) (pair : Nat) : Nat :=
  ((Sparse.get {} s.taps pair : Tap).tap).getD (Config.startTap s.calDraw pair % 64)

/-- R29: CAL_LIMIT of a core: its flag, its count, the record of its column (R63), and the error (R410). -/
def State.calLimit (s : State) (n : Nat) (inj : Bool) : State :=
  (((s.setFld (CoreStatus.calLimit n) 1).count 0x00F n 1).recordCore n).fabricError St.uncorrectable 0x06 n 0 n inj

/-- R28: a microsecond passes for every delay line: one that has changed may change again after 10 µs. -/
def State.ageTaps (s : State) : State :=
  { s with taps := Sparse.update {} (fun _ (x : Tap) => { x with wait := x.wait - 1 }) s.taps }

/-- R28, R29: the measurement of a replica pair in one microsecond, with its margin in tenths of a percent. -/
def State.measure (s : State) (n path margin : Nat) : State :=
  let pair := n * 4 + path
  let x : Tap := Sparse.get {} s.taps pair
  let tap := s.tapOf pair
  let set := fun (t : Tap) => ({ s with taps := Sparse.set {} s.taps pair t } : State)
  let s1 :=
    if margin < 80 && tap < 63 && x.wait = 0 then
      let s2 := set { tap := some (tap + 1), wait := 10 }
      if 59 ≤ tap + 1 then { s2 with health := { s2.health with n5 := s2.health.n5 + 1 } } else s2
    else if 200 < margin && 0 < tap && x.wait = 0 then set { tap := some (tap - 1), wait := 10 }
    else s
  let f := s1.fire 0x06 n fun _ => true
  if f.1.isSome then f.2.calLimit n true
  else if margin < 80 && tap = 63 then f.2.calLimit n false else f.2

/-- R28: one measurement of each replica pair: the first that the tick lists. -/
def onePerPair (margins : List (Nat × Nat × Nat)) : List (Nat × Nat × Nat) :=
  margins.foldl (fun l x => if l.any (fun y => y.1 = x.1 && y.2.1 = x.2.1) then l else l ++ [x]) []

/-- CALIBRATION_TICK (R28): the measurements of one microsecond, one of each replica pair at most; the sensors of every die are checked
as well (log entry 37). -/
def State.doCalibration (s : State) (margins : List (Nat × Nat × Nat)) : State :=
  if s.railsUp then
    let s1 := (List.range s.grade.dies).foldl (fun s die => s.checkRail die) s
    (onePerPair margins).foldl (fun s x => if x.1 < s.grade.cores && x.2.1 < 4 then s.measure x.1 x.2.1 x.2.2 else s) s1.ageTaps
  else s

/-! ### Watchdog and scrubber (R49, R409) -/

/-- HANDSHAKE_WATCHDOG (R409). -/
def State.doWatchdog (s : State) (n : Nat) : State :=
  if s.railsUp && n < s.grade.cores then s.fabricError St.uncorrectable 0x05 n 0 n false else s

/-- R49: the words that new upsets flip, beside what they hold: two flips stay two. -/
def State.upset (s : State) (p n : Nat) : State := if n = 0 then s else s.setFlips p (min 2 (s.flips p + n))

/-- SCRUB_TICK (R49): the scrubber reads one line of each bank of every core: the lines of one row, in turn (log entry 37). The upsets
are bits of words of these lines that have flipped; what stands there and what is injected is met as well. -/
def State.doScrub (s : State) (upsets : List (Nat × Nat × Nat)) : State :=
  if s.railsUp then
    let row := s.scrubRow
    let mine := upsets.filter fun x => x.1 < s.grade.cores && x.2.1 < 2097152 && bankRow x.2.1 = row
    let s1 := mine.foldl (fun s x => s.upset (spBase + x.1 * 2097152 + x.2.1 / 4 * 4) x.2.2) { s with scrubRow := (row + 1) % 256 }
    let cores := ((s1.injections.filter (·.det = 0x01)).map (·.inst) ++
      (s1.badWords.filter fun w => spBase ≤ w.1 && w.1 < ctlBase).map fun w => (w.1 - spBase) / 2097152).eraseDups
    cores.foldl (fun s n =>
      (List.range 32).foldl (fun s bank => s.scratchRead .fabric (spBase + n * 2097152 + bankLine bank row) 256) s) s1
  else s

/-- SCRUB_TICK (R49). -/
def execScrubTick (upsets : List (Nat × Nat × Nat)) (s : State) : Outcome := .next (s.doScrub upsets)
/-- CALIBRATION_TICK (R28). -/
def execCalibrationTick (margins : List (Nat × Nat × Nat)) (s : State) : Outcome := .next (s.doCalibration margins)
/-- HANDSHAKE_WATCHDOG (R409). -/
def execHandshakeWatchdog (core : Nat) (s : State) : Outcome := .next (s.doWatchdog core)
/-- DROOP_TRIP (R30). -/
def execDroopTrip (die : Nat) (s : State) : Outcome := .next (s.doDroopTrip die)
/-- DROOP_RECOVERY (R30). -/
def execDroopRecovery (die : Nat) (s : State) : Outcome := .next (s.doDroopRecovery die)
/-- DROOP_HOLD_EXPIRY (R30). -/
def execDroopHoldExpiry (die : Nat) (s : State) : Outcome := .next (s.doDroopHold die)
/-- DROOP_RELEASE_STEP (R30). -/
def execDroopReleaseStep (die : Nat) (s : State) : Outcome := .next (s.doDroopRelease die)
/-- CRITICAL_DROOP (R32). -/
def execCriticalDroop (die : Nat) (s : State) : Outcome := .next (s.doCritical die)
/-- POWER_SAMPLE (R487). -/
def execPowerSample (p10us p1s : Nat) (s : State) : Outcome := .next (s.doPowerSample p10us p1s)
/-- SLOW_LOOP_TICK (R34). -/
def execSlowLoopTick (dieC stackC : List Nat) (s : State) : Outcome := .next (s.doSlowLoop dieC stackC)

end Sys2Proof.Machine
end

