-- ==== Sys2Proof/Machine/Security.lean ====
section
/-!
DEFINITION. Security (19_security_and_attestation.md): the unlock (R503 to R505), the security version (R497), the LMS state
(R502) and the SPDM responder (R498 to R501). Codes and layouts of SPDM messages are those of DSP0274 (log entry 39).
-/
namespace Sys2Proof.Machine

/-! ### Unlock (R503 to R505) -/

/-- R504: the bytes of SEC.UNLOCK_BUF. -/
def State.unlockToken (s : State) : Bytes := (List.range 256).flatMap fun i => leBytes 8 (s.reg (.secUnlockBuf i))

/-- R510: the nonce, instance 0 as bytes 0 to 7. -/
def State.nonceBytes (s : State) : Bytes := (List.range 4).flatMap fun i => leBytes 8 (Config.nonce s.nonceDraw i).toNat

/-- R503, R506: the authority that a token names is enabled. -/
def State.authEnabled (s : State) (authority : Nat) : Bool :=
  if authority = 0 then s.flag SecStatus.vendorAuth else authority = 1 && s.flag SecStatus.ownerAuth

/-- R503: the public keys of an authority. -/
def State.authKeys (s : State) (authority : Nat) : Bytes := if authority = 0 then s.flash.vendorKeys else s.flash.ownerKeys

/-- R503, R507: the cause of the first check that a token fails; 0 when it passes. -/
def State.tokenCause (s : State) (t : Bytes) : Nat :=
  let keys := s.authKeys (leField t 6 1)
  if leField t 0 4 ≠ 0x4B4C4E55 || leField t 4 1 ≠ 1 || 4 ≤ leField t 5 1 || !zeroField t 7 1 || !zeroField t 56 8 then 1
  else if leField t 8 16 ≠ s.fuses.deviceId then 2
  else if sliceBytes t 24 32 ≠ s.nonceBytes then 3
  else if !s.authEnabled (leField t 6 1) then 4
  else if !Config.ecdsaVerifies (keys.take 97) (sliceBytes t 0 64) (sliceBytes t 64 96) then 5
  else if !Config.lmsVerifies (keys.drop 97) (sliceBytes t 0 64) (sliceBytes t 160 1740) then 6
  else 0

/-- R504: a scope is held. -/
def State.setScope (s : State) (scope : Nat) : State := (s.setFld SecStatus.scope scope).setFld InjStatus.unlocked (scope % 2)

/-- R504: the check of the token in the buffer; the nonce takes a new value. -/
def State.submitToken (s : State) : State :=
  let t := s.unlockToken
  let cause := s.tokenCause t
  let s1 := { s with nonceDraw := s.draws, draws := s.draws + 1 }
  if cause = 0 then ((s1.setScope (leField t 5 1)).setFld SecUnlockCtl.rej 0).setFld SecUnlockCtl.rejCause 0
  else (s1.setFld SecUnlockCtl.rej 1).setFld SecUnlockCtl.rejCause cause

/-- R504: SUBMIT is the management channel's; another agent's write changes nothing. -/
def State.doSubmit (s : State) (a : Agent) : State :=
  s.onReg a .secUnlockCtl fun s => if isMgmt a then s.submitToken else s

/-- R497: the fused SVN advances to that of the running bank; a fuse write that fails changes nothing. -/
def State.commitSvn (s : State) : State :=
  if s.fuses.writeFails then s else
  let v := max s.fuses.svn (s.fld SecStatus.svnRun)
  ({ s with fuses := { s.fuses with svn := v } } : State).setFld SecStatus.svnFuse v

/-! ### LMS state (R502) -/

/-- R502: the fuse bit of a new block, where the next leaf opens one; `none` when the fuse write fails. -/
def State.openBlock (s : State) : Option State :=
  if s.flash.q ≠ s.fuses.lmsBlocks * 4096 then some s
  else if s.fuses.writeFails then none
  else
    some (({ s with fuses := { s.fuses with lmsBlocks := s.fuses.lmsBlocks + 1 } } : State).setFld SecLmsState.blocks
      (s.fuses.lmsBlocks + 1))

/-- R502: before a signature: the leaf to use and the state after it, or a refusal. A block that was opened stays open when the flash
write fails after it. -/
def State.takeLeaf (s : State) : Option Nat × State :=
  let q := s.flash.q
  if q = 1048576 then (none, s.setFld SecStatus.lmsFail 1)
  else
    match s.openBlock with
    | none => (none, s.setFld SecStatus.lmsFail 1)
    | some s1 =>
      if s1.flash.writeFails then (none, s1.setFld SecStatus.lmsFail 1)
      else
        let s2 := (({ s1 with flash := { s1.flash with q := q + 1 } } : State).setFld SecLmsState.nextLeaf (q + 1)).setFld
          SecStatus.lmsExhausted (b2n (q + 1 = 1048576))
        (some q, s2)

/-! ### The identity keys (R494) -/

/-- The bytes of a text, as R494 names the infos. -/
def ascii (text : String) : Bytes := text.toList.map fun c => BitVec.ofNat 8 c.toNat

/-- HMAC with SHA-384 (RFC 2104) under a key of at most 128 bytes. -/
def hmac384 (key msg : Bytes) : Bytes :=
  let k := key ++ List.replicate (128 - key.length) 0
  sha384 (k.map (· ^^^ 0x5c) ++ sha384 (k.map (· ^^^ 0x36) ++ msg))

/-- HKDF with SHA-384 (RFC 5869), of at most 96 bytes. -/
def hkdf384 (ikm salt info : Bytes) (len : Nat) : Bytes :=
  let prk := hmac384 salt ikm
  let t1 := hmac384 prk (info ++ [1])
  (t1 ++ hmac384 prk (t1 ++ info ++ [2])).take len

/-- The order of the group of P-384 (FIPS 186-5). -/
def p384Order : Nat :=
  0xffffffffffffffffffffffffffffffffffffffffffffffffc7634d81f4372ddf581a0db248b0a77aecec196accc52973

/-- R494: the ECDSA identity key: FIPS 186-5, A.2.1, of 56 derived bytes. -/
def State.ecdsaKey (s : State) : Nat :=
  let c := (hkdf384 s.fuses.uds (List.replicate 48 0) (ascii "QG1280 ID ECDSA") 56).foldl (fun n b => n * 256 + b.toNat) 0
  c % (p384Order - 1) + 1

/-- R494: the identifier I and the SEED of the LMS identity key. -/
def State.lmsKey (s : State) : Bytes × Bytes :=
  let k := hkdf384 s.fuses.uds (List.replicate 48 0) (ascii "QG1280 ID LMS") 40
  (k.take 16, k.drop 16)

/-! ### SPDM (R498 to R501) -/

/-- R499: the digest of a coach slot: its BODY_HASH when VALID, otherwise 48 zero bytes. -/
def State.slotMeasure (s : State) (k : Nat) : Bytes :=
  if s.fld (FabCoachSlot.state k) = 2 then sliceBytes (Sparse.get [] s.slots k) 32 48 else List.replicate 48 0

/-- R496: the bank that runs. -/
def State.runBank (s : State) : Bank := if s.flag SecStatus.bank then s.flash.bank1 else s.flash.bank0

/-- R499: whether a measurement is raw, and its value. -/
def State.measurement (s : State) (index : Nat) : Bool × Bytes :=
  match index with
  | 1 => (true, leBytes 4 Config.bootRomVersion.toNat)
  | 2 => (false, s.runBank.mc.bodyHash)
  | 3 => (false, s.runBank.cp.bodyHash)
  | 4 => (false, sha384 (leBytes 8 (2 ^ s.fuses.svn - 1) ++ s.fuses.fwKeyHash ++ s.fuses.vendorHash ++ s.fuses.ownerHash))
  | 5 => (true, leBytes 1 (s.fld SecStatus.scope))
  | 14 => (false, s.actLog)
  | 15 => (true, leBytes 4 (s.fld FabDomCtl.domain + 65536 * s.fld FabDomCtl.claimed))
  | k => (false, s.slotMeasure (k - 6))

/-- R499: a DMTF measurement block of DSP0274. -/
def measureBlock (index : Nat) (raw : Bool) (v : Bytes) : Bytes :=
  leBytes 1 index ++ leBytes 1 1 ++ leBytes 2 (v.length + 3) ++
    leBytes 1 (128 * b2n raw + Config.measurementType index % 128) ++ leBytes 2 v.length ++ v

/-- R500: every index, captured at one instant. -/
def State.capture (s : State) : List (Nat × Bytes) :=
  (List.range 15).map fun i =>
    let m := s.measurement (i + 1)
    (i + 1, measureBlock (i + 1) m.1 m.2)

/-- Codes of DSP0274 responses. -/
def spdmDigests : Nat := 0x01
def spdmCertificate : Nat := 0x02
def spdmChallengeAuth : Nat := 0x03
def spdmVersion : Nat := 0x04
def spdmMeasurements : Nat := 0x60
def spdmCapabilities : Nat := 0x61
def spdmAlgorithms : Nat := 0x63
def spdmError : Nat := 0x7F

/-- An SPDM response leaves and joins the transcript. -/
def State.respond (s : State) (code : Nat) (body : Bytes) : State :=
  { s.emit (.spdm code body) with spdm := { s.spdm with transcript := s.spdm.transcript ++ leBytes 1 code ++ body } }

/-- An SPDM ERROR: 0x01 InvalidRequest, 0x04 UnexpectedRequest, 0x05 Unspecified (DSP0274). -/
def State.spdmRefuse (s : State) (code : Nat) : State := s.emit (.spdm spdmError (leBytes 1 code))

/-- R498: a request reaches the responder over the management Ethernet; it is served once the connection is negotiated as far as
`phase`. -/
def State.onSpdm (s : State) (phase : Nat) (f : State → State) : State :=
  if !s.mgmtLink then s else if s.spdm.phase < phase then s.spdmRefuse 0x04 else f s

/-- R498: the certificate chain of slot 0, of 1 to 65,535 bytes (log entry 3). -/
def certChain : Bytes := (List.range (1 + Config.certLength % 65535)).map Config.certByte

/-- R501: a signed response: the LMS signature over SHA-384 of the two nonces and what is reported, then the ECDSA signature over
the transcript with it. The response ends the transcript (R500). A refused LMS signature is answered with Unspecified (R502). -/
def State.signed (s : State) (code : Nat) (nonce report : Bytes) : State :=
  match s.takeLeaf with
  | (none, t) => t.spdmRefuse 0x05
  | (some leaf, t) =>
    let mine := (List.range 32).map (Config.spdmNonce t.draws)
    let lms := (List.range 1740).map (Config.lmsSignature t.lmsKey.1 t.lmsKey.2 leaf (sha384 (nonce ++ mine ++ report)))
    let body := report ++ mine ++ leBytes 4 61947 ++ lms
    let ecdsa := (List.range 96).map (Config.ecdsaSignature t.ecdsaKey t.draws (t.spdm.transcript ++ nonce ++ body))
    { t.emit (.spdm code (body ++ ecdsa)) with draws := t.draws + 1, spdm := { t.spdm with transcript := [], captured := none } }

/-- GET_VERSION (R498): SPDM 1.3; a new negotiation begins. -/
def State.doGetVersion (s : State) : State :=
  s.onSpdm 0 fun s => ({ s with spdm := { phase := 1 } } : State).respond spdmVersion [0x13]

/-- GET_CAPABILITIES (R498): certificates, CHALLENGE, signed measurements, and no other. -/
def State.doGetCapabilities (s : State) : State :=
  s.onSpdm 1 fun s => ({ s with spdm := { s.spdm with phase := max 2 s.spdm.phase } } : State).respond spdmCapabilities (leBytes 4 0x16)

/-- NEGOTIATE_ALGORITHMS (R498): ECDSA P-384 and SHA-384 where the requester offers them. -/
def State.doNegotiate (s : State) (ecdsa sha : Bool) : State :=
  s.onSpdm 2 fun s =>
    ({ s with spdm := { s.spdm with phase := if ecdsa && sha then 3 else 2 } } : State).respond spdmAlgorithms
      (leBytes 4 (0x80 * b2n ecdsa) ++ leBytes 4 (0x02 * b2n sha) ++ leBytes 4 (0x04 * b2n sha))

/-- GET_DIGESTS (R498): slot 0. -/
def State.doGetDigests (s : State) : State := s.onSpdm 3 fun s => s.respond spdmDigests (leBytes 1 1 ++ sha384 certChain)

/-- GET_CERTIFICATE (R498): a portion of the chain of slot 0, with its length and what remains. -/
def State.doGetCertificate (s : State) (slot offset length : Nat) : State :=
  s.onSpdm 3 fun s =>
    if slot ≠ 0 || certChain.length ≤ offset then s.spdmRefuse 0x01
    else
      let p := (certChain.drop offset).take length
      s.respond spdmCertificate (leBytes 2 p.length ++ leBytes 2 (certChain.length - offset - p.length) ++ p)

/-- CHALLENGE (R501): a signed CHALLENGE_AUTH with the hash of the chain. -/
def State.doChallenge (s : State) (slot : Nat) (nonce : Bytes) : State :=
  s.onSpdm 3 fun s => if slot ≠ 0 then s.spdmRefuse 0x01 else s.signed spdmChallengeAuth nonce (sha384 certChain)

/-- R500: the first GET_MEASUREMENTS of a transcript captures every index. -/
def State.captured (s : State) : List (Nat × Bytes) × State :=
  match s.spdm.captured with
  | some c => (c, s)
  | none => let c := s.capture; (c, { s with spdm := { s.spdm with captured := some c } })

/-- GET_MEASUREMENTS (R500, R501): index 0 asks for their number (DSP0274), 0xFF for every one. -/
def State.doGetMeasurements (s : State) (index : Nat) (sign : Bool) (nonce : Bytes) : State :=
  s.onSpdm 3 fun s =>
    let x := s.captured
    let record : Option Bytes :=
      if index = 0 then some (leBytes 1 15)
      else if index = 0xFF then some (x.1.flatMap (·.2))
      else (x.1.find? (·.1 = index)).map (·.2)
    match record with
    | none => x.2.spdmRefuse 0x01
    | some r => if sign then x.2.signed spdmMeasurements nonce r else x.2.respond spdmMeasurements r

/-- UNLOCK_SUBMIT (R504). -/
def execUnlockSubmit (a : Agent) (s : State) : Outcome := .next (s.doSubmit a)
/-- UNLOCK_LOCK (R505). -/
def execUnlockLock (a : Agent) (s : State) : Outcome := .next (s.onReg a .secUnlockCtl (·.endUnlock))
/-- COMMIT_SVN (R497). -/
def execCommitSvn (a : Agent) (s : State) : Outcome := .next (s.onReg a .secCtrl (·.commitSvn))
/-- GET_VERSION (R498). -/
def execGetVersion (s : State) : Outcome := .next s.doGetVersion
/-- GET_CAPABILITIES (R498). -/
def execGetCapabilities (s : State) : Outcome := .next s.doGetCapabilities
/-- NEGOTIATE_ALGORITHMS (R498). -/
def execNegotiateAlgorithms (ecdsaP384 sha384 : Bool) (s : State) : Outcome := .next (s.doNegotiate ecdsaP384 sha384)
/-- GET_DIGESTS (R498). -/
def execGetDigests (s : State) : Outcome := .next s.doGetDigests
/-- GET_CERTIFICATE (R498). -/
def execGetCertificate (slot offset length : Nat) (s : State) : Outcome := .next (s.doGetCertificate slot offset length)
/-- CHALLENGE (R501). -/
def execChallenge (slot : Nat) (nonce : Bytes) (s : State) : Outcome := .next (s.doChallenge slot nonce)
/-- GET_MEASUREMENTS (R500). -/
def execGetMeasurements (index : Nat) (sign : Bool) (nonce : Bytes) (s : State) : Outcome :=
  .next (s.doGetMeasurements index sign nonce)

end Sys2Proof.Machine
end

