-- ==== Sys2Proof/Machine/Telemetry.lean ====
section
/-!
DEFINITION. The health monitor (16_snapshots_and_lizards.md, R427, R428) and queue-depth sampling
(20_counters_and_sampling.md, R518 to R520).
-/
namespace Sys2Proof.Machine

/-! ### Health (R427, R428) -/

/-- R427: input n2: by how much the hottest junction exceeds TJ_TARGET_C − 10. -/
def State.healthHeat (s : State) : Nat :=
  let hot := (s.dieTemp ++ s.stackTemp).foldl (fun m x => max m x.2) 0
  hot - (s.fld PaceEnvLimit.tjTargetC - 10)

/-- R427: RISK after the period just ended. -/
def State.nextRisk (s : State) : Nat :=
  let h := s.health
  let term := fun (w : RegField) (n : Nat) => s.fld w * min n 4095
  let risk := s.fld TelHealthStatus.risk
  min (risk - risk >>> s.fld TelHealthCfg.decayLog2 + term TelHealthCfg.w0 h.n0 + term TelHealthCfg.w1 h.n1 +
    term TelHealthCfg.w2 s.healthHeat + term TelHealthCfg.w3 h.n3 + term TelHealthCfg.w4 h.n4 + term TelHealthCfg.w5 h.n5) (2 ^ 32 - 1)

/-- R427, R428: RISK is updated; at THR the monitor trips, arms the preset when AUTO asks for it and nothing is
armed, and trips again only after RISK has fallen below THR / 2. -/
def State.tickHealth (s : State) : State :=
  let risk := s.nextRisk
  let thr := s.fld TelHealthCfg.thr
  let armed := s.health.armed || 2 * risk < thr
  let s1 := ({ s with health := { armed }, healthDone := true } : State).setFld TelHealthStatus.risk risk
  if thr ≤ risk && armed then
    let s2 := (({ s1 with health := { armed := false } } : State).setFld TelHealthStatus.tripped 1).event 0x08 0
    if s2.flag TelHealthCfg.auto && s2.fld TelHealthPreset.addr ≠ 0 && s2.snapArm.isNone then s2.armPreset else s2
  else s1

/-- R427: a period of the health monitor has just ended. -/
def State.healthDue (s : State) : Bool := !s.healthDone && s.fld TelIntervalCnt.count % 100000 = 0

/-- HEALTH_TICK (R427): once at each multiple of 100,000 of TEL.INTERVAL_CNT. -/
def State.doHealth (s : State) : State := if s.healthDue then s.tickHealth else s

/-! ### Queue-depth sampling (R518 to R520) -/

/-- R519: the entry of one watched queue. -/
def State.watchEntry (s : State) (i : Nat) : Bytes :=
  if s.flag (TelWatch.valid i) then
    let q := s.fld (TelWatch.queue i)
    leBytes 4 (1 <<< 31 + s.qState q <<< 28 + s.qHoldCause q <<< 20 + q) ++ leBytes 4 (s.qHead q).toNat ++
      leBytes 4 (s.qTail q).toNat ++ leBytes 4 (s.qCqTail q).toNat ++ leBytes 4 (s.qCqHead q).toNat ++ leBytes 4 0
  else leBytes 24 0

/-- R519: a telemetry record. -/
def State.teleRecord (s : State) : Bytes :=
  leBytes 8 (s.fld TelIntervalCnt.count) ++ leBytes 4 s.teleSeq ++ leBytes 4 s.committed.toNat ++
    leBytes 1 (b2n s.inStep + 2 * b2n (s.flag QdirStepStatus.noCommit) + 4 * b2n s.teleLost) ++
    leBytes 1 (s.fld PaceStatus.gapFrac) ++ leBytes 1 (s.fld PaceStatus.fastActive) ++ leBytes 1 0 ++
    leBytes 4 (s.reg .pwrInPower) ++ leBytes 4 (s.fld TelHealthStatus.risk) ++ leBytes 4 (s.reg .fabCoachStatus % 2 ^ 20) ++
    leBytes 4 s.hbmFree ++ leBytes 28 0 ++ (List.range 40).flatMap s.watchEntry

/-- R518: a sample is due: PERIOD_US is nonzero, and TEL.INTERVAL_CNT has just reached a multiple of PERIOD_US × 100. -/
def State.sampleDue (s : State) : Bool :=
  let p := s.fld TelSampleCfg.periodUs
  0 < p && s.hbmReady && !s.sampleDone && s.fld TelIntervalCnt.count % (p * 100) = 0

/-- QUEUE_DEPTH_SAMPLE (R518, R520): a record at the next slot of the ring; with the ring full the sample only counts. -/
def State.doSample (s : State) : State :=
  if !s.sampleDue then s
  else
    let tail := BitVec.ofNat 32 (s.fld TelTeleIdx.tail)
    let head := BitVec.ofNat 32 (s.fld TelTeleIdx.head)
    let seq := (s.teleSeq + 1) % 2 ^ 32
    if (tail - head).toNat = 64 then { s with teleSeq := seq, teleLost := true, sampleDone := true }
    else
      let s1 := s.setRaw (areaBase 11 + 1024 * (tail.toNat % 64)) s.teleRecord
      ({ s1 with teleSeq := seq, teleLost := false, sampleDone := true } : State).setFld TelTeleIdx.tail (tail + 1).toNat

/-- HEALTH_TICK (R427). -/
def execHealthTick (s : State) : Outcome := .next s.doHealth
/-- QUEUE_DEPTH_SAMPLE (R518). -/
def execQueueDepthSample (s : State) : Outcome := .next s.doSample

end Sys2Proof.Machine
end

