-- ==== Sys2Proof/Machine/Registers.lean ====
section
/-!
DEFINITION. The control space (21_register_map.md): what a read of a register returns (R525 to R528), what a write of each one
does, the accesses of sessions, the management channel and the module controller (R526, R529), and the rows of registers that
stand in no other file.
-/
namespace Sys2Proof.Machine

/-! ### Reading (R525 to R528) -/

/-- R526: the register is there: a core's registers exist for usable cores (R531). -/
def State.hasReg (s : State) (r : Reg) : Bool :=
  s.grade.hasReg r &&
    (match r with
     | .coreStatus n | .coreEngStatus n | .coreLoopStatus n | .coreDeferStatus n | .coreWinOpen n | .coreTestResult n =>
       n < s.usableCores
     | _ => true)

/-- R153, R212: the registers of a core's tables and list are valid while its STATE is 1 to 4. -/
def State.coreLoaded (s : State) (n : Nat) : Bool := 1 ≤ s.fld (CoreStatus.state n) && s.fld (CoreStatus.state n) ≤ 4

/-- R153 ACC_USED: bytes of the accumulator store that hold open tiles: those that are not complete (section "The accumulator count"). -/
def State.accUsed (s : State) (n : Nat) : Nat :=
  (s.core n).acc.foldl (fun m x => if x.spilled || x.complete then m else m + ((s.table? n x.table).map (·.accBytes)).getD 0) 0

/-- R153: LOOP_STATUS, its ACC_USED and ITER as they are now. -/
def State.loopStatus (s : State) (n : Nat) : Nat :=
  let t := s.fld (CoreLoopStatus.table n)
  putBits (putBits (s.reg (.coreLoopStatus n)) 47 40 (min 255 (ceilDiv (s.accUsed n) 8192))) 23 0
    (min 0xFFFFFF (s.tableRt n t).iters)

/-- R336 CQ_FULL: the oldest command has ended, may post, and waits for a slot of the completion ring. -/
def State.cqFull (s : State) (q : Nat) : Bool :=
  match (s.queue q).cmds with
  | [] => false
  | c :: _ => c.phase = .ended && !c.hold && !c.frozen && s.cqSize q ≤ (c.idx - s.qCqHead q).toNat

/-- R336: QDIR.QSTAT of a queue. -/
def State.qstat (s : State) (q : Nat) : Nat :=
  let r := s.queue q
  (s.qState q % 8) <<< 29 + s.qHoldCause q <<< 21 + b2n r.actRej <<< 20 + b2n r.enr <<< 19 + b2n r.dbBad <<< 18 +
    b2n (s.cqFull q) <<< 17 + s.inFlightQ q % 32

/-- R460: the mapped carts of a domain. -/
def State.cartsIn (s : State) (d : Nat) : List Cart :=
  (s.carts.filter fun e => e.2.state ≠ .unmapped && e.2.domain = d).map (·.2)

/-- R460: a home page counts as two carts, with its head. -/
def cartWeight (c : Cart) : Nat := if c.kind = 1 then 2 else if c.kind = 2 then 0 else 1

/-- R460, R469: TEL.DOM_POOL_A of a domain. -/
def State.domPoolA (s : State) (d : Nat) : Nat :=
  let n := fun (cs : List Cart) => cs.foldl (fun m c => m + cartWeight c) 0
  n (s.cartsIn d) <<< 32 + n ((s.cartsIn d).filter (·.pinned))

/-- R460, R469: TEL.DOM_POOL_B of a domain. -/
def State.domPoolB (s : State) (d : Nat) : Nat :=
  let fs := (s.cartsIn d).flatMap (·.frames)
  (fs.filter fun f => framePlace f = 0).length <<< 32 + (fs.filter fun f => framePlace f = 1 || framePlace f = 2).length

/-- R250 ENG_BUSY: an update engine holds tiles that have arrived. -/
def State.engBusy (s : State) : Nat :=
  (indicesWhere 16 fun k => s.routes.any fun r =>
    !r.2.unitIn.isEmpty &&
      (match s.im.route? r.1 with
       | some x => x.dstKind = 1 && unitKindOf x.dst = 5 && unitInstOf x.dst = k
       | none => false)).foldl (fun n k => n + 2 ^ k) 0

/-- R362: ETH[k].STATUS with its counts of attached sessions. -/
def State.ethStatus (s : State) (k : Nat) : Nat :=
  let on := s.attachedOn k
  putBits (putBits (s.reg (.ethStatus k)) 26 16 on.length) 27 27 (b2n (on.any fun j => (s.session j).owner))

/-- R511, R513, R521: the counter that an agent has selected; a reserved number reads zero. -/
def Selectors.counter (sel : Selectors) (s : State) : Counter :=
  if sel.cnt / 1048576 = 0 || 0x1A < sel.cnt / 1048576 then {} else Sparse.get {} s.counters sel.cnt

/-- R14, R525, R528: the value that a register returns to an agent: a WO field reads zero, a selector and what it selects are the
agent's own, a count that follows the state is taken from the state. -/
def State.readReg (s : State) (a : Agent) (r : Reg) : Nat :=
  let sel := s.selOf a
  match r with
  | .glbCap i => s.capWord i
  | .secNonce i => (Config.nonce s.nonceDraw i).toNat
  | .secUnlockBuf _ | .qdirDoorbell _ | .qdirCqDoorbell _ | .pwrResetCtrl | .secCtrl | .telCntCtrl => 0
  | .telCntSel =>
    b2n (sel.counter s).ovf <<< 63 + b2n (s.counters.any fun e => e.2.ovf) <<< 62 + sel.cnt
  | .telCntVal => (sel.counter s).count
  | .telDomQuery => sel.dom
  | .telDomPoolA => s.domPoolA sel.dom
  | .telDomPoolB => s.domPoolB sel.dom
  | .ethSessQuery => sel.sess
  | .ethSessInfo => sel.sessInfo.toNat
  | .ethStatus k => s.ethStatus k
  | .cxlPoolStatus => putBits (putBits (s.reg .cxlPoolStatus) 63 36 s.cxlFree) 31 8 s.hbmFree
  | .cxlCartQuery => sel.cart <<< 16
  | .cxlCartEntryLo => sel.cartLo.toNat
  | .cxlCartEntryHi => sel.cartHi.toNat
  | .hbmUpdStatus => putBits (s.reg .hbmUpdStatus) 15 0 s.engBusy
  | .fabTokenStatus => putBits (s.reg .fabTokenStatus) 31 31 (b2n s.quiescent)
  | .fabGovCtrl => putBits (s.reg .fabGovCtrl) 12 0 s.govUsed.length
  | .coreLoopStatus n => if s.coreLoaded n then s.loopStatus n else 0
  | .coreDeferStatus n =>
    if s.coreLoaded n then putBits (s.reg (.coreDeferStatus n)) 5 0 (s.core n).deferred.length else 0
  | .qdirQctrl => sel.queue
  | .qdirQstat => s.qstat sel.queue
  | .qdirQstatIdx => (s.qCqTail sel.queue).toNat <<< 32 + (s.qHead sel.queue).toNat
  | r => s.reg r

/-- R527: the RC fields of a register that bytes [lo, lo + size) of its slot include are cleared by a read. -/
def State.readClear (s : State) (r : Reg) (lo size : Nat) : State :=
  ((Reg.layout r).filter fun f => f.acc = .rc && f.lo < 8 * (lo + size) && 8 * lo ≤ f.hi).foldl
    (fun s f => s.setReg r (putBits (s.reg r) f.hi f.lo 0)) s

/-- The register whose slot holds an offset, if one is there (R525, R526). -/
def State.slotReg (s : State) (off : Nat) : Option Reg := (Reg.at (off - off % 8)).filter s.hasReg

/-- R525: the widths and alignments of a read. -/
def readForm (off size : Nat) : Bool := (size = 8 && off % 8 = 0) || (size = 4 && off % 4 = 0)

/-- R525: the bytes that a read of a slot returns. -/
def State.slotValue (s : State) (a : Agent) (off size : Nat) : Nat :=
  match s.slotReg off with
  | some r => s.readReg a r / 2 ^ (8 * (off % 8)) % 2 ^ (8 * size)
  | none => 0

/-- R525 to R529: a read by an agent: its value, or nothing when it is refused; a read that R525 does not name is refused of a session
and has no effect of another agent (log entry 40). -/
def State.ctlRead (s : State) (a : Agent) (off size : Nat) : Option Nat × State :=
  if !readForm off size then
    (none, match a with
      | .session k => s.refuseRequest (s.session k).port k 2 (ctlBase + off)
      | _ => s)
  else if !s.mayRead a off then (none, s.ctlRefuse a 4 3 off)
  else
    (some (s.slotValue a off size),
     match s.slotReg off with
     | some r => s.readClear r (off % 8) size
     | none => s)

/-! ### Writing one register -/

/-- R14: the value that a write leaves in a register: RW fields take theirs, W1C bits written as 1 are cleared. -/
def mergeReg (r : Reg) (old v : Nat) : Nat :=
  (Reg.layout r).foldl (fun n f =>
    let x := bitsOf v f.hi f.lo
    match f.acc with
    | .rw => putBits n f.hi f.lo x
    | .w1c => putBits n f.hi f.lo (bitsOf old f.hi f.lo &&& (2 ^ (f.hi + 1 - f.lo) - 1 - x))
    | _ => n) old

/-- R14: the plain write of a register. -/
def State.plainWrite (s : State) (r : Reg) (v : Nat) : State := s.setReg r (mergeReg r (s.reg r) v)

/-- R285, R399, R491: a write in which the fields [hi:lo] that are zero keep their values: only the write of such a field is ignored
(DEDUCED, log entry 40). -/
def State.writeNonzero (s : State) (r : Reg) (fields : List (Nat × Nat)) (v : Nat) : State :=
  s.plainWrite r (fields.foldl (fun v f => if bitsOf v f.1 f.2 = 0 then putBits v f.1 f.2 (bitsOf (s.reg r) f.1 f.2) else v) v)

/-- R37 to R39: a write of a PACE register that is out of range is ignored and sets CFG_REJ. -/
def State.paceWrite (s : State) (ok : Bool) (f : State → State) : State := if ok then f s else s.setFld PaceStatus.cfgRej 1

/-- PACE.VSET (R37): the setpoint; the core rails follow it once they are up. -/
def State.writeVset (s : State) (v : Nat) : State :=
  let mv := bitsOf v 9 0
  s.paceWrite (700 ≤ mv && mv ≤ 800) fun s =>
    let s1 := s.setFld PaceVset.vsetMv mv
    if s.railsUp then { s1 with railMv := mv } else s1

/-- PACE.DROOP_THR (R38). -/
def State.writeDroopThr (s : State) (v : Nat) : State :=
  let m := bitsOf v 6 0
  s.paceWrite (20 ≤ m && m ≤ 100 && bitsOf v 23 16 ≠ 0 && bitsOf v 31 24 ≠ 0) (·.plainWrite .paceDroopThr v)

/-- PACE.ENV_LIMIT (R39). -/
def State.writeEnvLimit (s : State) (v : Nat) : State :=
  let w := bitsOf v 11 0
  let tj := bitsOf v 23 16
  s.paceWrite (1200 ≤ w && w ≤ s.grade.envW && 70 ≤ tj && tj ≤ 95) (·.plainWrite .paceEnvLimit v)

/-- SEC.UNLOCK_CTL (R507): SUBMIT is the management channel's (R504). -/
def State.writeUnlockCtl (s : State) (a : Agent) (v : Nat) : State :=
  if bitOf v 31 && bitOf v 30 then s
  else
    let s1 := s.plainWrite .secUnlockCtl v
    if bitOf v 31 then (if isMgmt a then s1.submitToken else s1)
    else if bitOf v 30 then s1.endUnlock
    else s1

/-- TEL.CNT_CTRL (R512, R522): clear the counter that the agent has selected, or every one. -/
def State.writeCntCtrl (s : State) (a : Agent) (v : Nat) : State :=
  if bitOf v 31 && bitOf v 30 then s
  else if bitOf v 31 then { s with counters := Sparse.set {} s.counters (s.selOf a).cnt {} }
  else if bitOf v 30 then { s with counters := [] }
  else s

/-- An index written lies between HEAD and TAIL (R523, R524). -/
def headOk (head tail v : W32) : Bool := (v - head).toNat ≤ (tail - head).toNat

/-- TEL.EVT_HEAD (R523): an empty ring lets IBI 0x01 be raised again (R547). -/
def State.writeEvtHead (s : State) (v : Nat) : State :=
  let tail := BitVec.ofNat 32 (s.fld TelEvtStatus.tail)
  if headOk (BitVec.ofNat 32 (s.fld TelEvtHead.head)) tail (BitVec.ofNat 32 v) then
    let s1 := s.setFld TelEvtHead.head v
    if BitVec.ofNat 32 v = tail then { s1 with i3c := { s1.i3c with ringArmed := true } } else s1
  else s

/-- TEL.TELE_IDX (R524). -/
def State.writeTeleHead (s : State) (v : Nat) : State :=
  if headOk (BitVec.ofNat 32 (s.fld TelTeleIdx.head)) (BitVec.ofNat 32 (s.fld TelTeleIdx.tail)) (BitVec.ofNat 32 v) then
    s.setFld TelTeleIdx.head v
  else s

/-- LAU[k].CFG (R400, R479): weights, and the port's enable. -/
def State.writePortCfg (s : State) (k v : Nat) : State :=
  if bitsOf v 15 4 = 0 then s
  else
    let s1 := ((s.setFld (LauPortCfg.wM k) (bitsOf v 15 12)).setFld (LauPortCfg.wB k) (bitsOf v 11 8)).setFld (LauPortCfg.wC k)
      (bitsOf v 7 4)
    let was := s.flag (LauPortCfg.enable k)
    if bitOf v 31 && !was then s1.enablePort k else if !bitOf v 31 && was then s1.disablePort k else s1

/-- ETH[k].CFG (R361): OWNER_EN is the management channel's and the module controller's. -/
def State.writeEthCfg (s : State) (a : Agent) (k v : Nat) : State :=
  if bitsOf v 15 8 = 0 then s
  else
    let own := match a with | .session _ => s.fld (EthCfg.ownerEn k) | _ => bitsOf v 4 4
    s.plainWrite (.ethCfg k) (putBits v 4 4 own)

/-- R290: code of a cart's state. -/
def cartCode : CartState → Nat
  | .unmapped => 0 | .hbm => 1 | .cxl => 2 | .toHbm => 3 | .toCxl => 4 | .lost => 5

/-- R290: CART_ENTRY_LO of a cart. A tail has its own DOMAIN and KIND; its page's state is its head's (R262, R265). -/
def State.cartEntryLo (s : State) (c : Nat) : Nat :=
  let x := s.cart c
  let h := s.cart (s.headOf c)
  let v : Version := if x.kind = 1 then s.version (c / 2) else {}
  h.lastTouch.toNat <<< 32 + (x.domain % 65536) <<< 16 + b2n v.v <<< 12 + b2n v.p <<< 11 + b2n h.pinned <<< 10 + (x.kind % 4) <<< 8 +
    cartCode h.state

/-- R291: CART_ENTRY_HI of a cart. -/
def State.cartEntryHi (s : State) (c : Nat) : Nat :=
  let x := s.cart c
  if x.kind = 2 then 0 else (if x.kind = 1 then x.frameB else 0) <<< 32 + x.frameA % 2 ^ 32

/-- CXL.CART_QUERY (R289): latch the entry of a cart. -/
def State.writeCartQuery (s : State) (a : Agent) (v : Nat) : State :=
  let c := bitsOf v 47 16
  s.setSelOf a { s.selOf a with cart := c, cartLo := BitVec.ofNat 64 (s.cartEntryLo c), cartHi := BitVec.ofNat 64 (s.cartEntryHi c) }

/-- R366: ETH.SESS_INFO of a slot. -/
def State.sessInfo (s : State) (k : Nat) : Nat :=
  let x := s.session k
  let st := match x.state with | .free => 0 | .attached => 1 | .detached => 2
  (x.domain % 65536) <<< 48 + (x.port % 8) <<< 45 + st <<< 43 + b2n x.owner <<< 42 + b2n x.express <<< 41 +
    s.sessionNumber k % 2 ^ 32

/-- ETH.SESS_QUERY (R365): latch a session. -/
def State.writeSessQuery (s : State) (a : Agent) (v : Nat) : State :=
  let k := v % 4096
  s.setSelOf a { s.selOf a with sess := k, sessInfo := BitVec.ofNat 64 (s.sessInfo k) }

/-- FAB.GOV_CTRL (R178). -/
def State.writeGovCtrl (s : State) (v : Nat) : State :=
  let s1 := s.plainWrite .fabGovCtrl v
  if bitOf v 16 then
    if s.inStep then s1.setFld FabGovCtrl.rej 1 else s1.clearRaw (areaBase 5) (areaOf 5).2
  else s1

/-- R457, R481: a release is accepted. -/
def State.mayReleaseFabric (s : State) : Bool := !s.inStep && s.seg.isNone && s.acts.isEmpty && !s.testing

/-- R457: the fabric is released: scratchpads and accumulators zero, windows closed, no image active, unclaimed. -/
def State.releaseFabric (s : State) : State :=
  let s1 := (s.unload.setCores 0).clearRaw spBase (s.grade.cores * 2097152)
  let s2 := { s1 with
    ver := s1.ver.filter fun e => e.1 < spBase / 131072,
    badWords := s1.badWords.filter fun w => !(spBase ≤ w.1 && w.1 < ctlBase) && !(storeWord 2 0 0 ≤ w.1 && w.1 < storeWord 3 0 0) }
  (((s2.setFld FabCoachStatus.activeSlot 15).setFld FabCoachStatus.phase 0).setFld FabDomCtl.claimed 0).setFld FabDomCtl.domain 0

/-- FAB.DOM_CTL (R457, R466). -/
def State.writeDomCtl (s : State) (v : Nat) : State :=
  let s1 := s.plainWrite .fabDomCtl v
  if bitOf v 31 then (if s.mayReleaseFabric then s1.releaseFabric else s1.setFld FabDomCtl.rej 1) else s1

/-- FAB.SPARE[n] (R65): a column from 17 to 30 is ignored; a request of software takes the place of the device's. -/
def State.writeSpare (s : State) (n v : Nat) : State :=
  let col := bitsOf v 12 8
  if 17 ≤ col && col ≤ 30 then s.plainWrite (.fabSpare n) (putBits v 12 8 (s.fld (FabSpare.reqCol n)))
  else ((s.plainWrite (.fabSpare n) v).setFld (FabSpare.reqHw n) 0).showCand n

/-- FAB.TMAP[k] (R465). -/
def State.writeTmap (s : State) (k v : Nat) : State :=
  if s.seg.isSome then s.setFld FabDomCtl.rej 1 else s.plainWrite (.fabTmap k) v

/-- R467: the windows of a core that have a WINDOW record. -/
def State.windowMask (s : State) (n : Nat) : Nat :=
  (indicesWhere 16 fun w => s.im.windowRecs.any fun r => r.core = n && r.w = w).foldl (fun m w => m + 2 ^ w) 0

/-- CORE[n].WIN_OPEN (R467). -/
def State.writeWinOpen (s : State) (n v : Nat) : State := s.setReg (.coreWinOpen n) (v % 65536 &&& s.windowMask n)

/-- CORE[n].ENG_STATUS (R205): clearing SCALAR_FAULT clears its cause and its address. -/
def State.writeEngStatus (s : State) (n v : Nat) : State :=
  let s1 := s.plainWrite (.coreEngStatus n) v
  if bitOf v 10 then (s1.setFld (CoreEngStatus.faultCause n) 0).setFld (CoreEngStatus.faultPc n) 0 else s1

/-- QDIR.QCTRL (R335): it selects the queue, then acts on it; a reserved action only selects. -/
def State.writeQctrl (s : State) (a : Agent) (v : Nat) : State :=
  let q := v % 1048576
  let s1 := s.selectQueue a q
  match bitsOf v 31 28 with
  | 1 => s1.openQ q
  | 2 => s1.closeQ q
  | 3 => s1.releaseQ q
  | 4 => s1.discardQ q
  | 5 => s1.abortWaitQ q
  | _ => s1

/-- QDIR.QSTAT (R336): the sticky bits of the selected queue. -/
def State.writeQstat (s : State) (a : Agent) (v : Nat) : State :=
  s.modQueue (s.selOf a).queue fun r =>
    { r with actRej := r.actRej && !bitOf v 20, enr := r.enr && !bitOf v 19, dbBad := r.dbBad && !bitOf v 18 }

/-- R14, R527: what a write of each register does; `v` has the register's width. -/
def State.writeReg (s : State) (a : Agent) (r : Reg) (v : Nat) : State :=
  match r with
  | .glbRecovCtrl => if 3 < bitsOf v 7 4 then s else s.plainWrite r v
  | .pwrCtrl => (s.plainWrite r v).tryStart
  | .pwrResetCtrl =>
    if a = .modctl then s
    else if bitsOf v 1 0 = 1 then s.fabricReset 0x04 []
    else if bitsOf v 1 0 = 2 then s.moduleReset 0x03
    else s
  | .paceVset => s.writeVset v
  | .paceDroopThr => s.writeDroopThr v
  | .paceEnvLimit => s.writeEnvLimit v
  | .secUnlockCtl => s.writeUnlockCtl a v
  | .secCtrl => if bitOf v 0 then s.commitSvn else s
  | .secUnlockBuf _ => if isMgmt a then s.setReg r v else s
  | .telCntSel => s.setSelOf a { s.selOf a with cnt := v % 2 ^ 32 }
  | .telCntCtrl => s.writeCntCtrl a v
  | .telEvtHead => s.writeEvtHead v
  | .telTeleIdx => s.writeTeleHead (v % 2 ^ 32)
  | .telHealthCfg => if bitsOf v 30 27 = 0 then s else s.plainWrite r v
  | .telDomQuery => s.setSelOf a { s.selOf a with dom := v % 65536 }
  | .lauCtrl => s.writeNonzero r [(31, 8), (7, 0)] v
  | .lauRoute i => s.writeRoute i v
  | .lauPortCfg k => s.writePortCfg k v
  | .ethSessQuery => s.writeSessQuery a v
  | .ethCfg k => s.writeEthCfg a k v
  | .ethPartnerHi k => s.writePartnerHi k v
  | .ethPartnerLo k => s.writePartnerLo k v
  | .cxlPoolCfg => if bitsOf v 31 24 = 0 || s.grade.hbmFrames / 8 < bitsOf v 23 0 then s else s.plainWrite r v
  | .cxlTierLimit => s.writeNonzero r [(31, 16), (15, 0)] v
  | .cxlCartQuery => s.writeCartQuery a v
  | .fabGovCtrl => s.writeGovCtrl v
  | .fabDomCtl => s.writeDomCtl v
  | .fabSpareTest => s.writeNonzero r [(61, 56)] v
  | .fabEdgeWeight _ => if bitsOf v 15 0 = 0 then s else s.plainWrite r v
  | .fabSpare n => s.writeSpare n v
  | .fabTmap k => s.writeTmap k v
  | .coreEngStatus n => s.writeEngStatus n v
  | .coreWinOpen n => s.writeWinOpen n v
  | .qdirQctrl => s.writeQctrl a v
  | .qdirQstat => s.writeQstat a v
  | .qdirDoorbell q => s.ringDoorbell q (BitVec.ofNat 32 v)
  | .qdirCqDoorbell q => s.cqRing q (BitVec.ofNat 32 v)
  | r => s.plainWrite r v

/-! ### Accesses of agents (R525, R526, R529) -/

/-- R525: the register that a write of `size` bytes sets. -/
def State.writeTarget (s : State) (off size : Nat) : Option Reg :=
  (s.slotReg off).filter fun r => off % 8 = 0 && (size = 8 || (size = 4 && r.width = 32))

/-- R526: a write that sets no register: refused of a session with CAUSE 2; ignored and recorded of another agent, KIND 1 at an
offset without a register, KIND 2 for a width or half. -/
def State.badWrite (s : State) (a : Agent) (off : Nat) : State :=
  s.ctlRefuse a 2 (if (s.slotReg off).isNone then 1 else 2) off

/-- R525, R526, R529: a write by an agent. -/
def State.ctlWrite (s : State) (a : Agent) (off size v : Nat) : State :=
  if !s.present a then s
  else match s.writeTarget off size with
    | none => s.badWrite a off
    | some r => s.onReg a r fun s => s.writeReg a r (v % 2 ^ r.width)

/-- A write by an agent of a whole register. -/
def State.regWrite (s : State) (a : Agent) (r : Reg) (v : Nat) : State := s.ctlWrite a (Reg.offset r) (r.width / 8) v

/-- A read by an agent of the control space (R527), whose value leaves on its interface. -/
def State.doRegRead (s : State) (a : Agent) (off size : Nat) : State :=
  if !s.present a then s
  else
    let x := s.ctlRead a off size
    match x.1 with
    | some v => x.2.emit (.regRead a (BitVec.ofNat 64 v))
    | none => x.2

/-! ### The management channel's requests for unified addresses (R452, R453) -/

/-- The range lies wholly in reserved carts. -/
def State.allReserved (s : State) (a len : Nat) : Bool :=
  0 < len && s.grade.zone a = .reserved && s.grade.zone (a + len - 1) = .reserved

/-- R453, R536: a request of the management channel that R452 does not grant: it is recorded, and answered as refused. -/
def State.mgmtRefuse (s : State) (a : Nat) : State := (s.accIgnored .mgmt 3 a).emit .mgmtRefused

/-- R452, R503: the management channel may read a range: reserved carts, those of the newt area only under an unlock of NEWT_READ
(DEDUCED, log entry 40). -/
def State.mgmtReads (s : State) (a len : Nat) : Bool :=
  s.allReserved a len &&
    (2 ≤ s.fld SecStatus.scope || a + len ≤ areaBase 1 || areaBase 1 + (areaOf 1).2 ≤ a)

/-- R452: the module controller reads reserved carts for the management channel; a word that is uncorrectable is met as R414 says, and
what it reads then is unspecified. -/
def State.mgmtRead (s : State) (a size : Nat) : State :=
  if !s.mgmtLink then s
  else if ctlBase ≤ a && a < ctlBase + 67108864 then s.doRegRead .mgmt (a - ctlBase) size
  else if s.mgmtReads a size then
    let r := (s.settleFree a size).reservedMeets .nobody a size
    if r.1 then
      let d := r.2.nextDraw
      d.emit (.mgmtData ((List.range size).map (Config.unspecifiedByte r.2.draws)))
    else r.2.emit (.mgmtData (r.2.bytes a size))
  else s.mgmtRefuse a

/-- R452: the module controller writes reserved carts for the management channel. -/
def State.mgmtWrite (s : State) (a size v : Nat) : State :=
  if !s.mgmtLink then s
  else if ctlBase ≤ a && a < ctlBase + 67108864 then s.ctlWrite .mgmt (a - ctlBase) size v
  else if s.allReserved a size then (s.agentWrite (rangeOf a (leBytes size v))).evalFlags
  else s.mgmtRefuse a

/-- REGISTER_READ_CLEAR (R527, R452). -/
def State.doRegisterRead (s : State) (a : Agent) (off size : Nat) : State :=
  if a = .mgmtAt then s.mgmtRead off size else s.doRegRead a off size

/-- REGISTER_WRITE (R525 to R529, R452). -/
def State.doRegisterWrite (s : State) (a : Agent) (off size v : Nat) : State :=
  if a = .mgmtAt then s.mgmtWrite off size v else s.ctlWrite a off size v

/-! ### The rows -/

/-- DOM_CTL_RELEASE (R457). -/
def execDomCtlRelease (a : Agent) (s : State) : Outcome := .next (s.regWrite a .fabDomCtl (2 ^ 31))
/-- WIN_OPEN_WRITE (R459, R467). -/
def execWinOpenWrite (a : Agent) (core : Nat) (v : W32) (s : State) : Outcome := .next (s.regWrite a (.coreWinOpen core) v.toNat)
/-- TMAP_WRITE (R465). -/
def execTmapWrite (a : Agent) (k : Nat) (v : W64) (s : State) : Outcome := .next (s.regWrite a (.fabTmap k) v.toNat)
/-- PACE_VSET_WRITE (R37). -/
def execPaceVsetWrite (a : Agent) (v : W32) (s : State) : Outcome := .next (s.regWrite a .paceVset v.toNat)
/-- EDGE_WEIGHT_WRITE (R71). -/
def execEdgeWeightWrite (a : Agent) (k : Nat) (v : W32) (s : State) : Outcome := .next (s.regWrite a (.fabEdgeWeight k) v.toNat)
/-- SPARE_REQ_COL_WRITE (R65). -/
def execSpareReqColWrite (a : Agent) (n : Nat) (v : W32) (s : State) : Outcome := .next (s.regWrite a (.fabSpare n) v.toNat)
/-- GOV_CLEAR (R178). -/
def execGovClear (a : Agent) (s : State) : Outcome := .next (s.regWrite a .fabGovCtrl (2 ^ 16))
/-- CART_QUERY (R289). -/
def execCartQuery (a : Agent) (v : W64) (s : State) : Outcome := .next (s.regWrite a .cxlCartQuery v.toNat)
/-- SESS_QUERY (R365). -/
def execSessQuery (a : Agent) (v : W32) (s : State) : Outcome := .next (s.regWrite a .ethSessQuery v.toNat)
/-- CNT_CLEAR (R522). -/
def execCntClear (a : Agent) (s : State) : Outcome := .next (s.regWrite a .telCntCtrl (2 ^ 31))
/-- CNT_CLEAR_ALL (R522). -/
def execCntClearAll (a : Agent) (s : State) : Outcome := .next (s.regWrite a .telCntCtrl (2 ^ 30))
/-- EVT_HEAD_WRITE (R523). -/
def execEvtHeadWrite (a : Agent) (v : W32) (s : State) : Outcome := .next (s.regWrite a .telEvtHead v.toNat)
/-- TELE_HEAD_WRITE (R524). -/
def execTeleHeadWrite (a : Agent) (v : W64) (s : State) : Outcome := .next (s.regWrite a .telTeleIdx v.toNat)
/-- REGISTER_READ_CLEAR (R527). -/
def execRegisterReadClear (a : Agent) (offset size : Nat) (s : State) : Outcome := .next (s.doRegisterRead a offset size)
/-- REGISTER_WRITE (R527). -/
def execRegisterWrite (a : Agent) (offset size : Nat) (v : W64) (s : State) : Outcome := .next (s.doRegisterWrite a offset size v.toNat)

end Sys2Proof.Machine
end

