-- ==== Sys2Proof/Machine/I3c.lean ====
section
/-!
DEFINITION. The I3C target of the module controller (22_module_physical.md, R543 to R547): command frames and their responses,
common command codes, in-band interrupts.
-/
namespace Sys2Proof.Machine

/-! ### Frames (R545) -/

/-- R545: one bit of the CRC-8 with polynomial x⁸ + x² + x + 1. -/
def pecBit (c : Nat) : Nat := if 128 ≤ c then (2 * c % 256) ^^^ 0x07 else 2 * c

/-- R545: PEC of a byte string. -/
def pecOf (bs : Bytes) : Nat := bs.foldl (fun c b => (List.range 8).foldl (fun c _ => pecBit c) (c ^^^ b.toNat)) 0

/-- R545: a byte string with its PEC. -/
def withPec (bs : Bytes) : Bytes := bs ++ leBytes 1 (pecOf bs)

/-- R545: a response. -/
def i3cFrame (status : Nat) (data : Bytes) : Bytes := withPec (leBytes 1 status ++ leBytes 1 data.length ++ data)

/-- R545: the response to a command is kept until the next. -/
def State.i3cReply (s : State) (status : Nat) (data : Bytes) : State :=
  { s with i3c := { s.i3c with response := some (i3cFrame status data) } }

/-- R545, R546: a command frame reaches the module controller, which answers in every module state (R474 step 4): a wrong PEC, or
arguments that `ok` refuses, is STATUS 2. -/
def State.onI3c (s : State) (code : Nat) (args : Bytes) (pec : Byte) (ok : Bytes → Bool) (f : State → State) : State :=
  if !s.auxOk then s
  else if pecOf (leBytes 1 code ++ leBytes 1 args.length ++ args) = pec.toNat && args.length < 256 && ok args then f s
  else s.i3cReply 2 []

/-- R546: a command without arguments that returns data. -/
def State.i3cGet (s : State) (code : Nat) (args : Bytes) (pec : Byte) (data : State → Bytes) : State :=
  s.onI3c code args pec (·.isEmpty) fun s => s.i3cReply 0 (data s)

/-! ### Commands (R546) -/

/-- GET_ID: words 0 to 2 of the capability table. -/
def State.idBytes (s : State) : Bytes := leBytes 8 (s.capWord 0) ++ leBytes 8 (s.capWord 1) ++ leBytes 8 (s.capWord 2)

/-- GET_POWER. -/
def State.powerBytes (s : State) : Bytes :=
  leBytes 4 (s.reg .pwrStatus) ++ leBytes 4 (s.reg .pwrInPower) ++ leBytes 8 (s.reg .pwrResetCause)

/-- GET_TEMP: a junction, 0x80 for a part that the grade lacks. -/
def tempByte (n : Nat) (temps : List (Nat × Nat)) (i : Nat) : Bytes :=
  leBytes 1 (if i < n then min 127 (Sparse.get 0 temps i) else 0x80)

/-- GET_TEMP. -/
def State.tempBytes (s : State) : Bytes :=
  (List.range 4).flatMap (tempByte s.grade.dies s.dieTemp) ++ (List.range 8).flatMap (tempByte s.grade.stackNum s.stackTemp) ++
    leBytes 1 (min 127 s.hotJunction) ++ leBytes 1 (s.fld PaceEnvLimit.tjTargetC) ++ leBytes 2 0 ++ leBytes 4 (s.reg .paceStatus)

/-- READ_REG (R546): GLB, PWR, PACE and TEL (R529); an offset that is no multiple of 8 is a bad argument. -/
def State.i3cRead (s : State) (args : Bytes) : State :=
  let off := leNat args
  if off % 8 ≠ 0 then s.i3cReply 2 []
  else if !s.mayRead .modctl off then s.i3cReply 3 []
  else
    let x := s.ctlRead .modctl off 8
    x.2.i3cReply 0 (leBytes 8 (x.1.getD 0))

/-- WRITE_REG (R546): PWR registers other than RESET_CTRL. -/
def State.i3cWrite (s : State) (args : Bytes) : State :=
  let off := leField args 0 4
  if !s.mayWrite .modctl off || off = Reg.offset .pwrResetCtrl || off = Reg.offset .pwrResetCtrl + 4 then s.i3cReply 3 []
  else (s.ctlWrite .modctl off (args.length - 4) (leNat (args.drop 4))).i3cReply 0 []

/-- MODULE_RESET: its response is readable before the reset begins. -/
def State.i3cModule (s : State) : State := (s.i3cReply 0 []).moduleReset 0x02

/-- FABRIC_RESET: a fabric reset is made only in READY; before that it is not permitted (log entry 36). -/
def State.i3cFabric (s : State) (fails : List (Nat × Nat)) : State :=
  if s.pwr = 4 then (s.i3cReply 0 []).fabricReset 0x04 fails else s.i3cReply 3 []

/-- A private read (R545): busy until the answer is there; with no command frame since reset nothing is acknowledged (log entry
40). -/
def State.doPrivateRead (s : State) (ready : Bool) : State :=
  if !s.auxOk then s
  else match s.i3c.response with
    | none => s.emit .i3cNack
    | some r => s.emit (.i3cResponse (if ready then r else i3cFrame 4 []))

/-! ### Common command codes (R544) and in-band interrupts (R547) -/

/-- R544: the target answers a common command code. -/
def State.onCcc (s : State) (f : State → State) : State := if s.auxOk then f s else s

/-- SETDASA: from the static address (R543), once. -/
def State.doSetdasa (s : State) (static dynamic : Nat) : State :=
  s.onCcc fun s =>
    if static = 0x30 + s.slotId && s.i3c.dynamic.isNone then { s with i3c := { s.i3c with dynamic := some dynamic } } else s

/-- SETNEWDA: a new dynamic address in place of the one held. -/
def State.doSetnewda (s : State) (dynamic : Nat) : State :=
  s.onCcc fun s => if s.i3c.dynamic.isSome then { s with i3c := { s.i3c with dynamic := some dynamic } } else s

/-- RSTDAA: the static address again. -/
def State.doRstdaa (s : State) : State := s.onCcc fun s => { s with i3c := { s.i3c with dynamic := none } }

/-- GETPID: 48 bits, most significant byte first; bits [31:0] are those of DEVICE_ID. -/
def State.pidBytes (s : State) : Bytes := (leBytes 4 s.fuses.deviceId ++ leBytes 2 Config.pidHigh.toNat).reverse

/-- The pending interrupt of GETSTATUS (I3C Basic): the low bits of the data byte of the oldest one. -/
def State.statusBytes (s : State) : Bytes := leBytes 1 0 ++ leBytes 1 (s.i3c.pendingIbi.headD 0 % 16)

/-- A common command code that returns bytes. -/
def State.cccReply (s : State) (f : State → Bytes) : State := s.onCcc fun s => s.emit (.i3cCcc (f s))

/-- ENEC: in-band interrupts are enabled. -/
def State.doEnec (s : State) : State := s.onCcc fun s => { s with i3c := { s.i3c with ibiEnabled := true } }

/-- DISEC: in-band interrupts are disabled, those not accepted among them (R547). -/
def State.doDisec (s : State) : State :=
  s.onCcc fun s => { s with i3c := { s.i3c with ibiEnabled := false, pendingIbi := [] } }

/-- IBI_RETRY (R547): an interrupt not accepted is raised again. -/
def State.doIbiRetry (s : State) (code : Nat) (accepted : Bool) : State :=
  if s.auxOk && s.i3c.pendingIbi.contains code then
    if accepted then { s with i3c := { s.i3c with pendingIbi := s.i3c.pendingIbi.filter (· ≠ code) } } else s.emit (.ibi code)
  else s

/-! ### The rows -/

/-- I3C_GET_ID (R546). -/
def execI3cGetId (args : Bytes) (pec : Byte) (s : State) : Outcome := .next (s.i3cGet 0x01 args pec (·.idBytes))
/-- I3C_GET_POWER (R546). -/
def execI3cGetPower (args : Bytes) (pec : Byte) (s : State) : Outcome := .next (s.i3cGet 0x02 args pec (·.powerBytes))
/-- I3C_GET_TEMP (R546). -/
def execI3cGetTemp (args : Bytes) (pec : Byte) (s : State) : Outcome := .next (s.i3cGet 0x03 args pec (·.tempBytes))
/-- I3C_GET_EVENTS (R546): the read clears LOST_COUNT (R527). -/
def execI3cGetEvents (args : Bytes) (pec : Byte) (s : State) : Outcome :=
  .next (s.onI3c 0x04 args pec (·.isEmpty) fun s =>
    (s.readClear .telEvtStatus 0 8).i3cReply 0 (leBytes 8 (s.reg .telEvtStatus)))
/-- I3C_READ_REG (R546). -/
def execI3cReadReg (args : Bytes) (pec : Byte) (s : State) : Outcome :=
  .next (s.onI3c 0x10 args pec (·.length = 4) fun s => s.i3cRead args)
/-- I3C_WRITE_REG (R546). -/
def execI3cWriteReg (args : Bytes) (pec : Byte) (s : State) : Outcome :=
  .next (s.onI3c 0x11 args pec (fun b => b.length = 8 || b.length = 12) fun s => s.i3cWrite args)
/-- I3C_MODULE_RESET (R546). -/
def execI3cModuleReset (args : Bytes) (pec : Byte) (s : State) : Outcome :=
  .next (s.onI3c 0x20 args pec (· = [0x52, 0x4D]) (·.i3cModule))
/-- I3C_FABRIC_RESET (R546). -/
def execI3cFabricReset (args : Bytes) (pec : Byte) (fails : List (Nat × Nat)) (s : State) : Outcome :=
  .next (s.onI3c 0x21 args pec (· = [0x52, 0x46]) (·.i3cFabric fails))
/-- I3C_PRIVATE_READ (R545). -/
def execI3cPrivateRead (ready : Bool) (s : State) : Outcome := .next (s.doPrivateRead ready)
/-- SETDASA (R544). -/
def execSetdasa (static dynamic : Nat) (s : State) : Outcome := .next (s.doSetdasa static dynamic)
/-- SETNEWDA (R544). -/
def execSetnewda (dynamic : Nat) (s : State) : Outcome := .next (s.doSetnewda dynamic)
/-- RSTDAA (R544). -/
def execRstdaa (s : State) : Outcome := .next s.doRstdaa
/-- GETPID (R544). -/
def execGetpid (s : State) : Outcome := .next (s.cccReply (·.pidBytes))
/-- GETBCR (R544): a target that raises in-band interrupts with a mandatory data byte: bits 1 and 2 (I3C Basic). -/
def execGetbcr (s : State) : Outcome := .next (s.cccReply fun _ => [0x06])
/-- GETDCR (R544). -/
def execGetdcr (s : State) : Outcome := .next (s.cccReply fun _ => [Config.dcr])
/-- GETSTATUS (R544). -/
def execGetstatus (s : State) : Outcome := .next (s.cccReply (·.statusBytes))
/-- GETMRL (R544): 64 bytes, most significant byte first, then the one byte of an in-band interrupt (I3C Basic). -/
def execGetmrl (s : State) : Outcome := .next (s.cccReply fun _ => [0x00, 0x40, 0x01])
/-- GETMWL (R544): 64 bytes, most significant byte first. -/
def execGetmwl (s : State) : Outcome := .next (s.cccReply fun _ => [0x00, 0x40])
/-- ENEC (R544). -/
def execEnec (s : State) : Outcome := .next s.doEnec
/-- DISEC (R544). -/
def execDisec (s : State) : Outcome := .next s.doDisec
/-- IBI_RETRY (R547). -/
def execIbiRetry (code : Nat) (accepted : Bool) (s : State) : Outcome := .next (s.doIbiRetry code accepted)

end Sys2Proof.Machine
end

