-- ==== Sys2Proof/Machine/Tiers.lean ====
section
/-!
DEFINITION. What the memory tiers do on their own (11_memory_tiers_and_layout.md): eviction (R266), the switch and the end of
a migration (R269 to R271), late and failed accesses of the lower tier and its links (R272 to R274).
-/
namespace Sys2Proof.Machine

/-! ### Eviction (R266) -/

/-- R266: an entry of the cart table is a candidate: a data cart or home page in HBM (which is then not migrating), not pinned,
old enough. -/
def State.evictable (s : State) (e : Nat × Cart) : Bool :=
  e.2.state = .hbm && e.2.kind ≠ 2 && !e.2.pinned && s.fld CxlPoolCfg.minAge ≤ s.age e.1

/-- R266: the candidate with the greatest age, and among equal ages the lowest address. -/
def State.victim (s : State) : Option Nat :=
  (s.carts.filter s.evictable).foldl (fun best e =>
    match best with
    | none => some e.1
    | some b => if s.age b < s.age e.1 then some e.1 else some b) none

/-- HBM frames that migrations to the lower tier will return (log entry 25). -/
def State.leavingHbm (s : State) : Nat :=
  s.migrations.foldl (fun n m => if (s.cart m.1).state = .toCxl then n + framesOfKind (s.cart m.1).kind else n) 0 +
    s.oldFrames.foldl (fun n f => n + (f.2.filter fun x => framePlace x = 0).length) 0

/-- R267, R268: the carts and pages that wait in the lower tier for free HBM frames: pinned ones, and touched ones that found none. -/
def State.hbmWaiters (s : State) : List Nat :=
  ((s.carts.filter fun e => e.2.pinned && e.2.state = .cxl && e.2.kind ≠ 2).map (·.1) ++
    s.wantHbm.filter fun h => (s.cart h).state = .cxl).eraseDups

/-- R266: the device has to evict: free HBM frames, with those on their way, are below LOW_FRAMES, or a cart must be placed in
HBM and its frames are not free. -/
def State.mustEvict (s : State) : Bool :=
  let free := s.hbmFree + s.leavingHbm
  s.hbmReady && (free < s.fld CxlPoolCfg.lowFrames || s.hbmWaiters.any fun h => free < framesOfKind (s.cart h).kind)

/-- R266: evict one candidate after another; NO_VICTIM when there is none, or no lower-tier frame. -/
def State.evict (s : State) : Nat → State
  | 0 => s
  | fuel + 1 =>
    if s.mustEvict then
      match s.victim with
      | none => s.setFld CxlPoolStatus.noVictim 1
      | some h =>
        if (s.placeCxl (framesOfKind (s.cart h).kind)).isNone then s.setFld CxlPoolStatus.noVictim 1
        else (s.moveToCxl h).evict fuel
    else s

/-! ### Migration (R269 to R271) -/

/-- R271, R273: a migration that has not switched ends: the cart stays where it is, the target frames return. -/
def State.dropMigration (s : State) (h : Nat) : State :=
  let c := s.cart h
  let s1 := s.setCart h { c with state := stateOfFrame c.frameA }
  { s1 with migrations := Sparse.erase s1.migrations h }

/-- R271, R274: a frame of a migration lies behind a CXL port whose link is down. -/
def State.migrationDown (s : State) (h : Nat) : Bool :=
  let m : Migration := Sparse.get {} s.migrations h
  [m.targetA, m.targetB, (s.cart h).frameA, (s.cart h).frameB].any fun f =>
    (framePlace f = 1 || framePlace f = 2) && !s.flag (CxlPortStatus.up (framePlace f - 1))

/-- MIGRATION_SWITCH (R269 step 3): a migration that meets a failed target or source is abandoned (R271, R274). Where lines are dirty,
they are copied again, and it switches only when none is (R270): while four rounds have not passed, writes may make more lines dirty;
afterwards they wait for the switch. -/
def State.doMigrationSwitch (s : State) (h : Nat) : State :=
  let m : Migration := Sparse.get {} s.migrations h
  let c := s.cart h
  if m.active && (c.state = .toHbm || c.state = .toCxl) then
    if s.migrationDown h then s.dropMigration h
    else if m.dirty ≠ [] then
      { s with migrations := Sparse.set {} s.migrations h { m with dirty := [], rounds := min 4 (m.rounds + 1) } }
    else s.switchHome h
  else s

/-- R267, R268: the carts that wait in the lower tier move as frames become free. -/
def State.retryPins (s : State) : State :=
  let s1 := s.hbmWaiters.foldl (fun s h => s.moveToHbm h) s
  { s1 with wantHbm := s1.wantHbm.filter fun h => (s1.cart h).state = .cxl }

/-- EVICTION (R266): carts that wait for frames take those that are free; then at most every listed cart moves. -/
def State.doEviction (s : State) : State := s.retryPins.evict (s.carts.length + 1)

/-- R269 step 4: an access that resolved the old home has not retired: a write that a command has yet to perform (R351). -/
def State.oldHomeUsed (s : State) (h : Nat) : Bool :=
  s.pendingWrites.any fun p => p.meets (h * 65536) 65536 || ((s.cart h).kind = 1 && p.meets ((h + 1) * 65536) 65536)

/-- MIGRATION_FRAME_RETURN (R269 step 4): the old frames of a switched migration return to the pool. -/
def State.doFrameReturn (s : State) (h : Nat) : State :=
  if (Sparse.get [] s.oldFrames h).isEmpty || s.oldHomeUsed h then s
  else ({ s with oldFrames := Sparse.erase s.oldFrames h } : State).retryPins

/-! ### Late and failed accesses (R272 to R274) -/

/-- Some cart or page has its home in this port. -/
def State.portInUse (s : State) (p : Nat) : Bool := s.carts.any fun e => s.portOfCart e.1 = some p

/-- TIER_STALL (R272): an access of a port has waited longer than LATE_US. -/
def State.doTierStall (s : State) (p : Nat) : State :=
  if p < 2 && s.portInUse p then s.tierStalled none p false else s

/-- R273: a command that runs meets a failed access: nothing more is written, the step cannot commit, TIER_FAULT with bits [47:16] of
the cart's address. -/
def State.tierFault (s : State) (q : Nat) (c : Cmd) (cart : Nat) (inj : Bool) : State :=
  let s1 := (s.setFld CxlPoolStatus.aborted 1).raise (.command q c.idx (opcodeOf c.entry = 0x21)) St.tierFault 0x0B cart cart
    ((s.portOfCart cart).getD 0) inj
  s1.endMet q c { status := St.tierFault, det := 0x0B, key := cart, detail := cart }

/-- R412 rule 3: a failed access of another agent: it marks the step, and belongs to no command. -/
def State.tierAlone (s : State) (cart : Nat) : State :=
  (s.setFld CxlPoolStatus.aborted 1).raise .nobody St.tierFault 0x0B cart cart ((s.portOfCart cart).getD 0) false

/-- The command of queue `q` whose access fails: the one that runs and is not the SEGMENT_RUN or a wait, otherwise the next one
when it could start and names the cart. -/
def State.accessor (s : State) (q cart : Nat) : Option Cmd :=
  ((s.queue q).cmds.find? fun c => c.phase = .running && !c.isWait).orElse fun _ =>
    (s.nextCmd q).filter fun c =>
      let rs := plainRanges s c.entry
      rs.any (fun r => rangesMeet r.base r.len (cart * 65536) 65536) && s.canStart q c (rs.map (·.region)) &&
        (s.entryErrs q (s.expectedSeq q c.idx) c.entry).isEmpty

/-- R273, R412: an access of a cart fails: it belongs to the SEGMENT_RUN, to a command of the queue, or to no command. -/
def State.accessFails (s : State) (cart : Nat) (q : Option Nat) : State :=
  match q with
  | none => s.tierAlone cart
  | some q =>
    if s.seg.map (·.q) = some q then
      (s.setFld CxlPoolStatus.aborted 1).fabricError St.tierFault 0x0B cart cart ((s.portOfCart cart).getD 0) false
    else
      match s.accessor q cart with
      | none => s
      | some c => if c.phase = .running then s.tierFault q c cart false
                  else (s.dispatch q c.idx []).tierFault q c cart false

/-- The access of R272 or R274 can happen: its cart lives in the lower tier, and the queue, if one is named, has a command that
can make it. -/
def State.canFail (s : State) (cart : Nat) (q : Option Nat) : Bool :=
  (s.portOfCart cart).isSome && (s.cart (s.headOf cart)).state ≠ .lost &&
    (match q with
     | none => true
     | some q => queueOk q && (s.seg.map (·.q) = some q || (s.accessor q cart).isSome))

/-- TIER_ABORT (R272, R273). -/
def State.doTierAbort (s : State) (cart : Nat) (q : Option Nat) : State := if s.canFail cart q then s.accessFails cart q else s

/-- CXL_POISON (R274): the port reports the poison, the access fails, the cart is LOST. -/
def State.doCxlPoison (s : State) (cart : Nat) (q : Option Nat) : State :=
  if s.canFail cart q then
    let p := (s.portOfCart cart).getD 0
    ((s.setFld (CxlPortStatus.poison p) 1).accessFails cart q).loseCart cart
  else s

/-- CXL_LINK_DOWN (R274): carts homed there stay in state CXL and their accesses fail; a migration that reads from the port or
writes to it is abandoned (R271). -/
def State.doCxlLinkDown (s : State) (p : Nat) : State :=
  if p < 2 && s.flag (CxlPortStatus.up p) then
    let s1 := (s.setFld (CxlPortStatus.up p) 0).setFld (CxlPortStatus.downEvent p) 1
    (s1.migrations.filter fun m => framePlace m.2.targetA = p + 1 || framePlace (s.cart m.1).frameA = p + 1).foldl
      (fun s m => s.dropMigration m.1) s1
  else s

/-- CXL_LINK_UP (R274): the carts of the port can be read again. -/
def State.doCxlLinkUp (s : State) (p : Nat) : State :=
  if p < 2 && (Sparse.get {} s.cxlPorts p : CxlPort).present && !s.flag (CxlPortStatus.up p) then
    s.setFld (CxlPortStatus.up p) 1
  else s

/-- EVICTION (R266). -/
def execEviction (s : State) : Outcome := .next s.doEviction
/-- MIGRATION_SWITCH (R269). -/
def execMigrationSwitch (cart : Nat) (s : State) : Outcome := .next (s.doMigrationSwitch cart)
/-- MIGRATION_FRAME_RETURN (R269). -/
def execMigrationFrameReturn (cart : Nat) (s : State) : Outcome := .next (s.doFrameReturn cart)
/-- TIER_STALL (R272). -/
def execTierStall (port : Nat) (s : State) : Outcome := .next (s.doTierStall port)
/-- TIER_ABORT (R273). -/
def execTierAbort (cart : Nat) (q : Option Nat) (s : State) : Outcome := .next (s.doTierAbort cart q)
/-- CXL_POISON (R274). -/
def execCxlPoison (cart : Nat) (q : Option Nat) (s : State) : Outcome := .next (s.doCxlPoison cart q)
/-- CXL_LINK_DOWN (R274). -/
def execCxlLinkDown (port : Nat) (s : State) : Outcome := .next (s.doCxlLinkDown port)
/-- CXL_LINK_UP (R274). -/
def execCxlLinkUp (port : Nat) (s : State) : Outcome := .next (s.doCxlLinkUp port)

end Sys2Proof.Machine
end

