-- ==== Sys2Proof/Machine/Remote.lean ====
section
/-!
DEFINITION. Accesses of agents outside the device: Laulo requests and front-port requests (R254, R273, R347, R382, R453): what
they are refused for, what they meet below, and the tagged reads of R247.
-/
namespace Sys2Proof.Machine

/-- R452, R453: the refusals of a Laulo request of domain `d`. -/
def State.lauErrs (s : State) (d a len : Nat) (write : Bool) : List Err :=
  s.unmappedErr ⟨a, len, write⟩ ++
  (match s.firstForeign d a len with
   | some x => [windowErr 0x91 (x / 65536)]
   | none => []) ++
  (match s.firstReserved a len with
   | some x => [windowErr 0x93 (x / 65536)]
   | none => []) ++
  (if a + len ≤ spBase ∨ spBase + s.grade.cores * 2097152 ≤ a then []
   else match s.windowRefuses d write (max a spBase) (a + len - max a spBase) with
     | some n => [windowRefusal n a]
     | none => [])

/-- R49, R273, R408 to R414: what an access of an agent meets at routers, in carts and in scratchpads below it, through port die `pd`: every
error, each belonging to nobody (R412 rule 3). -/
def State.remoteErrors (s : State) (pd a len : Nat) (write : Bool) : List Err × State :=
  let x := (cartsOf a len).foldl (fun (acc : List Err × State) k =>
    let m := acc.2.cartAccess .nobody k a len
    if m.1 = 0 then (acc.1, m.2) else (acc.1 ++ [{ status := m.1, key := k, detail := k }], m.2)) ([], s)
  let r := x.2.reservedMeets .nobody a len
  let y : List Err := if r.1 && !write then x.1 ++ [{ status := St.uncorrectable, key := cartOf a, detail := cartOf a }] else x.1
  (s.grade.scratchParts a len).foldl (fun (acc : List Err × State) part =>
    let n := (part.1 - spBase) / 2097152
    let m := acc.2.meshMet .nobody (acc.2.portRoute write pd n)
    let w := if write then ([], m.2) else m.2.scratchMeets part.1 part.2
    (acc.1 ++ (m.1 ++ w.1.map fun _ => n).map fun k => { status := St.uncorrectable, key := k },
     w.1.foldl (fun s inj => s.raise .nobody St.uncorrectable 0x01 n 0 n inj) w.2)) (y, r.2)

/-- What an access of an agent ends with: the status and detail of the highest-ranked error that it met (R416), 0 when there is none. -/
def State.remoteAccess (s : State) (pd a len : Nat) (write : Bool) : (Nat × Nat) × State :=
  let x := s.remoteErrors pd a len write
  (((pickErr x.1).map fun e => (e.status, e.detail)).getD (0, 0), x.2)

/-- A write of an agent outside (R227, R349): its bytes in home pages are discarded where R227 says so. -/
def State.remoteWrite (s : State) (a : Nat) (bs : Bytes) : State :=
  (if s.discards a bs.length then s.homeWrite else s).agentWrite (rangeOf a bs)

/-! ### Tagged reads (R247) -/

/-- How a tagged read of a page resolves. -/
inductive Tagged where
  /-- it waits until step T − 1 commits -/
  | waits
  /-- it reads this slot -/
  | slot (v : Bool)
  /-- the state it asks for has been overwritten -/
  | gone
  deriving DecidableEq, Repr

/-- WSTEP of a slot of a page (R230). -/
def State.wstep (s : State) (page : Nat) (slot : Bool) : W32 := BitVec.ofNat 32 (s.rawNat (slotPlace page slot 24) 4)

/-- R247: resolve a page for a read with step tag `t`. -/
def State.tagged (s : State) (page : Nat) (t : W32) : Tagged :=
  let c := s.committedSlot page
  if serialBefore s.committed (t - 1) then .waits
  else if serialAtOrAfter (t - 1) (s.wstep page c) then .slot c
  else if serialAtOrAfter (t - 1) (s.wstep page (!c)) && !(s.version page).p then .slot (!c)
  else .gone

/-- The home pages of a range. -/
def State.homePages (s : State) (a len : Nat) : List Nat :=
  ((cartsOf a len).filter fun c => s.isHome (c * 65536)).map (· / 2) |>.eraseDups

/-- A byte that a tagged read returns. -/
def State.taggedByte (s : State) (t : W32) (a : Nat) : Byte :=
  if s.isHome a then
    match s.tagged (pageOf a) t with
    | .slot v =>
      let p := slotPlace (pageOf a) v (a % 65536)
      if v ≠ s.committedSlot (pageOf a) && (s.version (pageOf a)).loose then Config.unspecifiedByte s.draws p else s.rawByte p
    | _ => 0
  else s.byteAt a

end Sys2Proof.Machine
end

