-- ==== Sys2Proof/Machine/LauloRows.lean ====
section
/-!
DEFINITION. What a device does with the packets delivered to it (14_laulo_links_and_collectives.md, R381 to R383, R388) and the
adoption of a position by a lizard (16_snapshots_and_lizards.md, R437, R438). Layouts of ARG: log entry 30.
-/
namespace Sys2Proof.Machine

/-- Take the oldest delivered packet of port `k` (15: this device itself) that a test accepts. -/
def State.takeInbox (s : State) (k : Nat) (sel : Packet → Bool) : Option (Packet × State) :=
  match s.inbox.findIdx? fun x => x.1 = k && sel x.2 with
  | none => none
  | some i =>
    let p := (s.inbox.getD i (k, { cls := 0, kind := 0, hops := 0, dst := 0, src := 0 })).2
    some (p, ({ s with inbox := s.inbox.eraseIdx i } : State).freeBuffers k p.cls (1 + p.payFlits))

/-- The oldest packet of a kind is served. -/
def State.serve (s : State) (k kind : Nat) (f : State → Packet → State) : State :=
  match s.takeInbox k fun p => p.kind = kind with
  | none => s
  | some (p, s1) => (f s1 p).evalFlags

/-! ### WRITE, READ_REQ, FLAG (R382) -/

/-- R382: answer a request with the status of its access, or perform it. -/
def State.answerAccess (s : State) (k : Nat) (p : Packet) (kind a len : Nat) (write : Bool) (errs : List Err)
    (f : State → State × Bytes) : State :=
  match pickErr (errs ++ s.lauErrs p.domain a len write) with
  | some e => s.answer k p kind e.status e.detail []
  | none =>
    let r := s.remoteAccess (k / 4 % 2) a len (write && kind ≠ Pk.flagAck)
    if r.1.1 ≠ 0 then r.2.answer k p kind r.1.1 r.1.2 []
    else
      let x := f (r.2.touchRange a len)
      x.1.answer k p kind 0 0 x.2

/-- WRITE: its payload flits are written at ADDR. -/
def State.serveWrite (s : State) (k : Nat) (p : Packet) : State :=
  s.answerAccess k p Pk.writeAck p.addr p.pay.length true [] fun s => (s.remoteWrite p.addr p.pay, [])

/-- R249: the TENSOR_ID in the header of a home page's committed slot. -/
def State.pageTensor (s : State) (page : Nat) : Nat := s.slotNat page 0 4

/-- R247: what a tagged read request waits for or fails with; otherwise it is served. -/
def State.serveRead (s : State) (k : Nat) (p : Packet) : State :=
  let n := leField p.arg 0 4
  let t := BitVec.ofNat 32 p.step
  let res := (s.homePages p.addr n).map fun g => s.tagged g t
  if (s.lauErrs p.domain p.addr n false).isEmpty && res.contains .waits then { s with waitReads := s.waitReads ++ [(k, p)] }
  else
    let gone : List Err := ((s.homePages p.addr n).filter fun g => s.tagged g t = .gone).map fun g =>
      { status := St.stepAborted, cause := 0x36, key := g * 2, detail := 0x36 <<< 40 + s.pageTensor g }
    s.answerAccess k p Pk.readResp p.addr n false gone fun s =>
      let s1 := s.settleFree p.addr n
      (s1, (List.range n).map fun i => s1.taggedByte t (p.addr + i))

/-- TAGGED_READ_RESUME (R247): the oldest waiting read whose step has committed is served. -/
def State.doTaggedResume (s : State) : State :=
  match s.waitReads.findIdx? fun x => !serialBefore s.committed (BitVec.ofNat 32 x.2.step - 1) with
  | none => s
  | some i =>
    match s.waitReads[i]? with
    | some (k, p) => ({ s with waitReads := s.waitReads.eraseIdx i } : State).serveRead k p
    | none => s

/-- FLAG (R315). -/
def State.serveFlag (s : State) (k : Nat) (p : Packet) : State :=
  s.answerAccess k p Pk.flagAck p.addr 8 true (s.flagAddrErr p.addr) fun s =>
    (s.setFlagWord p.addr (leField p.arg 8 1) (BitVec.ofNat 64 (leField p.arg 0 8)), [])

/-! ### Answers (R381) -/

/-- An answer to a request of this device: `ok` acts when its status is OK. -/
def State.serveAnswer (s : State) (p : Packet) (kind : Nat) (ok : State → Nat → Req → State) : State :=
  match s.requests.find? (·.1 = p.reqId) with
  | none => s
  | some (id, r) =>
    if r.kind ≠ kind then s
    else if leField p.arg 0 1 ≠ 0 then s.failRequest id (leField p.arg 0 1) (leField p.arg 1 6) 0x0E
    else ok { s with requests := Sparse.erase s.requests id } id r

/-- WRITE_ACK: a copy of a generation has been performed. -/
def State.ackWrite (s : State) (id : Nat) (r : Req) : State :=
  match r.owner with
  | .tap => s.tapAcked id
  | _ => s

/-- READ_RESP: bytes for a restore. -/
def State.ackRead (s : State) (r : Req) (pay : Bytes) : State :=
  match r.owner with
  | .restore g off => s.restoreAnswer g off (.inl pay)
  | _ => s

/-- FLAG_ACK: the remote FLAG_SET completes (R315). -/
def State.ackFlag (s : State) (r : Req) : State :=
  match r.owner with
  | .flagSet q idx => if ((s.cmd? q idx).map (·.phase)) = some .running then s.endOk q idx else s
  | _ => s

/-- LOST (R379, R381). -/
def State.serveLost (s : State) (p : Packet) : State :=
  let kind := leField p.arg 4 1
  s.packetLost 0x0E kind { p with dst := leField p.arg 8 4 } ((s.requests.find? (·.1 = p.reqId)).map (·.2.port) |>.getD 15)

/-- E2E_TIMEOUT (R381): the originator gives up on a request. -/
def State.doE2eTimeout (s : State) (id : Nat) : State :=
  match s.requests.find? (·.1 = id) with
  | none => s
  | some (_, r) => (((s.detect 0x0E St.linkLost none (r.port % 16) false).failRequest id St.linkLost r.lostDetail 0x0E)).evalFlags

/-! ### Streams (R383) -/

/-- The route from port `k` that takes stream `j`. -/
def Image.streamRoute (im : Image) (k j : Nat) (toPort : Bool) : Option Nat :=
  (im.routeRecs.zipIdx.find? fun x =>
    let u := if toPort then x.1.dst else x.1.src
    (if toPort then x.1.dstKind else x.1.srcKind) = 1 && unitKindOf u = 1 && unitInstOf u = k && im.streamNum x.2 toPort u = j).map (·.2)

/-- STREAM: the unit creates a token with this device's epoch (R122); without a route it is discarded. -/
def State.serveStream (s : State) (k : Nat) (p : Packet) : State :=
  match s.im.streamRoute k (p.addr % 65536) false with
  | some r =>
    if s.image.isNone then s
    else
      let h := { parseHdr p.arg with epoch := s.epoch }
      s.queueTok r { hdr := h, values := p.pay.take h.valLen, scales := (p.pay.drop h.valLen).take h.scaleLen, parent := none,
                     inPlace := false }
  | none =>
    let x := s.draw Config.badStreamStatus
    let s1 := if k < s.grade.laulo then x.2.setFld (LauPortStatus.badStream k) 1 else x.2
    s1.mark x.1 0 none false false

/-- STREAM_CREDIT: the peer's queue has room for more tokens of the stream. -/
def State.serveCredit (s : State) (k : Nat) (p : Packet) : State :=
  match s.im.streamRoute k (p.addr % 65536) true with
  | some r =>
    let s1 := s.modRoute r fun x => { x with stream := x.stream + leField p.arg 0 4 }
    (match s.im.route? r with
     | some rec' => s1.flushStream r rec'
     | none => s1)
  | none => s

/-! ### Collectives -/

/-- COLL_DATA and COLL_ABORT: a packet that the engines have no room for stays where it is, with its receive buffers. -/
def State.serveColl (s : State) (k kind : Nat) : State :=
  match s.takeInbox k fun p => p.kind = kind with
  | none => s
  | some (p, s1) => ((s1.acceptColl p).getD s).evalFlags

/-! ### Lizards (R437, R438) -/

/-- SUBKIND of an MGMT packet. -/
def mgmtKind (p : Packet) : Nat := if p.kind = Pk.mgmt then leField p.arg 0 4 else 0

/-- R437: the checks of a LIZARD_ADOPT. -/
def State.adoptErrs (s : State) (q : Nat) (e : Bytes) : List Err :=
  let a := leField e 16 8
  let d := s.bytes a 64
  operandErr (a % 64 ≠ 0) 16 ++
    (if s.inStep || s.seg.isSome || leField d 0 4 % 2 ^ 24 = noPos || leField d 3 1 ≠ 0 || !zeroField d 17 47 then [descErr 0xA4 0]
     else []) ++ s.rangeErr (s.qDomain q) ⟨leField d 8 8, 512, false⟩

/-- R438: an MGMT packet of subkind `k`. -/
def State.mgmtPacket (s : State) (k pos : Nat) (seq : W32) (result : Nat) : Packet :=
  { cls := Pk.classM, kind := Pk.mgmt, hops := s.fld LauCtrl.hopInit, dst := noPos, src := s.pos,
    arg := leBytes 4 k ++ leBytes 4 pos ++ leBytes 4 seq.toNat ++ leBytes 1 result }

/-- Ones of a mask of 8 bits. -/
def ones8 (m : Nat) : Nat := (maskBits 8 m).length

/-- R437: the adoption completes: its detail holds the ports announced, as a mask, and the number of acknowledgements. -/
def State.adoptEnd (s : State) (r : AdoptRt) : State :=
  ({ s with adopting := none } : State).endCmd r.q r.idx St.ok 6 (s.qCp r.q) (r.announced <<< 8 + ones8 r.acks)

/-- R437: write the position and the routes, and announce them. -/
def State.runAdopt (s : State) (q : Nat) (c : Cmd) : State :=
  let d := s.bytes (leField c.entry 16 8) 64
  let pos := leField d 0 4 % 2 ^ 24
  let seq := BitVec.ofNat 32 (leField d 4 4)
  let s1 := (List.range 64).foldl (fun s' i => s'.writeRoute i (s.num (leField d 8 8 + 8 * i) 8)) (s.setFld LauPosition.pos pos)
  let ports := (maskBits 8 (leField d 16 1)).filter s1.lauUp
  let s2 := ports.foldl (fun s k => s.sendOn k (s.mgmtPacket 1 pos seq 0)) s1
  let r : AdoptRt := { q, idx := c.idx, seq, announced := ports.foldl (fun n k => n + 2 ^ k) 0, acks := 0 }
  if ports.isEmpty then s2.adoptEnd r else { s2 with adopting := some r }

/-- LIZARD_ADOPT (R437). -/
def State.doLizardAdopt (s : State) (q : Nat) : State :=
  if queueOk q && s.adopting.isNone then
    s.runRow q { want := isOp 0xA3, ranges := fun s e => entryRanges e ++ [⟨s.num (leField e 16 8 + 8) 8, 512, false⟩],
                 regions := noRanges, errs := fun s c => s.adoptErrs q c.entry, body := fun s c => s.runAdopt q c }
  else s

/-- R438: USE_ALT of the entries that contain a position turns traffic to port `k`. -/
def State.turnTo (s : State) (k pos : Nat) : State :=
  (List.range 64).foldl (fun s i =>
    if s.flag (LauRoute.valid i) && s.fld (LauRoute.lo i) ≤ pos && pos ≤ s.fld (LauRoute.hi i) then
      let s1 := if s.fld (LauRoute.alt i) = k then s.setFld (LauRoute.useAlt i) 1 else s
      if s.fld (LauRoute.pri i) = k then s1.setFld (LauRoute.useAlt i) 0 else s1
    else s) s

/-- R438: the last ADOPT_SEQ held for a position among the last 64 positions adopted. -/
def State.adoptSeq (s : State) (pos : Nat) : Option W32 := (s.adopted.find? (·.1 = pos)).map (·.2)

/-- ADOPT (R438). -/
def State.serveAdopt (s : State) (k : Nat) (p : Packet) : State :=
  let pos := leField p.arg 4 4 % 2 ^ 24
  let seq := BitVec.ofNat 32 (leField p.arg 8 4)
  let fresh := match s.adoptSeq pos with
    | none => true
    | some x => serialAfter seq x
  if fresh then
    let l := s.adopted.filter (fun (x : Nat × W32) => x.1 ≠ pos) ++ [(pos, seq)]
    let s1 := ({ s with adopted := l.drop (l.length - 64) } : State).turnTo k pos
    let old := (List.range s.grade.laulo).filter fun j => j ≠ k && s.fld (LauPortStatus.peer j) = pos
    (old.foldl (fun s j => s.disablePort j) s1).sendOn k (s.mgmtPacket 2 pos seq 0)
  else s.sendOn k (s.mgmtPacket 2 pos seq 1)

/-- ADOPT_ACK (R437). -/
def State.serveAdoptAck (s : State) (k : Nat) (p : Packet) : State :=
  match s.adopting with
  | none => s
  | some r =>
    if BitVec.ofNat 32 (leField p.arg 8 4) ≠ r.seq || !bitOf r.announced k || bitOf r.acks k then s
    else
      let r1 := { r with acks := r.acks + 2 ^ k }
      if r1.acks = r1.announced then s.adoptEnd r1 else { s with adopting := some r1 }

/-- An MGMT packet of a subkind is served. -/
def State.serveMgmt (s : State) (k sub : Nat) (f : State → Packet → State) : State :=
  if k < s.grade.laulo then
    match s.takeInbox k fun p => mgmtKind p = sub with
    | none => s
    | some (p, s1) => f s1 p
  else s

/-- ADOPT_E2E_ELAPSED (R437). -/
def State.doAdoptElapsed (s : State) : State :=
  match s.adopting with
  | none => s
  | some r => s.adoptEnd r

/-- WRITE (R382). -/
def execWrite (port : Nat) (s : State) : Outcome := .next (s.serve port Pk.write fun s p => s.serveWrite port p)
/-- WRITE_ACK (R381). -/
def execWriteAck (port : Nat) (s : State) : Outcome :=
  .next (s.serve port Pk.writeAck fun s p => s.serveAnswer p Pk.write fun s id r => s.ackWrite id r)
/-- READ_REQ (R382, R247). -/
def execReadReq (port : Nat) (s : State) : Outcome := .next (s.serve port Pk.readReq fun s p => s.serveRead port p)
/-- TAGGED_READ_RESUME (R247). -/
def execTaggedReadResume (s : State) : Outcome := .next s.doTaggedResume
/-- READ_RESP (R381). -/
def execReadResp (port : Nat) (s : State) : Outcome :=
  .next (s.serve port Pk.readResp fun s p => s.serveAnswer p Pk.readReq fun s _ r => s.ackRead r p.pay)
/-- FLAG (R315). -/
def execFlag (port : Nat) (s : State) : Outcome := .next (s.serve port Pk.flag fun s p => s.serveFlag port p)
/-- FLAG_ACK (R315). -/
def execFlagAck (port : Nat) (s : State) : Outcome :=
  .next (s.serve port Pk.flagAck fun s p => s.serveAnswer p Pk.flag fun s _ r => s.ackFlag r)
/-- STREAM (R383). -/
def execStream (port : Nat) (s : State) : Outcome := .next (s.serve port Pk.stream fun s p => s.serveStream port p)
/-- STREAM_CREDIT (R383). -/
def execStreamCredit (port : Nat) (s : State) : Outcome := .next (s.serve port Pk.streamCredit fun s p => s.serveCredit port p)
/-- COLL_DATA (R391). -/
def execCollData (port : Nat) (s : State) : Outcome := .next (s.serveColl port Pk.collData)
/-- COLL_ABORT (R396). -/
def execCollAbort (port : Nat) (s : State) : Outcome := .next (s.serveColl port Pk.collAbort)
/-- LOST (R379). -/
def execLost (port : Nat) (s : State) : Outcome := .next (s.serve port Pk.lost fun s p => s.serveLost p)
/-- LIZARD_ADOPT (R437). -/
def execLizardAdopt (q : Nat) (s : State) : Outcome := .next (s.doLizardAdopt q)
/-- ADOPT (R438). -/
def execAdopt (port : Nat) (s : State) : Outcome := .next (s.serveMgmt port 1 fun s p => s.serveAdopt port p)
/-- ADOPT_ACK (R437). -/
def execAdoptAck (port : Nat) (s : State) : Outcome := .next (s.serveMgmt port 2 fun s p => s.serveAdoptAck port p)
/-- E2E_TIMEOUT (R381). -/
def execE2eTimeout (reqId : Nat) (s : State) : Outcome := .next (s.doE2eTimeout reqId)
/-- ADOPT_E2E_ELAPSED (R437). -/
def execAdoptE2eElapsed (s : State) : Outcome := .next s.doAdoptElapsed

end Sys2Proof.Machine
end

