-- ==== Sys2Proof/Machine/Rdma.lean ====
section
/-!
DEFINITION. RDMA requests of the front ports (13_front_ports_and_ordering.md, R346 to R355): their checks and refusals, the writes
that a port die's command processor waits for, reads, writes and atomics.
-/
namespace Sys2Proof.Machine

/-! ### The connection and the checks (R346 to R348) -/

/-- A request arrives on the connection that its session was attached with. -/
def State.connected (s : State) (rq : RdmaReq) : Bool :=
  let x := s.session rq.slot
  x.state = .attached && x.port = rq.port && x.src = rq.src && x.conn = rq.conn

/-- R340, R341, R345: a request reaches its port: a packet of a foreign source is dropped; one that belongs to no connection, or to one
that a re-attach has ended, has no effect. A mark of ECN is answered with a congestion notification packet. -/
def State.onRequest (s : State) (rq : RdmaReq) (f : State → State) : State :=
  if !s.portUp rq.port then s
  else if s.foreign rq.port rq.src then s.markForeign rq.port
  else if s.connected rq then
    let s1 := s.packetIn rq.port
    f (if rq.ecn then s1.emit (.cnp rq.port rq.slot) else s1)
  else s

/-- The range meets the control space. -/
def inControl (a len : Nat) : Bool := rangesMeet a len ctlBase 67108864

/-- R347: an aligned access of 4 or 8 bytes of the control space. -/
def controlForm (a len : Nat) : Bool :=
  ctlBase ≤ a && a + len ≤ ctlBase + 67108864 && ((len = 4 && a % 4 = 0) || (len = 8 && a % 8 = 0))

/-- R347: an address at which atomics are refused: not a word of a data cart. -/
def State.notAtomic (s : State) (a : Nat) : Bool :=
  a % 8 ≠ 0 ||
    (match s.grade.zone a with
     | .cart => s.mapped (cartOf a) && (s.cart (cartOf a)).kind ≠ 0
     | .unused => false
     | _ => true)

/-- R452, R458: an address that the session does not reach. The owner reaches domain 0 and every reserved cart. -/
def State.outOfReach (s : State) (x : Session) (a len : Nat) (write : Bool) : Bool :=
  (s.firstForeign x.domain a len).isSome || (!x.owner && (s.firstReserved a len).isSome) ||
    (!(a + len ≤ spBase || spBase + s.grade.cores * 2097152 ≤ a) &&
      (s.windowRefuses x.domain write (max a spBase) (a + len - max a spBase)).isSome)

/-- R348, R364: the cause for which a request is refused; 0 when it is not. -/
def State.requestCause (s : State) (rq : RdmaReq) (len : Nat) (write atomic : Bool) : Nat :=
  let x := s.session rq.slot
  if 2 ^ 48 ≤ rq.addr || rq.rkey ≠ x.rkey then 1
  else if 2 ^ 31 < len || (inControl rq.addr len && !controlForm rq.addr len) || (atomic && s.notAtomic rq.addr) then 2
  else if (s.firstUnmapped rq.addr len).isSome then 3
  else if !inControl rq.addr len && s.outOfReach x rq.addr len write then 4
  else 0

/-- R348: a request that passes its checks is served; another is refused. -/
def State.onAdmitted (s : State) (rq : RdmaReq) (len : Nat) (write atomic : Bool) (f : State → State) : State :=
  s.onRequest rq fun s =>
    let cause := s.requestCause rq len write atomic
    if cause = 0 then f s else (s.refuseRequest rq.port rq.slot cause rq.addr).evalFlags

/-! ### Order with the writes of commands (R351 to R353) -/

/-- R353: port die of a front port: ports 0 and 1 W, 2 and 3 E (log entry 41). -/
def dieOfPort (port : Nat) : Nat := port / 2

/-- R353: before a request reads or writes, the pending writes of queues of its own port die's command processor into the carts that it
reaches are performed; of another's, any may still not be. -/
def State.settleRequest (s : State) (port a len : Nat) : State :=
  let lo := a / 65536 * 65536
  let hi := (a + len + 65535) / 65536 * 65536
  if len = 0 then s
  else (s.settle fun p => p.cp = dieOfPort port && p.meets lo (hi - lo)).settleFree a len

/-! ### Requests -/

/-- RDMA_WRITE of memory (R349): a write that meets a failed access is not performed and not acknowledged (R273, log entry 41). -/
def State.writeMemory (s : State) (rq : RdmaReq) (data : Bytes) : State :=
  let r := (s.settleRequest rq.port rq.addr data.length).remoteAccess (dieOfPort rq.port) rq.addr data.length true
  if data.isEmpty then s.emit (.ack rq.port rq.slot)
  else if r.1.1 ≠ 0 then r.2
  else ((r.2.remoteWrite rq.addr data).evalFlags).emit (.ack rq.port rq.slot)

/-- RDMA_WRITE (R349, R350). -/
def State.doRdmaWrite (s : State) (rq : RdmaReq) (data : Bytes) : State :=
  s.onAdmitted rq data.length true false fun s =>
    if inControl rq.addr data.length then s.ctlWrite (.session rq.slot) (rq.addr - ctlBase) data.length (leNat data)
    else s.writeMemory rq data

/-- The response of a read. -/
def State.readReply (s : State) (rq : RdmaReq) (data : Bytes) : State := s.emit (.readData rq.port rq.slot data)

/-- RDMA_READ of memory (R355): what a failed access reads is a free value (log entry 41). -/
def State.readMemory (s : State) (rq : RdmaReq) (len : Nat) : State :=
  let r := (s.settleRequest rq.port rq.addr len).remoteAccess (dieOfPort rq.port) rq.addr len false
  let s1 := r.2.touchRange rq.addr len
  if r.1.1 ≠ 0 then
    ({ s1 with draws := s1.draws + 1 } : State).readReply rq ((List.range len).map (Config.unspecifiedByte s1.draws))
  else s1.readReply rq (r.2.bytes rq.addr len)

/-- RDMA_READ (R355). -/
def State.doRdmaRead (s : State) (rq : RdmaReq) (len : Nat) : State :=
  s.onAdmitted rq len false false fun s =>
    if inControl rq.addr len then
      let x := s.ctlRead (.session rq.slot) (rq.addr - ctlBase) len
      match x.1 with
      | some v => x.2.readReply rq (leBytes len v)
      | none => x.2
    else s.readMemory rq len

/-- An atomic (R347): `f` gives the new word from the old one, or `none` to leave it. The old word is answered. -/
def State.doAtomic (s : State) (rq : RdmaReq) (f : W64 → Option W64) : State :=
  s.onAdmitted rq 8 true true fun s =>
    let r := (s.settleRequest rq.port rq.addr 8).remoteAccess (dieOfPort rq.port) rq.addr 8 false
    if r.1.1 ≠ 0 then r.2
    else
      let old := r.2.flagWord rq.addr
      let s1 := match f old with
        | some v => (r.2.remoteWrite rq.addr (leBytes 8 v.toNat)).evalFlags
        | none => r.2.touchRange rq.addr 8
      s1.emit (.atomicOld rq.port rq.slot old)

/-- RDMA_WRITE (R349). -/
def execRdmaWrite (rq : RdmaReq) (data : Bytes) (s : State) : Outcome := .next (s.doRdmaWrite rq data)
/-- RDMA_READ (R355). -/
def execRdmaRead (rq : RdmaReq) (len : Nat) (s : State) : Outcome := .next (s.doRdmaRead rq len)
/-- ATOMIC_FETCH_ADD (R347). -/
def execAtomicFetchAdd (rq : RdmaReq) (v : W64) (s : State) : Outcome := .next (s.doAtomic rq fun old => some (old + v))
/-- ATOMIC_COMPARE_SWAP (R347). -/
def execAtomicCompareSwap (rq : RdmaReq) (cmp swap : W64) (s : State) : Outcome :=
  .next (s.doAtomic rq fun old => if old = cmp then some swap else none)

end Sys2Proof.Machine
end

