-- ==== Sys2Proof/Machine/Scans.lean ====
section
/-!
DEFINITION. SELFTEST and the background spare test (18_power_start_up_and_self_test.md, R481 to R484), INJECT
(15_consistency_errors_recovery.md, R411) and NEWT_SCAN (17_tenants_and_windows.md, R461 to R463).
-/
namespace Sys2Proof.Machine

/-! ### SELFTEST (R481 to R483) -/

/-- R481: the checks of a SELFTEST. -/
def State.selftestErrs (s : State) (e : Bytes) : List Err :=
  let first := leField e 16 2
  let n := leField e 18 2
  operandErr (s.usableCores ≤ first) 16 ++ operandErr (n = 0 || s.usableCores < first + n) 18

/-- R481: a drain window: no SEGMENT_RUN and no ACTIVATE is in progress or pending (NEWT_SCAN and releases end at once). -/
def State.drainWindow (s : State) : Bool := s.seg.isNone && s.waitingRuns.isEmpty && s.acts.isEmpty

/-- R481: the cores that a SELFTEST covers. -/
def SelfRt.cores (r : SelfRt) : List Nat := (List.range r.count).map (· + r.first)

/-- R481: a waiting SELFTEST starts in a drain window: its cores read STATE 5. -/
def State.startSelftest (s : State) : State :=
  match s.selftest with
  | some r =>
    if r.was.isNone && s.drainWindow then
      let s1 := { s with selftest := some { r with was := some (r.cores.map fun n => s.fld (CoreStatus.state n)) } }
      r.cores.foldl (fun s n => s.setFld (CoreStatus.state n) 5) s1
    else s
  | none => s

/-- R481: what SELFTEST does once it has passed its checks. -/
def State.runSelftest (s : State) (q : Nat) (c : Cmd) : State :=
  { s with selftest := some { q, idx := c.idx, first := leField c.entry 16 2, count := leField c.entry 18 2 } }

/-- SELFTEST (R481): a later one waits; one that waits for its window starts when there is one. -/
def State.doSelftest (s : State) (q : Nat) : State :=
  if queueOk q then
    (if s.selftest.isSome then s
     else s.runCmd q (isOp 0xC0) plainRanges (fun s c => s.selftestErrs c.entry) (fun s c => s.runSelftest q c)).startSelftest
  else s

/-- R482, R49: what the scratchpad item of core `n` meets: flipped bits that stand there and injected ones; answers whether an
uncorrectable word was found. -/
def State.testScratch (s : State) (n : Nat) : Bool × State :=
  let m := s.scratchMeets (spBase + n * 2097152) 2097152
  (!m.1.isEmpty, m.1.foldl (fun t inj => t.detect 0x01 St.uncorrectable (s.selftest.map (·.q)) n inj) m.2)

/-- R482, R483, R492: the result of one core: items that failed beside what its scratchpad shows. -/
def State.testCore (s : State) (n failed : Nat) : Nat × State :=
  let skipped := if s.image.isSome then 0x40 else 0
  let x := s.testScratch n
  let bits := (List.range 8).foldl (fun m i =>
    if (bitOf failed i && !bitOf skipped i) || (i = 0 && x.1) then m + 2 ^ i else m) 0
  let s1 := ((x.2.setFld (CoreTestResult.valid n) 1).setFld (CoreTestResult.failed n) bits).setFld (CoreTestResult.skipped n) skipped
  let s2 := if bits = 0 then s1
            else (if bitOf bits 0 then s1.setFld (CoreStatus.spUe n) 1 else s1).recordCore n
  (bits, s2)

/-- R483: the tests end. -/
def State.endSelftest (s : State) (r : SelfRt) (was : List Nat) (failures : List (Nat × Nat)) : State :=
  let x := r.cores.foldl (fun (acc : List Nat × State) n =>
    let y := acc.2.testCore n (((failures.find? (·.1 = n)).map (·.2)).getD 0)
    (if y.1 = 0 then acc.1 else acc.1 ++ [n], y.2)) ([], s)
  let s1 := (r.cores.zip was).foldl (fun s c => s.setFld (CoreStatus.state c.1) c.2) { x.2 with selftest := none }
  let detail := r.count <<< 32 + x.1.length <<< 16 + (x.1.head?).getD 0xFFFF
  let s2 := if x.1.isEmpty then s1.endCmd r.q r.idx St.ok 6 (s.qCp r.q) detail
            else (s1.mark St.uncorrectable 0 (some (r.q, r.idx)) false false).endCmd r.q r.idx St.uncorrectable 6 (s.qCp r.q) detail
  s2.startRuns.evalFlags

/-- SELFTEST_COMPLETE (R483): the tests that run end with these failures; a SELFTEST that still waits starts in a window. -/
def State.doSelftestComplete (s : State) (failures : List (Nat × Nat)) : State :=
  match s.selftest with
  | none => s
  | some r => match r.was with
    | some was => s.endSelftest r was failures
    | none => s.startSelftest

/-! ### The background spare test (R484) -/

/-- R484: a row whose spare is tested: its SRC is 0, 2 or 3. -/
def State.spareTested (s : State) (n : Nat) : Bool := s.fld (FabSpare.src n) ≠ 1

/-- SPARE_TEST_TICK (R484): the next row's bypassed core is tested; `failed` has a bit for each failed item, of which the router
item is skipped. -/
def State.doSpareTest (s : State) (failed : Nat) : State :=
  let rows := s.grade.rows
  match ((List.range rows).map fun k => (s.spareNext + k) % rows).find? s.spareTested with
  | none => s
  | some n =>
    if !s.flag FabSpareTest.en || s.railMv = 0 then s
    else
      let bad := putBits failed 6 6 0 % 256 ≠ 0
      let mask := s.fld FabSpareTest.fail
      let s1 := (({ s with spareNext := (n + 1) % rows } : State).setFld FabSpareTest.lastRow n).setFld FabSpareTest.fail
        (putBits mask n n (b2n bad))
      if bad then
        let s2 := s1.event 0x0A n
        if s.fld (FabSpare.src n) = 0 then s2.recordCol n 16 else s2
      else s1

/-! ### INJECT (R411) -/

/-- R410: mode of a detector's injection: 0 flip, 1 force. -/
def injectMode (det : Nat) : Nat := if ([0x01, 0x02, 0x03, 0x04, 0x09, 0x0A, 0x0D, 0x0F] : List Nat).contains det then 0 else 1

/-- R410, R411: the instance is one that the part has. -/
def Grade.injectInst (g : Grade) (det inst : Nat) : Bool :=
  if det ≤ 0x06 || det = 0x12 || det = 0x13 || det = 0x15 then inst < g.cores
  else if det = 0x07 || det = 0x08 then inst < g.dies
  else if det = 0x09 then inst < 8
  else if det = 0x0A then inst < g.stackNum
  else if det = 0x0B || det = 0x0C then inst < 2
  else if det = 0x0D || det = 0x0E then inst < g.laulo
  else if det = 0x0F then inst < 4
  else if det = 0x10 then inst = 0
  else if det = 0x11 then (inst / 65536 = 7 && inst % 65536 < 8) || (inst / 65536 = 5 && inst % 65536 < g.upd)
  else if det = 0x14 then inst < g.upd || (16 ≤ inst && inst < 16 + g.cores)
  else false

/-- R264: stack of a frame that a mapped or reserved cart holds. -/
def State.stackOf (s : State) (a : Nat) : Option Nat :=
  if a < 0x100000000000 then
    let c := s.headOf (cartOf a)
    if s.mapped (cartOf a) && (s.cart c).state ≠ .lost && framePlace (s.cart c).frameA = 0 then some (frameStack (s.cart c).frameA)
    else none
  else if inArea a then some (a / 262144 % s.grade.stackNum)
  else none

/-- R411: an ADDR that the table allows. -/
def State.injectAddr (s : State) (det inst addr : Nat) : Bool :=
  addr = 0 ||
    (if det = 0x01 then spBase + inst * 2097152 ≤ addr && addr < spBase + (inst + 1) * 2097152
     else if det = 0x0A then addr < 2 ^ 48 && s.stackOf addr = some inst
     else false)

/-- R411: causes 0x70 and 0x71. -/
def State.injectErrs (s : State) (q : Nat) (e : Bytes) : List Err :=
  let a := leField e 16 8
  let d := s.bytes a 64
  let det := leField d 0 1
  let bad := det = 0 || 0x15 < det || leField d 1 1 ≠ injectMode det ||
    (if leField d 1 1 = 0 then leField d 2 1 = 0 || 2 < leField d 2 1 else leField d 2 1 ≠ 0) || leField d 3 1 ≠ 0 ||
    !s.grade.injectInst det (leField d 4 4) || !s.injectAddr det (leField d 4 4) (leField d 8 8) || leField d 20 2 = 0 ||
    !zeroField d 22 42 || 16 ≤ s.injections.length
  operandErr (a % 64 ≠ 0) 16 ++ (if s.flag InjStatus.unlocked then [] else [descErr 0x70 0]) ++ (if bad then [descErr 0x71 0] else []) ++
    s.rangeErr (s.qDomain q) ⟨a, 64, false⟩

/-- R411: what INJECT does once it has passed its checks. -/
def State.runInject (s : State) (q : Nat) (c : Cmd) : State :=
  let d := s.bytes (leField c.entry 16 8) 64
  let j : Injection := { det := leField d 0 1, mode := leField d 1 1, bits := leField d 2 1, inst := leField d 4 4,
                         addr := leField d 8 8, delay := leField d 16 4, repeats := leField d 20 2 }
  let l := s.injections ++ [j]
  (({ s with injections := l } : State).setFld InjStatus.armed l.length).endOk q c.idx

/-- INJECT (R411). -/
def State.doInject (s : State) (q : Nat) : State :=
  if queueOk q then
    s.runRow q { want := isOp 0xC1, ranges := plainRanges, regions := noRanges, errs := fun s c => s.injectErrs q c.entry,
                 body := fun s c => s.runInject q c }
  else s

/-! ### The newt area (R463) -/

/-- Base of the newt area (R535). -/
def newtBase : Nat := areaBase 1
/-- Offset of a core record. -/
def newtCoreAt (n : Nat) : Nat := 1048576 + 65536 * n

/-- Byte 12 of a QUEUE record replaced. -/
def withByte (r : Bytes) (off v : Nat) : Bytes := (sliceBytes r 0 16).set off (BitVec.ofNat 8 v)

/-- The raw 16-byte records of a section that belong to a core. -/
def Image.coreRows (im : Image) (ty n : Nat) : List Bytes :=
  ((List.range (im.secCount ty)).map fun k => recAt (im.sec ty) 16 k).filter fun r => leField r 0 2 = n

/-- The QUEUE records of a core in QNUM order. -/
def Image.queueRows (im : Image) (n : Nat) : List Bytes :=
  (List.range 64).flatMap fun q => (im.coreRows 0x0003 n).filter fun r => leField r 2 1 = q
/-- The WINDOW records of a core in WNUM order. -/
def Image.windowRows (im : Image) (n : Nat) : List Bytes :=
  (List.range 16).flatMap fun w => (im.coreRows 0x0007 n).filter fun r => leField r 2 1 = w

/-- The loop tables of a core as laid out from LOOP_OFF. -/
def Image.loopBytes (im : Image) (n : Nat) : Bytes := sliceBytes (im.sec 0x0006) (im.core n).loopOff (im.core n).loopLen

/-- R463: the pieces of core `n`'s record, by offset within the record, and the token headers saved in it. -/
def State.newtRecord (s : State) (n : Nat) : List (Nat × Bytes) × Nat :=
  let im := s.im
  let c := im.core n
  let rt := s.core n
  let t := s.coreTokens n
  let queues := im.queueRows n
  let steers := im.coreRows 0x0005 n
  let wins := im.windowRows n
  let loop := im.loopBytes n
  let prog := im.prog n
  let queued := t.1.flatMap (·.2)
  let cnt := fun (r : Bytes) => ((t.1.find? (·.1 = leField r 2 1)).map (·.2.length)).getD 0
  let head := leBytes 2 n ++ leBytes 1 (s.fld (CoreStatus.state n)) ++ leBytes 1 c.role ++ leBytes 1 c.flags ++ leBytes 1 c.tables ++
    leBytes 1 queues.length ++ leBytes 1 wins.length ++ leBytes 2 steers.length ++ leBytes 2 queued.length ++
    leBytes 4 prog.length ++ leBytes 4 loop.length ++ leBytes 2 (s.fld (CoreWinOpen.open n)) ++ leBytes 1 t.2.1.length ++
    leBytes 1 t.2.2.length
  let state := (List.range c.tables).flatMap fun j =>
    let r : TableRt := Sparse.get {} rt.tables j
    ((List.range 6).flatMap fun l => leBytes 4 (r.levels.getD l 0)) ++ leBytes 2 r.runs ++ leBytes 2 0 ++ leBytes 4 r.iters
  let scalar := ((List.range 31).flatMap fun i => leBytes 4 (Sparse.get (0 : W32) rt.scalar.x (i + 1)).toNat) ++
    leBytes 4 rt.scalar.pc.toNat
  ([(0, head), (64, queues.flatMap fun r => withByte r 12 (cnt r)), (1088, (queued.take 256).flatMap (·.bytes)),
    (5184, t.2.1.flatMap (·.bytes)), (5696, wins.flatMap id), (5952, loop), (7232, state), (7360, scalar),
    (7488, steers.flatMap id), (23872, prog),
    (40256, t.2.2.flatMap fun x => x.1.bytes ++ leBytes 4 x.2 ++ leBytes 12 0)],
   queued.length + t.2.1.length + t.2.2.length)

/-- R463: a route's record in the fabric section: the credits its sender holds and its stream number. -/
def State.newtRoute (s : State) (k : Nat) : Bytes :=
  let r := recAt (s.im.sec 0x0004) 16 k
  let x := parseRoute r
  let lau := fun (u : Nat) => u / 4096 = 1
  let stream := if x.dstKind = 1 && lau x.dst then
      ((s.im.routeRecs.take k).filter fun y => y.dstKind = 1 && y.dst = x.dst).length
    else if x.srcKind = 1 && lau x.src then ((s.im.routeRecs.take k).filter fun y => y.srcKind = 1 && y.src = x.src).length
    else 0xFF
  withByte (withByte r 10 (min 255 (s.route k).credits)) 11 stream

/-- The spread-set records by SET order; an index without one is zero. -/
def Image.spreadRows (im : Image) : List Bytes :=
  let rows := (List.range (im.secCount 0x000B - 1)).map fun k => sliceBytes (im.sec 0x000B) (16 + 16 * k) 16
  (List.range 32).map fun i => (rows.find? fun r => leField r 0 1 = i).getD (List.replicate 16 0)

/-- R463: a save of `n` cores from `first`; `whole` for scope 0. -/
def State.newtSave (s : State) (whole : Bool) (first n : Nat) : State :=
  let cores := (List.range n).map (· + first)
  let recs := cores.map fun k => (k, s.newtRecord k)
  let tokens := recs.foldl (fun m r => m + r.2.2) 0
  let im := s.im
  let routes := if whole then im.secCount 0x0004 else 0
  let header := leBytes 4 0x5457454E ++ leBytes 1 (if whole then 1 else 2) ++ leBytes 1 s.epoch ++
    leBytes 1 (s.fld FabCoachStatus.activeSlot) ++ leBytes 1 s.geomClass ++ leBytes 2 (s.fld FabDomCtl.domain) ++
    leBytes 1 (s.fld FabDomCtl.claimed + 2 * b2n s.inStep) ++ leBytes 1 0 ++ leBytes 2 first ++ leBytes 2 n ++
    leBytes 8 (s.fld TelIntervalCnt.count) ++ leBytes 4 tokens ++ leBytes 4 routes ++
    (if s.image.isSome then sliceBytes im.hdr 32 48 else List.replicate 48 0) ++ leBytes 8 im.gangMask
  let s1 := (s.clearRaw newtBase (if whole then 1048576 else 4096)).setRaw newtBase header
  let s2 := if whole then
      (s1.setRaw (newtBase + 4096) (im.spreadRows.flatMap id)).setRaw (newtBase + 4608) ((List.range routes).flatMap s.newtRoute)
    else s1
  recs.foldl (fun s r => r.2.1.foldl (fun s p => s.setRaw (newtBase + newtCoreAt r.1 + p.1) p.2)
    (s.clearRaw (newtBase + newtCoreAt r.1) 65536)) s2

/-! ### Restore (R462, R463) -/

/-- A core's share of an image: its role, flags, tables, program, tables' bytes and records. -/
structure CoreParts where
  role : Nat
  flags : Nat
  tables : Nat
  prog : Bytes
  loop : Bytes
  queues : List Bytes
  steers : List Bytes
  windows : List Bytes
  deriving DecidableEq, Repr

/-- The share of a core in an image. -/
def Image.parts (im : Image) (n : Nat) : CoreParts :=
  let c := im.core n
  { role := c.role, flags := c.flags, tables := c.tables, prog := im.prog n, loop := im.loopBytes n, queues := im.queueRows n,
    steers := im.coreRows 0x0005 n, windows := im.windowRows n }

/-- The bytes of a core record at an offset. -/
def State.newtBytes (s : State) (n off len : Nat) : Bytes := s.raw (newtBase + newtCoreAt n + off) len
/-- A field of a core record. -/
def State.newtField (s : State) (n off len : Nat) : Nat := leNat (s.newtBytes n off len)
/-- The 16-byte rows of a core record. -/
def State.newtRows (s : State) (n off count : Nat) : List Bytes := (List.range count).map fun k => s.newtBytes n (off + 16 * k) 16

/-- The share of a core in the newt area. -/
def State.savedParts (s : State) (n : Nat) : CoreParts :=
  { role := s.newtField n 3 1, flags := s.newtField n 4 1, tables := s.newtField n 5 1,
    prog := s.newtBytes n 23872 (s.newtField n 12 4), loop := s.newtBytes n 5952 (s.newtField n 16 4),
    queues := (s.newtRows n 64 (s.newtField n 6 1)).map fun r => withByte r 12 0, steers := s.newtRows n 7488 (s.newtField n 8 2),
    windows := s.newtRows n 5696 (s.newtField n 7 1) }

/-- An image from the shares of its cores, its routes, its CLUSTER section, and the other sections of `base`. -/
def assemble (base : Image) (parts : List CoreParts) (routes cluster : Bytes) : Image :=
  let core := (parts.foldl (fun (acc : Bytes × Nat × Nat) p =>
    (acc.1 ++ leBytes 1 p.role ++ leBytes 1 p.flags ++ leBytes 1 p.tables ++ leBytes 1 0 ++ leBytes 4 acc.2.1 ++
       leBytes 4 p.prog.length ++ leBytes 4 acc.2.2 ++ leBytes 4 p.loop.length ++ leBytes 12 0,
     acc.2.1 + p.prog.length, acc.2.2 + p.loop.length)) ([], 0, 0)).1
  let rows := fun (l : List Bytes) => (l.length, l.flatMap id)
  { hdr := base.hdr,
    secs := [(0x0001, parts.length, core), (0x0002, 0, parts.flatMap (·.prog)), (0x0003, rows (parts.flatMap (·.queues))),
             (0x0004, routes.length / 16, routes), (0x0005, rows (parts.flatMap (·.steers))), (0x0006, 0, parts.flatMap (·.loop)),
             (0x0007, rows (parts.flatMap (·.windows))), (0x000B, cluster.length / 16, cluster)] ++
            base.secs.filter fun x => x.1 = 0x0008 || x.1 = 0x0009 || x.1 = 0x000A }

/-- A token header saved in the newt area, with a new epoch. -/
def savedHdr (b : Bytes) (epoch : Nat) : TokHdr :=
  { epoch, control := bitOf (leField b 0 1) 2, selector := leField b 0 1 / 16, fmt := leField b 1 1, tenant := leField b 2 2,
    mb := leField b 4 2, granules := leField b 6 2, arg := BitVec.ofNat 64 (leField b 8 8) }

/-- A token that holds a credit of a route, numbered. -/
def State.newTok (s : State) (k : Nat) (h : TokHdr) : Nat × State :=
  (s.nextTok, { s with live := Sparse.insert s.live s.nextTok { hdr := h, route := k, refs := 1, parent := none },
                       nextTok := s.nextTok + 1 })

/-- R463: the tokens of one queue of a restored core: in queues hold them, out queues have them waiting at the sender, with
payload bytes that the area does not hold (log entry 28). -/
def State.restoreQueue (s : State) (n : Nat) (r : QueueRec) (hs : List TokHdr) : State :=
  hs.foldl (fun s h =>
    if r.kind ≤ 1 then
      let x := s.newTok r.route h
      x.2.modCore n fun c => { c with queues := Sparse.set [] c.queues r.q (Sparse.get [] c.queues r.q ++ [x.1]) }
    else
      let w : WaitTok := { hdr := h, values := (List.range h.valLen).map (Config.unspecifiedByte s.draws),
                           scales := (List.range h.scaleLen).map fun i => Config.unspecifiedByte s.draws (h.valLen + i),
                           parent := none, inPlace := false }
      s.modRoute r.route fun x => { x with waiting := x.waiting ++ [w] }) s

/-- R463: the tokens, deferred list, router, loop state and scalar registers of a restored core. -/
def State.restoreCore (s : State) (n epoch : Nat) : State :=
  let area := s
  let rows := area.newtRows n 64 (area.newtField n 6 1)
  let s0 := s.modCore n fun _ => {}
  let x := rows.foldl (fun (acc : Nat × State) r =>
    let c := leField r 12 1
    let hs := (List.range c).map fun i => savedHdr (area.newtBytes n (1088 + 16 * (acc.1 + i)) 16) epoch
    (acc.1 + c, acc.2.restoreQueue n (parseQueue r) hs)) (0, s0)
  let s1 := x.2
  let dq := ((s1.im.steerRecs.find? fun r => r.core = n && r.action = 3).map (·.dataQ)).getD 0
  let droute := ((s1.im.queue? n dq).map (·.route)).getD 0
  let s2 := (List.range (area.newtField n 22 1)).foldl (fun s i =>
    let y := s.newTok droute (savedHdr (area.newtBytes n (5184 + 16 * i) 16) epoch)
    y.2.modCore n fun c => { c with deferred := c.deferred ++ [y.1] }) s1
  let s3 := (List.range (area.newtField n 23 1)).foldl (fun s i =>
    let b := area.newtBytes n (40256 + 32 * i) 32
    let w : WaitTok := { hdr := savedHdr b epoch, values := [], scales := [], parent := none, inPlace := false }
    s.modRoute (leField b 16 4) fun y => { y with inflight := y.inflight ++ [w] }) s2
  let tables := (List.range (area.newtField n 5 1)).map fun j =>
    let b := area.newtBytes n (7232 + 32 * j) 32
    (j, ({ levels := (List.range 6).map fun l => leField b (4 * l) 4, runs := leField b 24 2, iters := leField b 28 4 } : TableRt))
  let sc := area.newtBytes n 7360 128
  let xs : List (Nat × W32) := (List.range 31).foldl (fun m i => Sparse.set 0 m (i + 1) (BitVec.ofNat 32 (leField sc (4 * i) 4))) []
  s3.modCore n fun c => { c with tables := tables.foldl (fun m t => Sparse.set {} m t.1 t.2) [],
                                 scalar := { c.scalar with x := xs, pc := BitVec.ofNat 32 (leField sc 124 4) } }

/-- R462: the image of a restored fabric: the parts of cores `first` to `first + n − 1` from the scan; scope 0 takes the
saved slot's image, routes and cluster records, scope 1 those of the image that is active. -/
def State.newtImage (s : State) (whole : Bool) (first n : Nat) : Image :=
  let h := s.raw newtBase 4096
  let slot := leField h 6 1
  let base := if whole then parseImage (s.slotBytes slot) else s.im
  let mine := fun k => first ≤ k && k < first + n
  let parts := (List.range s.grade.cores).map fun k => if mine k then s.savedParts k else base.parts k
  let routes := if whole then
      (List.range (leField h 28 4)).flatMap fun k => withByte (withByte (s.raw (newtBase + 4608 + 16 * k) 16) 10 0) 11 0
    else base.sec 0x0004
  let cluster := if whole then
      sliceBytes (sliceBytes h 80 8) 0 16 ++
        ((List.range 32).map fun i => s.raw (newtBase + 4096 + 16 * i) 16).flatMap fun r => if r.all (· = 0) then [] else r
    else base.sec 0x000B
  assemble base parts routes cluster

/-- R462: the routes of a restored fabric that hold credits, each with the credits its saved record gives. -/
def State.newtRoutes (s : State) : List (Nat × RouteRt) :=
  (List.range (leField (s.raw newtBase 4096) 28 4)).filterMap fun k =>
    let c := leNat (s.raw (newtBase + 4608 + 16 * k + 10) 1)
    if c = 0 then none else some (k, ({ credits := c } : RouteRt))

/-- R123, R462: a restored fabric is claimed for the saved domain and slot, in the next epoch. -/
def State.newtClaim (s : State) : State :=
  let h := s.raw newtBase 4096
  let slot := leField h 6 1
  let epoch := (s.epoch + 1) % 4
  let s1 := ((s.setFld FabDomCtl.claimed 1).setFld FabDomCtl.domain (leField h 8 2)).setFld FabCoachStatus.activeSlot slot
  (s1.setFld FabCoachStatus.epoch epoch).setFld FabCoachStatus.phase 1

/-- R123, R462: the fabric before its restored cores load: claimed, with the image; scope 0 brings the routes and clears what
the fabric held, scope 1 leaves the tokens of other cores stale, so that they are discarded. -/
def State.newtFabric (s : State) (whole : Bool) (im : Image) : State :=
  let u := s.newtClaim
  if whole then { u with image := some im, routes := s.newtRoutes, cores := [], live := [], ckpt := [] }
  else State.discardOld { u with image := some im }

/-- R462: core `k` loads the restored image with its saved windows, state and run-time contents; `s` holds the scan. -/
def State.newtCore (s : State) (im : Image) (s' : State) (k : Nat) : State :=
  let y := (s'.loadCore im k).setReg (.coreWinOpen k) (s.newtField k 20 2)
  (y.setFld (CoreStatus.state k) (if s.newtField k 2 1 = 0 then 0 else 1)).restoreCore k ((s.epoch + 1) % 4)

/-- R462: what a restore brings to cores `first` to `first + n − 1`; scope 0 brings the fabric section as well. -/
def State.newtRestore (s : State) (whole : Bool) (first n : Nat) : State :=
  let im := s.newtImage whole first n
  ((List.range n).map (· + first)).foldl (s.newtCore im) (s.newtFabric whole im)

/-! ### NEWT_SCAN (R327, R461 to R463) -/

/-- SCOPE 0: the whole fabric. -/
def newtWhole (e : Bytes) : Bool := leField e 17 1 = 0
/-- The cores of a scan. -/
def State.newtRange (s : State) (e : Bytes) : Nat × Nat :=
  if newtWhole e then (0, s.usableCores) else (leField e 18 2, leField e 20 2)

/-- R327: the operands of a NEWT_SCAN. -/
def State.newtErrs (s : State) (e : Bytes) : List Err :=
  operandErr (1 < leField e 16 1) 16 ++ operandErr (1 < leField e 17 1) 17 ++
    (if leField e 17 1 = 1 then
       operandErr (s.usableCores ≤ leField e 18 2) 18 ++
         operandErr (leField e 20 2 = 0 || s.usableCores < leField e 18 2 + leField e 20 2) 20
     else [])

/-- R462, R463 cause 0x97: a restore is refused. -/
def State.restoreRefused (s : State) (e : Bytes) : Bool :=
  let h := s.raw newtBase 4096
  let slot := leField h 6 1
  leField h 0 4 ≠ 0x5457454E || leField h 4 1 ≠ (if newtWhole e then 1 else 2) || leField h 7 1 ≠ s.geomClass ||
    (if newtWhole e then
       s.flag FabDomCtl.claimed || s.inStep || 8 ≤ slot || !s.slotValid slot ||
         sliceBytes (s.slotBytes slot) 32 48 ≠ sliceBytes h 32 48
     else
       !s.flag FabDomCtl.claimed || s.fld FabDomCtl.domain ≠ leField h 8 2 || leField h 12 2 ≠ leField e 18 2 ||
         leField h 14 2 ≠ leField e 20 2)

/-- R537: NEWT.STATUS after a scan. -/
def State.newtStatus (s : State) (e : Bytes) (dir status : Nat) : State :=
  (((s.setFld NewtStatus.dir dir).setFld NewtStatus.scope (leField e 17 1 % 2)).setFld NewtStatus.result status).setFld
    NewtStatus.cores (s.newtRange e).2

/-- The newt area as it is accessed. -/
def newtRegion (write : Bool) (_ : State) (_ : Bytes) : List Range := [⟨newtBase, 67108864, write⟩]

/-- R461, R463: what NEWT_SCAN_SAVE does once it has passed its checks. -/
def State.runNewtSave (s : State) (q : Nat) (c : Cmd) : State :=
  let r := s.newtRange c.entry
  ((s.newtSave (newtWhole c.entry) r.1 r.2).newtStatus c.entry 0 St.ok).endCmd q c.idx St.ok 8 0 0

/-- NEWT_SCAN_SAVE (R461, R463): it waits while a SELFTEST runs and behind a forced change (R99). -/
def State.doNewtSave (s : State) (q : Nat) : State :=
  if queueOk q && !s.testing then
    s.runRow q { want := fun e => isOp 0xC2 e && leField e 16 1 ≠ 1, ranges := newtRegion true,
                 errs := fun s c => s.newtErrs c.entry, body := fun s c => s.runNewtSave q c }
  else s

/-- R462, R463: what NEWT_SCAN_RESTORE does once it has passed its checks. -/
def State.runNewtRestore (s : State) (q : Nat) (c : Cmd) : State :=
  if s.restoreRefused c.entry then
    (s.newtStatus c.entry 1 St.descInvalid).endCmd q c.idx St.descInvalid 8 0 (0x97 <<< 40)
  else
    let r := s.newtRange c.entry
    ((s.newtRestore (newtWhole c.entry) r.1 r.2).newtStatus c.entry 1 St.ok).endCmd q c.idx St.ok 8 0 0

/-- NEWT_SCAN_RESTORE (R462, R463); either direction declares the newt area as written (R311). -/
def State.doNewtRestore (s : State) (q : Nat) : State :=
  if queueOk q && !s.testing then
    s.runRow q { want := fun e => isOp 0xC2 e && leField e 16 1 = 1, ranges := newtRegion false, regions := newtRegion true,
                 errs := fun s c => s.newtErrs c.entry, body := fun s c => s.runNewtRestore q c }
  else s

/-- SELFTEST (R481). -/
def execSelftest (q : Nat) (s : State) : Outcome := .next (s.doSelftest q)
/-- SELFTEST_COMPLETE (R483). -/
def execSelftestComplete (failures : List (Nat × Nat)) (s : State) : Outcome := .next (s.doSelftestComplete failures)
/-- SPARE_TEST_TICK (R484). -/
def execSpareTestTick (failed : Nat) (s : State) : Outcome := .next (s.doSpareTest failed)
/-- INJECT (R411). -/
def execInject (q : Nat) (s : State) : Outcome := .next (s.doInject q)
/-- NEWT_SCAN_SAVE (R461). -/
def execNewtScanSave (q : Nat) (s : State) : Outcome := .next (s.doNewtSave q)
/-- NEWT_SCAN_RESTORE (R462). -/
def execNewtScanRestore (q : Nat) (s : State) : Outcome := .next (s.doNewtRestore q)

end Sys2Proof.Machine
end

