-- ==== Sys2Proof/Machine/Dispatch.lean ====
section
/-!
DEFINITION. The dispatch of a command to its meaning, one arm for each row of spec/opcode_table.json in the table's order.
-/
namespace Sys2Proof.Machine

def exec (i : Instr) (s : State) : Host.Outcome State Fault Refusal :=
  match i with
  | .doorbell a q v => Sys2Proof.Machine.execDoorbell a q v s
  | .cqDoorbell a q v => Sys2Proof.Machine.execCqDoorbell a q v s
  | .entryFetch q => Sys2Proof.Machine.execEntryFetch q s
  | .entryReread q => Sys2Proof.Machine.execEntryReread q s
  | .completionPost q => Sys2Proof.Machine.execCompletionPost q s
  | .openQueue a q => Sys2Proof.Machine.execOpenQueue a q s
  | .closeQueue a q => Sys2Proof.Machine.execCloseQueue a q s
  | .releaseQueue a q => Sys2Proof.Machine.execReleaseQueue a q s
  | .discardQueue a q => Sys2Proof.Machine.execDiscardQueue a q s
  | .abortWait a q => Sys2Proof.Machine.execAbortWait a q s
  | .qctrlSelect a q => Sys2Proof.Machine.execQctrlSelect a q s
  | .nop q => Sys2Proof.Machine.execNop q s
  | .fence q => Sys2Proof.Machine.execFence q s
  | .flagSet q => Sys2Proof.Machine.execFlagSet q s
  | .flagWait q => Sys2Proof.Machine.execFlagWait q s
  | .flagWaitTimeout q => Sys2Proof.Machine.execFlagWaitTimeout q s
  | .stage q => Sys2Proof.Machine.execStage q s
  | .activate q => Sys2Proof.Machine.execActivate q s
  | .forcedActivate q => Sys2Proof.Machine.execForcedActivate q s
  | .stageAndActivate q => Sys2Proof.Machine.execStageAndActivate q s
  | .coachChange flips => Sys2Proof.Machine.execCoachChange flips s
  | .segmentRun q => Sys2Proof.Machine.execSegmentRun q s
  | .segmentEnd => Sys2Proof.Machine.execSegmentEnd s
  | .segmentStuck => Sys2Proof.Machine.execSegmentStuck s
  | .flagWaitQuiescence => Sys2Proof.Machine.execFlagWaitQuiescence s
  | .stepBegin q => Sys2Proof.Machine.execStepBegin q s
  | .stepCommit q => Sys2Proof.Machine.execStepCommit q s
  | .commitPoint => Sys2Proof.Machine.execCommitPoint s
  | .commitWalkEnd => Sys2Proof.Machine.execCommitWalkEnd s
  | .stepAbandon q => Sys2Proof.Machine.execStepAbandon q s
  | .abandonWalkEnd => Sys2Proof.Machine.execAbandonWalkEnd s
  | .copy q => Sys2Proof.Machine.execCopy q s
  | .copyTranspose q => Sys2Proof.Machine.execCopyTranspose q s
  | .permuteCopy q => Sys2Proof.Machine.execPermuteCopy q s
  | .gather q => Sys2Proof.Machine.execGather q s
  | .scatterAdd q => Sys2Proof.Machine.execScatterAdd q s
  | .inlineWrite q => Sys2Proof.Machine.execInlineWrite q s
  | .migrateHint q => Sys2Proof.Machine.execMigrateHint q s
  | .pin q => Sys2Proof.Machine.execPin q s
  | .unpin q => Sys2Proof.Machine.execUnpin q s
  | .cartMap q => Sys2Proof.Machine.execCartMap q s
  | .cartFree q => Sys2Proof.Machine.execCartFree q s
  | .reduce q => Sys2Proof.Machine.execReduce q s
  | .allReduce q => Sys2Proof.Machine.execAllReduce q s
  | .allGather q => Sys2Proof.Machine.execAllGather q s
  | .reduceScatter q => Sys2Proof.Machine.execReduceScatter q s
  | .permute q => Sys2Proof.Machine.execPermute q s
  | .allowExpiry coll => Sys2Proof.Machine.execAllowExpiry coll s
  | .updateStream q => Sys2Proof.Machine.execUpdateStream q s
  | .gradSum q => Sys2Proof.Machine.execGradSum q s
  | .snapArm q => Sys2Proof.Machine.execSnapArm q s
  | .snapDisarm q => Sys2Proof.Machine.execSnapDisarm q s
  | .snapRestore q => Sys2Proof.Machine.execSnapRestore q s
  | .lizardAdopt q => Sys2Proof.Machine.execLizardAdopt q s
  | .selftest q => Sys2Proof.Machine.execSelftest q s
  | .selftestComplete failures => Sys2Proof.Machine.execSelftestComplete failures s
  | .inject q => Sys2Proof.Machine.execInject q s
  | .newtScanSave q => Sys2Proof.Machine.execNewtScanSave q s
  | .newtScanRestore q => Sys2Proof.Machine.execNewtScanRestore q s
  | .tokenSend route tok => Sys2Proof.Machine.execTokenSend route tok s
  | .tokenHeaderEntry route => Sys2Proof.Machine.execTokenHeaderEntry route s
  | .steerPairRetire core ctrlQ => Sys2Proof.Machine.execSteerPairRetire core ctrlQ s
  | .tokenRelease token => Sys2Proof.Machine.execTokenRelease token s
  | .creditArrival route => Sys2Proof.Machine.execCreditArrival route s
  | .tileProduct core => Sys2Proof.Machine.execTileProduct core s
  | .accumulatorDrain core table => Sys2Proof.Machine.execAccumulatorDrain core table s
  | .vectorIteration core table => Sys2Proof.Machine.execVectorIteration core table s
  | .updateEngineTile route => Sys2Proof.Machine.execUpdateEngineTile route s
  | .scalarProgramStart core => Sys2Proof.Machine.execScalarProgramStart core s
  | .scalarInstruction core => Sys2Proof.Machine.execScalarInstruction core s
  | .send core => Sys2Proof.Machine.execSend core s
  | .take core => Sys2Proof.Machine.execTake core s
  | .carriageForward core chain => Sys2Proof.Machine.execCarriageForward core chain s
  | .checkpointSave unit core => Sys2Proof.Machine.execCheckpointSave unit core s
  | .checkpointRestore unit core => Sys2Proof.Machine.execCheckpointRestore unit core s
  | .tenantFeed route => Sys2Proof.Machine.execTenantFeed route s
  | .scrubTick upsets => Sys2Proof.Machine.execScrubTick upsets s
  | .calibrationTick margins => Sys2Proof.Machine.execCalibrationTick margins s
  | .handshakeWatchdog core => Sys2Proof.Machine.execHandshakeWatchdog core s
  | .droopTrip die => Sys2Proof.Machine.execDroopTrip die s
  | .droopHoldExpiry die => Sys2Proof.Machine.execDroopHoldExpiry die s
  | .droopReleaseStep die => Sys2Proof.Machine.execDroopReleaseStep die s
  | .criticalDroop die => Sys2Proof.Machine.execCriticalDroop die s
  | .powerSample p10us p1s => Sys2Proof.Machine.execPowerSample p10us p1s s
  | .slowLoopTick dieC stackC => Sys2Proof.Machine.execSlowLoopTick dieC stackC s
  | .junctionTrip die => Sys2Proof.Machine.execJunctionTrip die s
  | .coolingEnd => Sys2Proof.Machine.execCoolingEnd s
  | .healthTick => Sys2Proof.Machine.execHealthTick s
  | .queueDepthSample => Sys2Proof.Machine.execQueueDepthSample s
  | .spareTestTick failed => Sys2Proof.Machine.execSpareTestTick failed s
  | .eviction => Sys2Proof.Machine.execEviction s
  | .migrationSwitch cart => Sys2Proof.Machine.execMigrationSwitch cart s
  | .migrationFrameReturn cart => Sys2Proof.Machine.execMigrationFrameReturn cart s
  | .tierStall port => Sys2Proof.Machine.execTierStall port s
  | .tierAbort cart q => Sys2Proof.Machine.execTierAbort cart q s
  | .cxlPoison cart q => Sys2Proof.Machine.execCxlPoison cart q s
  | .cxlLinkDown port => Sys2Proof.Machine.execCxlLinkDown port s
  | .cxlLinkUp port => Sys2Proof.Machine.execCxlLinkUp port s
  | .lauloFrameReceive port frame errs => Sys2Proof.Machine.execLauloFrameReceive port frame errs s
  | .lauloFrameSend port => Sys2Proof.Machine.execLauloFrameSend port s
  | .write port => Sys2Proof.Machine.execWrite port s
  | .writeAck port => Sys2Proof.Machine.execWriteAck port s
  | .readReq port => Sys2Proof.Machine.execReadReq port s
  | .taggedReadResume => Sys2Proof.Machine.execTaggedReadResume s
  | .readResp port => Sys2Proof.Machine.execReadResp port s
  | .flag port => Sys2Proof.Machine.execFlag port s
  | .flagAck port => Sys2Proof.Machine.execFlagAck port s
  | .stream port => Sys2Proof.Machine.execStream port s
  | .streamCredit port => Sys2Proof.Machine.execStreamCredit port s
  | .collData port => Sys2Proof.Machine.execCollData port s
  | .collAbort port => Sys2Proof.Machine.execCollAbort port s
  | .lost port => Sys2Proof.Machine.execLost port s
  | .adopt port => Sys2Proof.Machine.execAdopt port s
  | .adoptAck port => Sys2Proof.Machine.execAdoptAck port s
  | .e2eTimeout reqId => Sys2Proof.Machine.execE2eTimeout reqId s
  | .linkEnable a k => Sys2Proof.Machine.execLinkEnable a k s
  | .linkDisable a k => Sys2Proof.Machine.execLinkDisable a k s
  | .linkTrainingComplete k peer cableNs fseq => Sys2Proof.Machine.execLinkTrainingComplete k peer cableNs fseq s
  | .linkTrainingRetry k => Sys2Proof.Machine.execLinkTrainingRetry k s
  | .routeWrite a k v => Sys2Proof.Machine.execRouteWrite a k v s
  | .rdmaWrite rq data => Sys2Proof.Machine.execRdmaWrite rq data s
  | .rdmaRead rq len => Sys2Proof.Machine.execRdmaRead rq len s
  | .atomicFetchAdd rq v => Sys2Proof.Machine.execAtomicFetchAdd rq v s
  | .atomicCompareSwap rq cmp swap => Sys2Proof.Machine.execAtomicCompareSwap rq cmp swap s
  | .foreignPacketDrop port src => Sys2Proof.Machine.execForeignPacketDrop port src s
  | .attach rq => Sys2Proof.Machine.execAttach rq s
  | .reattach rq => Sys2Proof.Machine.execReattach rq s
  | .dreq port session => Sys2Proof.Machine.execDreq port session s
  | .ethLinkDown port => Sys2Proof.Machine.execEthLinkDown port s
  | .sessionDetach port => Sys2Proof.Machine.execSessionDetach port s
  | .sessionRelease slot => Sys2Proof.Machine.execSessionRelease slot s
  | .partnerHiWrite a port v => Sys2Proof.Machine.execPartnerHiWrite a port v s
  | .partnerLoWrite a port v => Sys2Proof.Machine.execPartnerLoWrite a port v s
  | .mgmtLinkLoss => Sys2Proof.Machine.execMgmtLinkLoss s
  | .unlockSubmit a => Sys2Proof.Machine.execUnlockSubmit a s
  | .unlockLock a => Sys2Proof.Machine.execUnlockLock a s
  | .commitSvn a => Sys2Proof.Machine.execCommitSvn a s
  | .getVersion => Sys2Proof.Machine.execGetVersion s
  | .getCapabilities => Sys2Proof.Machine.execGetCapabilities s
  | .negotiateAlgorithms ecdsaP384 sha384 => Sys2Proof.Machine.execNegotiateAlgorithms ecdsaP384 sha384 s
  | .getDigests => Sys2Proof.Machine.execGetDigests s
  | .getCertificate slot offset length => Sys2Proof.Machine.execGetCertificate slot offset length s
  | .challenge slot nonce => Sys2Proof.Machine.execChallenge slot nonce s
  | .getMeasurements index sign nonce => Sys2Proof.Machine.execGetMeasurements index sign nonce s
  | .powerOnReset slotId => Sys2Proof.Machine.execPowerOnReset slotId s
  | .mainStart vin10mv => Sys2Proof.Machine.execMainStart vin10mv s
  | .refclkValid => Sys2Proof.Machine.execRefclkValid s
  | .hbmTrainingComplete failures => Sys2Proof.Machine.execHbmTrainingComplete failures s
  | .cxlTrainingComplete gib0 gib1 => Sys2Proof.Machine.execCxlTrainingComplete gib0 gib1 s
  | .ready fails => Sys2Proof.Machine.execReady fails s
  | .auxLost => Sys2Proof.Machine.execAuxLost s
  | .mainUndervoltage => Sys2Proof.Machine.execMainUndervoltage s
  | .mainOvervoltage => Sys2Proof.Machine.execMainOvervoltage s
  | .regulatorFault => Sys2Proof.Machine.execRegulatorFault s
  | .refclkLoss => Sys2Proof.Machine.execRefclkLoss s
  | .resetCtrlFabric a fails => Sys2Proof.Machine.execResetCtrlFabric a fails s
  | .resetCtrlModule a => Sys2Proof.Machine.execResetCtrlModule a s
  | .holdOffWrite a hold => Sys2Proof.Machine.execHoldOffWrite a hold s
  | .i3cGetId args pec => Sys2Proof.Machine.execI3cGetId args pec s
  | .i3cGetPower args pec => Sys2Proof.Machine.execI3cGetPower args pec s
  | .i3cGetTemp args pec => Sys2Proof.Machine.execI3cGetTemp args pec s
  | .i3cGetEvents args pec => Sys2Proof.Machine.execI3cGetEvents args pec s
  | .i3cReadReg args pec => Sys2Proof.Machine.execI3cReadReg args pec s
  | .i3cWriteReg args pec => Sys2Proof.Machine.execI3cWriteReg args pec s
  | .i3cModuleReset args pec => Sys2Proof.Machine.execI3cModuleReset args pec s
  | .i3cFabricReset args pec fails => Sys2Proof.Machine.execI3cFabricReset args pec fails s
  | .i3cPrivateRead ready => Sys2Proof.Machine.execI3cPrivateRead ready s
  | .setdasa static dynamic => Sys2Proof.Machine.execSetdasa static dynamic s
  | .setnewda dynamic => Sys2Proof.Machine.execSetnewda dynamic s
  | .rstdaa => Sys2Proof.Machine.execRstdaa s
  | .getpid => Sys2Proof.Machine.execGetpid s
  | .getbcr => Sys2Proof.Machine.execGetbcr s
  | .getdcr => Sys2Proof.Machine.execGetdcr s
  | .getstatus => Sys2Proof.Machine.execGetstatus s
  | .getmrl => Sys2Proof.Machine.execGetmrl s
  | .getmwl => Sys2Proof.Machine.execGetmwl s
  | .enec => Sys2Proof.Machine.execEnec s
  | .disec => Sys2Proof.Machine.execDisec s
  | .ibiRetry code accepted => Sys2Proof.Machine.execIbiRetry code accepted s
  | .generationComplete => Sys2Proof.Machine.execGenerationComplete s
  | .domCtlRelease a => Sys2Proof.Machine.execDomCtlRelease a s
  | .winOpenWrite a core v => Sys2Proof.Machine.execWinOpenWrite a core v s
  | .tmapWrite a k v => Sys2Proof.Machine.execTmapWrite a k v s
  | .paceVsetWrite a v => Sys2Proof.Machine.execPaceVsetWrite a v s
  | .edgeWeightWrite a k v => Sys2Proof.Machine.execEdgeWeightWrite a k v s
  | .spareReqColWrite a n v => Sys2Proof.Machine.execSpareReqColWrite a n v s
  | .govClear a => Sys2Proof.Machine.execGovClear a s
  | .cartQuery a v => Sys2Proof.Machine.execCartQuery a v s
  | .sessQuery a v => Sys2Proof.Machine.execSessQuery a v s
  | .cntClear a => Sys2Proof.Machine.execCntClear a s
  | .cntClearAll a => Sys2Proof.Machine.execCntClearAll a s
  | .evtHeadWrite a v => Sys2Proof.Machine.execEvtHeadWrite a v s
  | .teleHeadWrite a v => Sys2Proof.Machine.execTeleHeadWrite a v s
  | .registerReadClear a offset size => Sys2Proof.Machine.execRegisterReadClear a offset size s
  | .registerWrite a offset size v => Sys2Proof.Machine.execRegisterWrite a offset size v s
  | .droopRecovery die => Sys2Proof.Machine.execDroopRecovery die s
  | .ethLinkUp port => Sys2Proof.Machine.execEthLinkUp port s
  | .rdmaRetryExhaustion slot => Sys2Proof.Machine.execRdmaRetryExhaustion slot s
  | .fcsIcrcDrop port => Sys2Proof.Machine.execFcsIcrcDrop port s
  | .laneLockLoss k => Sys2Proof.Machine.execLaneLockLoss k s
  | .retrainFailure k => Sys2Proof.Machine.execRetrainFailure k s
  | .adoptE2eElapsed => Sys2Proof.Machine.execAdoptE2eElapsed s

end Sys2Proof.Machine
end

