-- ==== Sys2Proof/Machine/Idle.lean ====
section
/-!
DEFINITION. What happens when no command waits: one period of REFCLK_SYS passes (R41; log entry 5).
-/
namespace Sys2Proof.Machine

/-- R41: TEL.INTERVAL_CNT counts one period of REFCLK_SYS while the reference clock is valid and the module controller runs. -/
def State.idle (s : State) : State :=
  if s.refclk && s.auxOk then
    ({ s with timer := s.timer + 1, healthDone := false, sampleDone := false } : State).setFld TelIntervalCnt.count
      (s.fld TelIntervalCnt.count + 1)
  else s

end Sys2Proof.Machine
end

