-- ==== Sys2Proof/WellFormed.lean ====
section
/-!
DEFINITION. Well-formed commands: operands within the ranges that the manual gives their fields. The meanings do not rest on
this; a command out of range changes nothing (log entry 2).
-/
namespace Sys2Proof

/-- An agent's session slot is one of 4,096 (R342). -/
def Agent.wf : Agent → Bool
  | .session k => k < 4096
  | _ => true

/-- A request comes on one of four front ports, from a 24-bit or smaller slot, to a 48-bit address (R338, R342, R346). -/
def RdmaReq.wf (r : RdmaReq) : Bool := r.port < 4 && r.slot < 4096 && r.addr < 2 ^ 64

/-- R343: the fields of the private data fit their widths. -/
def ConnReq.wf (r : ConnReq) : Bool :=
  r.port < 4 && r.version < 256 && r.role < 256 && r.flags < 65536 && r.session < 2 ^ 32 && r.domain < 65536

/-- R368: sixteen slots of 64 bytes with a class tag of 0 to 4, four credit counts of 16 bits. -/
def LFrame.wf (f : LFrame) : Bool :=
  f.flits.length = 16 && f.flits.all (fun x => x.cls ≤ 4 && x.data.length = 64) && f.credits.length = 4 &&
    f.credits.all (fun c => c < 65536)

/-- R107: the fields of a token header fit their widths. -/
def TokHdr.wf (h : TokHdr) : Bool :=
  h.epoch < 4 && h.selector < 16 && h.fmt < 256 && h.tenant < 65536 && h.mb < 65536 && h.granules < 65536

/-- A queue number (R292). -/
def wfQueue (q : Nat) : Bool := q < 1048576
/-- A core of the largest grade (R1). -/
def wfCore (n : Nat) : Bool := n < 768
/-- A Laulo port of the largest grade (R1). -/
def wfPort (k : Nat) : Bool := k < 8

/-- A well-formed command. -/
def Instr.wf : Instr → Bool
  | .doorbell a q _ | .cqDoorbell a q _ | .openQueue a q | .closeQueue a q | .releaseQueue a q | .discardQueue a q
  | .abortWait a q | .qctrlSelect a q => a.wf && wfQueue q
  | .entryFetch q | .entryReread q | .completionPost q | .nop q | .fence q | .flagSet q | .flagWait q | .flagWaitTimeout q
  | .stage q | .activate q | .forcedActivate q | .stageAndActivate q | .segmentRun q | .stepBegin q | .stepCommit q
  | .stepAbandon q | .copy q | .copyTranspose q | .permuteCopy q | .gather q | .scatterAdd q | .inlineWrite q | .migrateHint q
  | .pin q | .unpin q | .cartMap q | .cartFree q | .reduce q | .allReduce q | .allGather q | .reduceScatter q | .permute q
  | .updateStream q | .gradSum q | .snapArm q | .snapDisarm q | .snapRestore q | .lizardAdopt q | .selftest q | .inject q
  | .newtScanSave q | .newtScanRestore q => wfQueue q
  | .coachChange flips => flips ≤ 32
  | .segmentEnd | .segmentStuck | .flagWaitQuiescence | .commitPoint | .commitWalkEnd | .abandonWalkEnd => true
  | .allowExpiry _ => true
  | .selftestComplete failures => failures.all fun x => wfCore x.1
  | .tokenSend _ tok => match tok with
    | some x => x.1.wf
    | none => true
  | .tokenHeaderEntry _ | .tokenRelease _ | .creditArrival _ | .updateEngineTile _ | .tenantFeed _ => true
  | .steerPairRetire core q => wfCore core && q < 64
  | .tileProduct core | .scalarProgramStart core | .scalarInstruction core | .send core | .take core
  | .handshakeWatchdog core => wfCore core
  | .accumulatorDrain core table | .vectorIteration core table => wfCore core && table < 4
  | .carriageForward core _ => wfCore core
  | .checkpointSave _ core | .checkpointRestore _ core => wfCore core
  | .scrubTick upsets => upsets.all fun x => wfCore x.1 && x.2.1 < 2097152
  | .calibrationTick margins => margins.all fun x => wfCore x.1 && x.2.1 < 4
  | .droopTrip die | .droopHoldExpiry die | .droopReleaseStep die | .criticalDroop die | .junctionTrip die
  | .droopRecovery die => die < 4
  | .powerSample _ _ | .slowLoopTick _ _ | .coolingEnd | .healthTick | .queueDepthSample | .eviction => true
  | .spareTestTick failed => failed < 256
  | .migrationSwitch cart | .migrationFrameReturn cart => cart < 268435456
  | .tierStall port | .cxlLinkDown port | .cxlLinkUp port => port < 2
  | .tierAbort cart q | .cxlPoison cart q => cart < 268435456 && (match q with
    | some q => wfQueue q
    | none => true)
  | .lauloFrameReceive port frame errs => wfPort port && frame.wf && errs.all (fun x => x.1 < 1088)
  | .lauloFrameSend port | .write port | .writeAck port | .readReq port | .readResp port | .flag port | .flagAck port
  | .stream port | .streamCredit port | .collData port | .collAbort port | .lost port | .adopt port | .adoptAck port => port < 16
  | .taggedReadResume => true
  | .e2eTimeout reqId => reqId < 2 ^ 32
  | .linkEnable a k | .linkDisable a k => a.wf && wfPort k
  | .linkTrainingComplete k peer _ fseq => wfPort k && peer < 2 ^ 24 && fseq < 2 ^ 32
  | .linkTrainingRetry k | .laneLockLoss k | .retrainFailure k => wfPort k
  | .routeWrite a i _ => a.wf && i < 64
  | .rdmaWrite rq _ | .rdmaRead rq _ | .atomicFetchAdd rq _ | .atomicCompareSwap rq _ _ => rq.wf
  | .foreignPacketDrop port _ => port < 4
  | .attach rq | .reattach rq => rq.wf
  | .dreq port r => port < 4 && r.session < 2 ^ 32
  | .ethLinkDown port | .sessionDetach port | .ethLinkUp port | .fcsIcrcDrop port => port < 4
  | .sessionRelease slot | .rdmaRetryExhaustion slot => slot < 4096
  | .partnerHiWrite a port _ | .partnerLoWrite a port _ => a.wf && port < 4
  | .mgmtLinkLoss | .getVersion | .getCapabilities | .negotiateAlgorithms _ _ | .getDigests => true
  | .unlockSubmit a | .unlockLock a | .commitSvn a => a.wf
  | .getCertificate slot offset length => slot < 256 && offset < 65536 && length < 65536
  | .challenge slot nonce => slot < 256 && nonce.length = 32
  | .getMeasurements index _ nonce => index < 256 && nonce.length ≤ 32
  | .powerOnReset slotId => slotId < 8
  | .mainStart _ | .refclkValid | .hbmTrainingComplete _ | .cxlTrainingComplete _ _ | .auxLost | .mainUndervoltage
  | .mainOvervoltage | .regulatorFault | .refclkLoss => true
  | .ready fails => fails.all fun x => x.1 < 48 && x.2 < 17
  | .resetCtrlFabric a fails => a.wf && fails.all fun x => x.1 < 48 && x.2 < 17
  | .resetCtrlModule a => a.wf
  | .holdOffWrite a _ => a.wf
  | .i3cGetId _ _ | .i3cGetPower _ _ | .i3cGetTemp _ _ | .i3cGetEvents _ _ | .i3cReadReg _ _ | .i3cWriteReg _ _
  | .i3cModuleReset _ _ | .i3cPrivateRead _ => true
  | .i3cFabricReset _ _ fails => fails.all fun x => x.1 < 48 && x.2 < 17
  | .setdasa static dynamic => static < 128 && dynamic < 128
  | .setnewda dynamic => dynamic < 128
  | .rstdaa | .getpid | .getbcr | .getdcr | .getstatus | .getmrl | .getmwl | .enec | .disec => true
  | .ibiRetry code _ => code < 256
  | .generationComplete | .adoptE2eElapsed => true
  | .domCtlRelease a | .govClear a | .cntClear a | .cntClearAll a => a.wf
  | .winOpenWrite a core _ => a.wf && wfCore core
  | .tmapWrite a k _ => a.wf && k < 64
  | .paceVsetWrite a _ | .cartQuery a _ | .sessQuery a _ | .evtHeadWrite a _ | .teleHeadWrite a _ => a.wf
  | .edgeWeightWrite a k _ => a.wf && k < 2
  | .spareReqColWrite a n _ => a.wf && n < 48
  | .registerReadClear a offset size | .registerWrite a offset size _ => a.wf && offset < (if a = .mgmtAt then 2 ^ 48 else 67108864) && (size = 4 || size = 8)

end Sys2Proof
end

