-- ==== Sys2Proof/Safety.lean ====
section
/-!
DEFINITION. What a safe run of the block is, in the terms that statements use: the outcome of a command is a next state; what
holds of every state that the block passes through; which command of a queue is accepted and which fails its checks; what an
agent's register access asks for.
-/
namespace Sys2Proof.Machine

/-- The outcome is a next state. -/
def completes (o : Outcome) : Bool :=
  match o with
  | .next _ => true
  | .fault _ => false
  | .refused _ => false

/-- The memory of a state is in its canonical form. -/
def State.memWf (s : State) : Bool := Sparse.wf 0 s.mem

/-- What holds of every state that the block passes through: memory, registers and maps are in canonical form (one entry for
each key, in rising order), the leaf of the LMS key lies within the fused blocks (R502), and every waiting command is well
formed. -/
structure State.Inv (s : State) : Prop where
  mem : s.memWf = true
  regs : RegsOk s.grade s.regs
  queues : Sparse.sorted s.queues = true
  sessions : Sparse.sorted s.sessions = true
  counters : Sparse.sorted s.counters = true
  sel : Sparse.sorted s.sel = true
  carts : Sparse.sorted s.carts = true
  ver : Sparse.sorted s.ver = true
  cores : Sparse.sorted s.cores = true
  droop : Sparse.sorted s.droop = true
  taps : Sparse.sorted s.taps = true
  lports : Sparse.sorted s.lports = true
  gens : Sparse.sorted s.gens = true
  cxlPorts : Sparse.sorted s.cxlPorts = true
  slots : Sparse.sorted s.slots = true
  migrations : Sparse.sorted s.migrations = true
  oldFrames : Sparse.sorted s.oldFrames = true
  requests : Sparse.sorted s.requests = true
  lms : s.flash.q ≤ 4096 * s.fuses.lmsBlocks
  pending : ∀ c ∈ s.pending, c.wf = true

/-! ### Commands of queues -/

/-- What a command row takes and checks: the entries it takes, the ranges that a command accesses, the regions that it declares, and
the checks beside those of every entry. -/
structure Checks where
  want : Bytes → Bool
  ranges : State → Bytes → List Range
  regions : State → Bytes → List Range := ranges
  errs : State → Cmd → List Err := fun _ _ => []

/-- The queue and the checks of a row that runs a command of a queue. -/
def State.checksOf (s : State) : Instr → Option (Nat × Checks)
  | .nop q => some (q, { want := isOp 0x01, ranges := plainRanges })
  | .fence q => some (q, { want := isOp 0x02, ranges := plainRanges })
  | .flagSet q => some (q, { want := isOp 0x03, ranges := plainRanges, regions := noRanges, errs := fun s c => s.flagSetErrs q c })
  | .flagWait q => some (q, { want := isOp 0x04, ranges := plainRanges, regions := noRanges, errs := fun s c => s.flagWaitErrs c })
  | .stage q =>
    some (q, { want := isLoad 0 none, ranges := fun s e => s.stageReads e, regions := plainRanges, errs := fun _ c => loadErrs c.entry })
  | .activate q =>
    some (q, { want := isLoad 1 (some false), ranges := plainRanges,
               errs := fun s c => loadErrs c.entry ++ s.activateErrs q (loadSlot c.entry) false })
  | .forcedActivate q =>
    some (q, { want := isLoad 1 (some true), ranges := plainRanges,
               errs := fun s c => loadErrs c.entry ++ s.activateErrs q (loadSlot c.entry) true })
  | .stageAndActivate q =>
    some (q, { want := fun e => isLoad 2 none e && !(s.testing && loadForce e), ranges := fun s e => s.stageReads e,
               regions := plainRanges, errs := fun _ c => loadErrs c.entry })
  | .segmentRun q =>
    some (q, { want := isOp 0x21, ranges := runLists, regions := fun s e => s.runDeclares e, errs := fun s c => s.segmentErrs q c.entry })
  | .stepBegin q =>
    some (q, { want := isOp 0x22, ranges := noRanges,
               errs := fun s c => if !s.closePending && s.beginRefused (stepTag c.entry) then [descErr 0x57 s.committed.toNat] else [] })
  | .stepCommit q => some (q, { want := isOp 0x23, ranges := plainRanges })
  | .stepAbandon q => some (q, { want := isOp 0x24, ranges := plainRanges })
  | .copy q => some (q, { want := isOp 0x40, ranges := plainRanges, errs := fun _ c => copyErrs c.entry })
  | .copyTranspose q => some (q, { want := isOp 0x41, ranges := plainRanges, errs := fun _ c => transposeErrs c.entry })
  | .permuteCopy q =>
    some (q, { want := isOp 0x42, ranges := fun s e => s.permuteRanges e, errs := fun s c => s.permuteErrs q c.entry })
  | .gather q =>
    some (q, { want := isOp 0x43, ranges := State.gatherRanges, regions := plainRanges, errs := fun s c => s.gatherErrs c.entry false })
  | .scatterAdd q =>
    some (q, { want := isOp 0x44, ranges := State.scatterRanges, regions := plainRanges, errs := fun s c => s.gatherErrs c.entry true })
  | .inlineWrite q => some (q, { want := isOp 0x45, ranges := plainRanges, errs := fun _ c => inlineErrs c.entry })
  | .migrateHint q => some (q, { want := isOp 0x46, ranges := plainRanges, errs := fun s c => s.hintErrs q c.entry })
  | .pin q =>
    some (q, { want := fun e => isOp 0x47 e && leField e 32 1 % 2 = 0, ranges := plainRanges, errs := fun s c => s.pinErrs q c.entry })
  | .unpin q =>
    some (q, { want := fun e => isOp 0x47 e && leField e 32 1 % 2 = 1, ranges := plainRanges, errs := fun s c => s.pinErrs q c.entry })
  | .cartMap q =>
    some (q, { want := isOp 0x48, ranges := noRanges, regions := fun _ e => cartRegion e, errs := fun s c => s.mapErrs q c.entry })
  | .cartFree q =>
    some (q, { want := isOp 0x49, ranges := noRanges, regions := fun _ e => cartRegion e, errs := fun s c => s.freeErrs q c.entry })
  | .reduce q => some (q, { want := isOp 0x60, ranges := fun s e => s.collRanges e, errs := fun s c => s.collErrs q c.entry })
  | .allReduce q => some (q, { want := isOp 0x61, ranges := fun s e => s.collRanges e, errs := fun s c => s.collErrs q c.entry })
  | .allGather q => some (q, { want := isOp 0x62, ranges := fun s e => s.collRanges e, errs := fun s c => s.collErrs q c.entry })
  | .reduceScatter q => some (q, { want := isOp 0x63, ranges := fun s e => s.collRanges e, errs := fun s c => s.collErrs q c.entry })
  | .permute q => some (q, { want := isOp 0x64, ranges := fun s e => s.collRanges e, errs := fun s c => s.collErrs q c.entry })
  | .updateStream q =>
    some (q, { want := isOp 0x80, ranges := State.streamRanges, regions := State.streamRegions, errs := fun s c => s.streamErrs q c })
  | .gradSum q => some (q, { want := isOp 0x81, ranges := plainRanges, errs := fun _ c => gradSumErrs c.entry })
  | .snapArm q => some (q, { want := isOp 0xA0, ranges := fun s e => s.armRanges e, errs := fun s c => s.armCmdErrs q c.entry })
  | .snapDisarm q =>
    some (q, { want := isOp 0xA1, ranges := noRanges, errs := fun _ c => operandErr (leField c.entry 16 8 ≠ 0) 16 })
  | .snapRestore q =>
    some (q, { want := isOp 0xA2, ranges := plainRanges, regions := State.restoreRanges, errs := fun s c => s.restoreErrs c })
  | .lizardAdopt q =>
    some (q, { want := isOp 0xA3, ranges := fun s e => entryRanges e ++ [⟨s.num (leField e 16 8 + 8) 8, 512, false⟩],
               regions := noRanges, errs := fun s c => s.adoptErrs q c.entry })
  | .selftest q => some (q, { want := isOp 0xC0, ranges := plainRanges, errs := fun s c => s.selftestErrs c.entry })
  | .inject q =>
    some (q, { want := isOp 0xC1, ranges := plainRanges, regions := noRanges, errs := fun s c => s.injectErrs q c.entry })
  | .newtScanSave q =>
    some (q, { want := fun e => isOp 0xC2 e && leField e 16 1 ≠ 1, ranges := newtRegion true, errs := fun s c => s.newtErrs c.entry })
  | .newtScanRestore q =>
    some (q, { want := fun e => isOp 0xC2 e && leField e 16 1 = 1, ranges := newtRegion false, regions := newtRegion true,
               errs := fun s c => s.newtErrs c.entry })
  | _ => none

/-- What a row waits for before it looks at the queue's next command: FENCE for the acknowledgements of the queue's FLAG_SETs (R306),
the forced change and NEWT_SCAN for a SELFTEST in progress (R481), STEP_BEGIN while one of its queue waits already (R319), and a
SELFTEST, SNAP_DISARM, SNAP_RESTORE or LIZARD_ADOPT for another of its kind. -/
def State.rowFree (s : State) : Instr → Bool
  | .fence q => !s.flagsOut q
  | .forcedActivate _ => !s.testing
  | .stepBegin q => (s.waitingBegin q).isNone
  | .snapDisarm _ => s.snapDisarm.isNone
  | .snapRestore _ => s.restore.isNone
  | .lizardAdopt _ => s.adopting.isNone
  | .selftest _ => s.selftest.isNone
  | .newtScanSave _ => !s.testing
  | .newtScanRestore _ => !s.testing
  | _ => true

/-- What a row does after the command: a FLAG_WAIT of a closing queue (R293), the close of a step whose commands have completed (R320),
the drain window of a SELFTEST (R481). -/
def State.afterRow (s : State) : Instr → State
  | .flagWait q => s.closeStep q
  | .stepCommit q => s.tryClose q
  | .stepAbandon q => s.tryClose q
  | .selftest _ => s.startSelftest
  | _ => s

/-- How a command ends whose memory does not answer (R416): STAGE leaves its slot FAILED (R91), SEGMENT_RUN ends as a run does (R415),
every other ends with the error. -/
def State.failRow (s : State) (i : Instr) (q : Nat) (c : Cmd) (e : Err) : State :=
  match i with
  | .stage _ => s.stageFailed q c e
  | .stageAndActivate _ => s.stageFailed q c e
  | .segmentRun _ => s.listFailed q c e
  | _ => s.endMet q c e

/-- R307, R354: the state in which the checks of the next command `c` of queue `q` are made, with the regions that it declares: its
pending predecessors are performed. -/
def State.judged (s : State) (q : Nat) (c : Cmd) (k : Checks) : List Region × State :=
  let s0 := s.settleFor q ((entryRanges c.entry).map (·.region)) []
  let decl := (k.regions s0 c.entry).map (·.region)
  (decl, s0.settleFor q decl (k.ranges s0 c.entry))

/-- R305 to R307: the next command of queue `q` is one that the row takes, and it may start: the command, the regions that it declares,
and the state in which its checks are made. -/
def State.starts (s : State) (q : Nat) (k : Checks) : Option (Cmd × List Region × State) :=
  match s.nextCmd q with
  | none => none
  | some c =>
    let j := s.judged q c k
    if k.want c.entry && s.canStart q c j.1 then some (c, j) else none

/-- R312, R416: the error that ranks first among the checks of a command. -/
def State.checkErr (s : State) (q : Nat) (k : Checks) (c : Cmd) : Option Err :=
  pickErr (s.entryErrs q (s.expectedSeq q c.idx) c.entry ++ k.errs s c)

/-- A row accepts the next command of its queue: it starts, none of its checks fails, and the memory that it names answers. The state in
which it then runs, and the command. -/
def State.accepts (s : State) (i : Instr) : Option (State × Cmd) :=
  match s.checksOf i with
  | none => none
  | some (q, k) =>
    if !queueOk q || !s.rowFree i then none
    else
      match s.starts q k with
      | none => none
      | some (c, decl, u) =>
        if (u.checkErr q k c).isSome then none
        else
          let rs := k.ranges u c.entry
          let m := (u.dispatch q c.idx decl).memoryErrors q c rs
          if (pickErr m.1).isSome then none
          else
            some (rs.foldl (fun s r => s.touchRange r.base r.len) m.2, { c with phase := .running, serial := u.serial, regions := decl })

/-- A row rejects the next command of its queue: it starts, but a check fails. The state in which it is dispatched, the command, and the
error that ranks first. -/
def State.rejects (s : State) (i : Instr) : Option (State × Cmd × Err) :=
  match s.checksOf i with
  | none => none
  | some (q, k) =>
    if !queueOk q || !s.rowFree i then none
    else
      match s.starts q k with
      | none => none
      | some (c, _, u) => (u.checkErr q k c).map fun e => (u.dispatch q c.idx [], c, e)

/-- The memory that the next command of a row's queue names fails: it starts and passes its checks. The state after what it met, the
command, and the error that ranks first (R416). -/
def State.misses (s : State) (i : Instr) : Option (State × Cmd × Err) :=
  match s.checksOf i with
  | none => none
  | some (q, k) =>
    if !queueOk q || !s.rowFree i then none
    else
      match s.starts q k with
      | none => none
      | some (c, decl, u) =>
        if (u.checkErr q k c).isSome then none
        else
          let m := (u.dispatch q c.idx decl).memoryErrors q c (k.ranges u c.entry)
          (pickErr m.1).map fun e => (m.2, c, e)

/-! ### Accesses of agents -/

/-- The agent is there, and may write the register (R452, R529). -/
def State.grants (s : State) (a : Agent) (r : Reg) : Bool := s.present a && s.mayWrite a (Reg.offset r)

/-- The agent is there, and may not write the register. -/
def State.denies (s : State) (a : Agent) (r : Reg) : Bool := s.present a && !s.mayWrite a (Reg.offset r)

/-- R349: the state after an agent's write: a session's is acknowledged on its port as it was before the write. -/
def State.answered (s : State) (a : Agent) (t : State) : State :=
  match a with
  | .session k => t.emit (.ack (s.session k).port k)
  | _ => t

/-- The register that a command of an agent writes, with the agent. -/
def State.writes (s : State) : Instr → Option (Agent × Reg)
  | .doorbell a q _ => if queueOk q then some (a, .qdirDoorbell q) else none
  | .cqDoorbell a q _ => if queueOk q then some (a, .qdirCqDoorbell q) else none
  | .openQueue a q => if queueOk q then some (a, .qdirQctrl) else none
  | .closeQueue a q => if queueOk q then some (a, .qdirQctrl) else none
  | .releaseQueue a q => if queueOk q then some (a, .qdirQctrl) else none
  | .discardQueue a q => if queueOk q then some (a, .qdirQctrl) else none
  | .abortWait a q => if queueOk q then some (a, .qdirQctrl) else none
  | .qctrlSelect a q => if queueOk q then some (a, .qdirQctrl) else none
  | .linkEnable a k => if s.hasReg (.lauPortCfg k) then some (a, .lauPortCfg k) else none
  | .linkDisable a k => if s.hasReg (.lauPortCfg k) then some (a, .lauPortCfg k) else none
  | .routeWrite a i _ => if i < 64 then some (a, .lauRoute i) else none
  | .partnerHiWrite a p _ => if p < 4 then some (a, .ethPartnerHi p) else none
  | .partnerLoWrite a p _ => if p < 4 then some (a, .ethPartnerLo p) else none
  | .unlockSubmit a => some (a, .secUnlockCtl)
  | .unlockLock a => some (a, .secUnlockCtl)
  | .commitSvn a => some (a, .secCtrl)
  | .holdOffWrite a _ => some (a, .pwrCtrl)
  | .resetCtrlFabric a _ => if a = .modctl then none else some (a, .pwrResetCtrl)
  | .resetCtrlModule a => if a = .modctl then none else some (a, .pwrResetCtrl)
  | .domCtlRelease a => some (a, .fabDomCtl)
  | .winOpenWrite a n _ => if s.hasReg (.coreWinOpen n) then some (a, .coreWinOpen n) else none
  | .tmapWrite a k _ => if k < 64 then some (a, .fabTmap k) else none
  | .paceVsetWrite a _ => some (a, .paceVset)
  | .edgeWeightWrite a k _ => if k < 2 then some (a, .fabEdgeWeight k) else none
  | .spareReqColWrite a n _ => if s.hasReg (.fabSpare n) then some (a, .fabSpare n) else none
  | .govClear a => some (a, .fabGovCtrl)
  | .cartQuery a _ => some (a, .cxlCartQuery)
  | .sessQuery a _ => some (a, .ethSessQuery)
  | .cntClear a => some (a, .telCntCtrl)
  | .cntClearAll a => some (a, .telCntCtrl)
  | .evtHeadWrite a _ => some (a, .telEvtHead)
  | .teleHeadWrite a _ => some (a, .telTeleIdx)
  | .registerWrite a off size _ => if a = .mgmtAt then none else (s.writeTarget off size).map fun r => (a, r)
  | _ => none

end Sys2Proof.Machine
end

