-- ==== Sys2Proof/Certificates/Slice0/Obligations.lean ====
section
/-!
DEFINITION. What is to be proved of the model, one definition for each statement. A statement names the rules of the manual that it
follows; `expect` and the other fields of each stand in OBLIGATIONS.json.
-/
open Sys2Proof Sys2Proof.Machine


/-- A step runs the command at the front of the queue. For every state and command at the front of its queue, step is exec of that
command on the state whose queue is the rest. -/
def Obligations.StepRunsFrontCommand : Prop :=
  ∀ (s : State) (c : Instr) (rest : List Instr), s.pending = c :: rest → step s = exec c { s with pending := rest }

/-- With no command waiting one period of REFCLK_SYS passes. The model's choice (log entry 5): a step on an empty queue, when the
reference clock is valid and the module controller runs, answers a next state in which TEL.INTERVAL_CNT.COUNT is one more
modulo 2^64, the model's own count of periods is one more, the next health check and telemetry sample may come, every other
register reads as before and nothing else changes; otherwise the state stays. -/
def Obligations.IdleCountsOnePeriod : Prop :=
  ∀ s : State, s.pending = [] → Sparse.sorted s.regs = true →
    ((s.refclk && s.auxOk) = true →
      ∃ t, step s = .next t ∧ t = { s with regs := t.regs, timer := s.timer + 1, healthDone := false, sampleDone := false } ∧
        (∀ r : Reg, Reg.offset r ≠ Reg.offset .telIntervalCnt → t.reg r = s.reg r) ∧
        t.fld TelIntervalCnt.count = (s.fld TelIntervalCnt.count + 1) % 2 ^ 64) ∧
    ((s.refclk && s.auxOk) = false → step s = .next s)

/-- Wrapping numbers are compared by serial-number arithmetic. For numbers of 32 bits, the width of every number that the manual
compares so: with d the difference modulo 2^32, a equals b when d is 0, is after b when d lies between 1 and 2^31 − 1, is
before b when d is at least 2^31; at or after is equal or after; exactly one of equal, after and before holds; and step
0x0000_0002 is after step 0xFFFF_FFFF. -/
def Obligations.SerialOrderFollowsR515 : Prop :=
  ∀ a b : W32,
    (a = b ↔ (a - b).toNat = 0) ∧
    (serialAfter a b = true ↔ 1 ≤ (a - b).toNat ∧ (a - b).toNat ≤ 2 ^ 31 - 1) ∧
    (serialBefore a b = true ↔ 2 ^ 31 ≤ (a - b).toNat) ∧
    (serialAtOrAfter a b = true ↔ a = b ∨ serialAfter a b = true) ∧
    (a = b ∨ serialAfter a b = true ∨ serialBefore a b = true) ∧
    ¬ (a = b ∧ serialAfter a b = true) ∧ ¬ (a = b ∧ serialBefore a b = true) ∧ ¬ (serialAfter a b = true ∧ serialBefore a b = true) ∧
    serialAfter 0x00000002 0xFFFFFFFF = true

/-- The state after reset meets the invariant. State.reset has memory, registers and maps in canonical form, the LMS leaf within
the fused blocks, and no command waiting. -/
def Obligations.ResetMeetsInvariant : Prop :=
  State.reset.Inv

/-- Every step keeps the invariant. From every state that meets the invariant, not only those that a run from reset reaches, a
step that answers a next state answers one that meets it: memory, registers and every map stay in canonical form, the LMS leaf
stays within the fused blocks, and the waiting commands stay well formed. -/
def Obligations.StepKeepsInvariant : Prop :=
  ∀ s t : State, s.Inv → step s = .next t → t.Inv

/-- No command changes the queue of waiting commands or the grade of the part. For every command and state, the next state has the
same waiting commands and the same grade. -/
def Obligations.CommandsKeepQueueAndGrade : Prop :=
  ∀ (i : Instr) (s t : State), exec i s = .next t → t.pending = s.pending ∧ t.grade = s.grade

/-- Fused bits are never cleared and the LMS leaf never goes back. Over every command, what is fused at manufacture stays, the
fused SVN and the count of LMS blocks never decrease, and, from a state whose leaf Q lies within the fused blocks, Q never
decreases and stays within them. -/
def Obligations.FusedStateOnlyAdvances : Prop :=
  ∀ (i : Instr) (s t : State), exec i s = .next t →
    t.fuses.deviceId = s.fuses.deviceId ∧ t.fuses.fwKeyHash = s.fuses.fwKeyHash ∧ t.fuses.vendorHash = s.fuses.vendorHash ∧
      t.fuses.ownerHash = s.fuses.ownerHash ∧ t.fuses.bypass = s.fuses.bypass ∧ t.fuses.uds = s.fuses.uds ∧
      s.fuses.svn ≤ t.fuses.svn ∧ s.fuses.lmsBlocks ≤ t.fuses.lmsBlocks ∧
      (s.flash.q ≤ 4096 * s.fuses.lmsBlocks → s.flash.q ≤ t.flash.q ∧ t.flash.q ≤ 4096 * t.fuses.lmsBlocks)

/-- Every command has a next state. No command of the table ends in a fault or a refusal, in any state: exec answers a next state
for every row. -/
def Obligations.NoCommandStops : Prop :=
  ∀ (i : Instr) (s : State), ∃ t, exec i s = .next t

/-- A register write that an agent's grant does not cover is refused and changes nothing else. For every row that writes one
register, from an agent that is there and may not write it: nothing of the write is performed; for a session the NAK is sent,
ETH[k].REFUSE_LAST names the slot, CAUSE 4 and the address, REFUSED is set and the session becomes DETACHED; for the module
controller GLB.ACC_STATUS records KIND 3, the agent and the address (log entry 40) and nothing else changes; the management
channel is never refused. -/
def Obligations.DeniedWritesAreRefused : Prop :=
  ∀ (i : Instr) (a : Agent) (r : Reg) (s : State), s.writes i = some (a, r) → s.denies a r = true →
    match a with
    | .session k =>
      let p := (s.session k).port
      let u := ((s.emit (.nak p k)).setFld (EthStatus.refused p) 1).setReg (.ethRefuseLast p)
        (k <<< 52 + 4 <<< 48 + (0xFF0000000000 + Reg.offset r) % 2 ^ 48)
      exec i s = .next (u.setSession k { u.session k with state := .detached })
    | .mgmt => False
    | .mgmtAt => False
    | .modctl => exec i s = .next (s.setReg .glbAccStatus (1 <<< 63 + 3 <<< 60 + 2 <<< 58 + (0xFF0000000000 + Reg.offset r) % 2 ^ 48))

/-- An agent that is not there changes nothing. A row that writes one register leaves the state as it is when its agent is not
present: a session that is not ATTACHED, the management channel while its link is down, the module controller without its
supply (log entries 2 and 20). -/
def Obligations.AbsentAgentsDoNothing : Prop :=
  ∀ (i : Instr) (a : Agent) (r : Reg) (s : State), s.writes i = some (a, r) → s.present a = false → exec i s = .next s

/-- A doorbell announces entries, a completion doorbell frees slots. From an agent that may write it: on a closed queue both
doorbells change no byte of memory and set DB_BAD. On an open queue QDIR.DOORBELL makes TAIL v when v minus HEAD is at most
the ring size and sets DB_BAD otherwise, and in both cases restarts a waiting fetch (the count of re-reads and the stale mark
go, STATE 4 becomes 1); QDIR.CQ_DOORBELL makes CQ_HEAD v when v lies between CQ_HEAD and CQ_TAIL and sets DB_BAD otherwise. No
other byte of memory, no other queue and no other part of the state changes, but for the acknowledgement of a session's write. -/
def Obligations.DoorbellsFollowR300 : Prop :=
  ∀ (s : State) (a : Agent) (q : Nat) (v : W32), q < 1048576 → Sparse.sorted s.mem = true → Sparse.sorted s.queues = true →
    (s.grants a (.qdirDoorbell q) = true →
      ∃ t, exec (.doorbell a q v) s = .next (s.answered a t) ∧ t = { s with mem := t.mem, queues := t.queues } ∧
        (∀ p, p ≠ q → t.queue p = s.queue p) ∧
        (s.qState q = 0 → t.mem = s.mem ∧ t.queue q = { s.queue q with dbBad := true }) ∧
        (s.qState q ≠ 0 →
          t.qTail q = (if (v - s.qHead q).toNat ≤ 2 ^ s.ringLog2 q then v else s.qTail q) ∧
          t.queue q = { s.queue q with dbBad := (s.queue q).dbBad || !decide ((v - s.qHead q).toNat ≤ 2 ^ s.ringLog2 q),
                                       rereads := 0, stale := false } ∧
          t.qState q = (if s.qState q = 4 then 1 else s.qState q) ∧
          t.qHoldCause q = (if s.qState q = 4 then 0 else s.qHoldCause q) ∧
          ∀ x, (x < ctxBase + 64 * q + 36 ∨ (ctxBase + 64 * q + 40 ≤ x ∧ x < ctxBase + 64 * q + 56) ∨ ctxBase + 64 * q + 58 ≤ x) →
            t.rawByte x = s.rawByte x)) ∧
    (s.grants a (.qdirCqDoorbell q) = true →
      ∃ t, exec (.cqDoorbell a q v) s = .next (s.answered a t) ∧ t = { s with mem := t.mem, queues := t.queues } ∧
        (∀ p, p ≠ q → t.queue p = s.queue p) ∧
        (s.qState q = 0 → t.mem = s.mem ∧ t.queue q = { s.queue q with dbBad := true }) ∧
        (s.qState q ≠ 0 →
          t.queue q = { s.queue q with
            dbBad := (s.queue q).dbBad || !decide ((v - s.qCqHead q).toNat ≤ (s.qCqTail q - s.qCqHead q).toNat) } ∧
          t.qCqHead q = (if (v - s.qCqHead q).toNat ≤ (s.qCqTail q - s.qCqHead q).toNat then v else s.qCqHead q) ∧
          ∀ x, (x < ctxBase + 64 * q + 44 ∨ ctxBase + 64 * q + 48 ≤ x) → t.rawByte x = s.rawByte x))

/-- OPEN opens a queue exactly when its checks hold. From an agent that may write QDIR.QCTRL, with no flipped bit in memory and no
injection armed, OPEN selects the queue for that agent and, when the checks of R293 (rings in mapped data carts of the queue's
domain, alignment, sizes, zero reserved fields, indices within the rings, and a part that is READY) hold, sets STATE 1 and
HOLD_CAUSE 0 and changes no other byte; otherwise it sets ACT_REJ and changes no byte of memory. QCTRL_SELECT only selects.
Registers, sessions and everything else stay. -/
def Obligations.OpenFollowsR293 : Prop :=
  ∀ (s : State) (a : Agent) (q : Nat), q < 1048576 → Sparse.sorted s.mem = true → Sparse.sorted s.queues = true →
    Sparse.sorted s.sel = true → s.grants a .qdirQctrl = true → s.injections = [] → s.badWords = [] →
    (∃ t, exec (.openQueue a q) s = .next (s.answered a t) ∧
      t = { s with mem := t.mem, queues := t.queues, sel := t.sel } ∧ t.selOf a = { s.selOf a with queue := q } ∧
      (∀ p, p ≠ q → t.queue p = s.queue p) ∧
      (s.mayOpen q = true → t.qState q = 1 ∧ t.qHoldCause q = 0 ∧ t.queue q = s.queue q ∧
        ∀ x, (x < ctxBase + 64 * q + 56 ∨ ctxBase + 64 * q + 58 ≤ x) → t.rawByte x = s.rawByte x) ∧
      (s.mayOpen q = false → t.mem = s.mem ∧ t.queue q = { s.queue q with actRej := true })) ∧
    exec (.qctrlSelect a q) s = .next (s.answered a (s.setSelOf a { s.selOf a with queue := q }))

/-- CLOSE, RELEASE, DISCARD and ABORT_WAIT select the queue and act in the states that R328 names. From an agent that may write
QDIR.QCTRL. An action in another STATE sets ACT_REJ and does nothing else. CLOSE of an open queue stops fetching, has the
effects of DISCARD first in STATE 2 or 3, and completes once every command has posted. RELEASE lets held commands post and
frozen ones run on, returns the queue to STATE 1 and evaluates its FLAG_WAITs again. DISCARD completes what is fetched and not
dispatched and every entry up to TAIL with QUEUE_HELD. ABORT_WAIT ends a frozen FLAG_WAIT with DEADLOCK and the queue number
as detail, or gives the run in progress that error, and the queue enters STATE 2. -/
def Obligations.QueueActionsFollowR328 : Prop :=
  ∀ (s : State) (a : Agent) (q : Nat), q < 1048576 → s.grants a .qdirQctrl = true →
    let u := s.setSelOf a { s.selOf a with queue := q }
    let rejected := u.modQueue q fun r => { r with actRej := true }
    exec (.closeQueue a q) s = .next (s.answered a
      (if s.qState q = 0 then rejected
       else if s.qState q = 2 ∨ s.qState q = 3 then
         ((u.modQueue q fun r => { r with closing := true, stale := false, rereads := 0 }).discardEffects q).closeStep q
       else (u.modQueue q fun r => { r with closing := true, stale := false, rereads := 0 }).closeStep q)) ∧
    exec (.releaseQueue a q) s = .next (s.answered a
      (if s.qState q = 2 ∨ s.qState q = 3 then
         ((u.modQueue q fun r =>
            { r with cmds := r.cmds.map fun c =>
                { c with frozen := false, hold := false, regions := if c.hold then [] else c.regions } }).setQState q 1 0).evalQueueFlags q
       else rejected)) ∧
    exec (.discardQueue a q) s = .next (s.answered a
      (if s.qState q = 2 ∨ s.qState q = 3 then (u.discardEffects q).closeStep q else rejected)) ∧
    exec (.abortWait a q) s = .next (s.answered a
      (if s.qState q = 3 then
         (match (s.queue q).cmds.find? (fun (c : Cmd) => c.frozen) with
          | none => u
          | some c => if c.isWait then u.endCmd q c.idx St.deadlock 6 (s.qCp q) q else u.segErr St.deadlock 0x10 0 q).setQState q 2
           St.deadlock
       else rejected))

/-- DISCARD completes every entry that was not dispatched. After DISCARD of a queue in STATE 2 or 3 that is not closing, HEAD is
TAIL, the queue stays in its state with its HOLD_CAUSE, no command of it waits to be dispatched any more, and the list of its
commands has grown by one ended command with QUEUE_HELD, detail 0, for each announced entry that was not fetched, in index
order, with no copy of the entry. -/
def Obligations.HeldEntriesEndWithQueueHeld : Prop :=
  ∀ (s : State) (a : Agent) (q : Nat), q < 1048576 → Sparse.sorted s.mem = true → Sparse.sorted s.queues = true →
    s.grants a .qdirQctrl = true → (s.qState q = 2 ∨ s.qState q = 3) → (s.queue q).closing = false →
    ∃ t, exec (.discardQueue a q) s = .next (s.answered a t) ∧ t.qHead q = s.qTail q ∧ t.qTail q = s.qTail q ∧
      t.qState q = s.qState q ∧ t.qHoldCause q = s.qHoldCause q ∧ (∀ c ∈ (t.queue q).cmds, c.phase ≠ .waiting) ∧
      (t.queue q).cmds.length = (s.queue q).cmds.length + (s.qTail q - s.qHead q).toNat ∧
      ∀ n, n < (s.qTail q - s.qHead q).toNat →
        ∃ c, (t.queue q).cmds[(s.queue q).cmds.length + n]? = some c ∧ c.idx = s.qHead q + BitVec.ofNat 32 n ∧ c.entry = [] ∧
          c.phase = .ended ∧ c.status = St.queueHeld ∧ c.detail = 0

/-- ENTRY_FETCH and ENTRY_REREAD read the entry at HEAD. On a queue that may fetch. Its context readable and its ring slot too: a
current entry is taken by either row when it is the queue's turn (express entries first, then round robin by queue number),
and the queue waits for its turn otherwise; a stale one is marked by ENTRY_FETCH, counted by ENTRY_REREAD up to the seventh
re-read, and at the eighth sets ENR, raises ENTRY_NOT_READY, counts counter 0x010 and enters STATE 4. Where the slot's cart
fails, the queue is held with TIER_FAULT unless the access itself has held it with UNCORRECTABLE; an uncorrectable word of the
context holds the queue with HOLD_CAUSE 0x0A and nothing is fetched (log entry 21). -/
def Obligations.FetchReadsTheEntryAtHead : Prop :=
  ∀ (s s1 : State) (q : Nat), q < 1048576 → s.mayFetch q = true →
    let i := s.qHead q
    let a := s.ringBase q + 128 * (i.toNat % 2 ^ s.ringLog2 q)
    let run := fun (row : Instr) => exec row s
    (s.ctxMeets q = (false, s) → s.ringAccess q a 128 = (true, s1) →
      let s2 := (s1.settleFree a 128).touchRange a 128
      let e := s2.bytes a 128
      let s3 := s2.modQueue q fun r => { r with stale := false, rereads := 0 }
      let current := if (expressOf e || (s3.ready (s3.qCp q)).all fun x => !x.2 && s3.turnOf q ≤ s3.turnOf x.1) then s3.takeEntry q i e
        else s3
      ((s.queue q).stale = false →
        run (.entryFetch q) = .next (if s2.entryCurrent q i e then current
          else s2.modQueue q fun r => { r with stale := true, rereads := 0 })) ∧
      ((s.queue q).stale = true →
        run (.entryReread q) = .next (if s2.entryCurrent q i e then current
          else if (s2.queue q).rereads + 1 < 8 then s2.modQueue q fun r => { r with rereads := (s2.queue q).rereads + 1 }
          else (((s2.modQueue q fun r => { r with stale := false, rereads := 0, enr := true }).event 0x02 q).count 0x010 q 1).setQState
            q 4 0))) ∧
    (s.ctxMeets q = (false, s) → s.ringAccess q a 128 = (false, s1) →
      let held := if s1.qState q = 1 then s1.setQState q 2 St.tierFault else s1
      ((s.queue q).stale = false → run (.entryFetch q) = .next held) ∧ ((s.queue q).stale = true → run (.entryReread q) = .next held)) ∧
    (s.ctxMeets q = (true, s1) → Sparse.sorted s1.mem = true →
      ((s.queue q).stale = false → run (.entryFetch q) = .next (s1.setQState q 2 St.uncorrectable)) ∧
      ((s.queue q).stale = true → run (.entryReread q) = .next (s1.setQState q 2 St.uncorrectable)))

/-- Taking a current entry advances HEAD by one and keeps a copy. Whatever the entry holds, and also when it ends at once because
no rule assigns its opcode, HEAD becomes i + 1, TAIL, CQ_TAIL and CQ_HEAD stay, and the list of the queue's commands has grown
by the one command of index i with its copy of the entry. -/
def Obligations.TakenEntryAdvancesHead : Prop :=
  ∀ (s : State) (q : Nat) (i : W32) (e : Bytes), q < 1048576 → Sparse.sorted s.mem = true → Sparse.sorted s.queues = true →
    (s.takeEntry q i e).qHead q = i + 1 ∧ (s.takeEntry q i e).qTail q = s.qTail q ∧ (s.takeEntry q i e).qCqTail q = s.qCqTail q ∧
      (s.takeEntry q i e).qCqHead q = s.qCqHead q ∧
      ((s.takeEntry q i e).queue q).cmds.map (fun c => (c.idx, c.entry)) = (s.queue q).cmds.map (fun c => (c.idx, c.entry)) ++ [(i, e)]

/-- COMPLETION_POST posts the oldest command that has ended. On an open queue whose oldest unposted command has ended, is not held
and finds a completion slot (index minus CQ_HEAD below the ring size): an uncorrectable word of the queue's context holds it
with 0x0A, which stops no posting; the record is written at CQ_BASE + 16 × (index modulo the ring size) when the device can
write there, the command leaves the queue, CQ_TAIL becomes index + 1, the progress word is written, FLAG_WAITs are evaluated
and a closing queue goes on. Otherwise nothing happens. -/
def Obligations.PostWritesTheRecord : Prop :=
  ∀ (s : State) (q : Nat) (c : Cmd) (rest : List Cmd), q < 1048576 → (s.queue q).cmds = c :: rest →
    exec (.completionPost q) s = .next
      (if s.qState q ≠ 0 ∧ c.phase = .ended ∧ c.hold = false ∧ c.frozen = false ∧ (c.idx - s.qCqHead q).toNat < 2 ^ s.cqLog2 q then
         let r := s.ctxMeets q
         let u := if r.1 then r.2.setQState q 2 St.uncorrectable else r.2
         let x := u.ringAccess q (s.cqBase q + 16 * (c.idx.toNat % 2 ^ s.cqLog2 q)) 16
         let s1 := if x.1 then
             x.2.agentWrite (rangeOf (s.cqBase q + 16 * (c.idx.toNat % 2 ^ s.cqLog2 q)) (s.completionRecord q c)) else x.2
         ((((s1.modQueue q fun r => { r with cmds := rest }).setCqTail q (c.idx + 1)).progressWord q).evalFlags).closeStep q
       else s)

/-- The bytes of a completion record. The record of a command is 16 bytes: SEQ, the sequence number expected for its index;
STATUS; ENGINE with the unit kind in bits 7 to 4 and the instance in bits 3 to 0; STEP_TAG of its entry, 0 for a command
without a copy of its entry; DETAIL, 48 bits. A command that ends at its checks, and one that DISCARD completes, names the
command processor (kind 6). -/
def Obligations.CompletionRecordFollowsR297 : Prop :=
  (∀ (s : State) (q : Nat) (c : Cmd), c.status < 256 → c.unitKind < 16 → c.detail < 2 ^ 48 →
    (s.completionRecord q c).length = 16 ∧ leField (s.completionRecord q c) 0 4 = (s.qSeqBase q + c.idx).toNat ∧
      leField (s.completionRecord q c) 4 1 = c.status ∧ leField (s.completionRecord q c) 5 1 = 16 * c.unitKind + c.unitInst % 16 ∧
      leField (s.completionRecord q c) 6 4 = (if c.entry = [] then 0 else (stepTag c.entry).toNat) ∧
      leField (s.completionRecord q c) 10 6 = c.detail) ∧
  (∀ (s : State) (q : Nat) (c : Cmd) (e : Err), Sparse.sorted s.queues = true → c ∈ (s.queue q).cmds →
    ∃ c', ((s.endErr q c.idx e).cmd? q c.idx) = some c' ∧ c'.phase = .ended ∧ c'.status = e.status ∧ c'.unitKind = 6 ∧
      c'.unitInst = s.qCp q ∧ c'.detail = e.detail % 2 ^ 48)

/-- NOP, FENCE, FLAG_SET and FLAG_WAIT run once accepted. For an accepted command (the next of its queue, of that opcode, may
start, no check fails, memory answers): NOP ends with OK; FENCE, with no FLAG_SET of its queue unacknowledged, performs the
queue's pending writes and ends with OK; FLAG_SET to this device writes or adds its flag and ends with OK, one to another
device sends the FLAG packet and waits for its answer with VISIBLE 1; FLAG_WAIT waits, and its comparison is evaluated at
once. FLAG_WAITs are evaluated again after each. -/
def Obligations.FlowCommandsComplete : Prop :=
  ∀ (s t : State) (q : Nat) (c : Cmd),
    (s.accepts (.nop q) = some (t, c) → exec (.nop q) s = .next (t.endOk q c.idx).evalFlags) ∧
    (s.accepts (.fence q) = some (t, c) →
      exec (.fence q) s = .next ((t.settle fun p => p.q = q).endOk q c.idx).evalFlags) ∧
    (s.accepts (.flagSet q) = some (t, c) →
      (t.flagLocal c.entry = true → exec (.flagSet q) s = .next ((t.setFlagWord (leField c.entry 16 8) (leField c.entry 32 1)
          (BitVec.ofNat 64 (leField c.entry 24 8))).endOk q c.idx).evalFlags) ∧
      (t.flagLocal c.entry = false → exec (.flagSet q) s = .next (t.runFlagSet q c).evalFlags)) ∧
    (s.accepts (.flagWait q) = some (t, c) →
      exec (.flagWait q) s = .next (t.evalFlags.closeStep q))

/-- The COACH_LOAD rows and SEGMENT_RUN run once accepted. For an accepted command: STAGE copies its image into the slot,
validates it and ends with OK or with the image's failure; ACTIVATE and FORCED_ACTIVATE claim an unclaimed fabric and take
their place in the row of ACTIVATEs, the forced one after it has superseded those without force and stopped the fabric, not
while a SELFTEST runs; STAGE_AND_ACTIVATE stages and, when that succeeds and the checks of the ACTIVATE half hold, does as
ACTIVATE; SEGMENT_RUN takes its place and every run whose turn has come starts. -/
def Obligations.CoachCommandsComplete : Prop :=
  ∀ (s t : State) (q : Nat) (c : Cmd),
    (s.accepts (.stage q) = some (t, c) →
      exec (.stage q) s = .next (match t.stageHalf q c with
        | (none, u) => u.endOk q c.idx
        | (some f, u) => u.endCmd q c.idx f.1 6 (t.qCp q) f.2).evalFlags) ∧
    (s.accepts (.activate q) = some (t, c) →
      exec (.activate q) s = .next (({ t.claim q with
        acts := (t.claim q).acts ++ [({ q, idx := c.idx, slot := loadSlot c.entry, force := false } : Act)] } : State).showActs).evalFlags) ∧
    (s.accepts (.forcedActivate q) = some (t, c) →
      let u := ((t.claim q).supersede).forceChange (loadSlot c.entry)
      exec (.forcedActivate q) s = .next (({ u with
        acts := u.acts ++ [({ q, idx := c.idx, slot := loadSlot c.entry, force := true } : Act)] } : State).showActs).evalFlags) ∧
    (s.accepts (.stageAndActivate q) = some (t, c) →
      exec (.stageAndActivate q) s = .next (match t.stageHalf q c with
        | (some f, u) => u.endCmd q c.idx f.1 6 (t.qCp q) f.2
        | (none, u) => match pickErr (u.activateErrs q (loadSlot c.entry) (loadForce c.entry)) with
          | some e => u.endErr q c.idx e
          | none => u.queueAct q c (loadSlot c.entry) (loadForce c.entry)).evalFlags) ∧
    (s.accepts (.segmentRun q) = some (t, c) →
      exec (.segmentRun q) s = .next t.startRuns.evalFlags)

/-- The commands of the data-movement engines and INLINE_WRITE run once accepted. For an accepted command: COPY writes LEN bytes
of the source to the destination; COPY_TRANSPOSE writes tile k of an RT by CT matrix, transposed, to tile (k mod CT) times RT
plus k div CT; PERMUTE_COPY writes the permuted tensor; GATHER and SCATTER_ADD run on the rows of the index list; INLINE_WRITE
writes INLINE_LEN bytes of its entry; MIGRATE_HINT asks for the move of each cart or page named and answers how many moved and
how many did not. Each ends with OK, naming the engine that served it. -/
def Obligations.DataCommandsComplete : Prop :=
  ∀ (s t : State) (q : Nat) (c : Cmd),
    let f := leField c.entry
    (s.accepts (.copy q) = some (t, c) →
      let x := t.pickEngine c.entry
      exec (.copy q) s = .next ((x.2.cmdWrite q c (x.2.copyOf (f 16 8) (f 24 8) (f 32 8))).endEngine q c x.1 0).evalFlags) ∧
    (s.accepts (.copyTranspose q) = some (t, c) →
      let x := t.pickEngine c.entry
      exec (.copyTranspose q) s = .next ((((List.range (f 48 4 * f 52 4)).foldl (fun u k =>
        u.putMatrixTile q c (f 56 1) (f 24 8) (f 40 8) (k % f 52 4 * f 48 4 + k / f 52 4)
          (transposeTile (f 56 1) (t.bytes (f 16 8 + k * tileBytes (f 56 1)) (tileBytes (f 56 1)))
            (if scaledFmt (f 56 1) then t.bytes (f 32 8 + 64 * k) 64 else []))) x.2).endEngine q c x.1 0).evalFlags)) ∧
    (s.accepts (.permuteCopy q) = some (t, c) →
      exec (.permuteCopy q) s = .next (t.runPermuteCopy q c).evalFlags) ∧
    (s.accepts (.gather q) = some (t, c) →
      exec (.gather q) s = .next (t.runGather q c).evalFlags) ∧
    (s.accepts (.scatterAdd q) = some (t, c) →
      exec (.scatterAdd q) s = .next (t.runScatterAdd q c).evalFlags) ∧
    (s.accepts (.inlineWrite q) = some (t, c) →
      exec (.inlineWrite q) s = .next
        ((t.cmdWrite q c (rangeOf (f 16 8) (sliceBytes c.entry 32 (inlineLen c.entry)))).endOk q c.idx).evalFlags) ∧
    (s.accepts (.migrateHint q) = some (t, c) →
      let u := (t.headsNamed c.entry).foldl (fun u h => u.hintHead h (bitOf (f 32 1) 0)) t
      let moved := ((cartsNamed c.entry).filter fun k => (u.cart (t.headOf k)).state ≠ (t.cart (t.headOf k)).state).length
      exec (.migrateHint q) s = .next
        (u.endCmd q c.idx St.ok 6 (t.qCp q) (min 0xFFFFFF moved <<< 24 + min 0xFFFFFF (cartCount c.entry - moved))).evalFlags)

/-- CART_MAP, CART_FREE, PIN and UNPIN run once accepted. For an accepted command: CART_MAP maps each cart named, or each page by
its head, for the queue's domain, pinned if asked; CART_FREE performs what is pending in the carts named and unmaps each; PIN
moves each cart or page named that is not pinned to HBM and pins it; UNPIN clears the mark. Each ends with OK. -/
def Obligations.CartCommandsComplete : Prop :=
  ∀ (s t : State) (q : Nat) (c : Cmd),
    let f := leField c.entry
    (s.accepts (.cartMap q) = some (t, c) →
      let home := bitOf (f 32 1) 0
      let heads := if home then (cartsNamed c.entry).filter fun k => k % 2 = 0 else cartsNamed c.entry
      exec (.cartMap q) s = .next ((heads.foldl (fun u k =>
        u.mapCart k (if home then 1 else 0) (t.qDomain q) (bitOf (f 32 1) 1)) t).endOk q c.idx).evalFlags) ∧
    (s.accepts (.cartFree q) = some (t, c) →
      exec (.cartFree q) s = .next (((cartsNamed c.entry).foldl (fun u k => u.unmapCart k)
        (t.settleRange (cartBase c.entry) (cartCount c.entry * 65536))).endOk q c.idx).evalFlags) ∧
    (s.accepts (.pin q) = some (t, c) →
      exec (.pin q) s = .next (((t.headsNamed c.entry).foldl (fun u h =>
        if (u.cart h).pinned then u else (u.moveToHbm h).setPin h true) t).endOk q c.idx).evalFlags) ∧
    (s.accepts (.unpin q) = some (t, c) →
      exec (.unpin q) s = .next (((t.headsNamed c.entry).foldl (fun u h => u.setPin h false) t).endOk q c.idx).evalFlags)

/-- Collectives, updates, snapshots, adoption, SELFTEST and INJECT run once accepted. For an accepted command: each of the five
collectives starts with the packets that came early; UPDATE_STREAM runs the update of its descriptor and ends with OK or with
its best-ranked error; GRAD_SUM writes the sum of its buffers; SNAP_ARM arms the schedule of its descriptor and directory;
SNAP_DISARM ends the arm at once without an open generation and waits for it otherwise; SNAP_RESTORE asks for the headers of
both candidates; LIZARD_ADOPT writes position and routes and announces them; SELFTEST waits for a drain window and then sets
its cores to STATE 5; INJECT appends its injection to the armed ones and ends with OK. -/
def Obligations.EngineCommandsComplete : Prop :=
  ∀ (s t : State) (q : Nat) (c : Cmd),
    (s.accepts (.reduce q) = some (t, c) → exec (.reduce q) s = .next (t.startColl q c).evalFlags) ∧
    (s.accepts (.allReduce q) = some (t, c) → exec (.allReduce q) s = .next (t.startColl q c).evalFlags) ∧
    (s.accepts (.allGather q) = some (t, c) → exec (.allGather q) s = .next (t.startColl q c).evalFlags) ∧
    (s.accepts (.reduceScatter q) = some (t, c) → exec (.reduceScatter q) s = .next (t.startColl q c).evalFlags) ∧
    (s.accepts (.permute q) = some (t, c) → exec (.permute q) s = .next (t.startColl q c).evalFlags) ∧
    (s.accepts (.updateStream q) = some (t, c) →
      exec (.updateStream q) s = .next (t.runUpdateStream q c).evalFlags) ∧
    (s.accepts (.gradSum q) = some (t, c) →
      exec (.gradSum q) s = .next (t.runGradSum q c).evalFlags) ∧
    (s.accepts (.snapArm q) = some (t, c) →
      let d := t.bytes (leField c.entry 16 8) 64
      exec (.snapArm q) s = .next
        ((t.arm (parseArm d (t.bytes (leField d 8 8) (32 * leField d 7 1)) (t.qDomain q))).endOk q c.idx).evalFlags) ∧
    (s.accepts (.snapDisarm q) = some (t, c) →
      exec (.snapDisarm q) s = .next (if t.openGen.isSome then ({ t with snapDisarm := some (q, c.idx) } : State)
        else (({ t with snapArm := none, snapNext := none } : State).snapRefresh).endOk q c.idx).evalFlags) ∧
    (s.accepts (.snapRestore q) = some (t, c) →
      exec (.snapRestore q) s = .next (t.runSnapRestore q c).evalFlags) ∧
    (s.accepts (.lizardAdopt q) = some (t, c) →
      exec (.lizardAdopt q) s = .next (t.runAdopt q c).evalFlags) ∧
    (s.accepts (.selftest q) = some (t, c) →
      let r : SelfRt := { q, idx := c.idx, first := leField c.entry 16 2, count := leField c.entry 18 2 }
      exec (.selftest q) s = .next (({ t with selftest := some r } : State).evalFlags.startSelftest)) ∧
    (s.accepts (.inject q) = some (t, c) →
      let d := t.bytes (leField c.entry 16 8) 64
      let j : Injection :=
        { det := leField d 0 1, mode := leField d 1 1, bits := leField d 2 1, inst := leField d 4 4,
          addr := leField d 8 8, delay := leField d 16 4, repeats := leField d 20 2 }
      let l := t.injections ++ [j]
      exec (.inject q) s = .next ((({ t with injections := l } : State).setFld InjStatus.armed l.length).endOk q c.idx).evalFlags)

/-- The two directions of NEWT_SCAN run once accepted. For an accepted command while no SELFTEST runs: a save writes the newt area
for its scope, sets NEWT.STATUS with DIR 0 and OK, and ends with OK; a restore whose area, image or scope does not agree sets
RESULT DESC_INVALID and ends with cause 0x97; any other brings the saved cores back, sets DIR 1 and OK, and ends with OK. Unit
kind 8 ends both. -/
def Obligations.NewtCommandsComplete : Prop :=
  ∀ (s t : State) (q : Nat) (c : Cmd),
    (s.accepts (.newtScanSave q) = some (t, c) →
      exec (.newtScanSave q) s = .next (((t.newtSave (newtWhole c.entry) (t.newtRange c.entry).1 (t.newtRange c.entry).2).newtStatus
        c.entry 0 St.ok).endCmd q c.idx St.ok 8 0 0).evalFlags) ∧
    (s.accepts (.newtScanRestore q) = some (t, c) →
      exec (.newtScanRestore q) s = .next (if t.restoreRefused c.entry then
          (t.newtStatus c.entry 1 St.descInvalid).endCmd q c.idx St.descInvalid 8 0 (0x97 <<< 40)
        else ((t.newtRestore (newtWhole c.entry) (t.newtRange c.entry).1 (t.newtRange c.entry).2).newtStatus
          c.entry 1 St.ok).endCmd q c.idx St.ok 8 0 0).evalFlags)

/-- STEP_BEGIN, STEP_COMMIT, STEP_ABANDON and the commit point. For an accepted command: STEP_BEGIN, while no step closes and no
walk runs and nothing refuses it, opens the step that its STEP_TAG names with the run key of bytes 16 to 23 and ends with OK;
while a close is pending, or a walk runs, it waits dispatched; one that waits is judged again each time its row runs: refused
with cause 0x57 and the committed step, or opened; STEP_COMMIT and STEP_ABANDON decide the step (CLOSING) and close it once
every step-bound command dispatched before has completed. COMMIT_POINT, with a STEP_COMMIT that nothing holds back, no mark
and no sweep that waits, commits the step; with a mark it abandons it with STEP_ABORTED. -/
def Obligations.StepCommandsComplete : Prop :=
  ∀ (s t : State) (q : Nat) (c : Cmd),
    (s.accepts (.stepBegin q) = some (t, c) →
      exec (.stepBegin q) s = .next (if t.closePending then t.evalFlags
        else if t.beginRefused (stepTag c.entry) then (t.endErr q c.idx (descErr 0x57 t.committed.toNat)).evalFlags
        else if t.walk = .none then
          ((t.beginStep (stepTag c.entry) (BitVec.ofNat 64 (leField c.entry 16 8))).endOk q c.idx).evalFlags
        else t.evalFlags)) ∧
    (q < 1048576 → s.waitingBegin q = some c → s.closePending = false →
      exec (.stepBegin q) s = .next (if s.beginRefused (stepTag c.entry) then (s.endErr q c.idx (descErr 0x57 s.committed.toNat)).evalFlags
        else if s.walk = .none then
          ((s.beginStep (stepTag c.entry) (BitVec.ofNat 64 (leField c.entry 16 8))).endOk q c.idx).evalFlags
        else s.evalFlags)) ∧
    (q < 1048576 → s.accepts (.stepCommit q) = some (t, c) →
      exec (.stepCommit q) s = .next ((({ t with step := { t.step with closer := some (q, c.idx) } } : State).setFld
        QdirStepStatus.closing 1).evalFlags.tryClose q)) ∧
    (q < 1048576 → s.accepts (.stepAbandon q) = some (t, c) →
      exec (.stepAbandon q) s = .next ((({ t with step := { t.step with closer := some (q, c.idx) } } : State).setFld
        QdirStepStatus.closing 1).evalFlags.tryClose q)) ∧
    (s.step.closer = some (q, c.idx) → (s.cmd? q c.idx).map (fun c => opcodeOf c.entry) = some 0x23 →
      s.boundBefore (s.placeOf q c.idx) = false →
      exec .commitPoint s = .next (if s.step.marks = [] then (if s.sweepHolds then s else (s.commitStep q c.idx).evalFlags)
        else ((s.abandonStep 1).endCmd q c.idx St.stepAborted 6 (s.qCp q) s.abortDetail).evalFlags))

/-- A command that fails a check, or whose memory fails, has no side effect but its end. For every row that runs a command of a
queue: when the queue's next command is one the row names and may start but a check fails, the row dispatches it and ends it
with the status and detail of the error that ranks first, and does nothing of the command's effect; when its checks pass but
the memory it names fails, it ends with what ranks first among what it met (STAGE leaves its slot FAILED, SEGMENT_RUN stops
its fabric). Beside that a row does only what it does after any command: FLAG_WAIT of a closing queue, the close of a step,
the drain window of a SELFTEST. -/
def Obligations.RejectedCommandsOnlyEnd : Prop :=
  ∀ (i : Instr) (s u : State) (q : Nat) (k : Checks) (c : Cmd) (e : Err), s.checksOf i = some (q, k) →
    (s.rejects i = some (u, c, e) → exec i s = .next ((u.endErr q c.idx e).afterRow i)) ∧
    (s.misses i = some (u, c, e) → exec i s = .next ((u.failRow i q c e).afterRow i))

/-- TOKEN_SEND spends one credit and puts one token under way. With an active image, a run that has not stopped, a credit on the
route and a token waiting at its sender: a token of the current epoch leaves the sender, spends one credit of the route and is
the last of those under way, numbered in the order of sending; every other route, every core with its queues and the active
image stay. A token of another epoch is discarded there with its payload and counted by counter 0x005, no credit is spent, and
no byte outside the event ring changes (a counter that saturates raises an event). -/
def Obligations.TokenSendSpendsACredit : Prop :=
  ∀ (s : State) (k : Nat) (r : RouteRec) (w : WaitTok) (rest : List WaitTok), s.image.isSome = true → s.halted = false →
    s.im.route? k = some r → (s.route k).credits ≠ 0 → (s.route k).waiting = w :: rest → Sparse.sorted s.mem = true →
    (w.hdr.epoch = s.epoch → ∃ t, exec (.tokenSend k none) s = .next t ∧
      t.route k = { s.route k with credits := (s.route k).credits - 1, waiting := rest,
                                   inflight := (s.route k).inflight ++ [{ w with seq := s.sends }] } ∧
      (∀ j, j ≠ k → t.route j = s.route j) ∧ t.cores = s.cores ∧ t.image = s.image ∧ t.nextTok = s.nextTok ∧
      t.sends = s.sends + 1) ∧
    (w.hdr.epoch ≠ s.epoch → ∃ t, exec (.tokenSend k none) s = .next t ∧
      t.route k = { s.route k with waiting := rest } ∧ (∀ j, j ≠ k → t.route j = s.route j) ∧ t.cores = s.cores ∧
      t.image = s.image ∧ t.nextTok = s.nextTok ∧
      ∀ a, (a < areaBase 10 ∨ areaBase 10 + 65536 ≤ a) → t.rawByte a = s.rawByte a)

/-- A port-die unit sends the token that its command gives it. On a route that starts at a front port, a collective engine or a
command processor, with a credit and nothing waiting at the sender, TOKEN_SEND sends the given token with this device's
current epoch, whatever epoch it came with. -/
def Obligations.UnitTokensEnterTheFabric : Prop :=
  ∀ (s : State) (k : Nat) (r : RouteRec) (h : TokHdr) (bs : Bytes), s.image.isSome = true → s.halted = false →
    s.im.route? k = some r → (s.route k).credits ≠ 0 → (s.route k).waiting = [] → r.srcKind = 1 →
    (unitKindOf r.src = 2 ∨ unitKindOf r.src = 3 ∨ unitKindOf r.src = 6) →
    let h1 := { h with epoch := s.epoch }
    exec (.tokenSend k (some (h, bs))) s = .next (s.sendTok k r
      { hdr := h1, values := bs.take h1.valLen, scales := (bs.drop h1.valLen).take h1.scaleLen, parent := none,
        inPlace := false }).evalFlags

/-- The header of the oldest token under way enters where its route ends. A token stays under way while one sent before it from
the same end to the same core in the same class is under way. Otherwise one of the current epoch enters the in queue of its
core, or its port-die unit (which a front port or a collective engine empties at once, and a Laulo port sends on while its
stream has credits); one of another epoch is discarded, counted by counter 0x005 and its credit starts back. -/
def Obligations.HeadersEnterInOrder : Prop :=
  ∀ (s : State) (k : Nat) (r : RouteRec) (w : WaitTok) (rest : List WaitTok), s.im.route? k = some r →
    (s.route k).inflight = w :: rest →
    let s1 := s.modRoute k fun x => { x with inflight := rest }
    let unit := s1.modRoute k fun x => { x with unitIn := x.unitIn ++ [{ w with parent := none, inPlace := false }] }
    exec (.tokenHeaderEntry k) s = .next
      (if s.overtakes k r w then s
       else if w.hdr.epoch ≠ s.epoch then
         (s1.count 0x005 (if r.dstKind = 0 then r.dst else 0xFFFFF) 1).modRoute k fun x => { x with returning := x.returning + 1 }
       else if r.dstKind = 0 then s1.enterQueue r.dst r.dstQ k w.hdr (if w.inPlace then w.parent else none)
       else if unitKindOf r.dst = 2 ∨ unitKindOf r.dst = 3 then s1.modRoute k fun x => { x with returning := x.returning + 1 }
       else if unitKindOf r.dst = 1 then unit.flushStream k r else unit)

/-- A released token's credit travels back to the sender. TOKEN_RELEASE of a token without references removes it and starts one
credit of its route back; the token that it was a copy of loses a reference. CREDIT_ARRIVAL brings one credit that is on its
way back to the sender. Neither changes a core's queues or another route, and a credit of a stream from a Laulo port goes on
to the peer as a STREAM_CREDIT packet. -/
def Obligations.CreditsComeBack : Prop :=
  (∀ (s : State) (id : Nat) (x : LiveTok), s.tok? id = some x → x.refs = 0 →
    ∃ t, exec (.tokenRelease id) s = .next t ∧ t.live.length + 1 = s.live.length ∧
      (∀ p y, x.parent = some p → p ≠ id → s.tok? p = some y → t.tok? p = some { y with refs := y.refs - 1 }) ∧
      t.route x.route = { s.route x.route with returning := (s.route x.route).returning + 1 } ∧
      (∀ k, k ≠ x.route → t.route k = s.route k) ∧ t.cores = s.cores ∧ t.regs = s.regs ∧ t.mem = s.mem) ∧
  (∀ (s : State) (k : Nat) (r : RouteRec), (s.route k).returning ≠ 0 → s.im.route? k = some r →
    ∃ t, exec (.creditArrival k) s = .next t ∧
      t.route k = { s.route k with returning := (s.route k).returning - 1, credits := (s.route k).credits + 1 } ∧
      (∀ j, j ≠ k → t.route j = s.route j) ∧ t.cores = s.cores ∧
      (¬ (r.srcKind = 1 ∧ unitKindOf r.src = 1) → t.lports = s.lports ∧ t.mem = s.mem ∧ t.regs = s.regs))

/-- The head pair of an input pair retires by the action of its entry. With a run at work, no injection armed, a control and a
data token at the heads: the control token is consumed and the data token is forwarded (one credit), forked (two credits taken
together), released, or put on the deferred list when it holds fewer than 32; without its credit or place the pair waits,
which counter 0x008 counts for the deferred list; a selector without an entry discards the pair and counter 0x004 counts it. -/
def Obligations.SteeringFollowsR117 : Prop :=
  ∀ (s : State) (n ctrlQ c d : Nat) (cs ds : List Nat) (r0 : SteerRec), s.working = true → s.injections = [] →
    (s.im.steerRecs.filter fun r => r.core = n && r.ctrlQ = ctrlQ).head? = some r0 → s.coreQ n ctrlQ = c :: cs →
    s.coreQ n r0.dataQ = d :: ds →
    let u := ((s.setCoreQ n ctrlQ cs).setCoreQ n r0.dataQ ds).dropRef c
    match (s.im.steerRecs.filter fun r => r.core = n && r.ctrlQ = ctrlQ).find? fun r => r.sel = (s.tokHdr c).selector with
    | none => exec (.steerPairRetire n ctrlQ) s = .next ((u.dropRef d).count 0x004 n 1)
    | some e =>
      (e.action = 0 → exec (.steerPairRetire n ctrlQ) s = .next (if s.outFree n e.outA then u.forwardTok n d e.outA else s)) ∧
      (e.action = 1 → exec (.steerPairRetire n ctrlQ) s = .next
        (if s.outFree n e.outA && s.outFree n e.outB then ((u.addRef d 1).forwardTok n d e.outA).forwardTok n d e.outB else s)) ∧
      (e.action = 2 → exec (.steerPairRetire n ctrlQ) s = .next (u.dropRef d)) ∧
      (e.action = 3 → exec (.steerPairRetire n ctrlQ) s = .next
        (if (u.core n).deferred.length < 32 then
           (u.modCore n fun c => { c with deferred := c.deferred ++ [d] }).setFld (CoreDeferStatus.highWater n)
             (max (u.fld (CoreDeferStatus.highWater n)) ((u.modCore n fun c => { c with deferred := c.deferred ++ [d] }).core n).deferred.length)
         else s.count 0x008 n 1))

/-- CARRIAGE_FORWARD makes the head available and relays it. With a run at work, no injection armed, a token at the chain's in
queue and a credit on the chain's out queue (or no out queue, at the last member): the token leaves the in queue, a member
that is not last sends a copy on the chain's out queue, the head member gives the tile to a snapshot, and the token becomes
the newest tile that the member's operands read; tiles that every operand has finished with are released. -/
def Obligations.CarriageForwardsItsHead : Prop :=
  ∀ (s : State) (n c t : Nat) (rest : List Nat) (qin : QueueRec), s.working = true → s.injections = [] →
    s.im.chainIn n c = some qin → s.coreQ n qin.q = t :: rest → (∀ o, s.im.chainOut n c = some o → s.outFree n o.q = true) →
    let x := s.chain n c
    let h := s.tokHdr t
    let r := (s.im.chain c).headD { chain := c, pos := 0, core := n, tensor := 0, tiles := 0 }
    let s1 := if ((s.im.chain c).head?).map (·.core) = some n then
        (s.setChain n c { x with tapped := x.tapped + 1 }).tapTile r.tensor r.tiles x.tapped
          ((s.spLines n h.offset h.valLen ++ s.spLines n h.scaleOff h.scaleLen).map fun y => (y.1 / 256 * 256, 256))
          (s.spBytes n h.offset h.valLen) (s.spBytes n h.scaleOff h.scaleLen) else s
    let s2 := s1.setCoreQ n qin.q rest
    let s3 := match s.im.chainOut n c with
      | some o => (s2.addRef t 1).forwardTok n t o.q
      | none => s2
    exec (.carriageForward n c) s = .next
      ((s3.setChain n c { s3.chain n c with tiles := (s3.chain n c).tiles ++ [t] }).trimChain n c)

/-- The matrix engine, the drain, the vector unit and the update engine. With a run at work and no injection armed: TILE_PRODUCT
runs one product of the table that R190 names; ACCUMULATOR_DRAIN converts the oldest complete tile of a table whose place is
free, writes or sends it, empties its accumulator and counts counter 0x00B; VECTOR_ITERATION runs one iteration of a table
whose operands and output are ready; UPDATE_ENGINE_TILE takes the oldest gradient tile of a route to an update engine, starts
its credit back and updates the blocks it covers, a half tile those of its own 32 rows. -/
def Obligations.EnginesRunTheirTables : Prop :=
  ∀ (s : State), s.injections = [] →
    (∀ (n : Nat) (t : LoopTable) (j : Nat), s.working = true → s.pickTable n = some (t, j) →
      exec (.tileProduct n) s = .next (s.product n j t)) ∧
    (∀ (n j : Nat) (t : LoopTable) (o : OperandRec) (a : AccTile), s.working = true → s.table? n j = some t → t.out? = some o →
      (s.core n).acc.find? (fun a => a.table = j && a.complete) = some a → s.outReady n o = true →
      exec (.accumulatorDrain n j) s = .next (((s.putTile n o t.outShape (t.oneToOne o) a.out a.mb a.tenant a.first
        (if t.accFmt = 1 then a.vals.map fun v => toF32 (decodeNum 6 v) else a.vals)).modAcc n fun l => l.erase a).count 0x00B n 1)) ∧
    (∀ (n j : Nat) (t : LoopTable), s.working = true → s.table? n j = some t → s.canVector n j t = true →
      exec (.vectorIteration n j) s = .next (s.vectorPass n j t)) ∧
    (∀ (k : Nat) (r : RouteRec) (w : WaitTok) (rest : List WaitTok) (o : OperandRec) (p : ParamRec), s.image.isSome = true →
      s.halted = false → s.im.route? k = some r → r.dstKind = 1 → unitKindOf r.dst = 5 → (s.route k).unitIn = w :: rest →
      s.im.gradOut r.src r.srcQ = some o → s.im.param? o.tensor = some p → tileBytes w.hdr.fmt ≠ 0 →
      let s1 := s.modRoute k fun x => { x with unitIn := rest, returning := x.returning + 1 }
      let codes := decodeTile w.hdr.fmt w.values w.scales
      (w.values.length = tileBytes w.hdr.fmt →
        exec (.updateEngineTile k) s = .next (s1.tileUpdate p (((w.hdr.offset : Int) - o.base) / (tileBytes w.hdr.fmt : Int)) 0 64
          w.hdr.tenant (unitInstOf r.dst) codes)) ∧
      (w.values.length * 2 = tileBytes w.hdr.fmt →
        let t : Int := ((w.hdr.offset : Int) - o.base) / ((tileBytes w.hdr.fmt / 2 : Nat) : Int)
        exec (.updateEngineTile k) s = .next (s1.tileUpdate p (t / 2) (32 * (t % 2).toNat) 32 w.hdr.tenant (unitInstOf r.dst)
          ((Array.range 4096).map fun e => codes.getD (e % 2048) .zero))))

/-- The scalar rows run the next instruction of a core's program. With a run at work and no injection armed: SCALAR_PROGRAM_START
starts the program of the next micro-batch at byte 0 with x1 to x31 zero; of a running program whose counter lies within it,
SCALAR_INSTRUCTION runs the next instruction unless it accesses SEND or TAKE, and SEND and TAKE run it when it does; a program
counter past the program is a fault of cause 5. -/
def Obligations.ScalarRowsRunTheProgram : Prop :=
  ∀ (s : State) (n : Nat), s.working = true → s.injections = [] →
    let h := s.hart n
    let w := BitVec.ofNat 32 (leField (s.im.prog n) h.pc.toNat 4)
    (n < s.grade.cores → (s.im.core n).progLen ≠ 0 → h.running = false → h.faulted = false → h.halted < s.batches.length →
      exec (.scalarProgramStart n) s = .next
        ((s.modHart n fun h => { h with running := true, pc := 0, x := [] }).setFld (CoreEngStatus.scalarRun n) 1)) ∧
    (h.running = true → h.pc.toNat < (s.im.core n).progLen →
      (h.kind w = .other → exec (.scalarInstruction n) s = .next (s.runScalar n w)) ∧
      (h.kind w = .send → exec (.send n) s = .next (s.scalarSend n (h.sendWord w))) ∧
      (h.kind w = .take → exec (.take n) s = .next
        (s.scalarTake n (insBits w 11 7) (insBits w 14 12) ((h.reg (insBits w 19 15) + immI w).toNat % 4)))) ∧
    (h.running = true → (s.im.core n).progLen ≤ h.pc.toNat → exec (.scalarInstruction n) s = .next (s.scalarFault n 5 false))

/-- Register arithmetic of the scalar core. For every register operand and destination, each R-type instruction of RV32IM, and LUI
and AUIPC, writes its result to rd (x0 stays zero), advances the program counter by 4 and counts one instruction; it changes
nothing else of the state. Shifts use the low 5 bits of rs2; division by zero gives all ones and the dividend as remainder,
and the signed overflow gives the dividend and remainder 0. -/
def Obligations.ScalarArithmeticIsRv32im : Prop :=
  ∀ (s : State) (n rd rs1 rs2 : Nat) (imm : W32), rd < 32 → rs1 < 32 → rs2 < 32 →
    let h := s.hart n
    let a := h.reg rs1
    let b := h.reg rs2
    let word := fun (f7 f3 op : Nat) => BitVec.ofNat 32 (f7 * 2 ^ 25 + rs2 * 2 ^ 20 + rs1 * 2 ^ 15 + f3 * 2 ^ 12 + rd * 2 ^ 7 + op)
    let sh := b.toNat % 32
    let gives := fun (w : W32) (v : W32) => s.runScalar n w = (s.modHart n fun h => { h.setReg rd v with pc := h.pc + 4 }).count 0x00C n 1
    gives (word 0x00 0 0x33) (a + b) ∧ gives (word 0x20 0 0x33) (a - b) ∧ gives (word 0x00 1 0x33) (a <<< sh) ∧
    gives (word 0x00 2 0x33) (if a.slt b then 1 else 0) ∧ gives (word 0x00 3 0x33) (if a.ult b then 1 else 0) ∧
    gives (word 0x00 4 0x33) (a ^^^ b) ∧ gives (word 0x00 5 0x33) (a >>> sh) ∧ gives (word 0x20 5 0x33) (a.sshiftRight sh) ∧
    gives (word 0x00 6 0x33) (a ||| b) ∧ gives (word 0x00 7 0x33) (a &&& b) ∧ gives (word 0x01 0 0x33) (a * b) ∧
    gives (word 0x01 1 0x33) (BitVec.ofInt 32 (a.toInt * b.toInt / 2 ^ 32)) ∧
    gives (word 0x01 2 0x33) (BitVec.ofInt 32 (a.toInt * (b.toNat : Int) / 2 ^ 32)) ∧
    gives (word 0x01 3 0x33) (BitVec.ofNat 32 (a.toNat * b.toNat / 2 ^ 32)) ∧
    gives (word 0x01 4 0x33) (if b = 0 then BitVec.ofNat 32 0xFFFFFFFF else if a = BitVec.ofNat 32 0x80000000 ∧ b = BitVec.ofNat 32 0xFFFFFFFF then a
      else BitVec.ofInt 32 (a.toInt.tdiv b.toInt)) ∧
    gives (word 0x01 5 0x33) (if b = 0 then BitVec.ofNat 32 0xFFFFFFFF else BitVec.ofNat 32 (a.toNat / b.toNat)) ∧
    gives (word 0x01 6 0x33) (if b = 0 then a else if a = BitVec.ofNat 32 0x80000000 ∧ b = BitVec.ofNat 32 0xFFFFFFFF then 0
      else BitVec.ofInt 32 (a.toInt.tmod b.toInt)) ∧
    gives (word 0x01 7 0x33) (if b = 0 then a else BitVec.ofNat 32 (a.toNat % b.toNat)) ∧
    (let top := imm &&& BitVec.ofNat 32 0xFFFFF000
     gives (top + BitVec.ofNat 32 (rd * 2 ^ 7 + 0x37)) top ∧ gives (top + BitVec.ofNat 32 (rd * 2 ^ 7 + 0x17)) (h.pc + top))

/-- A fault of the scalar core. ECALL is a fault of cause 4 and a word outside RV32IM one of cause 1: the program stops and does
not run again, the tokens that it holds are released, ENG_STATUS shows SCALAR_FAULT, the cause, the program counter and
SCALAR_RUN 0, the core enters STATE 4, detector 0x15 is reported in GLB.ERR_LAST, and a step in progress cannot commit. EBREAK
instead halts the program, which counts as run for its micro-batch. -/
def Obligations.ScalarFaultStopsTheProgram : Prop :=
  ∀ (s : State) (n : Nat), n < 768 → Sparse.sorted s.regs = true → Sparse.sorted s.cores = true →
    (∀ r, s.seg = some r → r.q < 1048576) →
    (∀ (w : W32) (c : Nat), (w = BitVec.ofNat 32 0x00000073 ∧ c = 4) ∨ (w = 0 ∧ c = 1) ∨ (w = BitVec.ofNat 32 0x30200073 ∧ c = 1) →
      let t := s.runScalar n w
      (t.hart n).running = false ∧ (t.hart n).faulted = true ∧ (t.hart n).taken = [] ∧ t.fld (CoreEngStatus.scalarFault n) = 1 ∧
        t.fld (CoreEngStatus.faultCause n) = c ∧ t.fld (CoreEngStatus.faultPc n) = (s.hart n).pc.toNat ∧
        t.fld (CoreEngStatus.scalarRun n) = 0 ∧ t.fld (CoreStatus.state n) = 4 ∧ t.fld GlbErrLast.detector = 0x15 ∧
        (s.inStep = true → t.flag QdirStepStatus.noCommit = true)) ∧
    (let t := s.runScalar n (BitVec.ofNat 32 0x00100073)
     (t.hart n).running = false ∧ (t.hart n).halted = (s.hart n).halted + 1 ∧ (t.hart n).taken = [] ∧
       t.fld (CoreEngStatus.scalarRun n) = 0)

/-- CHECKPOINT_SAVE, CHECKPOINT_RESTORE and TENANT_FEED. With an active image and a run that has not stopped: a checkpoint unit
that serves no order takes the core's next SAVE or RESTORE order (one with a selector other than 1 or 2 is invalid with cause
0x21); a save then takes the data tokens that wait on its route, a restore queues tokens while its route has credits;
FLAG_WAITs are evaluated. A tenant feed with a tile left, a credit and a free slot counts the tile as sent and, for a tag that
hits a unit of the parameter, reads the pages that hold the tile and queues the tile's 8,192 bytes, or zeros where a read
failed, on its route. -/
def Obligations.CheckpointsAndFeedsRun : Prop :=
  (∀ (s : State) (u n : Nat), s.image.isSome = true → s.halted = false →
    (let s1 := if (s.ckptOf u n).isSome then s
       else match s.takeOrder u n (· ≠ 2) with
         | some x => if x.1.selector = 1 then x.2.beginOrder u n x.1 true else x.2.ckptInvalid u n 0x21
         | none => s
     exec (.checkpointSave u n) s = .next
       (s1.saveRun u n ((((s1.im.ckptRoute u n false).map fun k => (s1.route k).unitIn.length).getD 0) + 1)).evalFlags) ∧
    (let s1 := if (s.ckptOf u n).isSome then s
       else match s.takeOrder u n (· = 2) with
         | some x => x.2.beginOrder u n x.1 false
         | none => s
     exec (.checkpointRestore u n) s = .next
       (s1.restoreTiles u n (((s1.im.ckptBack u n).map fun k => (s1.route k).credits).getD 0)).evalFlags)) ∧
  (∀ (s s2 : State) (k unit : Nat) (f : CarriageRec × ParamRec) (r : SegRt) (rt : RouteRec), s.working = true →
    s.im.feed? k = some f → s.seg = some r → s.im.route? k = some rt → s.canSend k = true →
    let sent := Sparse.get 0 r.feeds k
    let t := sent % max 1 f.1.tiles
    let tag := r.tenants.getD (sent / max 1 f.1.tiles) 0
    let win := s.im.windowRecs.find? fun w => w.core = rt.dst && w.w = 15
    let off := (win.map (·.base)).getD 0 + t % (max 1 ((win.map (·.len)).getD 0 / 8192)) * 8192
    sent < r.tenants.length * f.1.tiles → s.slotFree k off = true →
    ({ s with seg := some { r with feeds := Sparse.set 0 r.feeds k (sent + 1) } } : State).tmapLookup r.domain tag = (some unit, s2) →
    unit < (s2.geom f.2.home).units true →
    let acc := s2.feedReads f.2.home (feedPages f.2.home (s2.geom f.2.home) unit t)
    exec (.tenantFeed k) s = .next (acc.2.queueTok k
      { hdr := dataHdr s2.epoch (s2.slotNat (pageOf f.2.home) 21 1) tag (sent / max 1 f.1.tiles % 65536) 128 off 0xFFFFFFFF,
        values := if acc.1 then acc.2.feedTile f.2.home (s2.geom f.2.home) unit t else List.replicate 8192 0,
        scales := [], parent := none, inPlace := false }))

/-- COACH_CHANGE makes the image of a slot active. From a state that meets the invariant, with an ACTIVATE at the head that may
proceed, a VALID slot, no injection armed and at most one flipped bit in the store: the coach epoch advances by one modulo 4,
ACTIVE_SLOT names the slot, the active image is the one the slot holds, and the ACTIVATE has ended with OK. With no ACTIVATE,
or one that may not proceed, only FLAG_WAITs are evaluated. -/
def Obligations.CoachChangeActivatesASlot : Prop :=
  ∀ (s : State) (flips : Nat),
    (s.acts = [] → exec (.coachChange flips) s = .next s.evalFlags) ∧
    (∀ (a : Act) (rest : List Act), s.acts = a :: rest → s.mayChange a = false → exec (.coachChange flips) s = .next s.evalFlags) ∧
    (∀ (a : Act) (rest : List Act) (c : Cmd), s.Inv → s.acts = a :: rest → s.mayChange a = true → a.slot < 8 →
      s.slotValid a.slot = true → s.injections = [] → flips ≤ 1 → c ∈ (s.queue a.q).cmds → c.idx = a.idx →
      ∃ t c', exec (.coachChange flips) s = .next t ∧ t.epoch = (s.epoch + 1) % 4 ∧ t.fld FabCoachStatus.activeSlot = a.slot ∧
        t.image = some (parseImage (s.slotBytes a.slot)) ∧ t.cmd? a.q a.idx = some c' ∧ c'.phase = .ended ∧ c'.status = St.ok)

/-- SEGMENT_END ends the run that has drained or stopped. With a SEGMENT_RUN in progress: a run that has met an uncorrectable
error stops the fabric and is replayed or ends; one whose cores, queues and routes have drained ends, with its best-ranked
error, with OK or after a replay with REPLAYED; the ACTIVATEs shown and the next run follow, and FLAG_WAITs are evaluated. A
run that has not drained goes on. -/
def Obligations.SegmentEndFollowsR126 : Prop :=
  ∀ (s : State) (r : SegRt), s.seg = some r →
    exec .segmentEnd s = .next
      (if s.halted then
         let u := (s.emptyFabric).setCores 4
         let why := u.replayWhy r
         (if why = 0 then u.replay r
          else (({ (u.setFld GlbRecovStatus.why why) with segDead := true } : State).endRun r r.errs).setFld FabCoachStatus.phase
            1).showActs.startRuns.evalFlags
       else if s.segmentEnded then s.endDrained.showActs.startRuns.evalFlags else s)

/-- A run that drains without an error completes with OK. From a state that meets the invariant, a SEGMENT_RUN in progress whose
fabric has drained, without an error, a replay, a token left or an armed injection: SEGMENT_END leaves its command ended with
OK and detail 0, named by its command processor. -/
def Obligations.DrainedRunEndsWithOk : Prop :=
  ∀ (s : State) (r : SegRt) (c : Cmd), s.Inv → s.seg = some r → r.errs = [] → r.attempts = 0 → s.segmentEnded = true →
    s.leftTokens = [] → s.injections = [] → c ∈ (s.queue r.q).cmds → c.idx = r.idx →
    ∃ t c', exec .segmentEnd s = .next t ∧ t.cmd? r.q r.idx = some c' ∧ c'.phase = .ended ∧ c'.status = St.ok ∧ c'.detail = 0 ∧
      c'.unitKind = 6 ∧ c'.unitInst = s.qCp r.q

/-- The detectors of stuck segments, idle FLAG_WAITs and timeouts. Without an armed injection: SEGMENT_STUCK reports a run that
has not drained while the fabric is quiescent and every unit waits inside it; when FLAG_WAITs are stuck too and a free value
says that both are found at one instant, the one detection covers both. FLAG_WAIT_QUIESCENCE reports the queues whose oldest
command is an unsatisfied FLAG_WAIT without REMOTE, when no other command and no part of the fabric can move and no write to a
waiting flag has arrived unserved; FLAG_WAIT_TIMEOUT ends the oldest unsatisfied REMOTE wait that has a timeout with DEADLOCK,
cause 0x5A and the flag's low half, and holds its queue in STATE 2. Otherwise each leaves the state as it is. -/
def Obligations.DetectorsFindDeadlock : Prop :=
  (∀ (s : State) (r : SegRt), s.injections = [] → s.seg = some r →
    let s1 := ({ s with seg := some { r with stuck := true } } : State).setFld FabTokenStatus.stuck 1
    let s2 : State := { s1 with draws := s.draws + 1 }
    exec .segmentStuck s = .next
      (if r.stuck = false ∧ s.halted = false ∧ s.segmentEnded = false ∧ s.quiescent = true ∧ s.allInside = true then
         s2.deadlock ((r.q, 1, s.expectedSeq r.q r.idx, 0) ::
           (if Config.atOnce s.draws = true ∧ s2.flagStuck = true then s2.waitSet else [])) (some r.q) false
       else s)) ∧
  (∀ s : State, s.injections = [] →
    let ws := s.queueNums.filterMap fun q => (s.stuckWait q).map fun c => (q, 0, s.expectedSeq q c.idx, leField c.entry 16 8)
    exec .flagWaitQuiescence s = .next
      (if ws ≠ [] ∧ (∀ q ∈ s.queueNums, ∀ c ∈ (s.queue q).cmds, s.idleCmd q c = true) ∧
          (s.quiescent = true ∨ ∃ r, s.seg = some r ∧ r.stuck = true) ∧ s.flagArriving = false then
         s.deadlock ws (ws.head?.map (·.1)) false
       else s)) ∧
  (∀ (s : State) (q : Nat) (c : Cmd), q < 1048576 → (s.queue q).cmds.find? (·.isWait) = some c →
    exec (.flagWaitTimeout q) s = .next
      (if waitRemote c.entry = true ∧ waitTimeout c.entry ≠ 0 ∧ s.waitHolds c.entry = false then
         (s.endCmd q c.idx St.deadlock 6 (s.qCp q) (0x5A <<< 40 + (s.flagWord (leField c.entry 16 8)).toNat % 2 ^ 32)).setQState q 2
           St.deadlock
       else s))

/-- A detected deadlock freezes the queues of its wait set. From a state that meets the invariant, without an armed injection,
when FLAG_WAIT_QUIESCENCE finds a deadlock: every queue whose oldest command is a stuck FLAG_WAIT enters STATE 3 with
HOLD_CAUSE 0x0C and that command is frozen, every other queue keeps its STATE and HOLD_CAUSE, QDIR.DL_STATUS shows DETECTED
and the number of queues, and no command of any queue has ended by it. -/
def Obligations.DeadlockFreezesTheWaitSet : Prop :=
  ∀ s : State, s.Inv → s.injections = [] → (∀ q ∈ s.queueNums, q < 1048576) → (∃ q c, s.stuckWait q = some c) →
    (∀ q ∈ s.queueNums, ∀ c ∈ (s.queue q).cmds, s.idleCmd q c = true) → s.quiescent = true → s.flagArriving = false →
    ∃ t, exec .flagWaitQuiescence s = .next t ∧
      (∀ q c, s.stuckWait q = some c →
        t.qState q = 3 ∧ t.qHoldCause q = 0x0C ∧ ∃ c', (t.queue q).cmds.head? = some c' ∧ c'.idx = c.idx ∧ c'.frozen = true) ∧
      (∀ q, q < 1048576 → s.stuckWait q = none → t.qState q = s.qState q ∧ t.qHoldCause q = s.qHoldCause q) ∧
      t.fld QdirDlStatus.detected = 1 ∧
      t.fld QdirDlStatus.count = min 255 (s.queueNums.filter fun q => (s.stuckWait q).isSome).length ∧
      ∀ q, (t.queue q).cmds.map (·.phase) = (s.queue q).cmds.map (·.phase)

/-- An accepted STEP_BEGIN opens its step. From a state that meets the invariant, with no close pending, no walk and nothing that
refuses it: the step in progress is the STEP_TAG of the entry (COMMITTED is one less modulo 2^32), the run key is that of
bytes 16 to 23, no mark stands and NO_COMMIT reads 0, CXL.AGE_CLOCK has advanced by one modulo 2^32, the attempts of this step
count one more, and the command has ended with OK. -/
def Obligations.StepBeginOpensTheStep : Prop :=
  ∀ (s t : State) (q : Nat) (c : Cmd), s.Inv → s.accepts (.stepBegin q) = some (t, c) → t.closePending = false →
    t.beginRefused (stepTag c.entry) = false → t.walk = .none →
    ∃ u c', exec (.stepBegin q) s = .next u ∧ u.inStep = true ∧ u.stepNum = stepTag c.entry ∧
      u.committed = stepTag c.entry - 1 ∧ u.step.runKey = BitVec.ofNat 64 (leField c.entry 16 8) ∧ u.step.marks = [] ∧
      u.flag QdirStepStatus.noCommit = false ∧ u.fld CxlAgeClock.count = (t.fld CxlAgeClock.count + 1) % 2 ^ 32 ∧
      u.step.attempt = Sparse.get 0 t.attempts (stepTag c.entry).toNat + 1 ∧
      u.cmd? q c.idx = some c' ∧ c'.phase = .ended ∧ c'.status = St.ok

/-- The commit point of a step. From a state that meets the invariant, with a STEP_COMMIT that decides the step and nothing that
holds it back, no mark and no sweep that waits: COMMITTED becomes the step that was in progress, COMMITTED_VALID is 1, no step
is in progress or closing, the commit walk runs, LAST_REC names the record written, and the STEP_COMMIT has ended with OK. -/
def Obligations.CommitPointCommitsTheStep : Prop :=
  ∀ (s : State) (q : Nat) (c : Cmd), s.Inv → s.step.closer = some (q, c.idx) → s.cmd? q c.idx = some c → opcodeOf c.entry = 0x23 →
    s.boundBefore c.serial = false → s.step.marks = [] → s.sweepHolds = false →
    ∃ t c', exec .commitPoint s = .next t ∧ t.committed = s.stepNum ∧ t.flag QdirStepStatus.committedValid = true ∧ t.inStep = false ∧
      t.flag QdirStepStatus.closing = false ∧ t.walk = .commit ∧ t.flag HbmUpdStatus.walk = true ∧
      t.fld GlbRecovStatus.lastRec = s.recNext % 1024 ∧ t.recNext = (s.recNext % 1024 + 1) % 1024 ∧ t.step.closer = none ∧
      t.cmd? q c.idx = some c' ∧ c'.phase = .ended ∧ c'.status = St.ok

/-- The bytes of a step record. The record of the step in progress is 64 bytes: STEP, OUTCOME, ATTEMPT, REPLAYS, the four flags,
the status, detector, sequence number and queue of the first mark (0, 0, 0 and 0xFFFFF with none), SEGMENTS, PAGES, the counts
of governed formats, the reductions and late subtrees, LOG_FIRST, LOG_COUNT and INTERVAL; each count saturates at all ones of
its field, and reserved bytes are zero. -/
def Obligations.StepRecordFollowsR406 : Prop :=
  ∀ (s : State) (o : Nat), o < 3 → s.step.logFirst < 2 ^ 32 →
    (∀ m, s.step.first = some m → m.status < 256 ∧ m.det < 256 ∧ ∀ q, m.q = some q → q < 1048576) →
    let r := s.stepRecord o
    let x := s.step
    let n := fun f => (x.formats.filter fun y => y.2 = f).length
    r.length = 64 ∧ leField r 0 4 = s.stepNum.toNat ∧ leField r 4 1 = o ∧ leField r 5 1 = min 255 x.attempt ∧
      leField r 6 1 = min 255 x.replays ∧ leField r 7 1 = b2n x.injected + 2 * b2n x.doomed + 4 * b2n x.timed + 8 * b2n x.logLost ∧
      leField r 8 1 = ((x.first.map (·.status)).getD 0) ∧ leField r 9 1 = ((x.first.map (·.det)).getD 0) ∧ leField r 10 2 = 0 ∧
      leField r 12 4 = (((x.first.map (·.seq)).getD 0) : W32).toNat ∧ leField r 16 4 = (((x.first.bind (·.q))).getD 0xFFFFF) ∧
      leField r 20 4 = min 0xFFFFFFFF x.segments ∧ leField r 24 4 = min 0xFFFFFFFF ((s.ver.filter fun v => v.2.p).length) ∧
      leField r 28 2 = min 0xFFFF (n 4) ∧ leField r 30 2 = min 0xFFFF (n 5) ∧ leField r 32 2 = min 0xFFFF (n 6) ∧
      leField r 34 2 = min 0xFFFF x.rooted ∧ leField r 36 4 = min 0xFFFFFFFF x.included ∧ leField r 40 2 = min 0xFFFF x.lateKept ∧
      leField r 42 2 = min 0xFFFF x.lateDropped ∧ leField r 44 2 = min 0xFFFF x.folded ∧ leField r 46 2 = 0 ∧
      leField r 48 4 = x.logFirst ∧ leField r 52 4 = min 0xFFFFFFFF x.logCount ∧ leField r 56 8 = s.fld TelIntervalCnt.count

/-- The end of a commit walk and of an abandon walk. From a state that meets the invariant, the end of a commit walk inverts V and
clears P of every page with P set and leaves every other page; the end of an abandon walk clears P of every page and leaves V.
WALK then reads 0 and no walk runs; nothing else changes. Without such a walk the row changes nothing, nor while a page with P
set migrates: its entry waits for the switch. -/
def Obligations.WalksFollowR245 : Prop :=
  ∀ s : State, s.Inv →
    (s.walk = .commit → s.walkHeld = false → ∃ t, exec .commitWalkEnd s = .next t ∧ t.walk = .none ∧ t.flag HbmUpdStatus.walk = false ∧
      t = { s with ver := t.ver, walk := t.walk, regs := t.regs } ∧
      (∀ r : Reg, Reg.offset r ≠ Reg.offset .hbmUpdStatus → t.reg r = s.reg r) ∧
      ∀ k, t.version k = if (s.version k).p then { s.version k with v := !(s.version k).v, p := false } else s.version k) ∧
    (s.walk = .abandon → ∃ t, exec .abandonWalkEnd s = .next t ∧ t.walk = .none ∧ t.flag HbmUpdStatus.walk = false ∧
      t = { s with ver := t.ver, walk := t.walk, regs := t.regs } ∧
      (∀ r : Reg, Reg.offset r ≠ Reg.offset .hbmUpdStatus → t.reg r = s.reg r) ∧
      ∀ k, t.version k = { s.version k with p := false }) ∧
    (s.walk ≠ .commit ∨ s.walkHeld = true → exec .commitWalkEnd s = .next s) ∧ (s.walk ≠ .abandon → exec .abandonWalkEnd s = .next s)

/-- ALLOW_EXPIRY, SELFTEST_COMPLETE, SPARE_TEST_TICK and GENERATION_COMPLETE. ALLOW_EXPIRY closes the open collective of its
COLL_ID at its root with the children that have contributed. SELFTEST_COMPLETE ends a test that runs with its failures, and
starts one that waits when its window is there. SPARE_TEST_TICK, while EN is 1 and the rails are up, tests the next row whose
bypassed core is not fused away, shows it in LAST_ROW and FAIL, and raises event 0x0A for a failure. GENERATION_COMPLETE,
after the commit point with no copy outstanding, writes STATE 2 into the header; the generation is then complete and a
one-shot arm has ended. -/
def Obligations.TestsAndTimersEnd : Prop :=
  (∀ (s : State) (coll : Nat) (c : CollRt) (k : Nat), (s.colls.find? fun c => c.collId = coll && !c.closed) = some c →
    (s.collInfo c.op c.desc).flows.find? (s.collInfo c.op c.desc).governs = some k →
    exec (.allowExpiry coll) s = .next (((s.closeLate c (s.collInfo c.op c.desc) k).collAdvance (c.collId, c.step)).evalFlags)) ∧
  (∀ (s : State) (r : SelfRt) (failures : List (Nat × Nat)), s.selftest = some r →
    (∀ was, r.was = some was → exec (.selftestComplete failures) s = .next (s.endSelftest r was failures)) ∧
    (r.was = none → s.drainWindow = true → exec (.selftestComplete failures) s = .next
      (r.cores.foldl (fun u n => u.setFld (CoreStatus.state n) 5)
        { s with selftest := some { r with was := some (r.cores.map fun n => s.fld (CoreStatus.state n)) } }))) ∧
  (∀ (s : State) (n failed : Nat), s.flag FabSpareTest.en = true → s.railMv ≠ 0 →
    (((List.range s.grade.rows).map fun k => (s.spareNext + k) % s.grade.rows).find? s.spareTested) = some n →
    let bad := putBits failed 6 6 0 % 256 ≠ 0
    let s1 := (({ s with spareNext := (n + 1) % s.grade.rows } : State).setFld FabSpareTest.lastRow n).setFld FabSpareTest.fail
      (putBits (s.fld FabSpareTest.fail) n n (b2n bad))
    exec (.spareTestTick failed) s = .next
      (if bad then (if s.fld (FabSpare.src n) = 0 then (s1.event 0x0A n).recordCol n 16 else s1.event 0x0A n) else s1)) ∧
  (∀ (s : State) (a : SnapArm) (g : Nat), s.snapArm = some a → s.openGen = some g → (s.gen g).committed = true →
    (s.gen g).waiting = [] →
    let s1 := s.snapPut g 0 (s.snapHeader a g 2 (s.gen g).gov)
    (s1.gen g).state = 1 →
    let s2 := s1.setGen g { state := 2, step := (s.gen g).step, waiting := (s1.gen g).waiting }
    exec .generationComplete s = .next
      (({ s2 with snapArm := if a.period = 0 then none else s2.snapArm } : State).genEnded).evalFlags)

/-- Granted writes of ports, routes, partners, the unlock, the SVN, HOLD_OFF and the reset register. From an agent that may write
the register, and answered when it is a session: LINK_ENABLE sets ENABLE and a DOWN port trains; LINK_DISABLE clears it and
takes the port DOWN; ROUTE_WRITE sets the entry unless it names a port that the grade lacks; PARTNER_HI is held for
PARTNER_LO, which makes the pair take effect and detaches the sessions of the port from another source; SUBMIT of the
management channel takes a new nonce and, by the first failed check, grants the token's scope or sets REJ and its cause, and
of another agent changes nothing; LOCK ends the unlock; COMMIT_SVN fuses the SVN of the running bank, and changes nothing when
the fuse write fails; HOLD_OFF is set and a module that may start does; a reset that is not the module controller's is made. -/
def Obligations.PortAndSecurityWritesTakeEffect : Prop :=
  ∀ (s : State) (a : Agent),
    (∀ k, k < s.grade.laulo → s.grants a (.lauPortCfg k) = true →
      let u := s.setFld (LauPortCfg.enable k) 1
      let d := s.setFld (LauPortCfg.enable k) 0
      exec (.linkEnable a k) s = .next (s.answered a (if u.lauState k = 0 then u.setFld (LauPortStatus.state k) 1 else u)) ∧
      exec (.linkDisable a k) s = .next (s.answered a (if d.lauState k = 0 then d else d.linkDown k false))) ∧
    (∀ (i : Nat) (v : W64), i < 64 → s.grants a (.lauRoute i) = true →
      exec (.routeWrite a i v) s = .next (s.answered a
        (if s.routePortOk (bitsOf v.toNat 7 4) && s.routePortOk (bitsOf v.toNat 3 0) then s.setReg (.lauRoute i) (putBits v.toNat 13 8 0)
         else s))) ∧
    (∀ (p : Nat) (v : W64), p < 4 →
      (s.grants a (.ethPartnerHi p) = true → exec (.partnerHiWrite a p v) s = .next (s.answered a
        { s with partnerHeld := (s.partnerHeld.filter (·.1 ≠ p)) ++ [(p, v.toNat)] })) ∧
      (s.grants a (.ethPartnerLo p) = true →
        let hi := ((s.partnerHeld.find? (·.1 = p)).map (·.2)).getD (s.fld (EthPartnerHi.addr p))
        let t := (({ s with partnerHeld := s.partnerHeld.filter (·.1 ≠ p) } : State).setFld (EthPartnerHi.addr p) hi).setFld
          (EthPartnerLo.addr p) v.toNat
        exec (.partnerLoWrite a p v) s = .next (s.answered a
          (((t.attachedOn p).filter fun k => t.partner p = 0 || (t.session k).src ≠ t.partner p).foldl (fun u k => u.detachSession k)
            t).evalFlags))) ∧
    (s.grants a .secUnlockCtl = true →
      let c := s.tokenCause s.unlockToken
      let u := { s with nonceDraw := s.draws, draws := s.draws + 1 }
      let z := ((s.setFld SecStatus.scope 0).setFld InjStatus.unlocked 0).setFld InjStatus.armed 0
      exec (.unlockSubmit a) s = .next (s.answered a
        (if a = .mgmt ∨ a = .mgmtAt then
          (if c = 0 then ((u.setScope (leField s.unlockToken 5 1)).setFld SecUnlockCtl.rej 0).setFld SecUnlockCtl.rejCause 0
           else (u.setFld SecUnlockCtl.rej 1).setFld SecUnlockCtl.rejCause c)
         else s)) ∧
      exec (.unlockLock a) s = .next (s.answered a { z with injections := [], nonceDraw := s.draws, draws := s.draws + 1 })) ∧
    (s.grants a .secCtrl = true →
      let v := max s.fuses.svn (s.fld SecStatus.svnRun)
      exec (.commitSvn a) s = .next (s.answered a (if s.fuses.writeFails then s
        else ({ s with fuses := { s.fuses with svn := v } } : State).setFld SecStatus.svnFuse v))) ∧
    (∀ hold, s.grants a .pwrCtrl = true → exec (.holdOffWrite a hold) s = .next (s.answered a
      ((s.setFld PwrCtrl.holdOff (b2n hold)).tryStart))) ∧
    (s.grants a .pwrResetCtrl = true → a ≠ .modctl →
      (∀ fails, s.pwr = 4 → exec (.resetCtrlFabric a fails) s = .next (s.answered a
        ((((s.setPwr 3).fabricEffects fails).recordReset 1 0x04 0).setPwr 4))) ∧
      (s.noFirmware = false → exec (.resetCtrlModule a) s = .next (s.answered a
        ((s.moduleLoss 0x03 0 (if s.pwr = 6 then 6 else 1)).tryStart))))

/-- Granted writes of the other registers, and REGISTER_READ_CLEAR and REGISTER_WRITE. From an agent that may write the register,
and answered when it is a session: RELEASE of DOM_CTL releases the fabric or sets REJ; WIN_OPEN opens the windows that have a
record; TMAP is ignored with REJ while a run is in progress; VSET takes 700 to 800 mV and otherwise sets CFG_REJ; a nonzero
weight is taken; REQ_COL is taken unless it lies from 17 to 30, when only CAND2 follows the write; CLEAR of GOV_CTRL clears
the governor area outside a step and sets REJ in one; CART_QUERY and SESS_QUERY latch the entry named; the counters are
cleared; EVT_HEAD and TELE_IDX move HEAD within the ring; REGISTER_WRITE writes the register at its offset, or is ignored or
refused with none there; REGISTER_READ_CLEAR returns the value and clears the RC fields that its bytes hold. The management
channel reads and writes reserved carts too, the newt area only under an unlock of NEWT_READ, reaches the control space at its
unified address, and is refused and recorded anywhere else. -/
def Obligations.RegisterWritesTakeEffect : Prop :=
  ∀ (s : State) (a : Agent),
    (s.grants a .fabDomCtl = true →
      let u := s.plainWrite .fabDomCtl (2 ^ 31)
      exec (.domCtlRelease a) s = .next (s.answered a (if s.mayReleaseFabric then u.releaseFabric else u.setFld FabDomCtl.rej 1))) ∧
    (∀ (n : Nat) (v : W32), n < s.grade.cores → n < s.usableCores → s.grants a (.coreWinOpen n) = true →
      exec (.winOpenWrite a n v) s = .next (s.answered a (s.setReg (.coreWinOpen n) (v.toNat % 65536 &&& s.windowMask n)))) ∧
    (∀ (k : Nat) (v : W64), k < 64 → s.grants a (.fabTmap k) = true →
      exec (.tmapWrite a k v) s = .next (s.answered a
        (if s.seg.isSome then s.setFld FabDomCtl.rej 1 else s.plainWrite (.fabTmap k) v.toNat))) ∧
    (∀ v : W32, s.grants a .paceVset = true →
      let mv := bitsOf v.toNat 9 0
      exec (.paceVsetWrite a v) s = .next (s.answered a
        (if 700 ≤ mv ∧ mv ≤ 800 then
          (if s.railsUp then { s.setFld PaceVset.vsetMv mv with railMv := mv } else s.setFld PaceVset.vsetMv mv)
         else s.setFld PaceStatus.cfgRej 1))) ∧
    (∀ (k : Nat) (v : W32), k < 2 → s.grants a (.fabEdgeWeight k) = true →
      exec (.edgeWeightWrite a k v) s = .next (s.answered a
        (if bitsOf v.toNat 15 0 = 0 then s else s.plainWrite (.fabEdgeWeight k) v.toNat))) ∧
    (∀ (n : Nat) (v : W32), n < s.grade.rows → s.grants a (.fabSpare n) = true →
      let col := bitsOf v.toNat 12 8
      exec (.spareReqColWrite a n v) s = .next (s.answered a
        (if 17 ≤ col ∧ col ≤ 30 then
           s.plainWrite (.fabSpare n) (putBits v.toNat 12 8 (s.fld (FabSpare.reqCol n)))
         else ((s.plainWrite (.fabSpare n) v.toNat).setFld (FabSpare.reqHw n) 0).showCand n))) ∧
    (s.grants a .fabGovCtrl = true →
      let u := s.plainWrite .fabGovCtrl (2 ^ 16)
      exec (.govClear a) s = .next (s.answered a
        (if s.inStep then u.setFld FabGovCtrl.rej 1 else u.clearRaw (areaBase 5) (areaOf 5).2))) ∧
    (∀ v : W64, s.grants a .cxlCartQuery = true →
      let c := bitsOf v.toNat 47 16
      exec (.cartQuery a v) s = .next (s.answered a (s.setSelOf a { s.selOf a with
        cart := c, cartLo := BitVec.ofNat 64 (s.cartEntryLo c), cartHi := BitVec.ofNat 64 (s.cartEntryHi c) }))) ∧
    (∀ v : W32, s.grants a .ethSessQuery = true →
      let k := v.toNat % 4096
      exec (.sessQuery a v) s = .next (s.answered a (s.setSelOf a { s.selOf a with
        sess := k, sessInfo := BitVec.ofNat 64 (s.sessInfo k) }))) ∧
    (s.grants a .telCntCtrl = true →
      exec (.cntClear a) s = .next (s.answered a { s with counters := Sparse.set {} s.counters (s.selOf a).cnt {} }) ∧
      exec (.cntClearAll a) s = .next (s.answered a { s with counters := [] })) ∧
    (∀ v : W32, s.grants a .telEvtHead = true →
      let head := BitVec.ofNat 32 (s.fld TelEvtHead.head)
      let tail := BitVec.ofNat 32 (s.fld TelEvtStatus.tail)
      let u := s.setFld TelEvtHead.head v.toNat
      exec (.evtHeadWrite a v) s = .next (s.answered a
        (if (v - head).toNat ≤ (tail - head).toNat then
          (if v = tail then { u with i3c := { u.i3c with ringArmed := true } } else u) else s))) ∧
    (∀ v : W64, s.grants a .telTeleIdx = true →
      let head := BitVec.ofNat 32 (s.fld TelTeleIdx.head)
      let tail := BitVec.ofNat 32 (s.fld TelTeleIdx.tail)
      let new := v.toNat % 2 ^ 32
      exec (.teleHeadWrite a v) s = .next (s.answered a
        (if (BitVec.ofNat 32 new - head).toNat ≤ (tail - head).toNat then s.setFld TelTeleIdx.head new else s))) ∧
    (∀ (off size : Nat) (v : W64), s.present a = true → a ≠ .mgmtAt →
      (∀ r, s.writeTarget off size = some r → s.mayWrite a (Reg.offset r) = true →
        exec (.registerWrite a off size v) s = .next (s.answered a (s.writeReg a r (v.toNat % 2 ^ r.width)))) ∧
      (s.writeTarget off size = none →
        exec (.registerWrite a off size v) s = .next (s.ctlRefuse a 2 (if (s.slotReg off).isNone then 1 else 2) off)) ∧
      (readForm off size = true → s.mayRead a off = true → ∀ r, s.slotReg off = some r →
        exec (.registerReadClear a off size) s = .next ((s.readClear r (off % 8) size).emit
          (.regRead a (BitVec.ofNat 64 (s.readReg a r / 2 ^ (8 * (off % 8)) % 2 ^ (8 * size))))))) ∧
    (∀ (at' size : Nat) (v : W64), s.mgmtLink = true → ¬ (ctlBase ≤ at' ∧ at' < ctlBase + 67108864) →
      let refused := (s.accIgnored .mgmt 3 at').emit .mgmtRefused
      let newt := s.fld SecStatus.scope < 2 ∧ areaBase 1 < at' + size ∧ at' < areaBase 1 + (areaOf 1).2
      exec (.registerWrite .mgmtAt at' size v) s = .next
        (if s.allReserved at' size then (s.agentWrite (rangeOf at' (leBytes size v.toNat))).evalFlags else refused) ∧
      (s.allReserved at' size = false ∨ newt → exec (.registerReadClear .mgmtAt at' size) s = .next refused) ∧
      (s.allReserved at' size = true → ¬ newt → s.injections = [] → s.badWords = [] →
        let u := s.settleFree at' size
        exec (.registerReadClear .mgmtAt at' size) s = .next (u.emit (.mgmtData (u.bytes at' size))))) ∧
    (∀ (off size : Nat) (v : W64), s.mgmtLink = true → off < 67108864 →
      exec (.registerWrite .mgmtAt (ctlBase + off) size v) s = exec (.registerWrite .mgmt off size v) s ∧
      exec (.registerReadClear .mgmtAt (ctlBase + off) size) s = exec (.registerReadClear .mgmt off size) s)

/-- Event counters saturate, once with an event. Every counter is zero after reset. An increment that fits raises the named
counter by its amount and changes nothing else. One that would pass 2^64 − 1 leaves the counter at 2^64 − 1 with its overflow
bit set, raises COUNTER_SAT (event 0x01, which names the counter) when the bit was clear, and changes no other counter; a
saturated counter is changed by no later increment and raises nothing. No increment leaves a counter above 2^64 − 1, and a
64-bit read of TEL.CNT_VAL returns the whole count of the counter that the agent selected; a reserved number (R513) reads
zero. -/
def Obligations.CountersFollowR511 : Prop :=
  (∀ num inst : Nat, State.reset.counter num inst = { count := 0, ovf := false }) ∧
  (∀ (s : State) (num inst n : Nat), Sparse.sorted s.counters = true → inst < 2 ^ 20 →
    let c := s.counter num inst
    let t := s.count num inst n
    (c.count + n ≤ 0xFFFFFFFFFFFFFFFF → t = { s with counters := t.counters } ∧ t.counter num inst = { c with count := c.count + n }) ∧
    (0xFFFFFFFFFFFFFFFF < c.count + n →
      t.counter num inst = { count := 0xFFFFFFFFFFFFFFFF, ovf := true } ∧
      t = (if c.ovf then { s with counters := t.counters }
           else ({ s with counters := t.counters } : State).event 0x01 (num * 2 ^ 20 + inst))) ∧
    (∀ m j, j < 2 ^ 20 → (m ≠ num ∨ j ≠ inst) → t.counter m j = s.counter m j) ∧
    (c = { count := 0xFFFFFFFFFFFFFFFF, ovf := true } → ∀ k, t.counter num inst = c ∧ (s.count num inst k) = { s with counters := (s.count num inst k).counters }) ∧
    (t.counter num inst).count ≤ 0xFFFFFFFFFFFFFFFF) ∧
  (∀ (s : State) (a : Agent) (num inst : Nat), inst < 2 ^ 20 → (s.selOf a).cnt = num * 2 ^ 20 + inst →
    let v := if num = 0 ∨ 0x1A < num then 0 else (s.counter num inst).count
    s.readReg a .telCntVal = v ∧
    (s.present a = true → a ≠ .mgmtAt → s.mayRead a (Reg.offset .telCntVal) = true →
      exec (.registerReadClear a (Reg.offset .telCntVal) 8) s = .next (s.emit (.regRead a (BitVec.ofNat 64 v)))))

/-- The fast loop of a compute die. From a state that meets the invariant, with the rails up and a die of the grade, without an
armed injection: a trip takes the die to 10 of 16 slots with its delay lines stretched and its FAST_ACTIVE bit set, whatever
step it was in, and counts a new response once; the recovery of the rail keeps the response; after HOLD the release begins;
each release step gives one slot more, and the one that reaches 16 removes the stretch, clears the bit and counts the end.
Other dies stay, and while the response is at step 3 the issue fraction is at most 160/256. In another step the rows change
nothing. -/
def Obligations.FastLoopFollowsR30 : Prop :=
  ∀ (s : State) (die : Nat), s.Inv → s.injections = [] → s.railsUp = true → die < s.grade.dies →
    let x := s.droopOf die
    (∃ t, exec (.droopTrip die) s = .next t ∧ t.droopOf die = { phase := .active, slots := 10, stretched := true } ∧
      (∀ d, d ≠ die → t.droopOf d = s.droopOf d) ∧ bitOf (t.fld PaceStatus.fastActive) die = true ∧ t.issueFraction die ≤ 160 ∧
      (x.phase ≠ .none → t.counters = s.counters ∧ t.mem = s.mem ∧ t.health = s.health) ∧
      (x.phase = .none → (s.counter 0x00D die).count < 2 ^ 64 - 1 →
        (t.counter 0x00D die).count = (s.counter 0x00D die).count + 1 ∧ t.mem = s.mem)) ∧
    (x.phase = .active → ∃ t, exec (.droopRecovery die) s = .next t ∧ t.droopOf die = { x with phase := .recovered } ∧
      (∀ d, d ≠ die → t.droopOf d = s.droopOf d) ∧ bitOf (t.fld PaceStatus.fastActive) die = true ∧
      t = { s with droop := t.droop, regs := t.regs }) ∧
    (x.phase = .recovered → ∃ t, exec (.droopHoldExpiry die) s = .next t ∧ t.droopOf die = { x with phase := .releasing } ∧
      (∀ d, d ≠ die → t.droopOf d = s.droopOf d) ∧ bitOf (t.fld PaceStatus.fastActive) die = true ∧
      t = { s with droop := t.droop, regs := t.regs }) ∧
    (x.phase = .releasing → ∃ t, exec (.droopReleaseStep die) s = .next t ∧
      (x.slots + 1 < 16 → t.droopOf die = { x with slots := x.slots + 1 } ∧ bitOf (t.fld PaceStatus.fastActive) die = true) ∧
      (16 ≤ x.slots + 1 → t.droopOf die = { phase := .none, slots := 16, stretched := false } ∧
        bitOf (t.fld PaceStatus.fastActive) die = false) ∧
      ∀ d, d ≠ die → t.droopOf d = s.droopOf d) ∧
    (x.phase ≠ .active → exec (.droopRecovery die) s = .next s) ∧
    (x.phase ≠ .recovered → exec (.droopHoldExpiry die) s = .next s) ∧
    (x.phase ≠ .releasing → exec (.droopReleaseStep die) s = .next s)

/-- Scrubbing, calibration, watchdog, power, the slow loop, trips, health and sampling. Bank and row determine the line of an
offset and the line its bank and row, and up to 32 lines at a stride of a power of two, the first with a multiple of 32
strides, lie in distinct banks. With the rails up and no injection armed: the scrubber reads one line of each bank of every
core that holds a flipped word, the lines of one row, and goes on to the next row; a word with one flip is corrected and
counted, one with more stays and is reported; each microsecond lowers what a delay line waits, and of each replica pair one
measurement is taken: one below 8 % moves the line up by one tap once it may move again, one above 20 % moves it down, and one
below 8 % at tap 63 sets CAL_LIMIT; the watchdog and a critical droop report their errors, the latter's two events in an order
that a free value gives; the slow loop reads the sensors, sets TJ_HIGH and a fraction from 10/16 to 16/16, 10/16 with
ENV_UNHELD while a limit is exceeded, and a junction at 105 °C trips its die: the rails go, THERM_N is asserted and the module
cools until COOLING_END. A power sample is shown; a health tick at a multiple of 100,000 of TEL.INTERVAL_CNT updates RISK and
trips at THR; a sample at a multiple of PERIOD_US with room in the ring is written and with none only counts. -/
def Obligations.PaceAndHealthRowsRun : Prop :=
  (∀ a : Nat, a < 2097152 → bankLine (bankOf a) (bankRow a) = a / 256 * 256 ∧
    ∀ b r, b < 32 → r < 256 → bankOf (bankLine b r) = b ∧ bankRow (bankLine b r) = r) ∧
  (∀ base k i j, 8 ≤ k → k ≤ 20 → base / 2 ^ k % 32 = 0 → i < 32 → j < 32 → i ≠ j → base + i * 2 ^ k < 2097152 →
    base + j * 2 ^ k < 2097152 → bankOf (base + i * 2 ^ k) ≠ bankOf (base + j * 2 ^ k)) ∧
  (∀ (s : State) (upsets : List (Nat × Nat × Nat)), s.railsUp = true → s.injections = [] →
    let row := s.scrubRow
    let u := (upsets.filter fun x => x.1 < s.grade.cores && x.2.1 < 2097152 && bankRow x.2.1 = row).foldl
      (fun u x => u.upset (spBase + x.1 * 2097152 + x.2.1 / 4 * 4) x.2.2) { s with scrubRow := (row + 1) % 256 }
    exec (.scrubTick upsets) s = .next
      ((((u.badWords.filter fun w => spBase ≤ w.1 && w.1 < ctlBase).map fun w => (w.1 - spBase) / 2097152).eraseDups).foldl (fun v n =>
        (List.range 32).foldl (fun v bank => v.scratchRead .fabric (spBase + n * 2097152 + bankLine bank row) 256) v) u)) ∧
  (∀ (s : State) (n off b : Nat), s.railsUp = true → s.injections = [] → s.badWords = [] → n < s.grade.cores → off < 2097152 →
    s.scrubRow < 256 →
    let u : State := { s with scrubRow := (s.scrubRow + 1) % 256 }
    exec (.scrubTick [(n, off, b)]) s = .next
      (if b = 0 ∨ bankRow off ≠ s.scrubRow then u
       else if b = 1 then (u.count 0x001 n 1).corrected
       else (({ u with badWords := [(spBase + n * 2097152 + off / 4 * 4, 2)] } : State).setFld (CoreStatus.spUe n) 1).fabricError
         St.uncorrectable 0x01 n 0 n false)) ∧
  (∀ (s : State) (margins : List (Nat × Nat × Nat)), s.railsUp = true → s.injections = [] →
    (∀ x ∈ margins, x.1 < s.grade.cores ∧ x.2.1 < 4) →
    exec (.calibrationTick margins) s = .next ((onePerPair margins).foldl (fun u x => u.measure x.1 x.2.1 x.2.2) s.ageTaps)) ∧
  (∀ (s : State) (n path margin : Nat), s.Inv → s.injections = [] → n < s.grade.cores →
    let pair := n * 4 + path
    let t := s.measure n path margin
    let wait := (Sparse.get {} s.taps pair : Tap).wait
    (margin < 80 → s.tapOf pair < 63 → wait = 0 → t.tapOf pair = s.tapOf pair + 1 ∧ (Sparse.get {} t.taps pair : Tap).wait = 10) ∧
    (200 < margin → 0 < s.tapOf pair → wait = 0 → t.tapOf pair = s.tapOf pair - 1 ∧ (Sparse.get {} t.taps pair : Tap).wait = 10) ∧
    ((80 ≤ margin ∧ margin ≤ 200) ∨ wait ≠ 0 → t.tapOf pair = s.tapOf pair) ∧
    (margin < 80 → s.tapOf pair = 63 → t.flag (CoreStatus.calLimit n) = true) ∧
    (Sparse.get {} s.ageTaps.taps pair : Tap).wait = wait - 1) ∧
  (∀ (s : State) (n : Nat), s.railsUp = true → n < s.grade.cores →
    exec (.handshakeWatchdog n) s = .next (s.fabricError St.uncorrectable 0x05 n 0 n false)) ∧
  (∀ (s : State) (die : Nat), s.railsUp = true → die < s.grade.dies →
    let u := ({ s with paceDraws := s.paceDraws + 1 } : State).setFld PaceStatus.critEvent 1
    exec (.criticalDroop die) s = .next (if Config.eventOrder s.paceDraws then
        (u.event 0x04 die).fabricError St.uncorrectable 0x07 die 0 die false
      else (u.fabricError St.uncorrectable 0x07 die 0 die false).event 0x04 die) ∧
    exec (.junctionTrip die) s = .next
      ((({ (s.detect 0x08 0 none die false).moduleLoss 0x07 die 6 with thermLow := true } : State)).raiseIbi 3)) ∧
  (∀ s : State, s.pwr = 6 → exec .coolingEnd s = .next ((({ s with thermLow := false } : State).setPwr 1).tryStart)) ∧
  (∀ (s : State) (p10us p1s : Nat), s.auxOk = true →
    exec (.powerSample p10us p1s) s = .next ((s.setFld PwrInPower.p10usW (min 65535 p10us)).setFld PwrInPower.p1sW (min 65535 p1s))) ∧
  (∀ (s : State) (dieC stackC : List Nat), s.railsUp = true → s.injections = [] →
    let s1 := { s with dieTemp := readings s.grade.dies dieC, stackTemp := readings s.grade.stackNum stackC }
    let u := (s1.setFld PaceStatus.tjHigh (b2n (decide (s.fld PaceEnvLimit.tjTargetC < s1.hotJunction)))).setFraction
    exec (.slowLoopTick dieC stackC) s = .next
      (match s1.dieTemp.find? (105 ≤ ·.2), s1.stackTemp.find? (105 ≤ ·.2) with
       | some x, _ => u.trip x.1 false
       | none, some x => u.trip (x.1 / 2) false
       | none, none => u)) ∧
  (∀ s : State, s.Inv → s.setFraction.fld PaceStatus.gapFrac + 160 ≤ 256 ∧
    (s.overEnvelope = true → s.setFraction.fld PaceStatus.gapFrac = 0 ∧ s.setFraction.flag PaceStatus.envActive = true ∧
      s.setFraction.flag PaceStatus.envUnheld = true ∧ s.setFraction.envUnheld = true)) ∧
  (∀ s : State,
    let h := s.health
    let w := fun (f : RegField) (n : Nat) => s.fld f * min n 4095
    let old := s.fld TelHealthStatus.risk
    let risk := min (old - old >>> s.fld TelHealthCfg.decayLog2 + w TelHealthCfg.w0 h.n0 + w TelHealthCfg.w1 h.n1 +
      w TelHealthCfg.w2 s.healthHeat + w TelHealthCfg.w3 h.n3 + w TelHealthCfg.w4 h.n4 + w TelHealthCfg.w5 h.n5) (2 ^ 32 - 1)
    let armed := h.armed || decide (2 * risk < s.fld TelHealthCfg.thr)
    let u := ({ s with health := { armed }, healthDone := true } : State).setFld TelHealthStatus.risk risk
    let v := (({ u with health := { armed := false } } : State).setFld TelHealthStatus.tripped 1).event 0x08 0
    exec .healthTick s = .next
      (if s.healthDone = true ∨ s.fld TelIntervalCnt.count % 100000 ≠ 0 then s
       else if s.fld TelHealthCfg.thr ≤ risk ∧ armed = true then
        (if v.flag TelHealthCfg.auto && v.fld TelHealthPreset.addr ≠ 0 && v.snapArm.isNone then v.armPreset else v)
       else u)) ∧
  (∀ s : State, s.fld TelSampleCfg.periodUs ≠ 0 → s.hbmReady = true → s.sampleDone = false →
    s.fld TelIntervalCnt.count % (s.fld TelSampleCfg.periodUs * 100) = 0 →
    let tail := BitVec.ofNat 32 (s.fld TelTeleIdx.tail)
    let n := (s.teleSeq + 1) % 2 ^ 32
    exec .queueDepthSample s = .next
      (if (tail - BitVec.ofNat 32 (s.fld TelTeleIdx.head)).toNat = 64 then { s with teleSeq := n, teleLost := true, sampleDone := true }
       else (({ s.setRaw (areaBase 11 + 1024 * (tail.toNat % 64)) s.teleRecord with teleSeq := n, teleLost := false, sampleDone := true } : State)).setFld
         TelTeleIdx.tail (tail + 1).toNat))

/-- Eviction, migrations and the failures of the lower tier. EVICTION lets the carts that wait take the HBM frames that are free;
while free frames are short it then begins the move of the oldest candidate, the one with the lowest address among equals, and
goes on, and sets NO_VICTIM when it has none or no frame is free below. A migration that meets a port that is down is
abandoned; one with dirty lines has a round of copying; otherwise MIGRATION_SWITCH makes the target the home, its mark, age,
domain and kind unchanged; a write after four rounds with no line dirty finds it switched. MIGRATION_FRAME_RETURN frees the
old frames, unless a write that a command has yet to perform names the cart, and tries what waits. A late access is counted; a
failed access of a command ends it with TIER_FAULT, one of the SEGMENT_RUN is its error, another marks the step; after poison
the cart is LOST. A link that goes down sets DOWN_EVENT and abandons the migrations of its port; one that returns reads UP. -/
def Obligations.TierRowsFollowR266ToR274 : Prop :=
  (∀ s : State,
    let w := s.retryPins
    (w.mustEvict = false → exec .eviction s = .next w) ∧
    (w.mustEvict = true → w.victim = none → exec .eviction s = .next (w.setFld CxlPoolStatus.noVictim 1)) ∧
    ∀ h, w.mustEvict = true → w.victim = some h → Sparse.sorted w.carts = true →
      ((w.cart h).state = .hbm ∧ (w.cart h).kind ≠ 2 ∧ (w.cart h).pinned = false ∧ w.fld CxlPoolCfg.minAge ≤ w.age h ∧
        ∀ e ∈ w.carts, w.evictable e = true → w.age e.1 < w.age h ∨ (w.age e.1 = w.age h ∧ h ≤ e.1)) ∧
      exec .eviction s = .next
        (if (w.placeCxl (framesOfKind (w.cart h).kind)).isNone then w.setFld CxlPoolStatus.noVictim 1
         else (w.moveToCxl h).evict s.carts.length)) ∧
  (∀ (s : State) (h : Nat), Sparse.sorted s.carts = true → Sparse.sorted s.migrations = true → Sparse.sorted s.oldFrames = true →
    let m : Migration := Sparse.get {} s.migrations h
    let c := s.cart h
    m.active = true → (c.state = .toHbm ∨ c.state = .toCxl) →
    (s.migrationDown h = true → ∃ t, exec (.migrationSwitch h) s = .next t ∧
      t = { s with carts := t.carts, migrations := t.migrations } ∧ t.cart h = { c with state := stateOfFrame c.frameA } ∧
      (∀ k, k ≠ h → t.cart k = s.cart k) ∧ (Sparse.get {} t.migrations h : Migration) = {}) ∧
    (s.migrationDown h = false → m.dirty ≠ [] → exec (.migrationSwitch h) s = .next
      { s with migrations := Sparse.set {} s.migrations h { m with dirty := [], rounds := min 4 (m.rounds + 1) } }) ∧
    (s.migrationDown h = false → m.dirty = [] → ∃ t, exec (.migrationSwitch h) s = .next t ∧
      t = { s with carts := t.carts, migrations := t.migrations, oldFrames := t.oldFrames } ∧
      t.cart h = { c with state := stateOfFrame m.targetA, frameA := m.targetA, frameB := if c.kind = 1 then m.targetB else 0 } ∧
      (c.kind = 1 → t.cart (h + 1) = { s.cart (h + 1) with state := stateOfFrame m.targetA }) ∧
      (∀ k, k ≠ h → (c.kind ≠ 1 ∨ k ≠ h + 1) → t.cart k = s.cart k) ∧
      (Sparse.get {} t.migrations h : Migration) = {} ∧
      Sparse.get [] t.oldFrames h = Sparse.get [] s.oldFrames h ++ c.frames) ∧
    (∀ a len, cartsOf a len = [h] → s.headOf h = h → 4 ≤ m.rounds → m.dirty = [] → s.dirty a len = s.switchHome h)) ∧
  (∀ (s : State) (h : Nat), Sparse.get [] s.oldFrames h ≠ [] →
    exec (.migrationFrameReturn h) s = .next
      (if s.oldHomeUsed h then s else ({ s with oldFrames := Sparse.erase s.oldFrames h } : State).retryPins)) ∧
  (∀ (s : State) (p : Nat), p < 2 → s.portInUse p = true →
    let u := (s.detect 0x0C 0 none p false).count 0x011 p 1
    exec (.tierStall p) s = .next { u with health := { u.health with n4 := u.health.n4 + 1 } }) ∧
  (∀ (s : State) (cart : Nat), s.canFail cart none = true →
    let p := (s.portOfCart cart).getD 0
    let fails := fun (u : State) =>
      ((u.setFld CxlPoolStatus.aborted 1).detect 0x0B St.tierFault none ((u.portOfCart cart).getD 0) false).mark St.tierFault 0x0B none
        false false
    exec (.tierAbort cart none) s = .next (fails s) ∧
    exec (.cxlPoison cart none) s = .next ((fails (s.setFld (CxlPortStatus.poison p) 1)).loseCart cart)) ∧
  (∀ (s : State) (cart q : Nat), s.canFail cart (some q) = true →
    (s.seg.map (·.q) = some q → exec (.tierAbort cart (some q)) s = .next
      ((s.setFld CxlPoolStatus.aborted 1).fabricError St.tierFault 0x0B cart cart ((s.portOfCart cart).getD 0) false)) ∧
    (s.seg.map (·.q) ≠ some q → ∀ c, s.accessor q cart = some c → exec (.tierAbort cart (some q)) s = .next
      (if c.phase = .running then s.tierFault q c cart false else (s.dispatch q c.idx []).tierFault q c cart false))) ∧
  (∀ (s : State) (cart : Nat) (q : Option Nat), s.Inv → s.canFail cart q = true →
    ∃ t, exec (.cxlPoison cart q) s = .next t ∧ t.flag CxlPoolStatus.lost = true ∧ (t.cart (s.headOf cart)).state = .lost) ∧
  (∀ (s : State) (p : Nat), s.Inv → p < 2 →
    (s.flag (CxlPortStatus.up p) = true → ∃ t, exec (.cxlLinkDown p) s = .next t ∧ t.flag (CxlPortStatus.up p) = false ∧
      t.flag (CxlPortStatus.downEvent p) = true ∧ t = { s with regs := t.regs, carts := t.carts, migrations := t.migrations } ∧
      ∀ k, (∀ m, m ∈ s.migrations → m.1 ≠ k) → t.cart k = s.cart k) ∧
    ((Sparse.get {} s.cxlPorts p : CxlPort).present = true → s.flag (CxlPortStatus.up p) = false →
      exec (.cxlLinkUp p) s = .next (s.setFld (CxlPortStatus.up p) 1)))

/-- What a frame carries is what the peer reads from it. For every frame of 16 flits (of a class below 8 and 64 bytes each) with
four credit counts of 16 bits, sealed with its CRC, and every set of byte errors with at most two in each of the eight
interleaves, the receiver accepts the frame and reads it as it was sent, every flit, tag, sequence number, credit and flag.
For every packet whose fields fit the header flit and whose payload is whole flits, the header and the payload flits are read
as that packet. -/
def Obligations.FramesAndPacketsSurviveTheLink : Prop :=
  (∀ (f : LFrame) (errs : List (Nat × Byte)), f.flits.length = 16 → (∀ x ∈ f.flits, x.cls < 8 ∧ x.data.length = 64) →
    f.credits.length = 4 → (∀ c ∈ f.credits, c < 65536) →
    (∀ j, j < 8 → ((errs.filter fun e => e.2 ≠ 0 && e.1 < 1088).filter fun e => e.1 % 8 = j).length ≤ 2) →
    frameReceived (frameSealed f) errs = some (frameSealed f)) ∧
  (∀ p : Packet, p.kind < 256 → p.hops < 256 → p.dst < 2 ^ 24 → p.src < 2 ^ 24 → p.step < 2 ^ 32 → p.domain < 65536 →
    p.reqId < 2 ^ 32 → p.addr < 2 ^ 64 → p.arg.length = 32 → p.pay.length % 64 = 0 →
    parsePacket p.cls p.header (flitsOf p.pay) = p)

/-- Frames, training and failures of a Laulo link. On an UP port with no replay due, LAULO_FRAME_SEND sends one frame of 16 flits
with its parity, the next sequence number, the acknowledgement of the last frame accepted and its CRC, keeps it and advances
the number; with 256 frames unacknowledged it is idle and the data waits; other ports stay. A replay sends the kept frame of
its number. LAULO_FRAME_RECEIVE, without an armed injection, asks for a replay after a frame that fails its check (which it
reports) or is out of sequence, and otherwise takes its control fields, its flits and its request to retrain. Training
completes with the peer, the cable and the initial credits, or resumes the frames kept after a retrain; a retry starts it
again; a lost lane lock or a failed retrain takes the link DOWN. -/
def Obligations.LinkRowsFollowR370AndR479 : Prop :=
  ∀ (s : State) (k : Nat), k < s.grade.laulo → Sparse.sorted s.lports = true →
    (s.lauUp k = true → (s.lport k).replayDue = none → ∃ t f, exec (.lauloFrameSend k) s = .next t ∧
      t.wire = s.wire ++ [.lauloFrame k f (frameParity f)] ∧ f.fseq = (s.lport k).txSeq ∧ f.ack = (s.lport k).rxSeq - 1 ∧ f.nak = (s.lport k).nak ∧
      f.retrain = false ∧ f.flits.length = 16 ∧ f.crc = crc32 (frameBody f) ∧ (t.lport k).txSeq = (s.lport k).txSeq + 1 ∧
      (t.lport k).sent.getLast? = some f ∧
      (256 ≤ ((s.lport k).txSeq - (s.lport k).una).toNat → (∀ x ∈ f.flits, x.cls = 0) ∧ (t.lport k).txq = (s.lport k).txq) ∧ (∀ j, j ≠ k → t.lport j = s.lport j) ∧
      t = { s with lports := t.lports, wire := t.wire, regs := t.regs }) ∧
    (∀ n f, s.lauUp k = true → (s.lport k).replayDue = some n → ((s.lport k).sent.find? fun f => f.fseq = n) = some f →
      n ≠ (s.lport k).una → ∃ t, exec (.lauloFrameSend k) s = .next t ∧
        (t.lport k).replayDue = (if n + 1 = (s.lport k).txSeq then none else some (n + 1)) ∧ (t.lport k).sent = (s.lport k).sent ∧
        (let g := frameSealed { f with ack := (s.lport k).rxSeq - 1, nak := (s.lport k).nak, retrain := false }
         .lauloFrame k g (frameParity g) ∈ t.wire)) ∧
    (∀ f errs, s.lauUp k = true → s.injections = [] →
      (frameReceived f errs = none → exec (.lauloFrameReceive k f errs) s = .next
        ((s.detect 0x0D 0 none k false).modLport k fun l => { l with nak := true })) ∧
      (∀ g, frameReceived f errs = some g →
        (g.fseq ≠ (s.lport k).rxSeq → exec (.lauloFrameReceive k f errs) s = .next (s.modLport k fun l => { l with nak := true })) ∧
        (g.fseq = (s.lport k).rxSeq →
          let u := g.flits.foldl (fun v x => v.receiveFlit k x) ((s.modLport k fun l => l.control g).showCredit k)
          exec (.lauloFrameReceive k f errs) s = .next (if g.retrain then u.retrain k else u)))) ∧
    (∀ peer cable fseq,
      (s.lauState k = 1 → exec (.linkTrainingComplete k peer cable fseq) s = .next
        (((((s.setFld (LauPortStatus.peer k) peer).setFld (LauPortStatus.cableNs k) cable).setLport k
          { txSeq := (s.lport k).txSeq, una := (s.lport k).txSeq, rxSeq := BitVec.ofNat 32 fseq,
            credits := [(1, 16), (2, 4096), (3, 4096), (4, 256)] }).setFld (LauPortStatus.state k) 2).showCredit k)) ∧
      (s.lauState k = 3 → exec (.linkTrainingComplete k peer cable fseq) s = .next
        ((s.modLport k fun l => { l with replayDue := if l.una = l.txSeq then none else some l.una }).setFld
          (LauPortStatus.state k) 2))) ∧
    (s.lauState k = 1 → exec (.linkTrainingRetry k) s = .next (s.setLport k { txSeq := (s.lport k).txSeq })) ∧
    (s.lauState k = 2 ∨ s.lauState k = 3 → exec (.laneLockLoss k) s = .next (s.linkDown k true)) ∧
    (s.lauState k = 3 → exec (.retrainFailure k) s = .next (s.linkDown k true))

/-- Each row serves the oldest delivered packet of its kind. WRITE, READ_REQ and FLAG answer with the error that ranks first, or
perform their access and answer OK; a tagged read whose step has not committed waits until TAGGED_READ_RESUME. An answer of
the right kind with OK removes its request and a copy, a restore or a FLAG_SET goes on; one that is not OK fails the request,
and so does E2E_TIMEOUT. STREAM queues a token of the current epoch on its route, and without a route sets BAD_STREAM and
marks the step with a status that no rule gives; STREAM_CREDIT gives the stream credits, the engines take collective packets
that they have room for, LOST fails what the packet belonged to. A fresh ADOPT turns the routes and answers 0, an old one
answers 1; ADOPT_ACK counts once for each port, and the last one, or ADOPT_E2E_ELAPSED, ends the LIZARD_ADOPT. -/
def Obligations.DeliveredPacketsAreServed : Prop :=
  ∀ (s : State) (k : Nat),
    let took := fun (kind : Nat) (p : Packet) (u : State) => s.takeInbox k (fun p => p.kind = kind) = some (p, u)
    (∀ p u, took Pk.write p u →
      (∀ e, pickErr (u.lauErrs p.domain p.addr p.pay.length true) = some e →
        exec (.write k) s = .next (u.answer k p Pk.writeAck e.status e.detail []).evalFlags) ∧
      (∀ v d, pickErr (u.lauErrs p.domain p.addr p.pay.length true) = none → u.remoteAccess (k / 4 % 2) p.addr p.pay.length true = ((0, d), v) →
        exec (.write k) s = .next
          ((((v.touchRange p.addr p.pay.length).remoteWrite p.addr p.pay).answer k p Pk.writeAck 0 0 []).evalFlags))) ∧
    (∀ p u, took Pk.readReq p u →
      let n := leField p.arg 0 4
      let res := (u.homePages p.addr n).map fun g => u.tagged g (BitVec.ofNat 32 p.step)
      (pickErr (u.lauErrs p.domain p.addr n false) = none →
        (.waits ∈ res → u.lauErrs p.domain p.addr n false = [] →
          exec (.readReq k) s = .next ({ u with waitReads := u.waitReads ++ [(k, p)] } : State).evalFlags) ∧
        (.waits ∉ res → .gone ∉ res → ∀ v d, u.remoteAccess (k / 4 % 2) p.addr n false = ((0, d), v) →
          let w := (v.touchRange p.addr n).settleFree p.addr n
          exec (.readReq k) s = .next ((w.answer k p Pk.readResp 0 0
            ((List.range n).map fun i => w.taggedByte (BitVec.ofNat 32 p.step) (p.addr + i))).evalFlags)))) ∧
    (∀ i x, s.waitReads.findIdx? (fun x => !serialBefore s.committed (BitVec.ofNat 32 x.2.step - 1)) = some i →
      s.waitReads[i]? = some x →
      exec .taggedReadResume s = .next (({ s with waitReads := s.waitReads.eraseIdx i } : State).serveRead x.1 x.2)) ∧
    (∀ p u v d, took Pk.flag p u → pickErr (u.flagAddrErr p.addr ++ u.lauErrs p.domain p.addr 8 true) = none →
      u.remoteAccess (k / 4 % 2) p.addr 8 false = ((0, d), v) →
      exec (.flag k) s = .next (((((v.touchRange p.addr 8).setFlagWord p.addr (leField p.arg 8 1)
        (BitVec.ofNat 64 (leField p.arg 0 8))).answer k p Pk.flagAck 0 0 []).evalFlags))) ∧
    (∀ p u id r, u.requests.find? (·.1 = p.reqId) = some (id, r) →
      let w := { u with requests := Sparse.erase u.requests id }
      (took Pk.writeAck p u → r.kind = Pk.write → exec (.writeAck k) s = .next
        (if leField p.arg 0 1 ≠ 0 then u.failRequest id (leField p.arg 0 1) (leField p.arg 1 6) 0x0E else w.ackWrite id r).evalFlags) ∧
      (took Pk.readResp p u → r.kind = Pk.readReq → exec (.readResp k) s = .next
        (if leField p.arg 0 1 ≠ 0 then u.failRequest id (leField p.arg 0 1) (leField p.arg 1 6) 0x0E else w.ackRead r p.pay).evalFlags) ∧
      (took Pk.flagAck p u → r.kind = Pk.flag → exec (.flagAck k) s = .next
        (if leField p.arg 0 1 ≠ 0 then u.failRequest id (leField p.arg 0 1) (leField p.arg 1 6) 0x0E else w.ackFlag r).evalFlags)) ∧
    (∀ id r, s.requests.find? (·.1 = id) = some (id, r) → exec (.e2eTimeout id) s = .next
      ((s.detect 0x0E St.linkLost none (r.port % 16) false).failRequest id St.linkLost (r.dst <<< 24 + r.port % 16) 0x0E).evalFlags) ∧
    (∀ p u n, took Pk.stream p u → u.im.streamRoute k (p.addr % 65536) false = some n → u.image.isSome = true →
      let h := { parseHdr p.arg with epoch := u.epoch }
      exec (.stream k) s = .next (u.queueTok n
        { hdr := h, values := p.pay.take h.valLen, scales := (p.pay.drop h.valLen).take h.scaleLen, parent := none,
          inPlace := false }).evalFlags) ∧
    (∀ p u, took Pk.stream p u → u.im.streamRoute k (p.addr % 65536) false = none →
      let v : State := { u with draws := u.draws + 1 }
      exec (.stream k) s = .next
        ((if k < s.grade.laulo then v.setFld (LauPortStatus.badStream k) 1 else v).mark (Config.badStreamStatus u.draws) 0 none false
          false).evalFlags) ∧
    (∀ p u n r, took Pk.streamCredit p u → u.im.streamRoute k (p.addr % 65536) true = some n → u.im.route? n = some r →
      exec (.streamCredit k) s = .next
        ((u.modRoute n fun x => { x with stream := x.stream + leField p.arg 0 4 }).flushStream n r).evalFlags) ∧
    (∀ p u v, u.acceptColl p = some v →
      (took Pk.collData p u → exec (.collData k) s = .next v.evalFlags) ∧
      (took Pk.collAbort p u → exec (.collAbort k) s = .next v.evalFlags)) ∧
    (∀ p u, took Pk.lost p u → exec (.lost k) s = .next
      (u.packetLost 0x0E (leField p.arg 4 1) { p with dst := leField p.arg 8 4 }
        (((u.requests.find? (·.1 = p.reqId)).map (·.2.port)).getD 15)).evalFlags) ∧
    (∀ p u, k < s.grade.laulo → s.takeInbox k (fun p => mgmtKind p = 1) = some (p, u) →
      let pos := leField p.arg 4 4 % 2 ^ 24
      let seq := BitVec.ofNat 32 (leField p.arg 8 4)
      ((∀ x, u.adoptSeq pos = some x → serialAfter seq x = true) →
        let l := u.adopted.filter (fun (x : Nat × W32) => x.1 ≠ pos) ++ [(pos, seq)]
        let v := ({ u with adopted := l.drop (l.length - 64) } : State).turnTo k pos
        exec (.adopt k) s = .next ((((List.range u.grade.laulo).filter fun j => j ≠ k && u.fld (LauPortStatus.peer j) = pos).foldl
          (fun w j => w.disablePort j) v).sendOn k (u.mgmtPacket 2 pos seq 0))) ∧
      (∀ x, u.adoptSeq pos = some x → serialAfter seq x = false →
        exec (.adopt k) s = .next (u.sendOn k (u.mgmtPacket 2 pos seq 1)))) ∧
    (∀ p u r, k < s.grade.laulo → s.takeInbox k (fun p => mgmtKind p = 2) = some (p, u) → u.adopting = some r →
      BitVec.ofNat 32 (leField p.arg 8 4) = r.seq → bitOf r.announced k = true → bitOf r.acks k = false →
      let r1 := { r with acks := r.acks + 2 ^ k }
      exec (.adoptAck k) s = .next (if r1.acks = r1.announced then u.adoptEnd r1 else { u with adopting := some r1 })) ∧
    (∀ r, s.adopting = some r → exec .adoptE2eElapsed s = .next (({ s with adopting := none } : State).endCmd r.q r.idx St.ok 6
      (s.qCp r.q) (r.announced <<< 8 + ((List.range 8).filter (bitOf r.acks)).length)))

/-- Requests, attach and the end of sessions on a front port. On a port whose link is up, from its partner, without an armed
injection. A request of the connection of a session that passes its checks is performed and answered: a write of memory or of
the control space, a read, a fetch-and-add, a compare-and-swap, each atomic answered with the old word; one that fails a check
is refused; one marked with ECN is answered with a congestion notification packet first. An accepted attach takes the lowest
FREE slot for its domain with the next generation, latches the partner of a port without one, and is answered with its number
and a new R_Key; a re-attach binds the session it names again; every other session stays, and a refused one is answered with
its code. A packet of another source is marked, one that fails its FCS is reported. A DREQ is answered and detaches; the end
of a link, its loss for LOSS_MS, LINGER_S and exhausted retries act as R356 and R359 say; the loss of the management link ends
the unlock. -/
def Obligations.FrontPortRowsFollowR340ToR363 : Prop :=
  (∀ (s : State) (rq : RdmaReq), s.portUp rq.port = true → s.foreign rq.port rq.src = false → s.connected rq = true → s.injections = [] →
    let u := if rq.ecn then s.emit (.cnp rq.port rq.slot) else s
    let pd := rq.port / 2
    let refused := fun (cause : Nat) => (u.refuseRequest rq.port rq.slot cause rq.addr).evalFlags
    (∀ data, u.requestCause rq data.length true false = 0 →
      (inControl rq.addr data.length = true → exec (.rdmaWrite rq data) s = .next
        (u.ctlWrite (.session rq.slot) (rq.addr - ctlBase) data.length (leNat data))) ∧
      (data = [] → exec (.rdmaWrite rq data) s = .next (u.emit (.ack rq.port rq.slot))) ∧
      (∀ v d, data ≠ [] → inControl rq.addr data.length = false →
        (u.settleRequest rq.port rq.addr data.length).remoteAccess pd rq.addr data.length true = ((0, d), v) →
        exec (.rdmaWrite rq data) s = .next (((v.remoteWrite rq.addr data).evalFlags).emit (.ack rq.port rq.slot)))) ∧
    (∀ len, u.requestCause rq len false false = 0 →
      (∀ v w, inControl rq.addr len = true → u.ctlRead (.session rq.slot) (rq.addr - ctlBase) len = (some v, w) →
        exec (.rdmaRead rq len) s = .next (w.emit (.readData rq.port rq.slot (leBytes len v)))) ∧
      (∀ v d, inControl rq.addr len = false → (u.settleRequest rq.port rq.addr len).remoteAccess pd rq.addr len false = ((0, d), v) →
        exec (.rdmaRead rq len) s = .next
          ((v.touchRange rq.addr len).emit (.readData rq.port rq.slot (v.bytes rq.addr len))))) ∧
    (u.requestCause rq 8 true true = 0 →
      ∀ v d, (u.settleRequest rq.port rq.addr 8).remoteAccess pd rq.addr 8 false = ((0, d), v) →
        let old := v.flagWord rq.addr
        let reply := fun (w : State) => w.emit (.atomicOld rq.port rq.slot old)
        (∀ x, exec (.atomicFetchAdd rq x) s = .next (reply (v.remoteWrite rq.addr (leBytes 8 (old + x).toNat)).evalFlags)) ∧
        ∀ cmp swap, exec (.atomicCompareSwap rq cmp swap) s = .next
          (reply (if old = cmp then (v.remoteWrite rq.addr (leBytes 8 swap.toNat)).evalFlags else v.touchRange rq.addr 8))) ∧
    (∀ data, u.requestCause rq data.length true false ≠ 0 →
      exec (.rdmaWrite rq data) s = .next (refused (u.requestCause rq data.length true false))) ∧
    (∀ len, u.requestCause rq len false false ≠ 0 →
      exec (.rdmaRead rq len) s = .next (refused (u.requestCause rq len false false))) ∧
    (u.requestCause rq 8 true true ≠ 0 →
      (∀ x, exec (.atomicFetchAdd rq x) s = .next (refused (u.requestCause rq 8 true true))) ∧
      ∀ cmp swap, exec (.atomicCompareSwap rq cmp swap) s = .next (refused (u.requestCause rq 8 true true)))) ∧
  (∀ (s : State) (rq : ConnReq), s.Inv → s.portUp rq.port = true → s.injections = [] → rq.src < 2 ^ 128 →
    (rq.session = 0 → isReattach rq = false → s.attachCode rq = 0 → ∃ t k key, exec (.attach rq) s = .next t ∧
      k < 4096 ∧ (s.session k).state = .free ∧ (∀ j, j < k → (s.session j).state ≠ .free) ∧
      t.session k = { gen := ((s.session k).gen + 1) % 2 ^ 20, state := .attached, port := rq.port, src := rq.src, conn := rq.conn,
                      owner := decide (rq.role = 1), domain := rq.domain, express := bitOf rq.flags 1, rkey := key } ∧
      t.wire = s.wire ++ [.rep rq.port (((s.session k).gen + 1) % 2 ^ 20 * 4096 + k) key] ∧ t.selOf (.session k) = {} ∧
      t.partner rq.port = (if s.partner rq.port = 0 then rq.src else s.partner rq.port) ∧
      (∀ j, j ≠ k → t.session j = s.session j) ∧
      t = { s with sessions := t.sessions, sel := t.sel, regs := t.regs, wire := t.wire, draws := t.draws }) ∧
    (rq.session ≠ 0 → isReattach rq = true → s.attachCode rq = 0 → ∃ t key, exec (.reattach rq) s = .next t ∧
      t.session (rq.session % 4096) = { s.session (rq.session % 4096) with
        state := .attached, port := rq.port, src := rq.src, conn := rq.conn, express := bitOf rq.flags 1, rkey := key } ∧
      t.selOf (.session (rq.session % 4096)) = {} ∧ (∀ j, j ≠ rq.session % 4096 → t.session j = s.session j) ∧
      t = { s with sessions := t.sessions, sel := t.sel, regs := t.regs, wire := t.wire, draws := t.draws }) ∧
    (s.attachCode rq ≠ 0 →
      let u := (if s.foreignAttach rq.port rq.src then s.markForeign rq.port else s).emit (.rej rq.port (s.attachCode rq))
      (rq.session = 0 → exec (.attach rq) s = .next u) ∧ (rq.session ≠ 0 → exec (.reattach rq) s = .next u))) ∧
  (∀ (s : State) (port : Nat), s.portUp port = true →
    (∀ src, s.foreign port src = true → exec (.foreignPacketDrop port src) s = .next
      ((s.setFld (EthStatus.foreign port) 1).count 0x019 port 1)) ∧
    exec (.fcsIcrcDrop port) s = .next (s.detect 0x0F 0 none port false) ∧
    exec (.ethLinkDown port) s = .next (s.setFld (EthStatus.linkUp port) 0) ∧
    (∀ r : DiscReq, s.foreign port r.src = true → exec (.dreq port r) s = .next
      ((s.setFld (EthStatus.foreign port) 1).count 0x019 port 1)) ∧
    (∀ r : DiscReq, s.foreign port r.src = false → s.attachedAs port r = true → s.injections = [] →
      exec (.dreq port r) s = .next (((s.emit (.drep port)).detachSession (r.session % 4096)).evalFlags))) ∧
  (∀ (s : State) (port : Nat), port < 4 →
    (s.pwr = 4 → exec (.ethLinkUp port) s = .next (s.setFld (EthStatus.linkUp port) 1)) ∧
    (s.flag (EthStatus.linkUp port) = false → s.attachedOn port ≠ [] → exec (.sessionDetach port) s = .next
      (((s.attachedOn port).foldl (fun u k => u.detachSession k) s).setFld (EthStatus.lossEvent port) 1).evalFlags)) ∧
  (∀ (s : State) (k : Nat),
    ((s.session k).state = .detached → s.fld (EthCfg.lingerS (s.session k).port) ≠ 0 → exec (.sessionRelease k) s = .next
      (s.releaseSession k).evalFlags) ∧
    ((s.session k).state = .attached → exec (.rdmaRetryExhaustion k) s = .next (s.detachSession k).evalFlags)) ∧
  (∀ s : State, s.mgmtLink = true →
    let z := ((s.setFld SecStatus.scope 0).setFld InjStatus.unlocked 0).setFld InjStatus.armed 0
    exec .mgmtLinkLoss s = .next
      { z with injections := [], nonceDraw := s.draws, draws := s.draws + 1, mgmtLink := false, spdm := {} })

/-- The SPDM responder, and the leaf that each signature spends. With the management link up, GET_VERSION begins a negotiation;
GET_CAPABILITIES and NEGOTIATE_ALGORITHMS carry it on; GET_DIGESTS, GET_CERTIFICATE and unsigned GET_MEASUREMENTS answer from
slot 0 and from the values captured at the transcript's first GET_MEASUREMENTS, and spend no leaf. A signed CHALLENGE or
GET_MEASUREMENTS takes leaf Q: Q advances by one, a new fuse block is set when Q was at the end of the fused ones, the
response holds the LMS signature with that leaf over both nonces and the report and the ECDSA signature over the transcript,
and the transcript ends. With the tree spent or a write of fuses or flash that fails, it sets LMS_FAIL, spends no leaf and
answers Unspecified; a block that was opened stays open. The ECDSA identity key is a scalar of P-384. Before its turn in the
negotiation a request is refused. -/
def Obligations.ResponderFollowsR498ToR502 : Prop :=
  ∀ s : State, s.mgmtLink = true →
    exec .getVersion s = .next (({ s with spdm := { phase := 1 } } : State).respond spdmVersion [0x13]) ∧
    (s.spdm.phase < 1 → exec .getCapabilities s = .next (s.emit (.spdm spdmError [0x04]))) ∧
    (1 ≤ s.spdm.phase → exec .getCapabilities s = .next
      (({ s with spdm := { s.spdm with phase := max 2 s.spdm.phase } } : State).respond spdmCapabilities (leBytes 4 0x16))) ∧
    (∀ ecdsa sha, 2 ≤ s.spdm.phase → exec (.negotiateAlgorithms ecdsa sha) s = .next
      (({ s with spdm := { s.spdm with phase := if ecdsa && sha then 3 else 2 } } : State).respond spdmAlgorithms
        (leBytes 4 (0x80 * b2n ecdsa) ++ leBytes 4 (0x02 * b2n sha) ++ leBytes 4 (0x04 * b2n sha)))) ∧
    (3 ≤ s.spdm.phase →
      exec .getDigests s = .next (s.respond spdmDigests (leBytes 1 1 ++ sha384 certChain)) ∧
      (∀ offset length, offset < certChain.length →
        let p := (certChain.drop offset).take length
        exec (.getCertificate 0 offset length) s = .next
          (s.respond spdmCertificate (leBytes 2 p.length ++ leBytes 2 (certChain.length - offset - p.length) ++ p))) ∧
      (∀ index nonce r,
        (if index = 0 then some (leBytes 1 15)
         else if index = 0xFF then some (s.captured.1.flatMap (·.2)) else (s.captured.1.find? (·.1 = index)).map (·.2)) = some r →
        exec (.getMeasurements index false nonce) s = .next (s.captured.2.respond spdmMeasurements r) ∧
        s.captured.2 = { s with spdm := { s.spdm with captured := some s.captured.1 } }) ∧
      (∀ (i : Instr) (nonce report : Bytes) (code : Nat), Sparse.sorted s.regs = true →
        ((i = .challenge 0 nonce ∧ code = spdmChallengeAuth ∧ report = sha384 certChain) ∨
          (∃ index, i = .getMeasurements index true nonce ∧ code = spdmMeasurements ∧
            (if index = 0 then some (leBytes 1 15)
             else if index = 0xFF then some (s.captured.1.flatMap (·.2)) else (s.captured.1.find? (·.1 = index)).map (·.2)) = some report)) →
        let opens : Prop := s.flash.q = 4096 * s.fuses.lmsBlocks
        let blocks := if s.flash.q = 4096 * s.fuses.lmsBlocks then s.fuses.lmsBlocks + 1 else s.fuses.lmsBlocks
        (s.flash.q = 1048576 ∨ (opens ∧ s.fuses.writeFails = true) ∨ s.flash.writeFails = true → ∃ t, exec i s = .next t ∧
          t.flag SecStatus.lmsFail = true ∧ t.flash = s.flash ∧
          (s.flash.q = 1048576 ∨ (opens ∧ s.fuses.writeFails = true) → t.fuses = s.fuses) ∧
          (s.flash.q ≠ 1048576 → ¬ (opens ∧ s.fuses.writeFails = true) → t.fuses = { s.fuses with lmsBlocks := blocks }) ∧
          t.wire = s.wire ++ [.spdm spdmError [0x05]] ∧ t.spdm.transcript = s.spdm.transcript ∧
          t = { s with regs := t.regs, wire := t.wire, spdm := t.spdm, fuses := t.fuses }) ∧
        (s.flash.q ≠ 1048576 → ¬ (opens ∧ s.fuses.writeFails = true) → s.flash.writeFails = false →
          let mine := (List.range 32).map (Config.spdmNonce s.draws)
          let body := report ++ mine ++ leBytes 4 61947 ++
            (List.range 1740).map (Config.lmsSignature s.lmsKey.1 s.lmsKey.2 s.flash.q (sha384 (nonce ++ mine ++ report)))
          ∃ t, exec i s = .next t ∧ t.flash = { s.flash with q := s.flash.q + 1 } ∧ t.fuses = { s.fuses with lmsBlocks := blocks } ∧
            t.flag SecStatus.lmsExhausted = decide (s.flash.q + 1 = 1048576) ∧ t.spdm.transcript = [] ∧ t.spdm.captured = none ∧
            t.draws = s.draws + 1 ∧
            t.wire = s.wire ++ [.spdm code (body ++
              (List.range 96).map (Config.ecdsaSignature s.ecdsaKey s.draws (s.spdm.transcript ++ nonce ++ body)))] ∧
            t = { s with regs := t.regs, wire := t.wire, spdm := t.spdm, draws := t.draws, flash := t.flash, fuses := t.fuses }))) ∧
    1 ≤ s.ecdsaKey ∧ s.ecdsaKey < p384Order

/-- Start-up, the losses of the inputs, and what a module reset keeps. From a state that meets the invariant. Power-on of a module
that is OFF boots: the LMS state is checked against the fuses, and the module is in STANDBY with the bank that verifies or in
FAULT with cause 0x0A. The main input, the clocks and a release of HOLD_OFF start the rails of a module in STANDBY that has
all it needs, and HELD shows one that HOLD_OFF keeps. Trained HBM is zero, three failed trainings are a FAULT with cause 0x09;
a CXL port shows its capacity; with both the module is in INIT, and READY ends it with the capability table valid and the core
rails at the setpoint (of a setpoint written before, the model's choice of log entry 36). Losing the auxiliary input takes the
module OFF; undervoltage, overvoltage, a regulator fault and the loss of a clock are module resets with causes 0x05, 0x06,
0x08 and 0x0B. A module reset empties memory, counters, carts, the fabric and the links, and keeps fuses, flash, GLB.ERR_LAST,
GLB.ACC_STATUS and the interval counter. -/
def Obligations.StartUpAndLossesFollowR472ToR478 : Prop :=
  ∀ s : State, s.Inv →
    (∀ slot, s.auxOk = false → ∃ t, exec (.powerOnReset slot) s = .next t ∧ t.auxOk = true ∧ t.slotId = slot % 8 ∧ t.mem = [] ∧
      t.counters = [] ∧ t.fuses = s.fuses ∧ t.flash = { s.flash with q := (lmsBoot s.flash.q s.fuses.lmsBlocks).1 } ∧
      t.flag SecStatus.lmsRollback = (lmsBoot s.flash.q s.fuses.lmsBlocks).2 ∧ t.railsUp = false ∧
      (s.bootBank.isSome = true → t.pwr = 1) ∧ (s.bootBank = none → t.pwr = 5 ∧ t.fld PwrResetCause.cause = 0x0A)) ∧
    (s.auxOk = true → s.mainOk = true → s.refclk = true → s.pwr = 1 →
      let cause := s.fld PwrResetCause.cause
      let held := s.flag PwrCtrl.holdOff && decide (5 ≤ cause) && decide (cause ≤ 8)
      (held = false → s.tryStart.pwr = 2 ∧ s.tryStart.railsUp = true ∧ s.tryStart.perstLow = false ∧
        s.tryStart.flag PwrStatus.held = false) ∧
      (held = true → s.tryStart = s.setFld PwrStatus.held 1)) ∧
    (∀ vin, s.auxOk = true → s.mainOk = false → 3950 ≤ vin → exec (.mainStart vin) s = .next
      ((({ s with mainOk := true } : State).setFld PwrStatus.mainOk 1).setFld PwrStatus.vin10mv (min 65535 vin)).tryStart) ∧
    (s.auxOk = true → exec .refclkValid s = .next ({ s with refclk := true, mgmtLink := true } : State).tryStart) ∧
    (∀ failures, s.pwr = 2 → s.hbmReady = false →
      (3 ≤ failures → exec (.hbmTrainingComplete failures) s = .next ((s.setFld PwrResetCause.cause 0x09).setPwr 5)) ∧
      (failures < 3 → exec (.hbmTrainingComplete failures) s = .next
        (if s.cxlDone then ({ s with hbmReady := true, mem := [] } : State).setPwr 3 else { s with hbmReady := true, mem := [] }))) ∧
    (∀ gib0 gib1, s.pwr = 2 → s.cxlDone = false →
      ∃ t, exec (.cxlTrainingComplete gib0 gib1) s = .next t ∧ t.cxlDone = true ∧ t.pwr = (if s.hbmReady then 3 else 2) ∧
        (gib0 ≠ 0 → t.cxlFramesOf 0 = min (gib0 * 16384) 67108864 ∧ t.flag (CxlPortStatus.up 0) = true) ∧
        (gib1 ≠ 0 → t.cxlFramesOf 1 = min (gib1 * 16384) (67108864 - min (gib0 * 16384) 67108864) ∧
          t.flag (CxlPortStatus.up 1) = true) ∧
        (gib0 = 0 → t.cxlFramesOf 0 = s.cxlFramesOf 0) ∧ (gib1 = 0 → t.cxlFramesOf 1 = s.cxlFramesOf 1)) ∧
    (∀ fails, s.pwr = 3 → exec (.ready fails) s = .next
      (({ s.fabricEffects fails with capsValid := true, railMv := s.fld PaceVset.vsetMv } : State).setPwr 4)) ∧
    (s.auxOk = true → ∃ t, exec .auxLost s = .next t ∧ t.auxOk = false ∧ t.mainOk = false ∧ t.mgmtLink = false ∧ t.railsUp = false ∧
      t.mem = [] ∧ t.sessions = [] ∧ t.fuses = s.fuses ∧ t.flash = s.flash) ∧
    (s.auxOk = true → s.mainOk = true → s.railsUp = true → s.noFirmware = false →
      let u := ({ s with mainOk := false } : State).setFld PwrStatus.mainOk 0
      exec .mainUndervoltage s = .next (u.moduleLoss 0x05 0 (if s.pwr = 6 then 6 else 1)).tryStart) ∧
    (s.auxOk = true → s.railsUp = true → s.noFirmware = false →
      exec .mainOvervoltage s = .next (s.moduleLoss 0x06 0 (if s.pwr = 6 then 6 else 1)).tryStart ∧
      exec .regulatorFault s = .next (s.moduleLoss 0x08 0 (if s.pwr = 6 then 6 else 1)).tryStart ∧
      (s.refclk = true → exec .refclkLoss s = .next
        (({ s with refclk := false, mgmtLink := false } : State).moduleLoss 0x0B 0 (if s.pwr = 6 then 6 else 1)).tryStart)) ∧
    (∀ cause die state, cause < 256 → state < 16 →
      let t := s.moduleLoss cause die state
      t.mem = [] ∧ t.counters = [] ∧ t.carts = [] ∧ t.queues = [] ∧ t.image = none ∧ t.lports = [] ∧ t.railsUp = false ∧
        t.fuses = s.fuses ∧ t.flash = s.flash ∧ t.reg .glbErrLast = s.reg .glbErrLast ∧ t.reg .glbAccStatus = s.reg .glbAccStatus ∧
        t.fld TelIntervalCnt.count = s.fld TelIntervalCnt.count ∧ t.pwr = state ∧ t.fld PwrResetCause.kind = 2 ∧
        t.fld PwrResetCause.cause = cause ∧ ∀ k, (t.session k).state = .free ∧ (t.session k).gen = (s.session k).gen)

/-- The I3C target answers command frames, common command codes and in-band interrupts. In every module state with the auxiliary
input there. A frame with a wrong PEC, or arguments that its command does not take, is answered with STATUS 2. A good one is
answered with STATUS 0 and its data, and the response is kept until the next: GET_ID, GET_POWER, GET_TEMP, GET_EVENTS (which
clears LOST_COUNT), READ_REG of an offset that the module controller may read, WRITE_REG of one that it may write,
MODULE_RESET and, in READY, FABRIC_RESET. A private read returns the response, STATUS 4 while it is not there, and is not
acknowledged before the first frame. SETDASA gives the first dynamic address, SETNEWDA another, RSTDAA takes it away; the GET
codes return their bytes; ENEC and DISEC enable and disable interrupts, and IBI_RETRY raises again one that was not accepted. -/
def Obligations.I3cTargetFollowsR544ToR547 : Prop :=
  ∀ s : State, s.auxOk = true →
    let good := fun (code : Nat) (args : Bytes) (pec : Byte) =>
      pecOf (leBytes 1 code ++ leBytes 1 args.length ++ args) = pec.toNat ∧ args.length < 256
    let reply := fun (u : State) (status : Nat) (data : Bytes) =>
      ({ u with i3c := { u.i3c with response := some (i3cFrame status data) } } : State)
    (∀ args pec, ¬ good 0x01 args pec → exec (.i3cGetId args pec) s = .next (reply s 2 [])) ∧
    (∀ pec, good 0x01 [] pec → exec (.i3cGetId [] pec) s = .next
      (reply s 0 (leBytes 8 (s.capWord 0) ++ leBytes 8 (s.capWord 1) ++ leBytes 8 (s.capWord 2)))) ∧
    (∀ pec, good 0x02 [] pec → exec (.i3cGetPower [] pec) s = .next
      (reply s 0 (leBytes 4 (s.reg .pwrStatus) ++ leBytes 4 (s.reg .pwrInPower) ++ leBytes 8 (s.reg .pwrResetCause)))) ∧
    (∀ pec, good 0x03 [] pec → exec (.i3cGetTemp [] pec) s = .next
      (reply s 0 ((List.range 4).flatMap (tempByte s.grade.dies s.dieTemp) ++
        (List.range 8).flatMap (tempByte s.grade.stackNum s.stackTemp) ++ leBytes 1 (min 127 s.hotJunction) ++
        leBytes 1 (s.fld PaceEnvLimit.tjTargetC) ++ leBytes 2 0 ++ leBytes 4 (s.reg .paceStatus)))) ∧
    (∀ pec, good 0x04 [] pec → exec (.i3cGetEvents [] pec) s = .next
      (reply (s.readClear .telEvtStatus 0 8) 0 (leBytes 8 (s.reg .telEvtStatus)))) ∧
    (∀ args pec, good 0x10 args pec → args.length = 4 → leNat args % 8 = 0 →
      (s.mayRead .modctl (leNat args) = false → exec (.i3cReadReg args pec) s = .next (reply s 3 [])) ∧
      (s.mayRead .modctl (leNat args) = true → exec (.i3cReadReg args pec) s = .next
        (reply (match s.slotReg (leNat args) with | some r => s.readClear r 0 8 | none => s) 0
          (leBytes 8 (s.slotValue .modctl (leNat args) 8))))) ∧
    (∀ args pec, good 0x11 args pec → (args.length = 8 ∨ args.length = 12) →
      let off := leField args 0 4
      (s.mayWrite .modctl off = false ∨ off = 0x10018 ∨ off = 0x1001C → exec (.i3cWriteReg args pec) s = .next (reply s 3 [])) ∧
      (s.mayWrite .modctl off = true → off ≠ 0x10018 → off ≠ 0x1001C → exec (.i3cWriteReg args pec) s = .next
        (reply (s.ctlWrite .modctl off (args.length - 4) (leNat (args.drop 4))) 0 []))) ∧
    (∀ pec, good 0x20 [0x52, 0x4D] pec → s.noFirmware = false → exec (.i3cModuleReset [0x52, 0x4D] pec) s = .next
      (((reply s 0 []).moduleLoss 0x02 0 (if s.pwr = 6 then 6 else 1)).tryStart)) ∧
    (∀ pec fails, good 0x21 [0x52, 0x46] pec →
      (s.pwr = 4 → exec (.i3cFabricReset [0x52, 0x46] pec fails) s = .next
        (((((reply s 0 []).setPwr 3).fabricEffects fails).recordReset 1 0x04 0).setPwr 4)) ∧
      (s.pwr ≠ 4 → exec (.i3cFabricReset [0x52, 0x46] pec fails) s = .next (reply s 3 []))) ∧
    (∀ ready, (s.i3c.response = none → exec (.i3cPrivateRead ready) s = .next (s.emit .i3cNack)) ∧
      ∀ r, s.i3c.response = some r → exec (.i3cPrivateRead ready) s = .next
        (s.emit (.i3cResponse (if ready then r else i3cFrame 4 [])))) ∧
    (∀ d, (s.i3c.dynamic = none → exec (.setdasa (0x30 + s.slotId) d) s = .next
        { s with i3c := { s.i3c with dynamic := some d } }) ∧
      (s.i3c.dynamic.isSome = true → exec (.setnewda d) s = .next { s with i3c := { s.i3c with dynamic := some d } })) ∧
    exec .rstdaa s = .next { s with i3c := { s.i3c with dynamic := none } } ∧
    exec .getpid s = .next (s.emit (.i3cCcc ((leBytes 4 s.fuses.deviceId ++ leBytes 2 Config.pidHigh.toNat).reverse))) ∧
    exec .getbcr s = .next (s.emit (.i3cCcc [0x06])) ∧ exec .getdcr s = .next (s.emit (.i3cCcc [Config.dcr])) ∧
    exec .getstatus s = .next (s.emit (.i3cCcc (leBytes 1 0 ++ leBytes 1 (s.i3c.pendingIbi.headD 0 % 16)))) ∧
    exec .getmrl s = .next (s.emit (.i3cCcc [0x00, 0x40, 0x01])) ∧ exec .getmwl s = .next (s.emit (.i3cCcc [0x00, 0x40])) ∧
    exec .enec s = .next { s with i3c := { s.i3c with ibiEnabled := true } } ∧
    exec .disec s = .next { s with i3c := { s.i3c with ibiEnabled := false, pendingIbi := [] } } ∧
    (∀ code, code ∈ s.i3c.pendingIbi →
      exec (.ibiRetry code true) s = .next { s with i3c := { s.i3c with pendingIbi := s.i3c.pendingIbi.filter (· ≠ code) } } ∧
      exec (.ibiRetry code false) s = .next (s.emit (.ibi code)))
end

