-- ==== Sys2Proof/Laws/Queue.lean ====
section
/-!
SUPPORT. Commands of queues and the other shared operations of the rows: what an accepted command comes to, what one that fails a
check comes to, a granted register write, a detector without an armed injection, a packet served.
-/
namespace Sys2Proof.Machine

/-- The checks of a row of commands. -/
def Row.checks (row : Row) : Checks := { want := row.want, ranges := row.ranges, regions := row.regions, errs := row.errs }

/-- What a row does with the next command of its queue that starts: an error of its checks, an error of its memory, or its body. -/
theorem State.runRow_starts {s u : State} {q : Nat} {c : Cmd} {row : Row} {decl : List Region}
    (h : s.starts q row.checks = some (c, decl, u)) :
    s.runRow q row =
      match u.checkErr q row.checks c with
      | some e => (u.dispatch q c.idx []).endErr q c.idx e
      | none =>
        let m := (u.dispatch q c.idx decl).memoryErrors q c (row.ranges u c.entry)
        match pickErr m.1 with
        | some e => row.met m.2 q c e
        | none =>
          (row.body ((row.ranges u c.entry).foldl (fun s r => s.touchRange r.base r.len) m.2)
            { c with phase := .running, serial := u.serial, regions := decl }).evalFlags := by
  unfold State.starts State.judged at h
  unfold State.runRow State.checkErr
  split at h
  · cases h
  · rename_i c0 hc
    dsimp only at h ⊢
    try simp only [hc]
    split at h
    · rename_i hw
      cases h
      exact if_pos hw
    · cases h

/-- A row whose queue has no command that it takes and that may start does nothing. -/
theorem State.runRow_idle {s : State} {q : Nat} {row : Row} (h : s.starts q row.checks = none) : s.runRow q row = s := by
  unfold State.starts State.judged at h
  unfold State.runRow
  split at h
  · rename_i hc
    try simp only [hc]
  · rename_i c0 hc
    dsimp only at h ⊢
    try simp only [hc]
    split at h
    · cases h
    · rename_i hw
      exact if_neg hw

/-- A row that accepts its queue's next command runs its body, then FLAG_WAITs are evaluated. -/
theorem State.accepts_row {s t : State} {i : Instr} {q : Nat} {c : Cmd} {row : Row} (hk : s.checksOf i = some (q, row.checks))
    (h : s.accepts i = some (t, c)) :
    queueOk q = true ∧ s.rowFree i = true ∧ s.runRow q row = (row.body t c).evalFlags := by
  unfold State.accepts at h
  simp only [hk] at h
  split at h
  · cases h
  · rename_i hg
    simp only [Bool.or_eq_true, Bool.not_eq_true', not_or, Bool.not_eq_false] at hg
    refine ⟨hg.1, hg.2, ?_⟩
    split at h
    · cases h
    · rename_i c0 decl u hs
      rw [State.runRow_starts hs]
      split at h
      · cases h
      · rename_i hc
        simp only [Option.not_isSome_iff_eq_none] at hc
        dsimp only at h ⊢
        try simp only [hc]
        split at h
        · cases h
        · rename_i hm
          simp only [Option.not_isSome_iff_eq_none] at hm
          cases h
          try simp only [Row.checks] at hm
          try simp only [hm]
          rfl

/-- A row that rejects its queue's next command ends it with the error that ranks first. -/
theorem State.rejects_row {s u : State} {i : Instr} {q : Nat} {c : Cmd} {e : Err} {row : Row}
    (hk : s.checksOf i = some (q, row.checks)) (h : s.rejects i = some (u, c, e)) :
    queueOk q = true ∧ s.rowFree i = true ∧ s.runRow q row = u.endErr q c.idx e := by
  unfold State.rejects at h
  simp only [hk] at h
  split at h
  · cases h
  · rename_i hg
    simp only [Bool.or_eq_true, Bool.not_eq_true', not_or, Bool.not_eq_false] at hg
    refine ⟨hg.1, hg.2, ?_⟩
    split at h
    · cases h
    · rename_i c0 decl v hs
      rw [State.runRow_starts hs]
      simp only [Option.map_eq_some_iff] at h
      obtain ⟨e', he, h⟩ := h
      simp only [Prod.mk.injEq] at h
      obtain ⟨rfl, rfl, rfl⟩ := h
      try simp only [he]

/-- A row whose next command's memory fails ends it as the row says. -/
theorem State.misses_row {s u : State} {i : Instr} {q : Nat} {c : Cmd} {e : Err} {row : Row}
    (hk : s.checksOf i = some (q, row.checks)) (h : s.misses i = some (u, c, e)) :
    queueOk q = true ∧ s.rowFree i = true ∧ s.runRow q row = row.met u q c e := by
  unfold State.misses at h
  simp only [hk] at h
  split at h
  · cases h
  · rename_i hg
    simp only [Bool.or_eq_true, Bool.not_eq_true', not_or, Bool.not_eq_false] at hg
    refine ⟨hg.1, hg.2, ?_⟩
    split at h
    · cases h
    · rename_i c0 decl v hs
      rw [State.runRow_starts hs]
      split at h
      · cases h
      · rename_i hc
        simp only [Option.not_isSome_iff_eq_none] at hc
        simp only [Option.map_eq_some_iff] at h
        obtain ⟨e', he, h⟩ := h
        simp only [Prod.mk.injEq] at h
        obtain ⟨rfl, rfl, rfl⟩ := h
        try simp only [hc]
        try simp only [Row.checks] at he
        try simp only [he]
        rfl

/-- R529: a granted write is performed and, for a session, acknowledged. -/
theorem State.onReg_granted {s : State} {a : Agent} {r : Reg} {f : State → State} (h : s.grants a r = true) :
    s.onReg a r f = s.answered a (f s) := by
  simp only [State.grants, Bool.and_eq_true] at h
  cases a <;> simp [State.onReg, State.onWrite, State.answered, h.1, h.2]

/-- R411: with nothing armed no injection fires. -/
theorem State.fire_nil {s : State} {d n : Nat} {p : Nat → Bool} (h : s.injections = []) : s.fire d n p = (none, s) := by
  simp [State.fire, h]

/-- With nothing armed a packet arrives as it is. -/
theorem State.packetIn_nil {s : State} {k : Nat} (h : s.injections = []) : s.packetIn k = s := by
  simp [State.packetIn, State.fire_nil h]

/-- With nothing armed the check of a die's rail changes nothing. -/
theorem State.checkRail_nil {s : State} {die : Nat} (h : s.injections = []) : s.checkRail die = s := by
  simp [State.checkRail, State.fire_nil h]

/-- R382: a delivered packet of a kind is served, and FLAG_WAITs are evaluated. -/
theorem State.serve_took {s u : State} {k kind : Nat} {f : State → Packet → State} {p : Packet}
    (h : s.takeInbox k (fun p => decide (p.kind = kind)) = some (p, u)) : s.serve k kind f = (f u p).evalFlags := by
  simp only [State.serve, h]

/-- R340, R348: a request is answered with a congestion notification packet when it is marked; admitted, it is served, and refused
otherwise. -/
theorem State.onAdmitted_eq {s : State} {rq : RdmaReq} {len : Nat} {w a : Bool} {f : State → State} (h1 : s.portUp rq.port = true)
    (h2 : s.foreign rq.port rq.src = false) (h3 : s.connected rq = true) (h4 : s.injections = []) :
    s.onAdmitted rq len w a f =
      let u := if rq.ecn then s.emit (.cnp rq.port rq.slot) else s
      if u.requestCause rq len w a = 0 then f u
      else (u.refuseRequest rq.port rq.slot (u.requestCause rq len w a) rq.addr).evalFlags := by
  simp [State.onAdmitted, State.onRequest, h1, h2, h3, State.packetIn_nil h4]

/-- A register write keeps the whole value of its width. -/
theorem Reg.mod_width {r : Reg} {v n : Nat} (h : v < 2 ^ n) (hw : r.width = n) : v % 2 ^ r.width = v := by
  rw [hw, Nat.mod_eq_of_lt h]

end Sys2Proof.Machine
end

