-- ==== Sys2Proof/Laws/RegMap.lean ====
section
/-!
SUPPORT. Offsets and registers: the register at a register's own offset, which register a write there sets, and what the writes of
agents that are present and absent come to.
-/
namespace Sys2Proof.Machine

/-- What a slot makes of an offset. -/
def slotHit (off : Nat) (x : Nat × Nat × Nat × (Nat → Reg)) : Option Reg :=
  match x with
  | (base, stride, count, mk) =>
    if base ≤ off ∧ (off - base) % stride = 0 ∧ (off - base) / stride < count then some (mk ((off - base) / stride)) else none

theorem slotHit_skip {off b s c : Nat} {mk : Nat → Reg} {l : List (Nat × Nat × Nat × (Nat → Reg))}
    (h : ¬ (b ≤ off ∧ (off - b) % s = 0 ∧ (off - b) / s < c)) :
    List.findSome? (slotHit off) ((b, s, c, mk) :: l) = List.findSome? (slotHit off) l := by
  simp only [List.findSome?_cons, slotHit, if_neg h]

theorem slotHit_take {off b s c : Nat} {mk : Nat → Reg} {l : List (Nat × Nat × Nat × (Nat → Reg))}
    (h : b ≤ off ∧ (off - b) % s = 0 ∧ (off - b) / s < c) :
    List.findSome? (slotHit off) ((b, s, c, mk) :: l) = some (mk ((off - b) / s)) := by
  simp only [List.findSome?_cons, slotHit, if_pos h]

theorem Reg.at_eq (off : Nat) : Reg.at off = List.findSome? (slotHit off) Reg.slots := rfl

theorem Reg.at_paceVset : Reg.at (Reg.offset .paceVset) = some .paceVset := by
  rw [Reg.at_eq]
  simp only [Reg.offset, Reg.slots, List.cons_append, List.nil_append]
  repeat rw [slotHit_skip (by omega)]
  rw [slotHit_take (by omega)]
theorem Reg.at_telCntCtrl : Reg.at (Reg.offset .telCntCtrl) = some .telCntCtrl := by
  rw [Reg.at_eq]
  simp only [Reg.offset, Reg.slots, List.cons_append, List.nil_append]
  repeat rw [slotHit_skip (by omega)]
  rw [slotHit_take (by omega)]
theorem Reg.at_telEvtHead : Reg.at (Reg.offset .telEvtHead) = some .telEvtHead := by
  rw [Reg.at_eq]
  simp only [Reg.offset, Reg.slots, List.cons_append, List.nil_append]
  repeat rw [slotHit_skip (by omega)]
  rw [slotHit_take (by omega)]
theorem Reg.at_telTeleIdx : Reg.at (Reg.offset .telTeleIdx) = some .telTeleIdx := by
  rw [Reg.at_eq]
  simp only [Reg.offset, Reg.slots, List.cons_append, List.nil_append]
  repeat rw [slotHit_skip (by omega)]
  rw [slotHit_take (by omega)]
theorem Reg.at_ethSessQuery : Reg.at (Reg.offset .ethSessQuery) = some .ethSessQuery := by
  rw [Reg.at_eq]
  simp only [Reg.offset, Reg.slots, List.cons_append, List.nil_append]
  repeat rw [slotHit_skip (by omega)]
  rw [slotHit_take (by omega)]
theorem Reg.at_cxlCartQuery : Reg.at (Reg.offset .cxlCartQuery) = some .cxlCartQuery := by
  rw [Reg.at_eq]
  simp only [Reg.offset, Reg.slots, List.cons_append, List.nil_append]
  repeat rw [slotHit_skip (by omega)]
  rw [slotHit_take (by omega)]
theorem Reg.at_fabGovCtrl : Reg.at (Reg.offset .fabGovCtrl) = some .fabGovCtrl := by
  rw [Reg.at_eq]
  simp only [Reg.offset, Reg.slots, List.cons_append, List.nil_append]
  repeat rw [slotHit_skip (by omega)]
  rw [slotHit_take (by omega)]
theorem Reg.at_fabDomCtl : Reg.at (Reg.offset .fabDomCtl) = some .fabDomCtl := by
  rw [Reg.at_eq]
  simp only [Reg.offset, Reg.slots, List.cons_append, List.nil_append]
  repeat rw [slotHit_skip (by omega)]
  rw [slotHit_take (by omega)]
theorem Reg.at_fabEdgeWeight {i : Nat} (h : i < 2) : Reg.at (Reg.offset (.fabEdgeWeight i)) = some (.fabEdgeWeight i) := by
  rw [Reg.at_eq]
  simp only [Reg.offset, Reg.slots, List.cons_append, List.nil_append]
  repeat rw [slotHit_skip (by omega)]
  rw [slotHit_take (by omega)]
  congr 2
  omega
theorem Reg.at_fabSpare {i : Nat} (h : i < 48) : Reg.at (Reg.offset (.fabSpare i)) = some (.fabSpare i) := by
  rw [Reg.at_eq]
  simp only [Reg.offset, Reg.slots, List.cons_append, List.nil_append]
  repeat rw [slotHit_skip (by omega)]
  rw [slotHit_take (by omega)]
  congr 2
  omega
theorem Reg.at_fabTmap {i : Nat} (h : i < 64) : Reg.at (Reg.offset (.fabTmap i)) = some (.fabTmap i) := by
  rw [Reg.at_eq]
  simp only [Reg.offset, Reg.slots, List.cons_append, List.nil_append]
  repeat rw [slotHit_skip (by omega)]
  rw [slotHit_take (by omega)]
  congr 2
  omega
theorem Reg.at_coreWinOpen {i : Nat} (h : i < 768) : Reg.at (Reg.offset (.coreWinOpen i)) = some (.coreWinOpen i) := by
  rw [Reg.at_eq]
  simp only [Reg.offset, Reg.slots, List.cons_append, List.nil_append]
  repeat rw [slotHit_skip (by omega)]
  rw [slotHit_take (by omega)]
  congr 2
  omega

/-- R525: a write of a register's own width at its own offset sets it, when the part has it. -/
theorem State.writeTarget_offset {s : State} {r : Reg} (h : Reg.at (Reg.offset r) = some r) (hr : s.hasReg r = true) :
    s.writeTarget (Reg.offset r) (r.width / 8) = some r := by
  have h8 : Reg.offset r % 8 = 0 := by cases r <;> simp only [Reg.offset] <;> omega
  have hw : r.width / 8 = 8 ∨ (r.width / 8 = 4 ∧ r.width = 32) := by cases r <;> simp [Reg.width]
  have hs : s.slotReg (Reg.offset r) = some r := by
    unfold State.slotReg
    rw [h8, Nat.sub_zero, h]
    simp [Option.filter, hr]
  unfold State.writeTarget
  rw [hs]
  rcases hw with hw | hw <;> simp [Option.filter, h8, hw]

/-- An agent's write of a register that the part has goes through R529. -/
theorem State.regWrite_eq {s : State} {a : Agent} {r : Reg} {v : Nat} (h : Reg.at (Reg.offset r) = some r)
    (hr : s.hasReg r = true) : s.regWrite a r v = s.onReg a r fun s => s.writeReg a r (v % 2 ^ r.width) := by
  unfold State.regWrite State.ctlWrite
  rw [State.writeTarget_offset h hr]
  by_cases hp : s.present a = true
  · simp [hp]
  · simp [hp, State.onReg, State.onWrite]

/-- An agent that is not present writes nothing. -/
theorem State.onReg_absent {s : State} {a : Agent} {r : Reg} {f : State → State} (h : s.present a = false) :
    s.onReg a r f = s := by
  simp [State.onReg, State.onWrite, h]

/-- R529: a write without the grant is refused. -/
theorem State.onReg_denied {s : State} {a : Agent} {r : Reg} {f : State → State} (hp : s.present a = true)
    (hw : s.mayWrite a (Reg.offset r) = false) : s.onReg a r f = s.ctlRefuse a 4 3 (Reg.offset r) := by
  simp [State.onReg, State.onWrite, hp, hw]

theorem State.regWrite_absent {s : State} {a : Agent} {r : Reg} {v : Nat} (h : s.present a = false) : s.regWrite a r v = s := by
  simp [State.regWrite, State.ctlWrite, h]

end Sys2Proof.Machine
end

