-- ==== Sys2Proof/Laws/Sparse.lean ====
section
/-!
SUPPORT. Laws of sparse maps: what a read answers after a write, and that every operation keeps the canonical form.
-/
namespace Sys2Proof.Machine

variable {β : Type}

@[simp] theorem Sparse.get_nil (d : β) (k : Nat) : Sparse.get d [] k = d := rfl

theorem Sparse.sorted_cons {e : Nat × β} {m : List (Nat × β)} :
    Sparse.sorted (e :: m) = true ↔ (∀ x ∈ m, e.1 < x.1) ∧ Sparse.sorted m = true := by
  induction m generalizing e with
  | nil => simp [Sparse.sorted]
  | cons x m ih =>
    obtain ⟨k, v⟩ := e
    obtain ⟨k', v'⟩ := x
    rw [Sparse.sorted, Bool.and_eq_true, decide_eq_true_eq]
    constructor
    · intro ⟨h, hs⟩
      refine ⟨fun y hy => ?_, hs⟩
      rcases List.mem_cons.mp hy with rfl | hy
      · exact h
      · exact lt_trans h ((ih.mp hs).1 y hy)
    · intro ⟨h, hs⟩
      exact ⟨h (k', v') (by simp), hs⟩

theorem Sparse.mem_insert {m : List (Nat × β)} {k : Nat} {v : β} {x : Nat × β} (h : x ∈ Sparse.insert m k v) :
    x = (k, v) ∨ x ∈ m := by
  induction m with
  | nil => simpa [Sparse.insert] using h
  | cons e m ih =>
    obtain ⟨k', v'⟩ := e
    unfold Sparse.insert at h
    split at h
    · simpa using h
    · split at h
      · rcases List.mem_cons.mp h with h | h <;> simp [h]
      · rcases List.mem_cons.mp h with h | h
        · simp [h]
        · rcases ih h with h | h <;> simp [h]

theorem Sparse.mem_erase {m : List (Nat × β)} {k : Nat} {x : Nat × β} (h : x ∈ Sparse.erase m k) : x ∈ m := by
  induction m with
  | nil => simpa [Sparse.erase] using h
  | cons e m ih =>
    obtain ⟨k', v'⟩ := e
    unfold Sparse.erase at h
    split at h
    · exact List.mem_cons_of_mem _ h
    · rcases List.mem_cons.mp h with h | h
      · simp [h]
      · exact List.mem_cons_of_mem _ (ih h)

theorem Sparse.sorted_insert {m : List (Nat × β)} {k : Nat} {v : β} (h : Sparse.sorted m = true) :
    Sparse.sorted (Sparse.insert m k v) = true := by
  induction m with
  | nil => rfl
  | cons e m ih =>
    obtain ⟨k', v'⟩ := e
    have hs := Sparse.sorted_cons.mp h
    unfold Sparse.insert
    split
    · rename_i hk
      refine Sparse.sorted_cons.mpr ⟨fun x hx => ?_, h⟩
      rcases List.mem_cons.mp hx with rfl | hx
      · exact hk
      · exact lt_trans hk (hs.1 x hx)
    · split
      · rename_i hk
        subst hk
        exact Sparse.sorted_cons.mpr ⟨hs.1, hs.2⟩
      · refine Sparse.sorted_cons.mpr ⟨fun x hx => ?_, ih hs.2⟩
        rcases Sparse.mem_insert hx with rfl | hx
        · simp only; omega
        · exact hs.1 x hx

theorem Sparse.sorted_erase {m : List (Nat × β)} {k : Nat} (h : Sparse.sorted m = true) :
    Sparse.sorted (Sparse.erase m k) = true := by
  induction m with
  | nil => rfl
  | cons e m ih =>
    obtain ⟨k', v'⟩ := e
    have hs := Sparse.sorted_cons.mp h
    unfold Sparse.erase
    split
    · exact hs.2
    · exact Sparse.sorted_cons.mpr ⟨fun x hx => hs.1 x (Sparse.mem_erase hx), ih hs.2⟩

theorem Sparse.sorted_map {γ : Type} (f : Nat → β → γ) {m : List (Nat × β)} (h : Sparse.sorted m = true) :
    Sparse.sorted (m.map fun e => (e.1, f e.1 e.2)) = true := by
  induction m with
  | nil => rfl
  | cons e m ih =>
    have hs := Sparse.sorted_cons.mp h
    refine Sparse.sorted_cons.mpr ⟨fun x hx => ?_, ih hs.2⟩
    obtain ⟨y, hy, rfl⟩ := List.mem_map.mp hx
    exact hs.1 y hy

theorem Sparse.sorted_filter {m : List (Nat × β)} (p : Nat × β → Bool) (h : Sparse.sorted m = true) :
    Sparse.sorted (m.filter p) = true := by
  induction m with
  | nil => rfl
  | cons e m ih =>
    have hs := Sparse.sorted_cons.mp h
    rw [List.filter_cons]
    split
    · exact Sparse.sorted_cons.mpr ⟨fun x hx => hs.1 x (List.mem_filter.mp hx).1, ih hs.2⟩
    · exact ih hs.2

theorem Sparse.get_insert {d v : β} {m : List (Nat × β)} {k j : Nat} (h : Sparse.sorted m = true) :
    Sparse.get d (Sparse.insert m k v) j = if j = k then v else Sparse.get d m j := by
  induction m with
  | nil => rfl
  | cons e m ih =>
    obtain ⟨k', v'⟩ := e
    have hs := Sparse.sorted_cons.mp h
    unfold Sparse.insert
    split
    · simp [Sparse.get]
    · split
      · rename_i hk
        subst hk
        by_cases hj : j = k <;> simp [Sparse.get, hj]
      · rename_i hk hne
        rw [Sparse.get, Sparse.get, ih hs.2]
        by_cases hj : j = k'
        · have : j ≠ k := by omega
          simp [hj, show k' ≠ k by omega]
        · simp [hj]

theorem Sparse.get_of_notMem {d : β} {m : List (Nat × β)} {j : Nat} (h : ∀ x ∈ m, x.1 ≠ j) : Sparse.get d m j = d := by
  induction m with
  | nil => rfl
  | cons e m ih =>
    obtain ⟨k', v'⟩ := e
    have h1 : j ≠ k' := fun e => h (k', v') (by simp) e.symm
    simp [Sparse.get, h1, ih fun x hx => h x (List.mem_cons_of_mem _ hx)]

theorem Sparse.get_erase {d : β} {m : List (Nat × β)} {k j : Nat} (h : Sparse.sorted m = true) :
    Sparse.get d (Sparse.erase m k) j = if j = k then d else Sparse.get d m j := by
  induction m with
  | nil => simp [Sparse.erase, Sparse.get]
  | cons e m ih =>
    obtain ⟨k', v'⟩ := e
    have hs := Sparse.sorted_cons.mp h
    unfold Sparse.erase
    split
    · rename_i hk
      subst hk
      by_cases hj : j = k
      · subst hj
        rw [Sparse.get_of_notMem fun x hx => by have := hs.1 x hx; omega]
        simp
      · simp [Sparse.get, hj]
    · rename_i hk
      rw [Sparse.get, Sparse.get, ih hs.2]
      by_cases hj : j = k'
      · simp [hj, show k' ≠ k by omega]
      · simp [hj]

/-- A read after a write: the value written at its key, what was there at every other. -/
theorem Sparse.get_set [DecidableEq β] {d v : β} {m : List (Nat × β)} {k j : Nat} (h : Sparse.sorted m = true) :
    Sparse.get d (Sparse.set d m k v) j = if j = k then v else Sparse.get d m j := by
  unfold Sparse.set
  split
  · rename_i hv
    rw [Sparse.get_erase h, hv]
  · exact Sparse.get_insert h

/-- What stands at another key, whatever an unlisted key reads as. -/
theorem Sparse.get_set_ne [DecidableEq β] {d e v : β} {m : List (Nat × β)} {k j : Nat} (h : Sparse.sorted m = true) (hj : j ≠ k) :
    Sparse.get d (Sparse.set e m k v) j = Sparse.get d m j := by
  unfold Sparse.set
  split
  · rw [Sparse.get_erase h, if_neg hj]
  · rw [Sparse.get_insert h, if_neg hj]

theorem Sparse.sorted_set [DecidableEq β] {d v : β} {m : List (Nat × β)} {k : Nat} (h : Sparse.sorted m = true) :
    Sparse.sorted (Sparse.set d m k v) = true := by
  unfold Sparse.set
  split
  · exact Sparse.sorted_erase h
  · exact Sparse.sorted_insert h

/-- Every entry of a map after a write is the one written, which is not the default, or was there before. -/
theorem Sparse.mem_set [DecidableEq β] {d v : β} {m : List (Nat × β)} {k : Nat} {x : Nat × β} (h : x ∈ Sparse.set d m k v) :
    (x = (k, v) ∧ v ≠ d) ∨ x ∈ m := by
  unfold Sparse.set at h
  split at h
  · exact .inr (Sparse.mem_erase h)
  · rename_i hv
    rcases Sparse.mem_insert h with h | h
    · exact .inl ⟨h, hv⟩
    · exact .inr h

theorem Sparse.wf_iff [DecidableEq β] {d : β} {m : List (Nat × β)} :
    Sparse.wf d m = true ↔ Sparse.sorted m = true ∧ ∀ x ∈ m, x.2 ≠ d := by
  simp [Sparse.wf]

/-- A write keeps the canonical form. -/
theorem Sparse.wf_set [DecidableEq β] {d v : β} {m : List (Nat × β)} {k : Nat} (h : Sparse.wf d m = true) :
    Sparse.wf d (Sparse.set d m k v) = true := by
  rw [Sparse.wf_iff] at *
  refine ⟨Sparse.sorted_set h.1, fun x hx => ?_⟩
  rcases Sparse.mem_set hx with ⟨rfl, hv⟩ | hx
  · exact hv
  · exact h.2 x hx

/-- Dropping entries keeps the canonical form. -/
theorem Sparse.wf_filter [DecidableEq β] {d : β} {m : List (Nat × β)} (p : Nat × β → Bool) (h : Sparse.wf d m = true) :
    Sparse.wf d (m.filter p) = true := by
  rw [Sparse.wf_iff] at *
  exact ⟨Sparse.sorted_filter p h.1, fun x hx => h.2 x (List.mem_filter.mp hx).1⟩

@[simp] theorem Sparse.wf_nil [DecidableEq β] (d : β) : Sparse.wf d ([] : List (Nat × β)) = true := rfl

end Sys2Proof.Machine
end

