-- ==== Sys2Proof/Laws/State.lean ====
section
/-!
SUPPORT. One lemma per field of State per named update: the fields that an update leaves alone. No later proof unfolds a record
update.
-/
namespace Sys2Proof.Machine

theorem State.setRaw_eq (s : State) (p : Nat) (bs : Bytes) : s.setRaw p bs = { s with mem := (s.setRaw p bs).mem } := by
  unfold State.setRaw
  generalize bs.zipIdx p = l
  induction l generalizing s with
  | nil => rfl
  | cons x l ih => rw [List.foldl_cons, ih]; rfl

@[simp] theorem State.emit_grade (s : State) (w : Wire) : (s.emit w).grade = s.grade := rfl
@[simp] theorem State.emit_pending (s : State) (w : Wire) : (s.emit w).pending = s.pending := rfl
@[simp] theorem State.emit_draws (s : State) (w : Wire) : (s.emit w).draws = s.draws := rfl
@[simp] theorem State.emit_paceDraws (s : State) (w : Wire) : (s.emit w).paceDraws = s.paceDraws := rfl
@[simp] theorem State.emit_regs (s : State) (w : Wire) : (s.emit w).regs = s.regs := rfl
@[simp] theorem State.emit_capsValid (s : State) (w : Wire) : (s.emit w).capsValid = s.capsValid := rfl
@[simp] theorem State.emit_rowFailed (s : State) (w : Wire) : (s.emit w).rowFailed = s.rowFailed := rfl
@[simp] theorem State.emit_sel (s : State) (w : Wire) : (s.emit w).sel = s.sel := rfl
@[simp] theorem State.emit_partnerHeld (s : State) (w : Wire) : (s.emit w).partnerHeld = s.partnerHeld := rfl
@[simp] theorem State.emit_mem (s : State) (w : Wire) : (s.emit w).mem = s.mem := rfl
@[simp] theorem State.emit_carts (s : State) (w : Wire) : (s.emit w).carts = s.carts := rfl
@[simp] theorem State.emit_ver (s : State) (w : Wire) : (s.emit w).ver = s.ver := rfl
@[simp] theorem State.emit_walk (s : State) (w : Wire) : (s.emit w).walk = s.walk := rfl
@[simp] theorem State.emit_migrations (s : State) (w : Wire) : (s.emit w).migrations = s.migrations := rfl
@[simp] theorem State.emit_oldFrames (s : State) (w : Wire) : (s.emit w).oldFrames = s.oldFrames := rfl
@[simp] theorem State.emit_lostFrames (s : State) (w : Wire) : (s.emit w).lostFrames = s.lostFrames := rfl
@[simp] theorem State.emit_wantHbm (s : State) (w : Wire) : (s.emit w).wantHbm = s.wantHbm := rfl
@[simp] theorem State.emit_cxlPorts (s : State) (w : Wire) : (s.emit w).cxlPorts = s.cxlPorts := rfl
@[simp] theorem State.emit_hbmReady (s : State) (w : Wire) : (s.emit w).hbmReady = s.hbmReady := rfl
@[simp] theorem State.emit_pendingWrites (s : State) (w : Wire) : (s.emit w).pendingWrites = s.pendingWrites := rfl
@[simp] theorem State.emit_badWords (s : State) (w : Wire) : (s.emit w).badWords = s.badWords := rfl
@[simp] theorem State.emit_queues (s : State) (w : Wire) : (s.emit w).queues = s.queues := rfl
@[simp] theorem State.emit_served (s : State) (w : Wire) : (s.emit w).served = s.served := rfl
@[simp] theorem State.emit_serial (s : State) (w : Wire) : (s.emit w).serial = s.serial := rfl
@[simp] theorem State.emit_step (s : State) (w : Wire) : (s.emit w).step = s.step := rfl
@[simp] theorem State.emit_attempts (s : State) (w : Wire) : (s.emit w).attempts = s.attempts := rfl
@[simp] theorem State.emit_recNext (s : State) (w : Wire) : (s.emit w).recNext = s.recNext := rfl
@[simp] theorem State.emit_logNext (s : State) (w : Wire) : (s.emit w).logNext = s.logNext := rfl
@[simp] theorem State.emit_sessions (s : State) (w : Wire) : (s.emit w).sessions = s.sessions := rfl
@[simp] theorem State.emit_mgmtLink (s : State) (w : Wire) : (s.emit w).mgmtLink = s.mgmtLink := rfl
@[simp] theorem State.emit_counters (s : State) (w : Wire) : (s.emit w).counters = s.counters := rfl
@[simp] theorem State.emit_injections (s : State) (w : Wire) : (s.emit w).injections = s.injections := rfl
@[simp] theorem State.emit_teleSeq (s : State) (w : Wire) : (s.emit w).teleSeq = s.teleSeq := rfl
@[simp] theorem State.emit_teleLost (s : State) (w : Wire) : (s.emit w).teleLost = s.teleLost := rfl
@[simp] theorem State.emit_slots (s : State) (w : Wire) : (s.emit w).slots = s.slots := rfl
@[simp] theorem State.emit_acts (s : State) (w : Wire) : (s.emit w).acts = s.acts := rfl
@[simp] theorem State.emit_image (s : State) (w : Wire) : (s.emit w).image = s.image := rfl
@[simp] theorem State.emit_activated (s : State) (w : Wire) : (s.emit w).activated = s.activated := rfl
@[simp] theorem State.emit_cores (s : State) (w : Wire) : (s.emit w).cores = s.cores := rfl
@[simp] theorem State.emit_routes (s : State) (w : Wire) : (s.emit w).routes = s.routes := rfl
@[simp] theorem State.emit_live (s : State) (w : Wire) : (s.emit w).live = s.live := rfl
@[simp] theorem State.emit_nextTok (s : State) (w : Wire) : (s.emit w).nextTok = s.nextTok := rfl
@[simp] theorem State.emit_sends (s : State) (w : Wire) : (s.emit w).sends = s.sends := rfl
@[simp] theorem State.emit_seg (s : State) (w : Wire) : (s.emit w).seg = s.seg := rfl
@[simp] theorem State.emit_segDead (s : State) (w : Wire) : (s.emit w).segDead = s.segDead := rfl
@[simp] theorem State.emit_ckpt (s : State) (w : Wire) : (s.emit w).ckpt = s.ckpt := rfl
@[simp] theorem State.emit_selftest (s : State) (w : Wire) : (s.emit w).selftest = s.selftest := rfl
@[simp] theorem State.emit_spareNext (s : State) (w : Wire) : (s.emit w).spareNext = s.spareNext := rfl
@[simp] theorem State.emit_lports (s : State) (w : Wire) : (s.emit w).lports = s.lports := rfl
@[simp] theorem State.emit_inbox (s : State) (w : Wire) : (s.emit w).inbox = s.inbox := rfl
@[simp] theorem State.emit_requests (s : State) (w : Wire) : (s.emit w).requests = s.requests := rfl
@[simp] theorem State.emit_nextReq (s : State) (w : Wire) : (s.emit w).nextReq = s.nextReq := rfl
@[simp] theorem State.emit_waitReads (s : State) (w : Wire) : (s.emit w).waitReads = s.waitReads := rfl
@[simp] theorem State.emit_colls (s : State) (w : Wire) : (s.emit w).colls = s.colls := rfl
@[simp] theorem State.emit_early (s : State) (w : Wire) : (s.emit w).early = s.early := rfl
@[simp] theorem State.emit_kept (s : State) (w : Wire) : (s.emit w).kept = s.kept := rfl
@[simp] theorem State.emit_adopted (s : State) (w : Wire) : (s.emit w).adopted = s.adopted := rfl
@[simp] theorem State.emit_adopting (s : State) (w : Wire) : (s.emit w).adopting = s.adopting := rfl
@[simp] theorem State.emit_snapArm (s : State) (w : Wire) : (s.emit w).snapArm = s.snapArm := rfl
@[simp] theorem State.emit_snapNext (s : State) (w : Wire) : (s.emit w).snapNext = s.snapNext := rfl
@[simp] theorem State.emit_gens (s : State) (w : Wire) : (s.emit w).gens = s.gens := rfl
@[simp] theorem State.emit_snapDisarm (s : State) (w : Wire) : (s.emit w).snapDisarm = s.snapDisarm := rfl
@[simp] theorem State.emit_restore (s : State) (w : Wire) : (s.emit w).restore = s.restore := rfl
@[simp] theorem State.emit_refclk (s : State) (w : Wire) : (s.emit w).refclk = s.refclk := rfl
@[simp] theorem State.emit_mainOk (s : State) (w : Wire) : (s.emit w).mainOk = s.mainOk := rfl
@[simp] theorem State.emit_auxOk (s : State) (w : Wire) : (s.emit w).auxOk = s.auxOk := rfl
@[simp] theorem State.emit_cxlDone (s : State) (w : Wire) : (s.emit w).cxlDone = s.cxlDone := rfl
@[simp] theorem State.emit_railMv (s : State) (w : Wire) : (s.emit w).railMv = s.railMv := rfl
@[simp] theorem State.emit_envUnheld (s : State) (w : Wire) : (s.emit w).envUnheld = s.envUnheld := rfl
@[simp] theorem State.emit_droop (s : State) (w : Wire) : (s.emit w).droop = s.droop := rfl
@[simp] theorem State.emit_taps (s : State) (w : Wire) : (s.emit w).taps = s.taps := rfl
@[simp] theorem State.emit_calDraw (s : State) (w : Wire) : (s.emit w).calDraw = s.calDraw := rfl
@[simp] theorem State.emit_nonceDraw (s : State) (w : Wire) : (s.emit w).nonceDraw = s.nonceDraw := rfl
@[simp] theorem State.emit_dieTemp (s : State) (w : Wire) : (s.emit w).dieTemp = s.dieTemp := rfl
@[simp] theorem State.emit_stackTemp (s : State) (w : Wire) : (s.emit w).stackTemp = s.stackTemp := rfl
@[simp] theorem State.emit_scrubRow (s : State) (w : Wire) : (s.emit w).scrubRow = s.scrubRow := rfl
@[simp] theorem State.emit_timer (s : State) (w : Wire) : (s.emit w).timer = s.timer := rfl
@[simp] theorem State.emit_health (s : State) (w : Wire) : (s.emit w).health = s.health := rfl
@[simp] theorem State.emit_healthDone (s : State) (w : Wire) : (s.emit w).healthDone = s.healthDone := rfl
@[simp] theorem State.emit_sampleDone (s : State) (w : Wire) : (s.emit w).sampleDone = s.sampleDone := rfl
@[simp] theorem State.emit_fuses (s : State) (w : Wire) : (s.emit w).fuses = s.fuses := rfl
@[simp] theorem State.emit_flash (s : State) (w : Wire) : (s.emit w).flash = s.flash := rfl
@[simp] theorem State.emit_actLog (s : State) (w : Wire) : (s.emit w).actLog = s.actLog := rfl
@[simp] theorem State.emit_spdm (s : State) (w : Wire) : (s.emit w).spdm = s.spdm := rfl
@[simp] theorem State.emit_i3c (s : State) (w : Wire) : (s.emit w).i3c = s.i3c := rfl
@[simp] theorem State.emit_slotId (s : State) (w : Wire) : (s.emit w).slotId = s.slotId := rfl
@[simp] theorem State.emit_thermLow (s : State) (w : Wire) : (s.emit w).thermLow = s.thermLow := rfl
@[simp] theorem State.emit_perstLow (s : State) (w : Wire) : (s.emit w).perstLow = s.perstLow := rfl
@[simp] theorem State.emit_genKeys (s : State) (w : Wire) : (s.emit w).genKeys = s.genKeys := rfl

@[simp] theorem State.setReg_grade (s : State) (r : Reg) (v : Nat) : (s.setReg r v).grade = s.grade := rfl
@[simp] theorem State.setReg_pending (s : State) (r : Reg) (v : Nat) : (s.setReg r v).pending = s.pending := rfl
@[simp] theorem State.setReg_draws (s : State) (r : Reg) (v : Nat) : (s.setReg r v).draws = s.draws := rfl
@[simp] theorem State.setReg_paceDraws (s : State) (r : Reg) (v : Nat) : (s.setReg r v).paceDraws = s.paceDraws := rfl
@[simp] theorem State.setReg_wire (s : State) (r : Reg) (v : Nat) : (s.setReg r v).wire = s.wire := rfl
@[simp] theorem State.setReg_capsValid (s : State) (r : Reg) (v : Nat) : (s.setReg r v).capsValid = s.capsValid := rfl
@[simp] theorem State.setReg_rowFailed (s : State) (r : Reg) (v : Nat) : (s.setReg r v).rowFailed = s.rowFailed := rfl
@[simp] theorem State.setReg_sel (s : State) (r : Reg) (v : Nat) : (s.setReg r v).sel = s.sel := rfl
@[simp] theorem State.setReg_partnerHeld (s : State) (r : Reg) (v : Nat) : (s.setReg r v).partnerHeld = s.partnerHeld := rfl
@[simp] theorem State.setReg_mem (s : State) (r : Reg) (v : Nat) : (s.setReg r v).mem = s.mem := rfl
@[simp] theorem State.setReg_carts (s : State) (r : Reg) (v : Nat) : (s.setReg r v).carts = s.carts := rfl
@[simp] theorem State.setReg_ver (s : State) (r : Reg) (v : Nat) : (s.setReg r v).ver = s.ver := rfl
@[simp] theorem State.setReg_walk (s : State) (r : Reg) (v : Nat) : (s.setReg r v).walk = s.walk := rfl
@[simp] theorem State.setReg_migrations (s : State) (r : Reg) (v : Nat) : (s.setReg r v).migrations = s.migrations := rfl
@[simp] theorem State.setReg_oldFrames (s : State) (r : Reg) (v : Nat) : (s.setReg r v).oldFrames = s.oldFrames := rfl
@[simp] theorem State.setReg_lostFrames (s : State) (r : Reg) (v : Nat) : (s.setReg r v).lostFrames = s.lostFrames := rfl
@[simp] theorem State.setReg_wantHbm (s : State) (r : Reg) (v : Nat) : (s.setReg r v).wantHbm = s.wantHbm := rfl
@[simp] theorem State.setReg_cxlPorts (s : State) (r : Reg) (v : Nat) : (s.setReg r v).cxlPorts = s.cxlPorts := rfl
@[simp] theorem State.setReg_hbmReady (s : State) (r : Reg) (v : Nat) : (s.setReg r v).hbmReady = s.hbmReady := rfl
@[simp] theorem State.setReg_pendingWrites (s : State) (r : Reg) (v : Nat) : (s.setReg r v).pendingWrites = s.pendingWrites := rfl
@[simp] theorem State.setReg_badWords (s : State) (r : Reg) (v : Nat) : (s.setReg r v).badWords = s.badWords := rfl
@[simp] theorem State.setReg_queues (s : State) (r : Reg) (v : Nat) : (s.setReg r v).queues = s.queues := rfl
@[simp] theorem State.setReg_served (s : State) (r : Reg) (v : Nat) : (s.setReg r v).served = s.served := rfl
@[simp] theorem State.setReg_serial (s : State) (r : Reg) (v : Nat) : (s.setReg r v).serial = s.serial := rfl
@[simp] theorem State.setReg_step (s : State) (r : Reg) (v : Nat) : (s.setReg r v).step = s.step := rfl
@[simp] theorem State.setReg_attempts (s : State) (r : Reg) (v : Nat) : (s.setReg r v).attempts = s.attempts := rfl
@[simp] theorem State.setReg_recNext (s : State) (r : Reg) (v : Nat) : (s.setReg r v).recNext = s.recNext := rfl
@[simp] theorem State.setReg_logNext (s : State) (r : Reg) (v : Nat) : (s.setReg r v).logNext = s.logNext := rfl
@[simp] theorem State.setReg_sessions (s : State) (r : Reg) (v : Nat) : (s.setReg r v).sessions = s.sessions := rfl
@[simp] theorem State.setReg_mgmtLink (s : State) (r : Reg) (v : Nat) : (s.setReg r v).mgmtLink = s.mgmtLink := rfl
@[simp] theorem State.setReg_counters (s : State) (r : Reg) (v : Nat) : (s.setReg r v).counters = s.counters := rfl
@[simp] theorem State.setReg_injections (s : State) (r : Reg) (v : Nat) : (s.setReg r v).injections = s.injections := rfl
@[simp] theorem State.setReg_teleSeq (s : State) (r : Reg) (v : Nat) : (s.setReg r v).teleSeq = s.teleSeq := rfl
@[simp] theorem State.setReg_teleLost (s : State) (r : Reg) (v : Nat) : (s.setReg r v).teleLost = s.teleLost := rfl
@[simp] theorem State.setReg_slots (s : State) (r : Reg) (v : Nat) : (s.setReg r v).slots = s.slots := rfl
@[simp] theorem State.setReg_acts (s : State) (r : Reg) (v : Nat) : (s.setReg r v).acts = s.acts := rfl
@[simp] theorem State.setReg_image (s : State) (r : Reg) (v : Nat) : (s.setReg r v).image = s.image := rfl
@[simp] theorem State.setReg_activated (s : State) (r : Reg) (v : Nat) : (s.setReg r v).activated = s.activated := rfl
@[simp] theorem State.setReg_cores (s : State) (r : Reg) (v : Nat) : (s.setReg r v).cores = s.cores := rfl
@[simp] theorem State.setReg_routes (s : State) (r : Reg) (v : Nat) : (s.setReg r v).routes = s.routes := rfl
@[simp] theorem State.setReg_live (s : State) (r : Reg) (v : Nat) : (s.setReg r v).live = s.live := rfl
@[simp] theorem State.setReg_nextTok (s : State) (r : Reg) (v : Nat) : (s.setReg r v).nextTok = s.nextTok := rfl
@[simp] theorem State.setReg_sends (s : State) (r : Reg) (v : Nat) : (s.setReg r v).sends = s.sends := rfl
@[simp] theorem State.setReg_seg (s : State) (r : Reg) (v : Nat) : (s.setReg r v).seg = s.seg := rfl
@[simp] theorem State.setReg_segDead (s : State) (r : Reg) (v : Nat) : (s.setReg r v).segDead = s.segDead := rfl
@[simp] theorem State.setReg_ckpt (s : State) (r : Reg) (v : Nat) : (s.setReg r v).ckpt = s.ckpt := rfl
@[simp] theorem State.setReg_selftest (s : State) (r : Reg) (v : Nat) : (s.setReg r v).selftest = s.selftest := rfl
@[simp] theorem State.setReg_spareNext (s : State) (r : Reg) (v : Nat) : (s.setReg r v).spareNext = s.spareNext := rfl
@[simp] theorem State.setReg_lports (s : State) (r : Reg) (v : Nat) : (s.setReg r v).lports = s.lports := rfl
@[simp] theorem State.setReg_inbox (s : State) (r : Reg) (v : Nat) : (s.setReg r v).inbox = s.inbox := rfl
@[simp] theorem State.setReg_requests (s : State) (r : Reg) (v : Nat) : (s.setReg r v).requests = s.requests := rfl
@[simp] theorem State.setReg_nextReq (s : State) (r : Reg) (v : Nat) : (s.setReg r v).nextReq = s.nextReq := rfl
@[simp] theorem State.setReg_waitReads (s : State) (r : Reg) (v : Nat) : (s.setReg r v).waitReads = s.waitReads := rfl
@[simp] theorem State.setReg_colls (s : State) (r : Reg) (v : Nat) : (s.setReg r v).colls = s.colls := rfl
@[simp] theorem State.setReg_early (s : State) (r : Reg) (v : Nat) : (s.setReg r v).early = s.early := rfl
@[simp] theorem State.setReg_kept (s : State) (r : Reg) (v : Nat) : (s.setReg r v).kept = s.kept := rfl
@[simp] theorem State.setReg_adopted (s : State) (r : Reg) (v : Nat) : (s.setReg r v).adopted = s.adopted := rfl
@[simp] theorem State.setReg_adopting (s : State) (r : Reg) (v : Nat) : (s.setReg r v).adopting = s.adopting := rfl
@[simp] theorem State.setReg_snapArm (s : State) (r : Reg) (v : Nat) : (s.setReg r v).snapArm = s.snapArm := rfl
@[simp] theorem State.setReg_snapNext (s : State) (r : Reg) (v : Nat) : (s.setReg r v).snapNext = s.snapNext := rfl
@[simp] theorem State.setReg_gens (s : State) (r : Reg) (v : Nat) : (s.setReg r v).gens = s.gens := rfl
@[simp] theorem State.setReg_snapDisarm (s : State) (r : Reg) (v : Nat) : (s.setReg r v).snapDisarm = s.snapDisarm := rfl
@[simp] theorem State.setReg_restore (s : State) (r : Reg) (v : Nat) : (s.setReg r v).restore = s.restore := rfl
@[simp] theorem State.setReg_refclk (s : State) (r : Reg) (v : Nat) : (s.setReg r v).refclk = s.refclk := rfl
@[simp] theorem State.setReg_mainOk (s : State) (r : Reg) (v : Nat) : (s.setReg r v).mainOk = s.mainOk := rfl
@[simp] theorem State.setReg_auxOk (s : State) (r : Reg) (v : Nat) : (s.setReg r v).auxOk = s.auxOk := rfl
@[simp] theorem State.setReg_cxlDone (s : State) (r : Reg) (v : Nat) : (s.setReg r v).cxlDone = s.cxlDone := rfl
@[simp] theorem State.setReg_railMv (s : State) (r : Reg) (v : Nat) : (s.setReg r v).railMv = s.railMv := rfl
@[simp] theorem State.setReg_envUnheld (s : State) (r : Reg) (v : Nat) : (s.setReg r v).envUnheld = s.envUnheld := rfl
@[simp] theorem State.setReg_droop (s : State) (r : Reg) (v : Nat) : (s.setReg r v).droop = s.droop := rfl
@[simp] theorem State.setReg_taps (s : State) (r : Reg) (v : Nat) : (s.setReg r v).taps = s.taps := rfl
@[simp] theorem State.setReg_calDraw (s : State) (r : Reg) (v : Nat) : (s.setReg r v).calDraw = s.calDraw := rfl
@[simp] theorem State.setReg_nonceDraw (s : State) (r : Reg) (v : Nat) : (s.setReg r v).nonceDraw = s.nonceDraw := rfl
@[simp] theorem State.setReg_dieTemp (s : State) (r : Reg) (v : Nat) : (s.setReg r v).dieTemp = s.dieTemp := rfl
@[simp] theorem State.setReg_stackTemp (s : State) (r : Reg) (v : Nat) : (s.setReg r v).stackTemp = s.stackTemp := rfl
@[simp] theorem State.setReg_scrubRow (s : State) (r : Reg) (v : Nat) : (s.setReg r v).scrubRow = s.scrubRow := rfl
@[simp] theorem State.setReg_timer (s : State) (r : Reg) (v : Nat) : (s.setReg r v).timer = s.timer := rfl
@[simp] theorem State.setReg_health (s : State) (r : Reg) (v : Nat) : (s.setReg r v).health = s.health := rfl
@[simp] theorem State.setReg_healthDone (s : State) (r : Reg) (v : Nat) : (s.setReg r v).healthDone = s.healthDone := rfl
@[simp] theorem State.setReg_sampleDone (s : State) (r : Reg) (v : Nat) : (s.setReg r v).sampleDone = s.sampleDone := rfl
@[simp] theorem State.setReg_fuses (s : State) (r : Reg) (v : Nat) : (s.setReg r v).fuses = s.fuses := rfl
@[simp] theorem State.setReg_flash (s : State) (r : Reg) (v : Nat) : (s.setReg r v).flash = s.flash := rfl
@[simp] theorem State.setReg_actLog (s : State) (r : Reg) (v : Nat) : (s.setReg r v).actLog = s.actLog := rfl
@[simp] theorem State.setReg_spdm (s : State) (r : Reg) (v : Nat) : (s.setReg r v).spdm = s.spdm := rfl
@[simp] theorem State.setReg_i3c (s : State) (r : Reg) (v : Nat) : (s.setReg r v).i3c = s.i3c := rfl
@[simp] theorem State.setReg_slotId (s : State) (r : Reg) (v : Nat) : (s.setReg r v).slotId = s.slotId := rfl
@[simp] theorem State.setReg_thermLow (s : State) (r : Reg) (v : Nat) : (s.setReg r v).thermLow = s.thermLow := rfl
@[simp] theorem State.setReg_perstLow (s : State) (r : Reg) (v : Nat) : (s.setReg r v).perstLow = s.perstLow := rfl
@[simp] theorem State.setReg_genKeys (s : State) (r : Reg) (v : Nat) : (s.setReg r v).genKeys = s.genKeys := rfl

@[simp] theorem State.setFld_grade (s : State) (f : RegField) (v : Nat) : (s.setFld f v).grade = s.grade := rfl
@[simp] theorem State.setFld_pending (s : State) (f : RegField) (v : Nat) : (s.setFld f v).pending = s.pending := rfl
@[simp] theorem State.setFld_draws (s : State) (f : RegField) (v : Nat) : (s.setFld f v).draws = s.draws := rfl
@[simp] theorem State.setFld_paceDraws (s : State) (f : RegField) (v : Nat) : (s.setFld f v).paceDraws = s.paceDraws := rfl
@[simp] theorem State.setFld_wire (s : State) (f : RegField) (v : Nat) : (s.setFld f v).wire = s.wire := rfl
@[simp] theorem State.setFld_capsValid (s : State) (f : RegField) (v : Nat) : (s.setFld f v).capsValid = s.capsValid := rfl
@[simp] theorem State.setFld_rowFailed (s : State) (f : RegField) (v : Nat) : (s.setFld f v).rowFailed = s.rowFailed := rfl
@[simp] theorem State.setFld_sel (s : State) (f : RegField) (v : Nat) : (s.setFld f v).sel = s.sel := rfl
@[simp] theorem State.setFld_partnerHeld (s : State) (f : RegField) (v : Nat) : (s.setFld f v).partnerHeld = s.partnerHeld := rfl
@[simp] theorem State.setFld_mem (s : State) (f : RegField) (v : Nat) : (s.setFld f v).mem = s.mem := rfl
@[simp] theorem State.setFld_carts (s : State) (f : RegField) (v : Nat) : (s.setFld f v).carts = s.carts := rfl
@[simp] theorem State.setFld_ver (s : State) (f : RegField) (v : Nat) : (s.setFld f v).ver = s.ver := rfl
@[simp] theorem State.setFld_walk (s : State) (f : RegField) (v : Nat) : (s.setFld f v).walk = s.walk := rfl
@[simp] theorem State.setFld_migrations (s : State) (f : RegField) (v : Nat) : (s.setFld f v).migrations = s.migrations := rfl
@[simp] theorem State.setFld_oldFrames (s : State) (f : RegField) (v : Nat) : (s.setFld f v).oldFrames = s.oldFrames := rfl
@[simp] theorem State.setFld_lostFrames (s : State) (f : RegField) (v : Nat) : (s.setFld f v).lostFrames = s.lostFrames := rfl
@[simp] theorem State.setFld_wantHbm (s : State) (f : RegField) (v : Nat) : (s.setFld f v).wantHbm = s.wantHbm := rfl
@[simp] theorem State.setFld_cxlPorts (s : State) (f : RegField) (v : Nat) : (s.setFld f v).cxlPorts = s.cxlPorts := rfl
@[simp] theorem State.setFld_hbmReady (s : State) (f : RegField) (v : Nat) : (s.setFld f v).hbmReady = s.hbmReady := rfl
@[simp] theorem State.setFld_pendingWrites (s : State) (f : RegField) (v : Nat) : (s.setFld f v).pendingWrites = s.pendingWrites := rfl
@[simp] theorem State.setFld_badWords (s : State) (f : RegField) (v : Nat) : (s.setFld f v).badWords = s.badWords := rfl
@[simp] theorem State.setFld_queues (s : State) (f : RegField) (v : Nat) : (s.setFld f v).queues = s.queues := rfl
@[simp] theorem State.setFld_served (s : State) (f : RegField) (v : Nat) : (s.setFld f v).served = s.served := rfl
@[simp] theorem State.setFld_serial (s : State) (f : RegField) (v : Nat) : (s.setFld f v).serial = s.serial := rfl
@[simp] theorem State.setFld_step (s : State) (f : RegField) (v : Nat) : (s.setFld f v).step = s.step := rfl
@[simp] theorem State.setFld_attempts (s : State) (f : RegField) (v : Nat) : (s.setFld f v).attempts = s.attempts := rfl
@[simp] theorem State.setFld_recNext (s : State) (f : RegField) (v : Nat) : (s.setFld f v).recNext = s.recNext := rfl
@[simp] theorem State.setFld_logNext (s : State) (f : RegField) (v : Nat) : (s.setFld f v).logNext = s.logNext := rfl
@[simp] theorem State.setFld_sessions (s : State) (f : RegField) (v : Nat) : (s.setFld f v).sessions = s.sessions := rfl
@[simp] theorem State.setFld_mgmtLink (s : State) (f : RegField) (v : Nat) : (s.setFld f v).mgmtLink = s.mgmtLink := rfl
@[simp] theorem State.setFld_counters (s : State) (f : RegField) (v : Nat) : (s.setFld f v).counters = s.counters := rfl
@[simp] theorem State.setFld_injections (s : State) (f : RegField) (v : Nat) : (s.setFld f v).injections = s.injections := rfl
@[simp] theorem State.setFld_teleSeq (s : State) (f : RegField) (v : Nat) : (s.setFld f v).teleSeq = s.teleSeq := rfl
@[simp] theorem State.setFld_teleLost (s : State) (f : RegField) (v : Nat) : (s.setFld f v).teleLost = s.teleLost := rfl
@[simp] theorem State.setFld_slots (s : State) (f : RegField) (v : Nat) : (s.setFld f v).slots = s.slots := rfl
@[simp] theorem State.setFld_acts (s : State) (f : RegField) (v : Nat) : (s.setFld f v).acts = s.acts := rfl
@[simp] theorem State.setFld_image (s : State) (f : RegField) (v : Nat) : (s.setFld f v).image = s.image := rfl
@[simp] theorem State.setFld_activated (s : State) (f : RegField) (v : Nat) : (s.setFld f v).activated = s.activated := rfl
@[simp] theorem State.setFld_cores (s : State) (f : RegField) (v : Nat) : (s.setFld f v).cores = s.cores := rfl
@[simp] theorem State.setFld_routes (s : State) (f : RegField) (v : Nat) : (s.setFld f v).routes = s.routes := rfl
@[simp] theorem State.setFld_live (s : State) (f : RegField) (v : Nat) : (s.setFld f v).live = s.live := rfl
@[simp] theorem State.setFld_nextTok (s : State) (f : RegField) (v : Nat) : (s.setFld f v).nextTok = s.nextTok := rfl
@[simp] theorem State.setFld_sends (s : State) (f : RegField) (v : Nat) : (s.setFld f v).sends = s.sends := rfl
@[simp] theorem State.setFld_seg (s : State) (f : RegField) (v : Nat) : (s.setFld f v).seg = s.seg := rfl
@[simp] theorem State.setFld_segDead (s : State) (f : RegField) (v : Nat) : (s.setFld f v).segDead = s.segDead := rfl
@[simp] theorem State.setFld_ckpt (s : State) (f : RegField) (v : Nat) : (s.setFld f v).ckpt = s.ckpt := rfl
@[simp] theorem State.setFld_selftest (s : State) (f : RegField) (v : Nat) : (s.setFld f v).selftest = s.selftest := rfl
@[simp] theorem State.setFld_spareNext (s : State) (f : RegField) (v : Nat) : (s.setFld f v).spareNext = s.spareNext := rfl
@[simp] theorem State.setFld_lports (s : State) (f : RegField) (v : Nat) : (s.setFld f v).lports = s.lports := rfl
@[simp] theorem State.setFld_inbox (s : State) (f : RegField) (v : Nat) : (s.setFld f v).inbox = s.inbox := rfl
@[simp] theorem State.setFld_requests (s : State) (f : RegField) (v : Nat) : (s.setFld f v).requests = s.requests := rfl
@[simp] theorem State.setFld_nextReq (s : State) (f : RegField) (v : Nat) : (s.setFld f v).nextReq = s.nextReq := rfl
@[simp] theorem State.setFld_waitReads (s : State) (f : RegField) (v : Nat) : (s.setFld f v).waitReads = s.waitReads := rfl
@[simp] theorem State.setFld_colls (s : State) (f : RegField) (v : Nat) : (s.setFld f v).colls = s.colls := rfl
@[simp] theorem State.setFld_early (s : State) (f : RegField) (v : Nat) : (s.setFld f v).early = s.early := rfl
@[simp] theorem State.setFld_kept (s : State) (f : RegField) (v : Nat) : (s.setFld f v).kept = s.kept := rfl
@[simp] theorem State.setFld_adopted (s : State) (f : RegField) (v : Nat) : (s.setFld f v).adopted = s.adopted := rfl
@[simp] theorem State.setFld_adopting (s : State) (f : RegField) (v : Nat) : (s.setFld f v).adopting = s.adopting := rfl
@[simp] theorem State.setFld_snapArm (s : State) (f : RegField) (v : Nat) : (s.setFld f v).snapArm = s.snapArm := rfl
@[simp] theorem State.setFld_snapNext (s : State) (f : RegField) (v : Nat) : (s.setFld f v).snapNext = s.snapNext := rfl
@[simp] theorem State.setFld_gens (s : State) (f : RegField) (v : Nat) : (s.setFld f v).gens = s.gens := rfl
@[simp] theorem State.setFld_snapDisarm (s : State) (f : RegField) (v : Nat) : (s.setFld f v).snapDisarm = s.snapDisarm := rfl
@[simp] theorem State.setFld_restore (s : State) (f : RegField) (v : Nat) : (s.setFld f v).restore = s.restore := rfl
@[simp] theorem State.setFld_refclk (s : State) (f : RegField) (v : Nat) : (s.setFld f v).refclk = s.refclk := rfl
@[simp] theorem State.setFld_mainOk (s : State) (f : RegField) (v : Nat) : (s.setFld f v).mainOk = s.mainOk := rfl
@[simp] theorem State.setFld_auxOk (s : State) (f : RegField) (v : Nat) : (s.setFld f v).auxOk = s.auxOk := rfl
@[simp] theorem State.setFld_cxlDone (s : State) (f : RegField) (v : Nat) : (s.setFld f v).cxlDone = s.cxlDone := rfl
@[simp] theorem State.setFld_railMv (s : State) (f : RegField) (v : Nat) : (s.setFld f v).railMv = s.railMv := rfl
@[simp] theorem State.setFld_envUnheld (s : State) (f : RegField) (v : Nat) : (s.setFld f v).envUnheld = s.envUnheld := rfl
@[simp] theorem State.setFld_droop (s : State) (f : RegField) (v : Nat) : (s.setFld f v).droop = s.droop := rfl
@[simp] theorem State.setFld_taps (s : State) (f : RegField) (v : Nat) : (s.setFld f v).taps = s.taps := rfl
@[simp] theorem State.setFld_calDraw (s : State) (f : RegField) (v : Nat) : (s.setFld f v).calDraw = s.calDraw := rfl
@[simp] theorem State.setFld_nonceDraw (s : State) (f : RegField) (v : Nat) : (s.setFld f v).nonceDraw = s.nonceDraw := rfl
@[simp] theorem State.setFld_dieTemp (s : State) (f : RegField) (v : Nat) : (s.setFld f v).dieTemp = s.dieTemp := rfl
@[simp] theorem State.setFld_stackTemp (s : State) (f : RegField) (v : Nat) : (s.setFld f v).stackTemp = s.stackTemp := rfl
@[simp] theorem State.setFld_scrubRow (s : State) (f : RegField) (v : Nat) : (s.setFld f v).scrubRow = s.scrubRow := rfl
@[simp] theorem State.setFld_timer (s : State) (f : RegField) (v : Nat) : (s.setFld f v).timer = s.timer := rfl
@[simp] theorem State.setFld_health (s : State) (f : RegField) (v : Nat) : (s.setFld f v).health = s.health := rfl
@[simp] theorem State.setFld_healthDone (s : State) (f : RegField) (v : Nat) : (s.setFld f v).healthDone = s.healthDone := rfl
@[simp] theorem State.setFld_sampleDone (s : State) (f : RegField) (v : Nat) : (s.setFld f v).sampleDone = s.sampleDone := rfl
@[simp] theorem State.setFld_fuses (s : State) (f : RegField) (v : Nat) : (s.setFld f v).fuses = s.fuses := rfl
@[simp] theorem State.setFld_flash (s : State) (f : RegField) (v : Nat) : (s.setFld f v).flash = s.flash := rfl
@[simp] theorem State.setFld_actLog (s : State) (f : RegField) (v : Nat) : (s.setFld f v).actLog = s.actLog := rfl
@[simp] theorem State.setFld_spdm (s : State) (f : RegField) (v : Nat) : (s.setFld f v).spdm = s.spdm := rfl
@[simp] theorem State.setFld_i3c (s : State) (f : RegField) (v : Nat) : (s.setFld f v).i3c = s.i3c := rfl
@[simp] theorem State.setFld_slotId (s : State) (f : RegField) (v : Nat) : (s.setFld f v).slotId = s.slotId := rfl
@[simp] theorem State.setFld_thermLow (s : State) (f : RegField) (v : Nat) : (s.setFld f v).thermLow = s.thermLow := rfl
@[simp] theorem State.setFld_perstLow (s : State) (f : RegField) (v : Nat) : (s.setFld f v).perstLow = s.perstLow := rfl
@[simp] theorem State.setFld_genKeys (s : State) (f : RegField) (v : Nat) : (s.setFld f v).genKeys = s.genKeys := rfl

@[simp] theorem State.setRawByte_grade (s : State) (p : Nat) (b : Byte) : (s.setRawByte p b).grade = s.grade := rfl
@[simp] theorem State.setRawByte_pending (s : State) (p : Nat) (b : Byte) : (s.setRawByte p b).pending = s.pending := rfl
@[simp] theorem State.setRawByte_draws (s : State) (p : Nat) (b : Byte) : (s.setRawByte p b).draws = s.draws := rfl
@[simp] theorem State.setRawByte_paceDraws (s : State) (p : Nat) (b : Byte) : (s.setRawByte p b).paceDraws = s.paceDraws := rfl
@[simp] theorem State.setRawByte_wire (s : State) (p : Nat) (b : Byte) : (s.setRawByte p b).wire = s.wire := rfl
@[simp] theorem State.setRawByte_regs (s : State) (p : Nat) (b : Byte) : (s.setRawByte p b).regs = s.regs := rfl
@[simp] theorem State.setRawByte_capsValid (s : State) (p : Nat) (b : Byte) : (s.setRawByte p b).capsValid = s.capsValid := rfl
@[simp] theorem State.setRawByte_rowFailed (s : State) (p : Nat) (b : Byte) : (s.setRawByte p b).rowFailed = s.rowFailed := rfl
@[simp] theorem State.setRawByte_sel (s : State) (p : Nat) (b : Byte) : (s.setRawByte p b).sel = s.sel := rfl
@[simp] theorem State.setRawByte_partnerHeld (s : State) (p : Nat) (b : Byte) : (s.setRawByte p b).partnerHeld = s.partnerHeld := rfl
@[simp] theorem State.setRawByte_carts (s : State) (p : Nat) (b : Byte) : (s.setRawByte p b).carts = s.carts := rfl
@[simp] theorem State.setRawByte_ver (s : State) (p : Nat) (b : Byte) : (s.setRawByte p b).ver = s.ver := rfl
@[simp] theorem State.setRawByte_walk (s : State) (p : Nat) (b : Byte) : (s.setRawByte p b).walk = s.walk := rfl
@[simp] theorem State.setRawByte_migrations (s : State) (p : Nat) (b : Byte) : (s.setRawByte p b).migrations = s.migrations := rfl
@[simp] theorem State.setRawByte_oldFrames (s : State) (p : Nat) (b : Byte) : (s.setRawByte p b).oldFrames = s.oldFrames := rfl
@[simp] theorem State.setRawByte_lostFrames (s : State) (p : Nat) (b : Byte) : (s.setRawByte p b).lostFrames = s.lostFrames := rfl
@[simp] theorem State.setRawByte_wantHbm (s : State) (p : Nat) (b : Byte) : (s.setRawByte p b).wantHbm = s.wantHbm := rfl
@[simp] theorem State.setRawByte_cxlPorts (s : State) (p : Nat) (b : Byte) : (s.setRawByte p b).cxlPorts = s.cxlPorts := rfl
@[simp] theorem State.setRawByte_hbmReady (s : State) (p : Nat) (b : Byte) : (s.setRawByte p b).hbmReady = s.hbmReady := rfl
@[simp] theorem State.setRawByte_pendingWrites (s : State) (p : Nat) (b : Byte) : (s.setRawByte p b).pendingWrites = s.pendingWrites := rfl
@[simp] theorem State.setRawByte_badWords (s : State) (p : Nat) (b : Byte) : (s.setRawByte p b).badWords = s.badWords := rfl
@[simp] theorem State.setRawByte_queues (s : State) (p : Nat) (b : Byte) : (s.setRawByte p b).queues = s.queues := rfl
@[simp] theorem State.setRawByte_served (s : State) (p : Nat) (b : Byte) : (s.setRawByte p b).served = s.served := rfl
@[simp] theorem State.setRawByte_serial (s : State) (p : Nat) (b : Byte) : (s.setRawByte p b).serial = s.serial := rfl
@[simp] theorem State.setRawByte_step (s : State) (p : Nat) (b : Byte) : (s.setRawByte p b).step = s.step := rfl
@[simp] theorem State.setRawByte_attempts (s : State) (p : Nat) (b : Byte) : (s.setRawByte p b).attempts = s.attempts := rfl
@[simp] theorem State.setRawByte_recNext (s : State) (p : Nat) (b : Byte) : (s.setRawByte p b).recNext = s.recNext := rfl
@[simp] theorem State.setRawByte_logNext (s : State) (p : Nat) (b : Byte) : (s.setRawByte p b).logNext = s.logNext := rfl
@[simp] theorem State.setRawByte_sessions (s : State) (p : Nat) (b : Byte) : (s.setRawByte p b).sessions = s.sessions := rfl
@[simp] theorem State.setRawByte_mgmtLink (s : State) (p : Nat) (b : Byte) : (s.setRawByte p b).mgmtLink = s.mgmtLink := rfl
@[simp] theorem State.setRawByte_counters (s : State) (p : Nat) (b : Byte) : (s.setRawByte p b).counters = s.counters := rfl
@[simp] theorem State.setRawByte_injections (s : State) (p : Nat) (b : Byte) : (s.setRawByte p b).injections = s.injections := rfl
@[simp] theorem State.setRawByte_teleSeq (s : State) (p : Nat) (b : Byte) : (s.setRawByte p b).teleSeq = s.teleSeq := rfl
@[simp] theorem State.setRawByte_teleLost (s : State) (p : Nat) (b : Byte) : (s.setRawByte p b).teleLost = s.teleLost := rfl
@[simp] theorem State.setRawByte_slots (s : State) (p : Nat) (b : Byte) : (s.setRawByte p b).slots = s.slots := rfl
@[simp] theorem State.setRawByte_acts (s : State) (p : Nat) (b : Byte) : (s.setRawByte p b).acts = s.acts := rfl
@[simp] theorem State.setRawByte_image (s : State) (p : Nat) (b : Byte) : (s.setRawByte p b).image = s.image := rfl
@[simp] theorem State.setRawByte_activated (s : State) (p : Nat) (b : Byte) : (s.setRawByte p b).activated = s.activated := rfl
@[simp] theorem State.setRawByte_cores (s : State) (p : Nat) (b : Byte) : (s.setRawByte p b).cores = s.cores := rfl
@[simp] theorem State.setRawByte_routes (s : State) (p : Nat) (b : Byte) : (s.setRawByte p b).routes = s.routes := rfl
@[simp] theorem State.setRawByte_live (s : State) (p : Nat) (b : Byte) : (s.setRawByte p b).live = s.live := rfl
@[simp] theorem State.setRawByte_nextTok (s : State) (p : Nat) (b : Byte) : (s.setRawByte p b).nextTok = s.nextTok := rfl
@[simp] theorem State.setRawByte_sends (s : State) (p : Nat) (b : Byte) : (s.setRawByte p b).sends = s.sends := rfl
@[simp] theorem State.setRawByte_seg (s : State) (p : Nat) (b : Byte) : (s.setRawByte p b).seg = s.seg := rfl
@[simp] theorem State.setRawByte_segDead (s : State) (p : Nat) (b : Byte) : (s.setRawByte p b).segDead = s.segDead := rfl
@[simp] theorem State.setRawByte_ckpt (s : State) (p : Nat) (b : Byte) : (s.setRawByte p b).ckpt = s.ckpt := rfl
@[simp] theorem State.setRawByte_selftest (s : State) (p : Nat) (b : Byte) : (s.setRawByte p b).selftest = s.selftest := rfl
@[simp] theorem State.setRawByte_spareNext (s : State) (p : Nat) (b : Byte) : (s.setRawByte p b).spareNext = s.spareNext := rfl
@[simp] theorem State.setRawByte_lports (s : State) (p : Nat) (b : Byte) : (s.setRawByte p b).lports = s.lports := rfl
@[simp] theorem State.setRawByte_inbox (s : State) (p : Nat) (b : Byte) : (s.setRawByte p b).inbox = s.inbox := rfl
@[simp] theorem State.setRawByte_requests (s : State) (p : Nat) (b : Byte) : (s.setRawByte p b).requests = s.requests := rfl
@[simp] theorem State.setRawByte_nextReq (s : State) (p : Nat) (b : Byte) : (s.setRawByte p b).nextReq = s.nextReq := rfl
@[simp] theorem State.setRawByte_waitReads (s : State) (p : Nat) (b : Byte) : (s.setRawByte p b).waitReads = s.waitReads := rfl
@[simp] theorem State.setRawByte_colls (s : State) (p : Nat) (b : Byte) : (s.setRawByte p b).colls = s.colls := rfl
@[simp] theorem State.setRawByte_early (s : State) (p : Nat) (b : Byte) : (s.setRawByte p b).early = s.early := rfl
@[simp] theorem State.setRawByte_kept (s : State) (p : Nat) (b : Byte) : (s.setRawByte p b).kept = s.kept := rfl
@[simp] theorem State.setRawByte_adopted (s : State) (p : Nat) (b : Byte) : (s.setRawByte p b).adopted = s.adopted := rfl
@[simp] theorem State.setRawByte_adopting (s : State) (p : Nat) (b : Byte) : (s.setRawByte p b).adopting = s.adopting := rfl
@[simp] theorem State.setRawByte_snapArm (s : State) (p : Nat) (b : Byte) : (s.setRawByte p b).snapArm = s.snapArm := rfl
@[simp] theorem State.setRawByte_snapNext (s : State) (p : Nat) (b : Byte) : (s.setRawByte p b).snapNext = s.snapNext := rfl
@[simp] theorem State.setRawByte_gens (s : State) (p : Nat) (b : Byte) : (s.setRawByte p b).gens = s.gens := rfl
@[simp] theorem State.setRawByte_snapDisarm (s : State) (p : Nat) (b : Byte) : (s.setRawByte p b).snapDisarm = s.snapDisarm := rfl
@[simp] theorem State.setRawByte_restore (s : State) (p : Nat) (b : Byte) : (s.setRawByte p b).restore = s.restore := rfl
@[simp] theorem State.setRawByte_refclk (s : State) (p : Nat) (b : Byte) : (s.setRawByte p b).refclk = s.refclk := rfl
@[simp] theorem State.setRawByte_mainOk (s : State) (p : Nat) (b : Byte) : (s.setRawByte p b).mainOk = s.mainOk := rfl
@[simp] theorem State.setRawByte_auxOk (s : State) (p : Nat) (b : Byte) : (s.setRawByte p b).auxOk = s.auxOk := rfl
@[simp] theorem State.setRawByte_cxlDone (s : State) (p : Nat) (b : Byte) : (s.setRawByte p b).cxlDone = s.cxlDone := rfl
@[simp] theorem State.setRawByte_railMv (s : State) (p : Nat) (b : Byte) : (s.setRawByte p b).railMv = s.railMv := rfl
@[simp] theorem State.setRawByte_envUnheld (s : State) (p : Nat) (b : Byte) : (s.setRawByte p b).envUnheld = s.envUnheld := rfl
@[simp] theorem State.setRawByte_droop (s : State) (p : Nat) (b : Byte) : (s.setRawByte p b).droop = s.droop := rfl
@[simp] theorem State.setRawByte_taps (s : State) (p : Nat) (b : Byte) : (s.setRawByte p b).taps = s.taps := rfl
@[simp] theorem State.setRawByte_calDraw (s : State) (p : Nat) (b : Byte) : (s.setRawByte p b).calDraw = s.calDraw := rfl
@[simp] theorem State.setRawByte_nonceDraw (s : State) (p : Nat) (b : Byte) : (s.setRawByte p b).nonceDraw = s.nonceDraw := rfl
@[simp] theorem State.setRawByte_dieTemp (s : State) (p : Nat) (b : Byte) : (s.setRawByte p b).dieTemp = s.dieTemp := rfl
@[simp] theorem State.setRawByte_stackTemp (s : State) (p : Nat) (b : Byte) : (s.setRawByte p b).stackTemp = s.stackTemp := rfl
@[simp] theorem State.setRawByte_scrubRow (s : State) (p : Nat) (b : Byte) : (s.setRawByte p b).scrubRow = s.scrubRow := rfl
@[simp] theorem State.setRawByte_timer (s : State) (p : Nat) (b : Byte) : (s.setRawByte p b).timer = s.timer := rfl
@[simp] theorem State.setRawByte_health (s : State) (p : Nat) (b : Byte) : (s.setRawByte p b).health = s.health := rfl
@[simp] theorem State.setRawByte_healthDone (s : State) (p : Nat) (b : Byte) : (s.setRawByte p b).healthDone = s.healthDone := rfl
@[simp] theorem State.setRawByte_sampleDone (s : State) (p : Nat) (b : Byte) : (s.setRawByte p b).sampleDone = s.sampleDone := rfl
@[simp] theorem State.setRawByte_fuses (s : State) (p : Nat) (b : Byte) : (s.setRawByte p b).fuses = s.fuses := rfl
@[simp] theorem State.setRawByte_flash (s : State) (p : Nat) (b : Byte) : (s.setRawByte p b).flash = s.flash := rfl
@[simp] theorem State.setRawByte_actLog (s : State) (p : Nat) (b : Byte) : (s.setRawByte p b).actLog = s.actLog := rfl
@[simp] theorem State.setRawByte_spdm (s : State) (p : Nat) (b : Byte) : (s.setRawByte p b).spdm = s.spdm := rfl
@[simp] theorem State.setRawByte_i3c (s : State) (p : Nat) (b : Byte) : (s.setRawByte p b).i3c = s.i3c := rfl
@[simp] theorem State.setRawByte_slotId (s : State) (p : Nat) (b : Byte) : (s.setRawByte p b).slotId = s.slotId := rfl
@[simp] theorem State.setRawByte_thermLow (s : State) (p : Nat) (b : Byte) : (s.setRawByte p b).thermLow = s.thermLow := rfl
@[simp] theorem State.setRawByte_perstLow (s : State) (p : Nat) (b : Byte) : (s.setRawByte p b).perstLow = s.perstLow := rfl
@[simp] theorem State.setRawByte_genKeys (s : State) (p : Nat) (b : Byte) : (s.setRawByte p b).genKeys = s.genKeys := rfl

@[simp] theorem State.setRaw_grade (s : State) (p : Nat) (bs : Bytes) : (s.setRaw p bs).grade = s.grade := by rw [s.setRaw_eq]
@[simp] theorem State.setRaw_pending (s : State) (p : Nat) (bs : Bytes) : (s.setRaw p bs).pending = s.pending := by rw [s.setRaw_eq]
@[simp] theorem State.setRaw_draws (s : State) (p : Nat) (bs : Bytes) : (s.setRaw p bs).draws = s.draws := by rw [s.setRaw_eq]
@[simp] theorem State.setRaw_paceDraws (s : State) (p : Nat) (bs : Bytes) : (s.setRaw p bs).paceDraws = s.paceDraws := by rw [s.setRaw_eq]
@[simp] theorem State.setRaw_wire (s : State) (p : Nat) (bs : Bytes) : (s.setRaw p bs).wire = s.wire := by rw [s.setRaw_eq]
@[simp] theorem State.setRaw_regs (s : State) (p : Nat) (bs : Bytes) : (s.setRaw p bs).regs = s.regs := by rw [s.setRaw_eq]
@[simp] theorem State.setRaw_capsValid (s : State) (p : Nat) (bs : Bytes) : (s.setRaw p bs).capsValid = s.capsValid := by rw [s.setRaw_eq]
@[simp] theorem State.setRaw_rowFailed (s : State) (p : Nat) (bs : Bytes) : (s.setRaw p bs).rowFailed = s.rowFailed := by rw [s.setRaw_eq]
@[simp] theorem State.setRaw_sel (s : State) (p : Nat) (bs : Bytes) : (s.setRaw p bs).sel = s.sel := by rw [s.setRaw_eq]
@[simp] theorem State.setRaw_partnerHeld (s : State) (p : Nat) (bs : Bytes) : (s.setRaw p bs).partnerHeld = s.partnerHeld := by rw [s.setRaw_eq]
@[simp] theorem State.setRaw_carts (s : State) (p : Nat) (bs : Bytes) : (s.setRaw p bs).carts = s.carts := by rw [s.setRaw_eq]
@[simp] theorem State.setRaw_ver (s : State) (p : Nat) (bs : Bytes) : (s.setRaw p bs).ver = s.ver := by rw [s.setRaw_eq]
@[simp] theorem State.setRaw_walk (s : State) (p : Nat) (bs : Bytes) : (s.setRaw p bs).walk = s.walk := by rw [s.setRaw_eq]
@[simp] theorem State.setRaw_migrations (s : State) (p : Nat) (bs : Bytes) : (s.setRaw p bs).migrations = s.migrations := by rw [s.setRaw_eq]
@[simp] theorem State.setRaw_oldFrames (s : State) (p : Nat) (bs : Bytes) : (s.setRaw p bs).oldFrames = s.oldFrames := by rw [s.setRaw_eq]
@[simp] theorem State.setRaw_lostFrames (s : State) (p : Nat) (bs : Bytes) : (s.setRaw p bs).lostFrames = s.lostFrames := by rw [s.setRaw_eq]
@[simp] theorem State.setRaw_wantHbm (s : State) (p : Nat) (bs : Bytes) : (s.setRaw p bs).wantHbm = s.wantHbm := by rw [s.setRaw_eq]
@[simp] theorem State.setRaw_cxlPorts (s : State) (p : Nat) (bs : Bytes) : (s.setRaw p bs).cxlPorts = s.cxlPorts := by rw [s.setRaw_eq]
@[simp] theorem State.setRaw_hbmReady (s : State) (p : Nat) (bs : Bytes) : (s.setRaw p bs).hbmReady = s.hbmReady := by rw [s.setRaw_eq]
@[simp] theorem State.setRaw_pendingWrites (s : State) (p : Nat) (bs : Bytes) : (s.setRaw p bs).pendingWrites = s.pendingWrites := by rw [s.setRaw_eq]
@[simp] theorem State.setRaw_badWords (s : State) (p : Nat) (bs : Bytes) : (s.setRaw p bs).badWords = s.badWords := by rw [s.setRaw_eq]
@[simp] theorem State.setRaw_queues (s : State) (p : Nat) (bs : Bytes) : (s.setRaw p bs).queues = s.queues := by rw [s.setRaw_eq]
@[simp] theorem State.setRaw_served (s : State) (p : Nat) (bs : Bytes) : (s.setRaw p bs).served = s.served := by rw [s.setRaw_eq]
@[simp] theorem State.setRaw_serial (s : State) (p : Nat) (bs : Bytes) : (s.setRaw p bs).serial = s.serial := by rw [s.setRaw_eq]
@[simp] theorem State.setRaw_step (s : State) (p : Nat) (bs : Bytes) : (s.setRaw p bs).step = s.step := by rw [s.setRaw_eq]
@[simp] theorem State.setRaw_attempts (s : State) (p : Nat) (bs : Bytes) : (s.setRaw p bs).attempts = s.attempts := by rw [s.setRaw_eq]
@[simp] theorem State.setRaw_recNext (s : State) (p : Nat) (bs : Bytes) : (s.setRaw p bs).recNext = s.recNext := by rw [s.setRaw_eq]
@[simp] theorem State.setRaw_logNext (s : State) (p : Nat) (bs : Bytes) : (s.setRaw p bs).logNext = s.logNext := by rw [s.setRaw_eq]
@[simp] theorem State.setRaw_sessions (s : State) (p : Nat) (bs : Bytes) : (s.setRaw p bs).sessions = s.sessions := by rw [s.setRaw_eq]
@[simp] theorem State.setRaw_mgmtLink (s : State) (p : Nat) (bs : Bytes) : (s.setRaw p bs).mgmtLink = s.mgmtLink := by rw [s.setRaw_eq]
@[simp] theorem State.setRaw_counters (s : State) (p : Nat) (bs : Bytes) : (s.setRaw p bs).counters = s.counters := by rw [s.setRaw_eq]
@[simp] theorem State.setRaw_injections (s : State) (p : Nat) (bs : Bytes) : (s.setRaw p bs).injections = s.injections := by rw [s.setRaw_eq]
@[simp] theorem State.setRaw_teleSeq (s : State) (p : Nat) (bs : Bytes) : (s.setRaw p bs).teleSeq = s.teleSeq := by rw [s.setRaw_eq]
@[simp] theorem State.setRaw_teleLost (s : State) (p : Nat) (bs : Bytes) : (s.setRaw p bs).teleLost = s.teleLost := by rw [s.setRaw_eq]
@[simp] theorem State.setRaw_slots (s : State) (p : Nat) (bs : Bytes) : (s.setRaw p bs).slots = s.slots := by rw [s.setRaw_eq]
@[simp] theorem State.setRaw_acts (s : State) (p : Nat) (bs : Bytes) : (s.setRaw p bs).acts = s.acts := by rw [s.setRaw_eq]
@[simp] theorem State.setRaw_image (s : State) (p : Nat) (bs : Bytes) : (s.setRaw p bs).image = s.image := by rw [s.setRaw_eq]
@[simp] theorem State.setRaw_activated (s : State) (p : Nat) (bs : Bytes) : (s.setRaw p bs).activated = s.activated := by rw [s.setRaw_eq]
@[simp] theorem State.setRaw_cores (s : State) (p : Nat) (bs : Bytes) : (s.setRaw p bs).cores = s.cores := by rw [s.setRaw_eq]
@[simp] theorem State.setRaw_routes (s : State) (p : Nat) (bs : Bytes) : (s.setRaw p bs).routes = s.routes := by rw [s.setRaw_eq]
@[simp] theorem State.setRaw_live (s : State) (p : Nat) (bs : Bytes) : (s.setRaw p bs).live = s.live := by rw [s.setRaw_eq]
@[simp] theorem State.setRaw_nextTok (s : State) (p : Nat) (bs : Bytes) : (s.setRaw p bs).nextTok = s.nextTok := by rw [s.setRaw_eq]
@[simp] theorem State.setRaw_sends (s : State) (p : Nat) (bs : Bytes) : (s.setRaw p bs).sends = s.sends := by rw [s.setRaw_eq]
@[simp] theorem State.setRaw_seg (s : State) (p : Nat) (bs : Bytes) : (s.setRaw p bs).seg = s.seg := by rw [s.setRaw_eq]
@[simp] theorem State.setRaw_segDead (s : State) (p : Nat) (bs : Bytes) : (s.setRaw p bs).segDead = s.segDead := by rw [s.setRaw_eq]
@[simp] theorem State.setRaw_ckpt (s : State) (p : Nat) (bs : Bytes) : (s.setRaw p bs).ckpt = s.ckpt := by rw [s.setRaw_eq]
@[simp] theorem State.setRaw_selftest (s : State) (p : Nat) (bs : Bytes) : (s.setRaw p bs).selftest = s.selftest := by rw [s.setRaw_eq]
@[simp] theorem State.setRaw_spareNext (s : State) (p : Nat) (bs : Bytes) : (s.setRaw p bs).spareNext = s.spareNext := by rw [s.setRaw_eq]
@[simp] theorem State.setRaw_lports (s : State) (p : Nat) (bs : Bytes) : (s.setRaw p bs).lports = s.lports := by rw [s.setRaw_eq]
@[simp] theorem State.setRaw_inbox (s : State) (p : Nat) (bs : Bytes) : (s.setRaw p bs).inbox = s.inbox := by rw [s.setRaw_eq]
@[simp] theorem State.setRaw_requests (s : State) (p : Nat) (bs : Bytes) : (s.setRaw p bs).requests = s.requests := by rw [s.setRaw_eq]
@[simp] theorem State.setRaw_nextReq (s : State) (p : Nat) (bs : Bytes) : (s.setRaw p bs).nextReq = s.nextReq := by rw [s.setRaw_eq]
@[simp] theorem State.setRaw_waitReads (s : State) (p : Nat) (bs : Bytes) : (s.setRaw p bs).waitReads = s.waitReads := by rw [s.setRaw_eq]
@[simp] theorem State.setRaw_colls (s : State) (p : Nat) (bs : Bytes) : (s.setRaw p bs).colls = s.colls := by rw [s.setRaw_eq]
@[simp] theorem State.setRaw_early (s : State) (p : Nat) (bs : Bytes) : (s.setRaw p bs).early = s.early := by rw [s.setRaw_eq]
@[simp] theorem State.setRaw_kept (s : State) (p : Nat) (bs : Bytes) : (s.setRaw p bs).kept = s.kept := by rw [s.setRaw_eq]
@[simp] theorem State.setRaw_adopted (s : State) (p : Nat) (bs : Bytes) : (s.setRaw p bs).adopted = s.adopted := by rw [s.setRaw_eq]
@[simp] theorem State.setRaw_adopting (s : State) (p : Nat) (bs : Bytes) : (s.setRaw p bs).adopting = s.adopting := by rw [s.setRaw_eq]
@[simp] theorem State.setRaw_snapArm (s : State) (p : Nat) (bs : Bytes) : (s.setRaw p bs).snapArm = s.snapArm := by rw [s.setRaw_eq]
@[simp] theorem State.setRaw_snapNext (s : State) (p : Nat) (bs : Bytes) : (s.setRaw p bs).snapNext = s.snapNext := by rw [s.setRaw_eq]
@[simp] theorem State.setRaw_gens (s : State) (p : Nat) (bs : Bytes) : (s.setRaw p bs).gens = s.gens := by rw [s.setRaw_eq]
@[simp] theorem State.setRaw_snapDisarm (s : State) (p : Nat) (bs : Bytes) : (s.setRaw p bs).snapDisarm = s.snapDisarm := by rw [s.setRaw_eq]
@[simp] theorem State.setRaw_restore (s : State) (p : Nat) (bs : Bytes) : (s.setRaw p bs).restore = s.restore := by rw [s.setRaw_eq]
@[simp] theorem State.setRaw_refclk (s : State) (p : Nat) (bs : Bytes) : (s.setRaw p bs).refclk = s.refclk := by rw [s.setRaw_eq]
@[simp] theorem State.setRaw_mainOk (s : State) (p : Nat) (bs : Bytes) : (s.setRaw p bs).mainOk = s.mainOk := by rw [s.setRaw_eq]
@[simp] theorem State.setRaw_auxOk (s : State) (p : Nat) (bs : Bytes) : (s.setRaw p bs).auxOk = s.auxOk := by rw [s.setRaw_eq]
@[simp] theorem State.setRaw_cxlDone (s : State) (p : Nat) (bs : Bytes) : (s.setRaw p bs).cxlDone = s.cxlDone := by rw [s.setRaw_eq]
@[simp] theorem State.setRaw_railMv (s : State) (p : Nat) (bs : Bytes) : (s.setRaw p bs).railMv = s.railMv := by rw [s.setRaw_eq]
@[simp] theorem State.setRaw_envUnheld (s : State) (p : Nat) (bs : Bytes) : (s.setRaw p bs).envUnheld = s.envUnheld := by rw [s.setRaw_eq]
@[simp] theorem State.setRaw_droop (s : State) (p : Nat) (bs : Bytes) : (s.setRaw p bs).droop = s.droop := by rw [s.setRaw_eq]
@[simp] theorem State.setRaw_taps (s : State) (p : Nat) (bs : Bytes) : (s.setRaw p bs).taps = s.taps := by rw [s.setRaw_eq]
@[simp] theorem State.setRaw_calDraw (s : State) (p : Nat) (bs : Bytes) : (s.setRaw p bs).calDraw = s.calDraw := by rw [s.setRaw_eq]
@[simp] theorem State.setRaw_nonceDraw (s : State) (p : Nat) (bs : Bytes) : (s.setRaw p bs).nonceDraw = s.nonceDraw := by rw [s.setRaw_eq]
@[simp] theorem State.setRaw_dieTemp (s : State) (p : Nat) (bs : Bytes) : (s.setRaw p bs).dieTemp = s.dieTemp := by rw [s.setRaw_eq]
@[simp] theorem State.setRaw_stackTemp (s : State) (p : Nat) (bs : Bytes) : (s.setRaw p bs).stackTemp = s.stackTemp := by rw [s.setRaw_eq]
@[simp] theorem State.setRaw_scrubRow (s : State) (p : Nat) (bs : Bytes) : (s.setRaw p bs).scrubRow = s.scrubRow := by rw [s.setRaw_eq]
@[simp] theorem State.setRaw_timer (s : State) (p : Nat) (bs : Bytes) : (s.setRaw p bs).timer = s.timer := by rw [s.setRaw_eq]
@[simp] theorem State.setRaw_health (s : State) (p : Nat) (bs : Bytes) : (s.setRaw p bs).health = s.health := by rw [s.setRaw_eq]
@[simp] theorem State.setRaw_healthDone (s : State) (p : Nat) (bs : Bytes) : (s.setRaw p bs).healthDone = s.healthDone := by rw [s.setRaw_eq]
@[simp] theorem State.setRaw_sampleDone (s : State) (p : Nat) (bs : Bytes) : (s.setRaw p bs).sampleDone = s.sampleDone := by rw [s.setRaw_eq]
@[simp] theorem State.setRaw_fuses (s : State) (p : Nat) (bs : Bytes) : (s.setRaw p bs).fuses = s.fuses := by rw [s.setRaw_eq]
@[simp] theorem State.setRaw_flash (s : State) (p : Nat) (bs : Bytes) : (s.setRaw p bs).flash = s.flash := by rw [s.setRaw_eq]
@[simp] theorem State.setRaw_actLog (s : State) (p : Nat) (bs : Bytes) : (s.setRaw p bs).actLog = s.actLog := by rw [s.setRaw_eq]
@[simp] theorem State.setRaw_spdm (s : State) (p : Nat) (bs : Bytes) : (s.setRaw p bs).spdm = s.spdm := by rw [s.setRaw_eq]
@[simp] theorem State.setRaw_i3c (s : State) (p : Nat) (bs : Bytes) : (s.setRaw p bs).i3c = s.i3c := by rw [s.setRaw_eq]
@[simp] theorem State.setRaw_slotId (s : State) (p : Nat) (bs : Bytes) : (s.setRaw p bs).slotId = s.slotId := by rw [s.setRaw_eq]
@[simp] theorem State.setRaw_thermLow (s : State) (p : Nat) (bs : Bytes) : (s.setRaw p bs).thermLow = s.thermLow := by rw [s.setRaw_eq]
@[simp] theorem State.setRaw_perstLow (s : State) (p : Nat) (bs : Bytes) : (s.setRaw p bs).perstLow = s.perstLow := by rw [s.setRaw_eq]
@[simp] theorem State.setRaw_genKeys (s : State) (p : Nat) (bs : Bytes) : (s.setRaw p bs).genKeys = s.genKeys := by rw [s.setRaw_eq]

@[simp] theorem State.setCtx_grade (s : State) (q off len v : Nat) : (s.setCtx q off len v).grade = s.grade := s.setRaw_grade _ _
@[simp] theorem State.setCtx_pending (s : State) (q off len v : Nat) : (s.setCtx q off len v).pending = s.pending := s.setRaw_pending _ _
@[simp] theorem State.setCtx_draws (s : State) (q off len v : Nat) : (s.setCtx q off len v).draws = s.draws := s.setRaw_draws _ _
@[simp] theorem State.setCtx_paceDraws (s : State) (q off len v : Nat) : (s.setCtx q off len v).paceDraws = s.paceDraws := s.setRaw_paceDraws _ _
@[simp] theorem State.setCtx_wire (s : State) (q off len v : Nat) : (s.setCtx q off len v).wire = s.wire := s.setRaw_wire _ _
@[simp] theorem State.setCtx_regs (s : State) (q off len v : Nat) : (s.setCtx q off len v).regs = s.regs := s.setRaw_regs _ _
@[simp] theorem State.setCtx_capsValid (s : State) (q off len v : Nat) : (s.setCtx q off len v).capsValid = s.capsValid := s.setRaw_capsValid _ _
@[simp] theorem State.setCtx_rowFailed (s : State) (q off len v : Nat) : (s.setCtx q off len v).rowFailed = s.rowFailed := s.setRaw_rowFailed _ _
@[simp] theorem State.setCtx_sel (s : State) (q off len v : Nat) : (s.setCtx q off len v).sel = s.sel := s.setRaw_sel _ _
@[simp] theorem State.setCtx_partnerHeld (s : State) (q off len v : Nat) : (s.setCtx q off len v).partnerHeld = s.partnerHeld := s.setRaw_partnerHeld _ _
@[simp] theorem State.setCtx_carts (s : State) (q off len v : Nat) : (s.setCtx q off len v).carts = s.carts := s.setRaw_carts _ _
@[simp] theorem State.setCtx_ver (s : State) (q off len v : Nat) : (s.setCtx q off len v).ver = s.ver := s.setRaw_ver _ _
@[simp] theorem State.setCtx_walk (s : State) (q off len v : Nat) : (s.setCtx q off len v).walk = s.walk := s.setRaw_walk _ _
@[simp] theorem State.setCtx_migrations (s : State) (q off len v : Nat) : (s.setCtx q off len v).migrations = s.migrations := s.setRaw_migrations _ _
@[simp] theorem State.setCtx_oldFrames (s : State) (q off len v : Nat) : (s.setCtx q off len v).oldFrames = s.oldFrames := s.setRaw_oldFrames _ _
@[simp] theorem State.setCtx_lostFrames (s : State) (q off len v : Nat) : (s.setCtx q off len v).lostFrames = s.lostFrames := s.setRaw_lostFrames _ _
@[simp] theorem State.setCtx_wantHbm (s : State) (q off len v : Nat) : (s.setCtx q off len v).wantHbm = s.wantHbm := s.setRaw_wantHbm _ _
@[simp] theorem State.setCtx_cxlPorts (s : State) (q off len v : Nat) : (s.setCtx q off len v).cxlPorts = s.cxlPorts := s.setRaw_cxlPorts _ _
@[simp] theorem State.setCtx_hbmReady (s : State) (q off len v : Nat) : (s.setCtx q off len v).hbmReady = s.hbmReady := s.setRaw_hbmReady _ _
@[simp] theorem State.setCtx_pendingWrites (s : State) (q off len v : Nat) : (s.setCtx q off len v).pendingWrites = s.pendingWrites := s.setRaw_pendingWrites _ _
@[simp] theorem State.setCtx_badWords (s : State) (q off len v : Nat) : (s.setCtx q off len v).badWords = s.badWords := s.setRaw_badWords _ _
@[simp] theorem State.setCtx_queues (s : State) (q off len v : Nat) : (s.setCtx q off len v).queues = s.queues := s.setRaw_queues _ _
@[simp] theorem State.setCtx_served (s : State) (q off len v : Nat) : (s.setCtx q off len v).served = s.served := s.setRaw_served _ _
@[simp] theorem State.setCtx_serial (s : State) (q off len v : Nat) : (s.setCtx q off len v).serial = s.serial := s.setRaw_serial _ _
@[simp] theorem State.setCtx_step (s : State) (q off len v : Nat) : (s.setCtx q off len v).step = s.step := s.setRaw_step _ _
@[simp] theorem State.setCtx_attempts (s : State) (q off len v : Nat) : (s.setCtx q off len v).attempts = s.attempts := s.setRaw_attempts _ _
@[simp] theorem State.setCtx_recNext (s : State) (q off len v : Nat) : (s.setCtx q off len v).recNext = s.recNext := s.setRaw_recNext _ _
@[simp] theorem State.setCtx_logNext (s : State) (q off len v : Nat) : (s.setCtx q off len v).logNext = s.logNext := s.setRaw_logNext _ _
@[simp] theorem State.setCtx_sessions (s : State) (q off len v : Nat) : (s.setCtx q off len v).sessions = s.sessions := s.setRaw_sessions _ _
@[simp] theorem State.setCtx_mgmtLink (s : State) (q off len v : Nat) : (s.setCtx q off len v).mgmtLink = s.mgmtLink := s.setRaw_mgmtLink _ _
@[simp] theorem State.setCtx_counters (s : State) (q off len v : Nat) : (s.setCtx q off len v).counters = s.counters := s.setRaw_counters _ _
@[simp] theorem State.setCtx_injections (s : State) (q off len v : Nat) : (s.setCtx q off len v).injections = s.injections := s.setRaw_injections _ _
@[simp] theorem State.setCtx_teleSeq (s : State) (q off len v : Nat) : (s.setCtx q off len v).teleSeq = s.teleSeq := s.setRaw_teleSeq _ _
@[simp] theorem State.setCtx_teleLost (s : State) (q off len v : Nat) : (s.setCtx q off len v).teleLost = s.teleLost := s.setRaw_teleLost _ _
@[simp] theorem State.setCtx_slots (s : State) (q off len v : Nat) : (s.setCtx q off len v).slots = s.slots := s.setRaw_slots _ _
@[simp] theorem State.setCtx_acts (s : State) (q off len v : Nat) : (s.setCtx q off len v).acts = s.acts := s.setRaw_acts _ _
@[simp] theorem State.setCtx_image (s : State) (q off len v : Nat) : (s.setCtx q off len v).image = s.image := s.setRaw_image _ _
@[simp] theorem State.setCtx_activated (s : State) (q off len v : Nat) : (s.setCtx q off len v).activated = s.activated := s.setRaw_activated _ _
@[simp] theorem State.setCtx_cores (s : State) (q off len v : Nat) : (s.setCtx q off len v).cores = s.cores := s.setRaw_cores _ _
@[simp] theorem State.setCtx_routes (s : State) (q off len v : Nat) : (s.setCtx q off len v).routes = s.routes := s.setRaw_routes _ _
@[simp] theorem State.setCtx_live (s : State) (q off len v : Nat) : (s.setCtx q off len v).live = s.live := s.setRaw_live _ _
@[simp] theorem State.setCtx_nextTok (s : State) (q off len v : Nat) : (s.setCtx q off len v).nextTok = s.nextTok := s.setRaw_nextTok _ _
@[simp] theorem State.setCtx_sends (s : State) (q off len v : Nat) : (s.setCtx q off len v).sends = s.sends := s.setRaw_sends _ _
@[simp] theorem State.setCtx_seg (s : State) (q off len v : Nat) : (s.setCtx q off len v).seg = s.seg := s.setRaw_seg _ _
@[simp] theorem State.setCtx_segDead (s : State) (q off len v : Nat) : (s.setCtx q off len v).segDead = s.segDead := s.setRaw_segDead _ _
@[simp] theorem State.setCtx_ckpt (s : State) (q off len v : Nat) : (s.setCtx q off len v).ckpt = s.ckpt := s.setRaw_ckpt _ _
@[simp] theorem State.setCtx_selftest (s : State) (q off len v : Nat) : (s.setCtx q off len v).selftest = s.selftest := s.setRaw_selftest _ _
@[simp] theorem State.setCtx_spareNext (s : State) (q off len v : Nat) : (s.setCtx q off len v).spareNext = s.spareNext := s.setRaw_spareNext _ _
@[simp] theorem State.setCtx_lports (s : State) (q off len v : Nat) : (s.setCtx q off len v).lports = s.lports := s.setRaw_lports _ _
@[simp] theorem State.setCtx_inbox (s : State) (q off len v : Nat) : (s.setCtx q off len v).inbox = s.inbox := s.setRaw_inbox _ _
@[simp] theorem State.setCtx_requests (s : State) (q off len v : Nat) : (s.setCtx q off len v).requests = s.requests := s.setRaw_requests _ _
@[simp] theorem State.setCtx_nextReq (s : State) (q off len v : Nat) : (s.setCtx q off len v).nextReq = s.nextReq := s.setRaw_nextReq _ _
@[simp] theorem State.setCtx_waitReads (s : State) (q off len v : Nat) : (s.setCtx q off len v).waitReads = s.waitReads := s.setRaw_waitReads _ _
@[simp] theorem State.setCtx_colls (s : State) (q off len v : Nat) : (s.setCtx q off len v).colls = s.colls := s.setRaw_colls _ _
@[simp] theorem State.setCtx_early (s : State) (q off len v : Nat) : (s.setCtx q off len v).early = s.early := s.setRaw_early _ _
@[simp] theorem State.setCtx_kept (s : State) (q off len v : Nat) : (s.setCtx q off len v).kept = s.kept := s.setRaw_kept _ _
@[simp] theorem State.setCtx_adopted (s : State) (q off len v : Nat) : (s.setCtx q off len v).adopted = s.adopted := s.setRaw_adopted _ _
@[simp] theorem State.setCtx_adopting (s : State) (q off len v : Nat) : (s.setCtx q off len v).adopting = s.adopting := s.setRaw_adopting _ _
@[simp] theorem State.setCtx_snapArm (s : State) (q off len v : Nat) : (s.setCtx q off len v).snapArm = s.snapArm := s.setRaw_snapArm _ _
@[simp] theorem State.setCtx_snapNext (s : State) (q off len v : Nat) : (s.setCtx q off len v).snapNext = s.snapNext := s.setRaw_snapNext _ _
@[simp] theorem State.setCtx_gens (s : State) (q off len v : Nat) : (s.setCtx q off len v).gens = s.gens := s.setRaw_gens _ _
@[simp] theorem State.setCtx_snapDisarm (s : State) (q off len v : Nat) : (s.setCtx q off len v).snapDisarm = s.snapDisarm := s.setRaw_snapDisarm _ _
@[simp] theorem State.setCtx_restore (s : State) (q off len v : Nat) : (s.setCtx q off len v).restore = s.restore := s.setRaw_restore _ _
@[simp] theorem State.setCtx_refclk (s : State) (q off len v : Nat) : (s.setCtx q off len v).refclk = s.refclk := s.setRaw_refclk _ _
@[simp] theorem State.setCtx_mainOk (s : State) (q off len v : Nat) : (s.setCtx q off len v).mainOk = s.mainOk := s.setRaw_mainOk _ _
@[simp] theorem State.setCtx_auxOk (s : State) (q off len v : Nat) : (s.setCtx q off len v).auxOk = s.auxOk := s.setRaw_auxOk _ _
@[simp] theorem State.setCtx_cxlDone (s : State) (q off len v : Nat) : (s.setCtx q off len v).cxlDone = s.cxlDone := s.setRaw_cxlDone _ _
@[simp] theorem State.setCtx_railMv (s : State) (q off len v : Nat) : (s.setCtx q off len v).railMv = s.railMv := s.setRaw_railMv _ _
@[simp] theorem State.setCtx_envUnheld (s : State) (q off len v : Nat) : (s.setCtx q off len v).envUnheld = s.envUnheld := s.setRaw_envUnheld _ _
@[simp] theorem State.setCtx_droop (s : State) (q off len v : Nat) : (s.setCtx q off len v).droop = s.droop := s.setRaw_droop _ _
@[simp] theorem State.setCtx_taps (s : State) (q off len v : Nat) : (s.setCtx q off len v).taps = s.taps := s.setRaw_taps _ _
@[simp] theorem State.setCtx_calDraw (s : State) (q off len v : Nat) : (s.setCtx q off len v).calDraw = s.calDraw := s.setRaw_calDraw _ _
@[simp] theorem State.setCtx_nonceDraw (s : State) (q off len v : Nat) : (s.setCtx q off len v).nonceDraw = s.nonceDraw := s.setRaw_nonceDraw _ _
@[simp] theorem State.setCtx_dieTemp (s : State) (q off len v : Nat) : (s.setCtx q off len v).dieTemp = s.dieTemp := s.setRaw_dieTemp _ _
@[simp] theorem State.setCtx_stackTemp (s : State) (q off len v : Nat) : (s.setCtx q off len v).stackTemp = s.stackTemp := s.setRaw_stackTemp _ _
@[simp] theorem State.setCtx_scrubRow (s : State) (q off len v : Nat) : (s.setCtx q off len v).scrubRow = s.scrubRow := s.setRaw_scrubRow _ _
@[simp] theorem State.setCtx_timer (s : State) (q off len v : Nat) : (s.setCtx q off len v).timer = s.timer := s.setRaw_timer _ _
@[simp] theorem State.setCtx_health (s : State) (q off len v : Nat) : (s.setCtx q off len v).health = s.health := s.setRaw_health _ _
@[simp] theorem State.setCtx_healthDone (s : State) (q off len v : Nat) : (s.setCtx q off len v).healthDone = s.healthDone := s.setRaw_healthDone _ _
@[simp] theorem State.setCtx_sampleDone (s : State) (q off len v : Nat) : (s.setCtx q off len v).sampleDone = s.sampleDone := s.setRaw_sampleDone _ _
@[simp] theorem State.setCtx_fuses (s : State) (q off len v : Nat) : (s.setCtx q off len v).fuses = s.fuses := s.setRaw_fuses _ _
@[simp] theorem State.setCtx_flash (s : State) (q off len v : Nat) : (s.setCtx q off len v).flash = s.flash := s.setRaw_flash _ _
@[simp] theorem State.setCtx_actLog (s : State) (q off len v : Nat) : (s.setCtx q off len v).actLog = s.actLog := s.setRaw_actLog _ _
@[simp] theorem State.setCtx_spdm (s : State) (q off len v : Nat) : (s.setCtx q off len v).spdm = s.spdm := s.setRaw_spdm _ _
@[simp] theorem State.setCtx_i3c (s : State) (q off len v : Nat) : (s.setCtx q off len v).i3c = s.i3c := s.setRaw_i3c _ _
@[simp] theorem State.setCtx_slotId (s : State) (q off len v : Nat) : (s.setCtx q off len v).slotId = s.slotId := s.setRaw_slotId _ _
@[simp] theorem State.setCtx_thermLow (s : State) (q off len v : Nat) : (s.setCtx q off len v).thermLow = s.thermLow := s.setRaw_thermLow _ _
@[simp] theorem State.setCtx_perstLow (s : State) (q off len v : Nat) : (s.setCtx q off len v).perstLow = s.perstLow := s.setRaw_perstLow _ _
@[simp] theorem State.setCtx_genKeys (s : State) (q off len v : Nat) : (s.setCtx q off len v).genKeys = s.genKeys := s.setRaw_genKeys _ _

@[simp] theorem State.setQueue_grade (s : State) (q : Nat) (r : QueueRt) : (s.setQueue q r).grade = s.grade := rfl
@[simp] theorem State.setQueue_pending (s : State) (q : Nat) (r : QueueRt) : (s.setQueue q r).pending = s.pending := rfl
@[simp] theorem State.setQueue_draws (s : State) (q : Nat) (r : QueueRt) : (s.setQueue q r).draws = s.draws := rfl
@[simp] theorem State.setQueue_paceDraws (s : State) (q : Nat) (r : QueueRt) : (s.setQueue q r).paceDraws = s.paceDraws := rfl
@[simp] theorem State.setQueue_wire (s : State) (q : Nat) (r : QueueRt) : (s.setQueue q r).wire = s.wire := rfl
@[simp] theorem State.setQueue_regs (s : State) (q : Nat) (r : QueueRt) : (s.setQueue q r).regs = s.regs := rfl
@[simp] theorem State.setQueue_capsValid (s : State) (q : Nat) (r : QueueRt) : (s.setQueue q r).capsValid = s.capsValid := rfl
@[simp] theorem State.setQueue_rowFailed (s : State) (q : Nat) (r : QueueRt) : (s.setQueue q r).rowFailed = s.rowFailed := rfl
@[simp] theorem State.setQueue_sel (s : State) (q : Nat) (r : QueueRt) : (s.setQueue q r).sel = s.sel := rfl
@[simp] theorem State.setQueue_partnerHeld (s : State) (q : Nat) (r : QueueRt) : (s.setQueue q r).partnerHeld = s.partnerHeld := rfl
@[simp] theorem State.setQueue_mem (s : State) (q : Nat) (r : QueueRt) : (s.setQueue q r).mem = s.mem := rfl
@[simp] theorem State.setQueue_carts (s : State) (q : Nat) (r : QueueRt) : (s.setQueue q r).carts = s.carts := rfl
@[simp] theorem State.setQueue_ver (s : State) (q : Nat) (r : QueueRt) : (s.setQueue q r).ver = s.ver := rfl
@[simp] theorem State.setQueue_walk (s : State) (q : Nat) (r : QueueRt) : (s.setQueue q r).walk = s.walk := rfl
@[simp] theorem State.setQueue_migrations (s : State) (q : Nat) (r : QueueRt) : (s.setQueue q r).migrations = s.migrations := rfl
@[simp] theorem State.setQueue_oldFrames (s : State) (q : Nat) (r : QueueRt) : (s.setQueue q r).oldFrames = s.oldFrames := rfl
@[simp] theorem State.setQueue_lostFrames (s : State) (q : Nat) (r : QueueRt) : (s.setQueue q r).lostFrames = s.lostFrames := rfl
@[simp] theorem State.setQueue_wantHbm (s : State) (q : Nat) (r : QueueRt) : (s.setQueue q r).wantHbm = s.wantHbm := rfl
@[simp] theorem State.setQueue_cxlPorts (s : State) (q : Nat) (r : QueueRt) : (s.setQueue q r).cxlPorts = s.cxlPorts := rfl
@[simp] theorem State.setQueue_hbmReady (s : State) (q : Nat) (r : QueueRt) : (s.setQueue q r).hbmReady = s.hbmReady := rfl
@[simp] theorem State.setQueue_pendingWrites (s : State) (q : Nat) (r : QueueRt) : (s.setQueue q r).pendingWrites = s.pendingWrites := rfl
@[simp] theorem State.setQueue_badWords (s : State) (q : Nat) (r : QueueRt) : (s.setQueue q r).badWords = s.badWords := rfl
@[simp] theorem State.setQueue_served (s : State) (q : Nat) (r : QueueRt) : (s.setQueue q r).served = s.served := rfl
@[simp] theorem State.setQueue_serial (s : State) (q : Nat) (r : QueueRt) : (s.setQueue q r).serial = s.serial := rfl
@[simp] theorem State.setQueue_step (s : State) (q : Nat) (r : QueueRt) : (s.setQueue q r).step = s.step := rfl
@[simp] theorem State.setQueue_attempts (s : State) (q : Nat) (r : QueueRt) : (s.setQueue q r).attempts = s.attempts := rfl
@[simp] theorem State.setQueue_recNext (s : State) (q : Nat) (r : QueueRt) : (s.setQueue q r).recNext = s.recNext := rfl
@[simp] theorem State.setQueue_logNext (s : State) (q : Nat) (r : QueueRt) : (s.setQueue q r).logNext = s.logNext := rfl
@[simp] theorem State.setQueue_sessions (s : State) (q : Nat) (r : QueueRt) : (s.setQueue q r).sessions = s.sessions := rfl
@[simp] theorem State.setQueue_mgmtLink (s : State) (q : Nat) (r : QueueRt) : (s.setQueue q r).mgmtLink = s.mgmtLink := rfl
@[simp] theorem State.setQueue_counters (s : State) (q : Nat) (r : QueueRt) : (s.setQueue q r).counters = s.counters := rfl
@[simp] theorem State.setQueue_injections (s : State) (q : Nat) (r : QueueRt) : (s.setQueue q r).injections = s.injections := rfl
@[simp] theorem State.setQueue_teleSeq (s : State) (q : Nat) (r : QueueRt) : (s.setQueue q r).teleSeq = s.teleSeq := rfl
@[simp] theorem State.setQueue_teleLost (s : State) (q : Nat) (r : QueueRt) : (s.setQueue q r).teleLost = s.teleLost := rfl
@[simp] theorem State.setQueue_slots (s : State) (q : Nat) (r : QueueRt) : (s.setQueue q r).slots = s.slots := rfl
@[simp] theorem State.setQueue_acts (s : State) (q : Nat) (r : QueueRt) : (s.setQueue q r).acts = s.acts := rfl
@[simp] theorem State.setQueue_image (s : State) (q : Nat) (r : QueueRt) : (s.setQueue q r).image = s.image := rfl
@[simp] theorem State.setQueue_activated (s : State) (q : Nat) (r : QueueRt) : (s.setQueue q r).activated = s.activated := rfl
@[simp] theorem State.setQueue_cores (s : State) (q : Nat) (r : QueueRt) : (s.setQueue q r).cores = s.cores := rfl
@[simp] theorem State.setQueue_routes (s : State) (q : Nat) (r : QueueRt) : (s.setQueue q r).routes = s.routes := rfl
@[simp] theorem State.setQueue_live (s : State) (q : Nat) (r : QueueRt) : (s.setQueue q r).live = s.live := rfl
@[simp] theorem State.setQueue_nextTok (s : State) (q : Nat) (r : QueueRt) : (s.setQueue q r).nextTok = s.nextTok := rfl
@[simp] theorem State.setQueue_sends (s : State) (q : Nat) (r : QueueRt) : (s.setQueue q r).sends = s.sends := rfl
@[simp] theorem State.setQueue_seg (s : State) (q : Nat) (r : QueueRt) : (s.setQueue q r).seg = s.seg := rfl
@[simp] theorem State.setQueue_segDead (s : State) (q : Nat) (r : QueueRt) : (s.setQueue q r).segDead = s.segDead := rfl
@[simp] theorem State.setQueue_ckpt (s : State) (q : Nat) (r : QueueRt) : (s.setQueue q r).ckpt = s.ckpt := rfl
@[simp] theorem State.setQueue_selftest (s : State) (q : Nat) (r : QueueRt) : (s.setQueue q r).selftest = s.selftest := rfl
@[simp] theorem State.setQueue_spareNext (s : State) (q : Nat) (r : QueueRt) : (s.setQueue q r).spareNext = s.spareNext := rfl
@[simp] theorem State.setQueue_lports (s : State) (q : Nat) (r : QueueRt) : (s.setQueue q r).lports = s.lports := rfl
@[simp] theorem State.setQueue_inbox (s : State) (q : Nat) (r : QueueRt) : (s.setQueue q r).inbox = s.inbox := rfl
@[simp] theorem State.setQueue_requests (s : State) (q : Nat) (r : QueueRt) : (s.setQueue q r).requests = s.requests := rfl
@[simp] theorem State.setQueue_nextReq (s : State) (q : Nat) (r : QueueRt) : (s.setQueue q r).nextReq = s.nextReq := rfl
@[simp] theorem State.setQueue_waitReads (s : State) (q : Nat) (r : QueueRt) : (s.setQueue q r).waitReads = s.waitReads := rfl
@[simp] theorem State.setQueue_colls (s : State) (q : Nat) (r : QueueRt) : (s.setQueue q r).colls = s.colls := rfl
@[simp] theorem State.setQueue_early (s : State) (q : Nat) (r : QueueRt) : (s.setQueue q r).early = s.early := rfl
@[simp] theorem State.setQueue_kept (s : State) (q : Nat) (r : QueueRt) : (s.setQueue q r).kept = s.kept := rfl
@[simp] theorem State.setQueue_adopted (s : State) (q : Nat) (r : QueueRt) : (s.setQueue q r).adopted = s.adopted := rfl
@[simp] theorem State.setQueue_adopting (s : State) (q : Nat) (r : QueueRt) : (s.setQueue q r).adopting = s.adopting := rfl
@[simp] theorem State.setQueue_snapArm (s : State) (q : Nat) (r : QueueRt) : (s.setQueue q r).snapArm = s.snapArm := rfl
@[simp] theorem State.setQueue_snapNext (s : State) (q : Nat) (r : QueueRt) : (s.setQueue q r).snapNext = s.snapNext := rfl
@[simp] theorem State.setQueue_gens (s : State) (q : Nat) (r : QueueRt) : (s.setQueue q r).gens = s.gens := rfl
@[simp] theorem State.setQueue_snapDisarm (s : State) (q : Nat) (r : QueueRt) : (s.setQueue q r).snapDisarm = s.snapDisarm := rfl
@[simp] theorem State.setQueue_restore (s : State) (q : Nat) (r : QueueRt) : (s.setQueue q r).restore = s.restore := rfl
@[simp] theorem State.setQueue_refclk (s : State) (q : Nat) (r : QueueRt) : (s.setQueue q r).refclk = s.refclk := rfl
@[simp] theorem State.setQueue_mainOk (s : State) (q : Nat) (r : QueueRt) : (s.setQueue q r).mainOk = s.mainOk := rfl
@[simp] theorem State.setQueue_auxOk (s : State) (q : Nat) (r : QueueRt) : (s.setQueue q r).auxOk = s.auxOk := rfl
@[simp] theorem State.setQueue_cxlDone (s : State) (q : Nat) (r : QueueRt) : (s.setQueue q r).cxlDone = s.cxlDone := rfl
@[simp] theorem State.setQueue_railMv (s : State) (q : Nat) (r : QueueRt) : (s.setQueue q r).railMv = s.railMv := rfl
@[simp] theorem State.setQueue_envUnheld (s : State) (q : Nat) (r : QueueRt) : (s.setQueue q r).envUnheld = s.envUnheld := rfl
@[simp] theorem State.setQueue_droop (s : State) (q : Nat) (r : QueueRt) : (s.setQueue q r).droop = s.droop := rfl
@[simp] theorem State.setQueue_taps (s : State) (q : Nat) (r : QueueRt) : (s.setQueue q r).taps = s.taps := rfl
@[simp] theorem State.setQueue_calDraw (s : State) (q : Nat) (r : QueueRt) : (s.setQueue q r).calDraw = s.calDraw := rfl
@[simp] theorem State.setQueue_nonceDraw (s : State) (q : Nat) (r : QueueRt) : (s.setQueue q r).nonceDraw = s.nonceDraw := rfl
@[simp] theorem State.setQueue_dieTemp (s : State) (q : Nat) (r : QueueRt) : (s.setQueue q r).dieTemp = s.dieTemp := rfl
@[simp] theorem State.setQueue_stackTemp (s : State) (q : Nat) (r : QueueRt) : (s.setQueue q r).stackTemp = s.stackTemp := rfl
@[simp] theorem State.setQueue_scrubRow (s : State) (q : Nat) (r : QueueRt) : (s.setQueue q r).scrubRow = s.scrubRow := rfl
@[simp] theorem State.setQueue_timer (s : State) (q : Nat) (r : QueueRt) : (s.setQueue q r).timer = s.timer := rfl
@[simp] theorem State.setQueue_health (s : State) (q : Nat) (r : QueueRt) : (s.setQueue q r).health = s.health := rfl
@[simp] theorem State.setQueue_healthDone (s : State) (q : Nat) (r : QueueRt) : (s.setQueue q r).healthDone = s.healthDone := rfl
@[simp] theorem State.setQueue_sampleDone (s : State) (q : Nat) (r : QueueRt) : (s.setQueue q r).sampleDone = s.sampleDone := rfl
@[simp] theorem State.setQueue_fuses (s : State) (q : Nat) (r : QueueRt) : (s.setQueue q r).fuses = s.fuses := rfl
@[simp] theorem State.setQueue_flash (s : State) (q : Nat) (r : QueueRt) : (s.setQueue q r).flash = s.flash := rfl
@[simp] theorem State.setQueue_actLog (s : State) (q : Nat) (r : QueueRt) : (s.setQueue q r).actLog = s.actLog := rfl
@[simp] theorem State.setQueue_spdm (s : State) (q : Nat) (r : QueueRt) : (s.setQueue q r).spdm = s.spdm := rfl
@[simp] theorem State.setQueue_i3c (s : State) (q : Nat) (r : QueueRt) : (s.setQueue q r).i3c = s.i3c := rfl
@[simp] theorem State.setQueue_slotId (s : State) (q : Nat) (r : QueueRt) : (s.setQueue q r).slotId = s.slotId := rfl
@[simp] theorem State.setQueue_thermLow (s : State) (q : Nat) (r : QueueRt) : (s.setQueue q r).thermLow = s.thermLow := rfl
@[simp] theorem State.setQueue_perstLow (s : State) (q : Nat) (r : QueueRt) : (s.setQueue q r).perstLow = s.perstLow := rfl
@[simp] theorem State.setQueue_genKeys (s : State) (q : Nat) (r : QueueRt) : (s.setQueue q r).genKeys = s.genKeys := rfl

@[simp] theorem State.modQueue_grade (s : State) (q : Nat) (f : QueueRt → QueueRt) : (s.modQueue q f).grade = s.grade := rfl
@[simp] theorem State.modQueue_pending (s : State) (q : Nat) (f : QueueRt → QueueRt) : (s.modQueue q f).pending = s.pending := rfl
@[simp] theorem State.modQueue_draws (s : State) (q : Nat) (f : QueueRt → QueueRt) : (s.modQueue q f).draws = s.draws := rfl
@[simp] theorem State.modQueue_paceDraws (s : State) (q : Nat) (f : QueueRt → QueueRt) : (s.modQueue q f).paceDraws = s.paceDraws := rfl
@[simp] theorem State.modQueue_wire (s : State) (q : Nat) (f : QueueRt → QueueRt) : (s.modQueue q f).wire = s.wire := rfl
@[simp] theorem State.modQueue_regs (s : State) (q : Nat) (f : QueueRt → QueueRt) : (s.modQueue q f).regs = s.regs := rfl
@[simp] theorem State.modQueue_capsValid (s : State) (q : Nat) (f : QueueRt → QueueRt) : (s.modQueue q f).capsValid = s.capsValid := rfl
@[simp] theorem State.modQueue_rowFailed (s : State) (q : Nat) (f : QueueRt → QueueRt) : (s.modQueue q f).rowFailed = s.rowFailed := rfl
@[simp] theorem State.modQueue_sel (s : State) (q : Nat) (f : QueueRt → QueueRt) : (s.modQueue q f).sel = s.sel := rfl
@[simp] theorem State.modQueue_partnerHeld (s : State) (q : Nat) (f : QueueRt → QueueRt) : (s.modQueue q f).partnerHeld = s.partnerHeld := rfl
@[simp] theorem State.modQueue_mem (s : State) (q : Nat) (f : QueueRt → QueueRt) : (s.modQueue q f).mem = s.mem := rfl
@[simp] theorem State.modQueue_carts (s : State) (q : Nat) (f : QueueRt → QueueRt) : (s.modQueue q f).carts = s.carts := rfl
@[simp] theorem State.modQueue_ver (s : State) (q : Nat) (f : QueueRt → QueueRt) : (s.modQueue q f).ver = s.ver := rfl
@[simp] theorem State.modQueue_walk (s : State) (q : Nat) (f : QueueRt → QueueRt) : (s.modQueue q f).walk = s.walk := rfl
@[simp] theorem State.modQueue_migrations (s : State) (q : Nat) (f : QueueRt → QueueRt) : (s.modQueue q f).migrations = s.migrations := rfl
@[simp] theorem State.modQueue_oldFrames (s : State) (q : Nat) (f : QueueRt → QueueRt) : (s.modQueue q f).oldFrames = s.oldFrames := rfl
@[simp] theorem State.modQueue_lostFrames (s : State) (q : Nat) (f : QueueRt → QueueRt) : (s.modQueue q f).lostFrames = s.lostFrames := rfl
@[simp] theorem State.modQueue_wantHbm (s : State) (q : Nat) (f : QueueRt → QueueRt) : (s.modQueue q f).wantHbm = s.wantHbm := rfl
@[simp] theorem State.modQueue_cxlPorts (s : State) (q : Nat) (f : QueueRt → QueueRt) : (s.modQueue q f).cxlPorts = s.cxlPorts := rfl
@[simp] theorem State.modQueue_hbmReady (s : State) (q : Nat) (f : QueueRt → QueueRt) : (s.modQueue q f).hbmReady = s.hbmReady := rfl
@[simp] theorem State.modQueue_pendingWrites (s : State) (q : Nat) (f : QueueRt → QueueRt) : (s.modQueue q f).pendingWrites = s.pendingWrites := rfl
@[simp] theorem State.modQueue_badWords (s : State) (q : Nat) (f : QueueRt → QueueRt) : (s.modQueue q f).badWords = s.badWords := rfl
@[simp] theorem State.modQueue_served (s : State) (q : Nat) (f : QueueRt → QueueRt) : (s.modQueue q f).served = s.served := rfl
@[simp] theorem State.modQueue_serial (s : State) (q : Nat) (f : QueueRt → QueueRt) : (s.modQueue q f).serial = s.serial := rfl
@[simp] theorem State.modQueue_step (s : State) (q : Nat) (f : QueueRt → QueueRt) : (s.modQueue q f).step = s.step := rfl
@[simp] theorem State.modQueue_attempts (s : State) (q : Nat) (f : QueueRt → QueueRt) : (s.modQueue q f).attempts = s.attempts := rfl
@[simp] theorem State.modQueue_recNext (s : State) (q : Nat) (f : QueueRt → QueueRt) : (s.modQueue q f).recNext = s.recNext := rfl
@[simp] theorem State.modQueue_logNext (s : State) (q : Nat) (f : QueueRt → QueueRt) : (s.modQueue q f).logNext = s.logNext := rfl
@[simp] theorem State.modQueue_sessions (s : State) (q : Nat) (f : QueueRt → QueueRt) : (s.modQueue q f).sessions = s.sessions := rfl
@[simp] theorem State.modQueue_mgmtLink (s : State) (q : Nat) (f : QueueRt → QueueRt) : (s.modQueue q f).mgmtLink = s.mgmtLink := rfl
@[simp] theorem State.modQueue_counters (s : State) (q : Nat) (f : QueueRt → QueueRt) : (s.modQueue q f).counters = s.counters := rfl
@[simp] theorem State.modQueue_injections (s : State) (q : Nat) (f : QueueRt → QueueRt) : (s.modQueue q f).injections = s.injections := rfl
@[simp] theorem State.modQueue_teleSeq (s : State) (q : Nat) (f : QueueRt → QueueRt) : (s.modQueue q f).teleSeq = s.teleSeq := rfl
@[simp] theorem State.modQueue_teleLost (s : State) (q : Nat) (f : QueueRt → QueueRt) : (s.modQueue q f).teleLost = s.teleLost := rfl
@[simp] theorem State.modQueue_slots (s : State) (q : Nat) (f : QueueRt → QueueRt) : (s.modQueue q f).slots = s.slots := rfl
@[simp] theorem State.modQueue_acts (s : State) (q : Nat) (f : QueueRt → QueueRt) : (s.modQueue q f).acts = s.acts := rfl
@[simp] theorem State.modQueue_image (s : State) (q : Nat) (f : QueueRt → QueueRt) : (s.modQueue q f).image = s.image := rfl
@[simp] theorem State.modQueue_activated (s : State) (q : Nat) (f : QueueRt → QueueRt) : (s.modQueue q f).activated = s.activated := rfl
@[simp] theorem State.modQueue_cores (s : State) (q : Nat) (f : QueueRt → QueueRt) : (s.modQueue q f).cores = s.cores := rfl
@[simp] theorem State.modQueue_routes (s : State) (q : Nat) (f : QueueRt → QueueRt) : (s.modQueue q f).routes = s.routes := rfl
@[simp] theorem State.modQueue_live (s : State) (q : Nat) (f : QueueRt → QueueRt) : (s.modQueue q f).live = s.live := rfl
@[simp] theorem State.modQueue_nextTok (s : State) (q : Nat) (f : QueueRt → QueueRt) : (s.modQueue q f).nextTok = s.nextTok := rfl
@[simp] theorem State.modQueue_sends (s : State) (q : Nat) (f : QueueRt → QueueRt) : (s.modQueue q f).sends = s.sends := rfl
@[simp] theorem State.modQueue_seg (s : State) (q : Nat) (f : QueueRt → QueueRt) : (s.modQueue q f).seg = s.seg := rfl
@[simp] theorem State.modQueue_segDead (s : State) (q : Nat) (f : QueueRt → QueueRt) : (s.modQueue q f).segDead = s.segDead := rfl
@[simp] theorem State.modQueue_ckpt (s : State) (q : Nat) (f : QueueRt → QueueRt) : (s.modQueue q f).ckpt = s.ckpt := rfl
@[simp] theorem State.modQueue_selftest (s : State) (q : Nat) (f : QueueRt → QueueRt) : (s.modQueue q f).selftest = s.selftest := rfl
@[simp] theorem State.modQueue_spareNext (s : State) (q : Nat) (f : QueueRt → QueueRt) : (s.modQueue q f).spareNext = s.spareNext := rfl
@[simp] theorem State.modQueue_lports (s : State) (q : Nat) (f : QueueRt → QueueRt) : (s.modQueue q f).lports = s.lports := rfl
@[simp] theorem State.modQueue_inbox (s : State) (q : Nat) (f : QueueRt → QueueRt) : (s.modQueue q f).inbox = s.inbox := rfl
@[simp] theorem State.modQueue_requests (s : State) (q : Nat) (f : QueueRt → QueueRt) : (s.modQueue q f).requests = s.requests := rfl
@[simp] theorem State.modQueue_nextReq (s : State) (q : Nat) (f : QueueRt → QueueRt) : (s.modQueue q f).nextReq = s.nextReq := rfl
@[simp] theorem State.modQueue_waitReads (s : State) (q : Nat) (f : QueueRt → QueueRt) : (s.modQueue q f).waitReads = s.waitReads := rfl
@[simp] theorem State.modQueue_colls (s : State) (q : Nat) (f : QueueRt → QueueRt) : (s.modQueue q f).colls = s.colls := rfl
@[simp] theorem State.modQueue_early (s : State) (q : Nat) (f : QueueRt → QueueRt) : (s.modQueue q f).early = s.early := rfl
@[simp] theorem State.modQueue_kept (s : State) (q : Nat) (f : QueueRt → QueueRt) : (s.modQueue q f).kept = s.kept := rfl
@[simp] theorem State.modQueue_adopted (s : State) (q : Nat) (f : QueueRt → QueueRt) : (s.modQueue q f).adopted = s.adopted := rfl
@[simp] theorem State.modQueue_adopting (s : State) (q : Nat) (f : QueueRt → QueueRt) : (s.modQueue q f).adopting = s.adopting := rfl
@[simp] theorem State.modQueue_snapArm (s : State) (q : Nat) (f : QueueRt → QueueRt) : (s.modQueue q f).snapArm = s.snapArm := rfl
@[simp] theorem State.modQueue_snapNext (s : State) (q : Nat) (f : QueueRt → QueueRt) : (s.modQueue q f).snapNext = s.snapNext := rfl
@[simp] theorem State.modQueue_gens (s : State) (q : Nat) (f : QueueRt → QueueRt) : (s.modQueue q f).gens = s.gens := rfl
@[simp] theorem State.modQueue_snapDisarm (s : State) (q : Nat) (f : QueueRt → QueueRt) : (s.modQueue q f).snapDisarm = s.snapDisarm := rfl
@[simp] theorem State.modQueue_restore (s : State) (q : Nat) (f : QueueRt → QueueRt) : (s.modQueue q f).restore = s.restore := rfl
@[simp] theorem State.modQueue_refclk (s : State) (q : Nat) (f : QueueRt → QueueRt) : (s.modQueue q f).refclk = s.refclk := rfl
@[simp] theorem State.modQueue_mainOk (s : State) (q : Nat) (f : QueueRt → QueueRt) : (s.modQueue q f).mainOk = s.mainOk := rfl
@[simp] theorem State.modQueue_auxOk (s : State) (q : Nat) (f : QueueRt → QueueRt) : (s.modQueue q f).auxOk = s.auxOk := rfl
@[simp] theorem State.modQueue_cxlDone (s : State) (q : Nat) (f : QueueRt → QueueRt) : (s.modQueue q f).cxlDone = s.cxlDone := rfl
@[simp] theorem State.modQueue_railMv (s : State) (q : Nat) (f : QueueRt → QueueRt) : (s.modQueue q f).railMv = s.railMv := rfl
@[simp] theorem State.modQueue_envUnheld (s : State) (q : Nat) (f : QueueRt → QueueRt) : (s.modQueue q f).envUnheld = s.envUnheld := rfl
@[simp] theorem State.modQueue_droop (s : State) (q : Nat) (f : QueueRt → QueueRt) : (s.modQueue q f).droop = s.droop := rfl
@[simp] theorem State.modQueue_taps (s : State) (q : Nat) (f : QueueRt → QueueRt) : (s.modQueue q f).taps = s.taps := rfl
@[simp] theorem State.modQueue_calDraw (s : State) (q : Nat) (f : QueueRt → QueueRt) : (s.modQueue q f).calDraw = s.calDraw := rfl
@[simp] theorem State.modQueue_nonceDraw (s : State) (q : Nat) (f : QueueRt → QueueRt) : (s.modQueue q f).nonceDraw = s.nonceDraw := rfl
@[simp] theorem State.modQueue_dieTemp (s : State) (q : Nat) (f : QueueRt → QueueRt) : (s.modQueue q f).dieTemp = s.dieTemp := rfl
@[simp] theorem State.modQueue_stackTemp (s : State) (q : Nat) (f : QueueRt → QueueRt) : (s.modQueue q f).stackTemp = s.stackTemp := rfl
@[simp] theorem State.modQueue_scrubRow (s : State) (q : Nat) (f : QueueRt → QueueRt) : (s.modQueue q f).scrubRow = s.scrubRow := rfl
@[simp] theorem State.modQueue_timer (s : State) (q : Nat) (f : QueueRt → QueueRt) : (s.modQueue q f).timer = s.timer := rfl
@[simp] theorem State.modQueue_health (s : State) (q : Nat) (f : QueueRt → QueueRt) : (s.modQueue q f).health = s.health := rfl
@[simp] theorem State.modQueue_healthDone (s : State) (q : Nat) (f : QueueRt → QueueRt) : (s.modQueue q f).healthDone = s.healthDone := rfl
@[simp] theorem State.modQueue_sampleDone (s : State) (q : Nat) (f : QueueRt → QueueRt) : (s.modQueue q f).sampleDone = s.sampleDone := rfl
@[simp] theorem State.modQueue_fuses (s : State) (q : Nat) (f : QueueRt → QueueRt) : (s.modQueue q f).fuses = s.fuses := rfl
@[simp] theorem State.modQueue_flash (s : State) (q : Nat) (f : QueueRt → QueueRt) : (s.modQueue q f).flash = s.flash := rfl
@[simp] theorem State.modQueue_actLog (s : State) (q : Nat) (f : QueueRt → QueueRt) : (s.modQueue q f).actLog = s.actLog := rfl
@[simp] theorem State.modQueue_spdm (s : State) (q : Nat) (f : QueueRt → QueueRt) : (s.modQueue q f).spdm = s.spdm := rfl
@[simp] theorem State.modQueue_i3c (s : State) (q : Nat) (f : QueueRt → QueueRt) : (s.modQueue q f).i3c = s.i3c := rfl
@[simp] theorem State.modQueue_slotId (s : State) (q : Nat) (f : QueueRt → QueueRt) : (s.modQueue q f).slotId = s.slotId := rfl
@[simp] theorem State.modQueue_thermLow (s : State) (q : Nat) (f : QueueRt → QueueRt) : (s.modQueue q f).thermLow = s.thermLow := rfl
@[simp] theorem State.modQueue_perstLow (s : State) (q : Nat) (f : QueueRt → QueueRt) : (s.modQueue q f).perstLow = s.perstLow := rfl
@[simp] theorem State.modQueue_genKeys (s : State) (q : Nat) (f : QueueRt → QueueRt) : (s.modQueue q f).genKeys = s.genKeys := rfl

@[simp] theorem State.setSession_grade (s : State) (k : Nat) (x : Session) : (s.setSession k x).grade = s.grade := rfl
@[simp] theorem State.setSession_pending (s : State) (k : Nat) (x : Session) : (s.setSession k x).pending = s.pending := rfl
@[simp] theorem State.setSession_draws (s : State) (k : Nat) (x : Session) : (s.setSession k x).draws = s.draws := rfl
@[simp] theorem State.setSession_paceDraws (s : State) (k : Nat) (x : Session) : (s.setSession k x).paceDraws = s.paceDraws := rfl
@[simp] theorem State.setSession_wire (s : State) (k : Nat) (x : Session) : (s.setSession k x).wire = s.wire := rfl
@[simp] theorem State.setSession_regs (s : State) (k : Nat) (x : Session) : (s.setSession k x).regs = s.regs := rfl
@[simp] theorem State.setSession_capsValid (s : State) (k : Nat) (x : Session) : (s.setSession k x).capsValid = s.capsValid := rfl
@[simp] theorem State.setSession_rowFailed (s : State) (k : Nat) (x : Session) : (s.setSession k x).rowFailed = s.rowFailed := rfl
@[simp] theorem State.setSession_sel (s : State) (k : Nat) (x : Session) : (s.setSession k x).sel = s.sel := rfl
@[simp] theorem State.setSession_partnerHeld (s : State) (k : Nat) (x : Session) : (s.setSession k x).partnerHeld = s.partnerHeld := rfl
@[simp] theorem State.setSession_mem (s : State) (k : Nat) (x : Session) : (s.setSession k x).mem = s.mem := rfl
@[simp] theorem State.setSession_carts (s : State) (k : Nat) (x : Session) : (s.setSession k x).carts = s.carts := rfl
@[simp] theorem State.setSession_ver (s : State) (k : Nat) (x : Session) : (s.setSession k x).ver = s.ver := rfl
@[simp] theorem State.setSession_walk (s : State) (k : Nat) (x : Session) : (s.setSession k x).walk = s.walk := rfl
@[simp] theorem State.setSession_migrations (s : State) (k : Nat) (x : Session) : (s.setSession k x).migrations = s.migrations := rfl
@[simp] theorem State.setSession_oldFrames (s : State) (k : Nat) (x : Session) : (s.setSession k x).oldFrames = s.oldFrames := rfl
@[simp] theorem State.setSession_lostFrames (s : State) (k : Nat) (x : Session) : (s.setSession k x).lostFrames = s.lostFrames := rfl
@[simp] theorem State.setSession_wantHbm (s : State) (k : Nat) (x : Session) : (s.setSession k x).wantHbm = s.wantHbm := rfl
@[simp] theorem State.setSession_cxlPorts (s : State) (k : Nat) (x : Session) : (s.setSession k x).cxlPorts = s.cxlPorts := rfl
@[simp] theorem State.setSession_hbmReady (s : State) (k : Nat) (x : Session) : (s.setSession k x).hbmReady = s.hbmReady := rfl
@[simp] theorem State.setSession_pendingWrites (s : State) (k : Nat) (x : Session) : (s.setSession k x).pendingWrites = s.pendingWrites := rfl
@[simp] theorem State.setSession_badWords (s : State) (k : Nat) (x : Session) : (s.setSession k x).badWords = s.badWords := rfl
@[simp] theorem State.setSession_queues (s : State) (k : Nat) (x : Session) : (s.setSession k x).queues = s.queues := rfl
@[simp] theorem State.setSession_served (s : State) (k : Nat) (x : Session) : (s.setSession k x).served = s.served := rfl
@[simp] theorem State.setSession_serial (s : State) (k : Nat) (x : Session) : (s.setSession k x).serial = s.serial := rfl
@[simp] theorem State.setSession_step (s : State) (k : Nat) (x : Session) : (s.setSession k x).step = s.step := rfl
@[simp] theorem State.setSession_attempts (s : State) (k : Nat) (x : Session) : (s.setSession k x).attempts = s.attempts := rfl
@[simp] theorem State.setSession_recNext (s : State) (k : Nat) (x : Session) : (s.setSession k x).recNext = s.recNext := rfl
@[simp] theorem State.setSession_logNext (s : State) (k : Nat) (x : Session) : (s.setSession k x).logNext = s.logNext := rfl
@[simp] theorem State.setSession_mgmtLink (s : State) (k : Nat) (x : Session) : (s.setSession k x).mgmtLink = s.mgmtLink := rfl
@[simp] theorem State.setSession_counters (s : State) (k : Nat) (x : Session) : (s.setSession k x).counters = s.counters := rfl
@[simp] theorem State.setSession_injections (s : State) (k : Nat) (x : Session) : (s.setSession k x).injections = s.injections := rfl
@[simp] theorem State.setSession_teleSeq (s : State) (k : Nat) (x : Session) : (s.setSession k x).teleSeq = s.teleSeq := rfl
@[simp] theorem State.setSession_teleLost (s : State) (k : Nat) (x : Session) : (s.setSession k x).teleLost = s.teleLost := rfl
@[simp] theorem State.setSession_slots (s : State) (k : Nat) (x : Session) : (s.setSession k x).slots = s.slots := rfl
@[simp] theorem State.setSession_acts (s : State) (k : Nat) (x : Session) : (s.setSession k x).acts = s.acts := rfl
@[simp] theorem State.setSession_image (s : State) (k : Nat) (x : Session) : (s.setSession k x).image = s.image := rfl
@[simp] theorem State.setSession_activated (s : State) (k : Nat) (x : Session) : (s.setSession k x).activated = s.activated := rfl
@[simp] theorem State.setSession_cores (s : State) (k : Nat) (x : Session) : (s.setSession k x).cores = s.cores := rfl
@[simp] theorem State.setSession_routes (s : State) (k : Nat) (x : Session) : (s.setSession k x).routes = s.routes := rfl
@[simp] theorem State.setSession_live (s : State) (k : Nat) (x : Session) : (s.setSession k x).live = s.live := rfl
@[simp] theorem State.setSession_nextTok (s : State) (k : Nat) (x : Session) : (s.setSession k x).nextTok = s.nextTok := rfl
@[simp] theorem State.setSession_sends (s : State) (k : Nat) (x : Session) : (s.setSession k x).sends = s.sends := rfl
@[simp] theorem State.setSession_seg (s : State) (k : Nat) (x : Session) : (s.setSession k x).seg = s.seg := rfl
@[simp] theorem State.setSession_segDead (s : State) (k : Nat) (x : Session) : (s.setSession k x).segDead = s.segDead := rfl
@[simp] theorem State.setSession_ckpt (s : State) (k : Nat) (x : Session) : (s.setSession k x).ckpt = s.ckpt := rfl
@[simp] theorem State.setSession_selftest (s : State) (k : Nat) (x : Session) : (s.setSession k x).selftest = s.selftest := rfl
@[simp] theorem State.setSession_spareNext (s : State) (k : Nat) (x : Session) : (s.setSession k x).spareNext = s.spareNext := rfl
@[simp] theorem State.setSession_lports (s : State) (k : Nat) (x : Session) : (s.setSession k x).lports = s.lports := rfl
@[simp] theorem State.setSession_inbox (s : State) (k : Nat) (x : Session) : (s.setSession k x).inbox = s.inbox := rfl
@[simp] theorem State.setSession_requests (s : State) (k : Nat) (x : Session) : (s.setSession k x).requests = s.requests := rfl
@[simp] theorem State.setSession_nextReq (s : State) (k : Nat) (x : Session) : (s.setSession k x).nextReq = s.nextReq := rfl
@[simp] theorem State.setSession_waitReads (s : State) (k : Nat) (x : Session) : (s.setSession k x).waitReads = s.waitReads := rfl
@[simp] theorem State.setSession_colls (s : State) (k : Nat) (x : Session) : (s.setSession k x).colls = s.colls := rfl
@[simp] theorem State.setSession_early (s : State) (k : Nat) (x : Session) : (s.setSession k x).early = s.early := rfl
@[simp] theorem State.setSession_kept (s : State) (k : Nat) (x : Session) : (s.setSession k x).kept = s.kept := rfl
@[simp] theorem State.setSession_adopted (s : State) (k : Nat) (x : Session) : (s.setSession k x).adopted = s.adopted := rfl
@[simp] theorem State.setSession_adopting (s : State) (k : Nat) (x : Session) : (s.setSession k x).adopting = s.adopting := rfl
@[simp] theorem State.setSession_snapArm (s : State) (k : Nat) (x : Session) : (s.setSession k x).snapArm = s.snapArm := rfl
@[simp] theorem State.setSession_snapNext (s : State) (k : Nat) (x : Session) : (s.setSession k x).snapNext = s.snapNext := rfl
@[simp] theorem State.setSession_gens (s : State) (k : Nat) (x : Session) : (s.setSession k x).gens = s.gens := rfl
@[simp] theorem State.setSession_snapDisarm (s : State) (k : Nat) (x : Session) : (s.setSession k x).snapDisarm = s.snapDisarm := rfl
@[simp] theorem State.setSession_restore (s : State) (k : Nat) (x : Session) : (s.setSession k x).restore = s.restore := rfl
@[simp] theorem State.setSession_refclk (s : State) (k : Nat) (x : Session) : (s.setSession k x).refclk = s.refclk := rfl
@[simp] theorem State.setSession_mainOk (s : State) (k : Nat) (x : Session) : (s.setSession k x).mainOk = s.mainOk := rfl
@[simp] theorem State.setSession_auxOk (s : State) (k : Nat) (x : Session) : (s.setSession k x).auxOk = s.auxOk := rfl
@[simp] theorem State.setSession_cxlDone (s : State) (k : Nat) (x : Session) : (s.setSession k x).cxlDone = s.cxlDone := rfl
@[simp] theorem State.setSession_railMv (s : State) (k : Nat) (x : Session) : (s.setSession k x).railMv = s.railMv := rfl
@[simp] theorem State.setSession_envUnheld (s : State) (k : Nat) (x : Session) : (s.setSession k x).envUnheld = s.envUnheld := rfl
@[simp] theorem State.setSession_droop (s : State) (k : Nat) (x : Session) : (s.setSession k x).droop = s.droop := rfl
@[simp] theorem State.setSession_taps (s : State) (k : Nat) (x : Session) : (s.setSession k x).taps = s.taps := rfl
@[simp] theorem State.setSession_calDraw (s : State) (k : Nat) (x : Session) : (s.setSession k x).calDraw = s.calDraw := rfl
@[simp] theorem State.setSession_nonceDraw (s : State) (k : Nat) (x : Session) : (s.setSession k x).nonceDraw = s.nonceDraw := rfl
@[simp] theorem State.setSession_dieTemp (s : State) (k : Nat) (x : Session) : (s.setSession k x).dieTemp = s.dieTemp := rfl
@[simp] theorem State.setSession_stackTemp (s : State) (k : Nat) (x : Session) : (s.setSession k x).stackTemp = s.stackTemp := rfl
@[simp] theorem State.setSession_scrubRow (s : State) (k : Nat) (x : Session) : (s.setSession k x).scrubRow = s.scrubRow := rfl
@[simp] theorem State.setSession_timer (s : State) (k : Nat) (x : Session) : (s.setSession k x).timer = s.timer := rfl
@[simp] theorem State.setSession_health (s : State) (k : Nat) (x : Session) : (s.setSession k x).health = s.health := rfl
@[simp] theorem State.setSession_healthDone (s : State) (k : Nat) (x : Session) : (s.setSession k x).healthDone = s.healthDone := rfl
@[simp] theorem State.setSession_sampleDone (s : State) (k : Nat) (x : Session) : (s.setSession k x).sampleDone = s.sampleDone := rfl
@[simp] theorem State.setSession_fuses (s : State) (k : Nat) (x : Session) : (s.setSession k x).fuses = s.fuses := rfl
@[simp] theorem State.setSession_flash (s : State) (k : Nat) (x : Session) : (s.setSession k x).flash = s.flash := rfl
@[simp] theorem State.setSession_actLog (s : State) (k : Nat) (x : Session) : (s.setSession k x).actLog = s.actLog := rfl
@[simp] theorem State.setSession_spdm (s : State) (k : Nat) (x : Session) : (s.setSession k x).spdm = s.spdm := rfl
@[simp] theorem State.setSession_i3c (s : State) (k : Nat) (x : Session) : (s.setSession k x).i3c = s.i3c := rfl
@[simp] theorem State.setSession_slotId (s : State) (k : Nat) (x : Session) : (s.setSession k x).slotId = s.slotId := rfl
@[simp] theorem State.setSession_thermLow (s : State) (k : Nat) (x : Session) : (s.setSession k x).thermLow = s.thermLow := rfl
@[simp] theorem State.setSession_perstLow (s : State) (k : Nat) (x : Session) : (s.setSession k x).perstLow = s.perstLow := rfl
@[simp] theorem State.setSession_genKeys (s : State) (k : Nat) (x : Session) : (s.setSession k x).genKeys = s.genKeys := rfl

@[simp] theorem State.setSelOf_grade (s : State) (a : Agent) (x : Selectors) : (s.setSelOf a x).grade = s.grade := rfl
@[simp] theorem State.setSelOf_pending (s : State) (a : Agent) (x : Selectors) : (s.setSelOf a x).pending = s.pending := rfl
@[simp] theorem State.setSelOf_draws (s : State) (a : Agent) (x : Selectors) : (s.setSelOf a x).draws = s.draws := rfl
@[simp] theorem State.setSelOf_paceDraws (s : State) (a : Agent) (x : Selectors) : (s.setSelOf a x).paceDraws = s.paceDraws := rfl
@[simp] theorem State.setSelOf_wire (s : State) (a : Agent) (x : Selectors) : (s.setSelOf a x).wire = s.wire := rfl
@[simp] theorem State.setSelOf_regs (s : State) (a : Agent) (x : Selectors) : (s.setSelOf a x).regs = s.regs := rfl
@[simp] theorem State.setSelOf_capsValid (s : State) (a : Agent) (x : Selectors) : (s.setSelOf a x).capsValid = s.capsValid := rfl
@[simp] theorem State.setSelOf_rowFailed (s : State) (a : Agent) (x : Selectors) : (s.setSelOf a x).rowFailed = s.rowFailed := rfl
@[simp] theorem State.setSelOf_partnerHeld (s : State) (a : Agent) (x : Selectors) : (s.setSelOf a x).partnerHeld = s.partnerHeld := rfl
@[simp] theorem State.setSelOf_mem (s : State) (a : Agent) (x : Selectors) : (s.setSelOf a x).mem = s.mem := rfl
@[simp] theorem State.setSelOf_carts (s : State) (a : Agent) (x : Selectors) : (s.setSelOf a x).carts = s.carts := rfl
@[simp] theorem State.setSelOf_ver (s : State) (a : Agent) (x : Selectors) : (s.setSelOf a x).ver = s.ver := rfl
@[simp] theorem State.setSelOf_walk (s : State) (a : Agent) (x : Selectors) : (s.setSelOf a x).walk = s.walk := rfl
@[simp] theorem State.setSelOf_migrations (s : State) (a : Agent) (x : Selectors) : (s.setSelOf a x).migrations = s.migrations := rfl
@[simp] theorem State.setSelOf_oldFrames (s : State) (a : Agent) (x : Selectors) : (s.setSelOf a x).oldFrames = s.oldFrames := rfl
@[simp] theorem State.setSelOf_lostFrames (s : State) (a : Agent) (x : Selectors) : (s.setSelOf a x).lostFrames = s.lostFrames := rfl
@[simp] theorem State.setSelOf_wantHbm (s : State) (a : Agent) (x : Selectors) : (s.setSelOf a x).wantHbm = s.wantHbm := rfl
@[simp] theorem State.setSelOf_cxlPorts (s : State) (a : Agent) (x : Selectors) : (s.setSelOf a x).cxlPorts = s.cxlPorts := rfl
@[simp] theorem State.setSelOf_hbmReady (s : State) (a : Agent) (x : Selectors) : (s.setSelOf a x).hbmReady = s.hbmReady := rfl
@[simp] theorem State.setSelOf_pendingWrites (s : State) (a : Agent) (x : Selectors) : (s.setSelOf a x).pendingWrites = s.pendingWrites := rfl
@[simp] theorem State.setSelOf_badWords (s : State) (a : Agent) (x : Selectors) : (s.setSelOf a x).badWords = s.badWords := rfl
@[simp] theorem State.setSelOf_queues (s : State) (a : Agent) (x : Selectors) : (s.setSelOf a x).queues = s.queues := rfl
@[simp] theorem State.setSelOf_served (s : State) (a : Agent) (x : Selectors) : (s.setSelOf a x).served = s.served := rfl
@[simp] theorem State.setSelOf_serial (s : State) (a : Agent) (x : Selectors) : (s.setSelOf a x).serial = s.serial := rfl
@[simp] theorem State.setSelOf_step (s : State) (a : Agent) (x : Selectors) : (s.setSelOf a x).step = s.step := rfl
@[simp] theorem State.setSelOf_attempts (s : State) (a : Agent) (x : Selectors) : (s.setSelOf a x).attempts = s.attempts := rfl
@[simp] theorem State.setSelOf_recNext (s : State) (a : Agent) (x : Selectors) : (s.setSelOf a x).recNext = s.recNext := rfl
@[simp] theorem State.setSelOf_logNext (s : State) (a : Agent) (x : Selectors) : (s.setSelOf a x).logNext = s.logNext := rfl
@[simp] theorem State.setSelOf_sessions (s : State) (a : Agent) (x : Selectors) : (s.setSelOf a x).sessions = s.sessions := rfl
@[simp] theorem State.setSelOf_mgmtLink (s : State) (a : Agent) (x : Selectors) : (s.setSelOf a x).mgmtLink = s.mgmtLink := rfl
@[simp] theorem State.setSelOf_counters (s : State) (a : Agent) (x : Selectors) : (s.setSelOf a x).counters = s.counters := rfl
@[simp] theorem State.setSelOf_injections (s : State) (a : Agent) (x : Selectors) : (s.setSelOf a x).injections = s.injections := rfl
@[simp] theorem State.setSelOf_teleSeq (s : State) (a : Agent) (x : Selectors) : (s.setSelOf a x).teleSeq = s.teleSeq := rfl
@[simp] theorem State.setSelOf_teleLost (s : State) (a : Agent) (x : Selectors) : (s.setSelOf a x).teleLost = s.teleLost := rfl
@[simp] theorem State.setSelOf_slots (s : State) (a : Agent) (x : Selectors) : (s.setSelOf a x).slots = s.slots := rfl
@[simp] theorem State.setSelOf_acts (s : State) (a : Agent) (x : Selectors) : (s.setSelOf a x).acts = s.acts := rfl
@[simp] theorem State.setSelOf_image (s : State) (a : Agent) (x : Selectors) : (s.setSelOf a x).image = s.image := rfl
@[simp] theorem State.setSelOf_activated (s : State) (a : Agent) (x : Selectors) : (s.setSelOf a x).activated = s.activated := rfl
@[simp] theorem State.setSelOf_cores (s : State) (a : Agent) (x : Selectors) : (s.setSelOf a x).cores = s.cores := rfl
@[simp] theorem State.setSelOf_routes (s : State) (a : Agent) (x : Selectors) : (s.setSelOf a x).routes = s.routes := rfl
@[simp] theorem State.setSelOf_live (s : State) (a : Agent) (x : Selectors) : (s.setSelOf a x).live = s.live := rfl
@[simp] theorem State.setSelOf_nextTok (s : State) (a : Agent) (x : Selectors) : (s.setSelOf a x).nextTok = s.nextTok := rfl
@[simp] theorem State.setSelOf_sends (s : State) (a : Agent) (x : Selectors) : (s.setSelOf a x).sends = s.sends := rfl
@[simp] theorem State.setSelOf_seg (s : State) (a : Agent) (x : Selectors) : (s.setSelOf a x).seg = s.seg := rfl
@[simp] theorem State.setSelOf_segDead (s : State) (a : Agent) (x : Selectors) : (s.setSelOf a x).segDead = s.segDead := rfl
@[simp] theorem State.setSelOf_ckpt (s : State) (a : Agent) (x : Selectors) : (s.setSelOf a x).ckpt = s.ckpt := rfl
@[simp] theorem State.setSelOf_selftest (s : State) (a : Agent) (x : Selectors) : (s.setSelOf a x).selftest = s.selftest := rfl
@[simp] theorem State.setSelOf_spareNext (s : State) (a : Agent) (x : Selectors) : (s.setSelOf a x).spareNext = s.spareNext := rfl
@[simp] theorem State.setSelOf_lports (s : State) (a : Agent) (x : Selectors) : (s.setSelOf a x).lports = s.lports := rfl
@[simp] theorem State.setSelOf_inbox (s : State) (a : Agent) (x : Selectors) : (s.setSelOf a x).inbox = s.inbox := rfl
@[simp] theorem State.setSelOf_requests (s : State) (a : Agent) (x : Selectors) : (s.setSelOf a x).requests = s.requests := rfl
@[simp] theorem State.setSelOf_nextReq (s : State) (a : Agent) (x : Selectors) : (s.setSelOf a x).nextReq = s.nextReq := rfl
@[simp] theorem State.setSelOf_waitReads (s : State) (a : Agent) (x : Selectors) : (s.setSelOf a x).waitReads = s.waitReads := rfl
@[simp] theorem State.setSelOf_colls (s : State) (a : Agent) (x : Selectors) : (s.setSelOf a x).colls = s.colls := rfl
@[simp] theorem State.setSelOf_early (s : State) (a : Agent) (x : Selectors) : (s.setSelOf a x).early = s.early := rfl
@[simp] theorem State.setSelOf_kept (s : State) (a : Agent) (x : Selectors) : (s.setSelOf a x).kept = s.kept := rfl
@[simp] theorem State.setSelOf_adopted (s : State) (a : Agent) (x : Selectors) : (s.setSelOf a x).adopted = s.adopted := rfl
@[simp] theorem State.setSelOf_adopting (s : State) (a : Agent) (x : Selectors) : (s.setSelOf a x).adopting = s.adopting := rfl
@[simp] theorem State.setSelOf_snapArm (s : State) (a : Agent) (x : Selectors) : (s.setSelOf a x).snapArm = s.snapArm := rfl
@[simp] theorem State.setSelOf_snapNext (s : State) (a : Agent) (x : Selectors) : (s.setSelOf a x).snapNext = s.snapNext := rfl
@[simp] theorem State.setSelOf_gens (s : State) (a : Agent) (x : Selectors) : (s.setSelOf a x).gens = s.gens := rfl
@[simp] theorem State.setSelOf_snapDisarm (s : State) (a : Agent) (x : Selectors) : (s.setSelOf a x).snapDisarm = s.snapDisarm := rfl
@[simp] theorem State.setSelOf_restore (s : State) (a : Agent) (x : Selectors) : (s.setSelOf a x).restore = s.restore := rfl
@[simp] theorem State.setSelOf_refclk (s : State) (a : Agent) (x : Selectors) : (s.setSelOf a x).refclk = s.refclk := rfl
@[simp] theorem State.setSelOf_mainOk (s : State) (a : Agent) (x : Selectors) : (s.setSelOf a x).mainOk = s.mainOk := rfl
@[simp] theorem State.setSelOf_auxOk (s : State) (a : Agent) (x : Selectors) : (s.setSelOf a x).auxOk = s.auxOk := rfl
@[simp] theorem State.setSelOf_cxlDone (s : State) (a : Agent) (x : Selectors) : (s.setSelOf a x).cxlDone = s.cxlDone := rfl
@[simp] theorem State.setSelOf_railMv (s : State) (a : Agent) (x : Selectors) : (s.setSelOf a x).railMv = s.railMv := rfl
@[simp] theorem State.setSelOf_envUnheld (s : State) (a : Agent) (x : Selectors) : (s.setSelOf a x).envUnheld = s.envUnheld := rfl
@[simp] theorem State.setSelOf_droop (s : State) (a : Agent) (x : Selectors) : (s.setSelOf a x).droop = s.droop := rfl
@[simp] theorem State.setSelOf_taps (s : State) (a : Agent) (x : Selectors) : (s.setSelOf a x).taps = s.taps := rfl
@[simp] theorem State.setSelOf_calDraw (s : State) (a : Agent) (x : Selectors) : (s.setSelOf a x).calDraw = s.calDraw := rfl
@[simp] theorem State.setSelOf_nonceDraw (s : State) (a : Agent) (x : Selectors) : (s.setSelOf a x).nonceDraw = s.nonceDraw := rfl
@[simp] theorem State.setSelOf_dieTemp (s : State) (a : Agent) (x : Selectors) : (s.setSelOf a x).dieTemp = s.dieTemp := rfl
@[simp] theorem State.setSelOf_stackTemp (s : State) (a : Agent) (x : Selectors) : (s.setSelOf a x).stackTemp = s.stackTemp := rfl
@[simp] theorem State.setSelOf_scrubRow (s : State) (a : Agent) (x : Selectors) : (s.setSelOf a x).scrubRow = s.scrubRow := rfl
@[simp] theorem State.setSelOf_timer (s : State) (a : Agent) (x : Selectors) : (s.setSelOf a x).timer = s.timer := rfl
@[simp] theorem State.setSelOf_health (s : State) (a : Agent) (x : Selectors) : (s.setSelOf a x).health = s.health := rfl
@[simp] theorem State.setSelOf_healthDone (s : State) (a : Agent) (x : Selectors) : (s.setSelOf a x).healthDone = s.healthDone := rfl
@[simp] theorem State.setSelOf_sampleDone (s : State) (a : Agent) (x : Selectors) : (s.setSelOf a x).sampleDone = s.sampleDone := rfl
@[simp] theorem State.setSelOf_fuses (s : State) (a : Agent) (x : Selectors) : (s.setSelOf a x).fuses = s.fuses := rfl
@[simp] theorem State.setSelOf_flash (s : State) (a : Agent) (x : Selectors) : (s.setSelOf a x).flash = s.flash := rfl
@[simp] theorem State.setSelOf_actLog (s : State) (a : Agent) (x : Selectors) : (s.setSelOf a x).actLog = s.actLog := rfl
@[simp] theorem State.setSelOf_spdm (s : State) (a : Agent) (x : Selectors) : (s.setSelOf a x).spdm = s.spdm := rfl
@[simp] theorem State.setSelOf_i3c (s : State) (a : Agent) (x : Selectors) : (s.setSelOf a x).i3c = s.i3c := rfl
@[simp] theorem State.setSelOf_slotId (s : State) (a : Agent) (x : Selectors) : (s.setSelOf a x).slotId = s.slotId := rfl
@[simp] theorem State.setSelOf_thermLow (s : State) (a : Agent) (x : Selectors) : (s.setSelOf a x).thermLow = s.thermLow := rfl
@[simp] theorem State.setSelOf_perstLow (s : State) (a : Agent) (x : Selectors) : (s.setSelOf a x).perstLow = s.perstLow := rfl
@[simp] theorem State.setSelOf_genKeys (s : State) (a : Agent) (x : Selectors) : (s.setSelOf a x).genKeys = s.genKeys := rfl

end Sys2Proof.Machine
end

