-- ==== Sys2Proof/Laws/Regs.lean ====
section
/-!
SUPPORT. What a register, a field and a byte of memory read after a write (R10, R14). Register lemmas ask that the registers are
in canonical form; byte lemmas that memory is.
-/
namespace Sys2Proof.Machine

/-! ### Bit fields (R10) -/

theorem bitsOf_lt (n hi lo : Nat) : bitsOf n hi lo < 2 ^ (hi + 1 - lo) := Nat.mod_lt _ (by positivity)

theorem bitsOf_putBits_same {n hi lo v : Nat} (h : lo ≤ hi) : bitsOf (putBits n hi lo v) hi lo = v % 2 ^ (hi + 1 - lo) := by
  have hw : hi + 1 = (hi + 1 - lo) + lo := by omega
  unfold bitsOf putBits
  simp only [Nat.shiftLeft_eq, Nat.shiftRight_eq_div_pow]
  generalize hi + 1 - lo = w at *
  rw [hw, Nat.pow_add]
  have h1 : n / (2 ^ w * 2 ^ lo) * (2 ^ w * 2 ^ lo) + v % 2 ^ w * 2 ^ lo + n % 2 ^ lo =
      (n / (2 ^ w * 2 ^ lo) * 2 ^ w + v % 2 ^ w) * 2 ^ lo + n % 2 ^ lo := by ring
  rw [h1, Nat.add_comm, Nat.add_mul_div_right _ _ (by positivity), Nat.div_eq_of_lt (Nat.mod_lt _ (by positivity)), Nat.zero_add,
    Nat.mul_add_mod_of_lt']
  exact Nat.mod_lt _ (by positivity)
where
  Nat.mul_add_mod_of_lt' {a b c : Nat} (h : c < b) : (a * b + c) % b = c := by
    rw [Nat.add_comm, Nat.add_mul_mod_self_right, Nat.mod_eq_of_lt h]

theorem putBits_lt {n hi lo v : Nat} (hn : n < 2 ^ 64) (h : lo ≤ hi) (hh : hi < 64) : putBits n hi lo v < 2 ^ 64 := by
  unfold putBits
  simp only [Nat.shiftLeft_eq, Nat.shiftRight_eq_div_pow]
  have hw : hi + 1 = (hi + 1 - lo) + lo := by omega
  have hv : v % 2 ^ (hi + 1 - lo) < 2 ^ (hi + 1 - lo) := Nat.mod_lt _ (by positivity)
  have hl : n % 2 ^ lo < 2 ^ lo := Nat.mod_lt _ (by positivity)
  have hp : 2 ^ (hi + 1) = 2 ^ (hi + 1 - lo) * 2 ^ lo := by rw [← Nat.pow_add]; congr 1
  have hq : n / 2 ^ (hi + 1) < 2 ^ (64 - (hi + 1)) := by
    rw [Nat.div_lt_iff_lt_mul (by positivity), ← Nat.pow_add]
    rwa [show 64 - (hi + 1) + (hi + 1) = 64 by omega]
  have h64 : 2 ^ 64 = 2 ^ (64 - (hi + 1)) * 2 ^ (hi + 1) := by
    rw [← Nat.pow_add]
    exact congrArg (2 ^ ·) (by omega)
  have h2 : v % 2 ^ (hi + 1 - lo) * 2 ^ lo + n % 2 ^ lo < 2 ^ (hi + 1) := by
    rw [hp]
    calc _ < v % 2 ^ (hi + 1 - lo) * 2 ^ lo + 2 ^ lo := by omega
      _ = (v % 2 ^ (hi + 1 - lo) + 1) * 2 ^ lo := by ring
      _ ≤ _ := Nat.mul_le_mul_right _ hv
  rw [h64]
  calc n / 2 ^ (hi + 1) * 2 ^ (hi + 1) + v % 2 ^ (hi + 1 - lo) * 2 ^ lo + n % 2 ^ lo
      < n / 2 ^ (hi + 1) * 2 ^ (hi + 1) + 2 ^ (hi + 1) := by omega
    _ = (n / 2 ^ (hi + 1) + 1) * 2 ^ (hi + 1) := by ring
    _ ≤ _ := Nat.mul_le_mul_right _ hq

theorem bitsOf_putBits_above {n hi lo v h2 l2 : Nat} (h : lo ≤ hi) (h1 : hi < l2) :
    bitsOf (putBits n hi lo v) h2 l2 = bitsOf n h2 l2 := by
  unfold bitsOf
  congr 1
  unfold putBits
  simp only [Nat.shiftLeft_eq, Nat.shiftRight_eq_div_pow]
  have hp : 2 ^ (hi + 1) = 2 ^ (hi + 1 - lo) * 2 ^ lo := by rw [← Nat.pow_add]; congr 1; omega
  have hv : v % 2 ^ (hi + 1 - lo) < 2 ^ (hi + 1 - lo) := Nat.mod_lt _ (by positivity)
  have hl : n % 2 ^ lo < 2 ^ lo := Nat.mod_lt _ (by positivity)
  have h2 : v % 2 ^ (hi + 1 - lo) * 2 ^ lo + n % 2 ^ lo < 2 ^ (hi + 1) := by
    rw [hp]
    calc _ < v % 2 ^ (hi + 1 - lo) * 2 ^ lo + 2 ^ lo := by omega
      _ = (v % 2 ^ (hi + 1 - lo) + 1) * 2 ^ lo := by ring
      _ ≤ _ := Nat.mul_le_mul_right _ hv
  have h3 : 2 ^ l2 = 2 ^ (hi + 1) * 2 ^ (l2 - (hi + 1)) := by rw [← Nat.pow_add]; congr 1; omega
  rw [h3, ← Nat.div_div_eq_div_mul, ← Nat.div_div_eq_div_mul]
  congr 1
  rw [Nat.add_assoc, Nat.add_comm, Nat.add_mul_div_right _ _ (by positivity), Nat.div_eq_of_lt h2, Nat.zero_add]

theorem bitsOf_putBits_below {n hi lo v h2 l2 : Nat} (h1 : h2 < lo) (hl : l2 ≤ h2) (h : lo ≤ hi) :
    bitsOf (putBits n hi lo v) h2 l2 = bitsOf n h2 l2 := by
  unfold bitsOf putBits
  simp only [Nat.shiftLeft_eq, Nat.shiftRight_eq_div_pow]
  generalize hw : h2 + 1 - l2 = w
  have hp : 2 ^ (hi + 1) = 2 ^ (hi + 1 - lo) * 2 ^ lo := by rw [← Nat.pow_add]; congr 1; omega
  have hlo : 2 ^ lo = 2 ^ (lo - l2 - w) * 2 ^ w * 2 ^ l2 := by rw [← Nat.pow_add, ← Nat.pow_add]; congr 1; omega
  have hn : n = n / 2 ^ lo * 2 ^ lo + n % 2 ^ lo := by rw [Nat.mul_comm, Nat.div_add_mod]
  generalize n % 2 ^ lo = m at *
  have e1 : n / 2 ^ (hi + 1) * 2 ^ (hi + 1) + v % 2 ^ (hi + 1 - lo) * 2 ^ lo + m =
      m + (n / 2 ^ (hi + 1) * 2 ^ (hi + 1 - lo) + v % 2 ^ (hi + 1 - lo)) * 2 ^ (lo - l2 - w) * 2 ^ w * 2 ^ l2 := by
    rw [hp, hlo]; ring
  have e2 : n = m + n / 2 ^ lo * 2 ^ (lo - l2 - w) * 2 ^ w * 2 ^ l2 := by
    conv_lhs => rw [hn]
    conv_lhs => rw [hlo]
    rw [show 2 ^ (lo - l2 - w) * 2 ^ w * 2 ^ l2 = 2 ^ lo from hlo.symm]
    rw [Nat.mul_assoc (n / 2 ^ lo * 2 ^ (lo - l2 - w)), Nat.mul_assoc (n / 2 ^ lo), ← Nat.mul_assoc (2 ^ (lo - l2 - w)), ← hlo]
    omega
  rw [e1, Nat.add_mul_div_right _ _ (by positivity), Nat.add_mul_mod_self_right]
  conv_rhs => rw [e2, Nat.add_mul_div_right _ _ (by positivity), Nat.add_mul_mod_self_right]

/-! ### Registers (R14) -/

theorem State.reg_lt (s : State) (r : Reg) : s.reg r < 2 ^ 64 := BitVec.isLt _

theorem State.reg_setReg {s : State} (h : Sparse.sorted s.regs = true) (r : Reg) (v : Nat) : (s.setReg r v).reg r = v % 2 ^ 64 := by
  unfold State.reg State.setReg
  simp only
  rw [Sparse.get_set h]
  simp

theorem State.reg_setReg_ne {s : State} (h : Sparse.sorted s.regs = true) {r x : Reg} (hx : Reg.offset x ≠ Reg.offset r) (v : Nat) :
    (s.setReg r v).reg x = s.reg x := by
  unfold State.reg State.setReg
  simp only
  rw [Sparse.get_set_ne h hx]

theorem State.sorted_setReg {s : State} (h : Sparse.sorted s.regs = true) (r : Reg) (v : Nat) :
    Sparse.sorted (s.setReg r v).regs = true := Sparse.sorted_set h

theorem State.sorted_setFld {s : State} (h : Sparse.sorted s.regs = true) (f : RegField) (v : Nat) :
    Sparse.sorted (s.setFld f v).regs = true := Sparse.sorted_set h

/-- A field reads the value written, cut to its width. -/
theorem State.fld_setFld {s : State} (h : Sparse.sorted s.regs = true) {f : RegField} (h1 : f.lo ≤ f.hi) (h2 : f.hi < 64) (v : Nat) :
    (s.setFld f v).fld f = v % 2 ^ (f.hi + 1 - f.lo) := by
  unfold State.fld State.setFld
  rw [State.reg_setReg h, Nat.mod_eq_of_lt (putBits_lt (s.reg_lt _) h1 h2), bitsOf_putBits_same h1]

/-- A field of another register keeps its value. -/
theorem State.fld_setFld_reg {s : State} (h : Sparse.sorted s.regs = true) {f x : RegField}
    (hx : Reg.offset x.reg ≠ Reg.offset f.reg) (v : Nat) : (s.setFld f v).fld x = s.fld x := by
  unfold State.fld State.setFld
  rw [State.reg_setReg_ne h hx]

theorem State.reg_setFld_ne {s : State} (h : Sparse.sorted s.regs = true) {f : RegField} {r : Reg}
    (hx : Reg.offset r ≠ Reg.offset f.reg) (v : Nat) : (s.setFld f v).reg r = s.reg r := State.reg_setReg_ne h hx _

/-- Another field of the same register keeps its value. -/
theorem State.fld_setFld_other {s : State} (h : Sparse.sorted s.regs = true) {f x : RegField} (h1 : f.lo ≤ f.hi) (h2 : f.hi < 64)
    (hr : x.reg = f.reg) (hl : x.lo ≤ x.hi) (hx : f.hi < x.lo ∨ x.hi < f.lo) (v : Nat) : (s.setFld f v).fld x = s.fld x := by
  unfold State.fld State.setFld
  rw [hr, State.reg_setReg h, Nat.mod_eq_of_lt (putBits_lt (s.reg_lt _) h1 h2)]
  rcases hx with hx | hx
  · exact bitsOf_putBits_above h1 hx
  · exact bitsOf_putBits_below hx hl h1

theorem State.fld_setReg {s : State} (h : Sparse.sorted s.regs = true) {f : RegField} {r : Reg} (hr : f.reg = r) (v : Nat) :
    (s.setReg r v).fld f = bitsOf (v % 2 ^ 64) f.hi f.lo := by
  unfold State.fld
  rw [hr, State.reg_setReg h]

theorem State.fld_setReg_ne {s : State} (h : Sparse.sorted s.regs = true) {f : RegField} {r : Reg}
    (hx : Reg.offset f.reg ≠ Reg.offset r) (v : Nat) : (s.setReg r v).fld f = s.fld f := by
  unfold State.fld
  rw [State.reg_setReg_ne h hx]

/-! ### Bytes of memory -/

theorem State.rawByte_setRawByte {s : State} (h : Sparse.sorted s.mem = true) (p a : Nat) (b : Byte) :
    (s.setRawByte p b).rawByte a = if a = p then b else s.rawByte a := by
  unfold State.rawByte State.setRawByte
  exact Sparse.get_set h

theorem State.sorted_setRawByte {s : State} (h : Sparse.sorted s.mem = true) (p : Nat) (b : Byte) :
    Sparse.sorted (s.setRawByte p b).mem = true := Sparse.sorted_set h

theorem State.sorted_setRaw {s : State} (h : Sparse.sorted s.mem = true) (p : Nat) (bs : Bytes) :
    Sparse.sorted (s.setRaw p bs).mem = true := by
  unfold State.setRaw
  generalize bs.zipIdx p = l
  induction l generalizing s with
  | nil => exact h
  | cons x l ih => exact ih (State.sorted_setRawByte h _ _)

/-- A byte read after a string of bytes is written: the string's byte inside its range, the old one outside. -/
theorem State.rawByte_setRaw {s : State} (h : Sparse.sorted s.mem = true) (p : Nat) (bs : Bytes) (a : Nat) :
    (s.setRaw p bs).rawByte a = if p ≤ a ∧ a < p + bs.length then bs.getD (a - p) 0 else s.rawByte a := by
  induction bs generalizing s p with
  | nil =>
    rw [if_neg (by simp only [List.length_nil]; omega)]
    rfl
  | cons b bs ih =>
    have e : s.setRaw p (b :: bs) = (s.setRawByte p b).setRaw (p + 1) bs := by
      unfold State.setRaw
      rw [List.zipIdx_cons]
      rfl
    rw [e, ih (State.sorted_setRawByte h _ _), State.rawByte_setRawByte h]
    simp only [List.length_cons]
    by_cases h1 : p + 1 ≤ a ∧ a < p + 1 + bs.length
    · rw [if_pos h1, if_pos (by omega), show a - p = (a - (p + 1)) + 1 by omega, List.getD_cons_succ]
    · rw [if_neg h1]
      by_cases h2 : a = p
      · subst h2
        rw [if_pos rfl, if_pos (by omega), Nat.sub_self, List.getD_cons_zero]
      · rw [if_neg h2, if_neg (by omega)]

theorem State.raw_length (s : State) (p n : Nat) : (s.raw p n).length = n := by simp [State.raw]

/-- A range read after it was written. -/
theorem State.raw_setRaw {s : State} (h : Sparse.sorted s.mem = true) (p : Nat) (bs : Bytes) :
    (s.setRaw p bs).raw p bs.length = bs := by
  apply List.ext_getElem (by simp [State.raw])
  intro i h1 h2
  simp only [State.raw, List.getElem_map, List.getElem_range]
  rw [State.rawByte_setRaw h, if_pos (by omega), Nat.add_sub_cancel_left]
  simp [h2]

/-- A range read after another was written. -/
theorem State.raw_setRaw_ne {s : State} (h : Sparse.sorted s.mem = true) {p a n : Nat} {bs : Bytes}
    (hd : a + n ≤ p ∨ p + bs.length ≤ a) : (s.setRaw p bs).raw a n = s.raw a n := by
  apply List.map_congr_left
  intro i hi
  rw [State.rawByte_setRaw h, if_neg (by have := List.mem_range.mp hi; omega)]

theorem leBytes_length (n v : Nat) : (leBytes n v).length = n := by
  induction n generalizing v with
  | zero => rfl
  | succ n ih => simp [leBytes, ih]

theorem leNat_leBytes (n v : Nat) : leNat (leBytes n v) = v % 2 ^ (8 * n) := by
  induction n generalizing v with
  | zero => simp [leBytes, leNat, Nat.mod_one]
  | succ n ih =>
    simp only [leBytes, leNat, ih, BitVec.toNat_ofNat]
    rw [show 8 * (n + 1) = 8 + 8 * n by ring, Nat.pow_add, Nat.mod_mul]

/-- R10: a little-endian number reads as it was written. -/
theorem State.rawNat_setRawNat {s : State} (h : Sparse.sorted s.mem = true) (p n v : Nat) :
    (s.setRawNat p n v).rawNat p n = v % 2 ^ (8 * n) := by
  unfold State.rawNat State.setRawNat
  have e := State.raw_setRaw h p (leBytes n v)
  rw [leBytes_length] at e
  rw [e, leNat_leBytes]

/-- R292: a field of a queue context reads as it was written. -/
theorem State.ctx_setCtx {s : State} (h : Sparse.sorted s.mem = true) (q off len v : Nat) :
    (s.setCtx q off len v).ctx q off len = v % 2 ^ (8 * len) := State.rawNat_setRawNat h _ _ _

/-- R292: another field of the contexts keeps its value. -/
theorem State.ctx_setCtx_ne {s : State} (h : Sparse.sorted s.mem = true) {q off len v p o l : Nat}
    (hd : 64 * p + o + l ≤ 64 * q + off ∨ 64 * q + off + len ≤ 64 * p + o) : (s.setCtx q off len v).ctx p o l = s.ctx p o l := by
  unfold State.ctx State.setCtx State.rawNat State.setRawNat
  rw [State.raw_setRaw_ne h (by rw [leBytes_length]; omega)]

theorem State.sorted_setCtx {s : State} (h : Sparse.sorted s.mem = true) (q off len v : Nat) :
    Sparse.sorted (s.setCtx q off len v).mem = true := State.sorted_setRaw h _ _

end Sys2Proof.Machine
end

