-- ==== Sys2Proof/Laws/Steady.lean ====
section
/-!
SUPPORT. What every operation of the block keeps, said once as a relation between the state before and the state after it:
the queue of the commands that wait and the grade stay; the memory and the registers keep their canonical form; the fuses and
the LMS leaf only advance. Each operation has a lemma of its own about it, in the files Laws/Steady<Machine file>.lean.
-/
namespace Sys2Proof.Machine

/-- A canonical memory stays canonical. -/
def MemLe (x y : List Host.Cell) : Prop := Sparse.wf 0 x = true → Sparse.wf 0 y = true

/-- Canonical registers stay canonical. -/
def RegsLe (g : Grade) (x y : List (Nat × W64)) : Prop := RegsOk g x → RegsOk g y

/-- A map whose keys rise keeps rising keys. -/
def SortLe {β : Type} (x y : List (Nat × β)) : Prop := Sparse.sorted x = true → Sparse.sorted y = true

/-- R493: fused bits are never cleared, and what is fused at manufacture stays. -/
def FusesLe (x y : Fuses) : Prop :=
  y.deviceId = x.deviceId ∧ x.svn ≤ y.svn ∧ x.lmsBlocks ≤ y.lmsBlocks ∧ y.fwKeyHash = x.fwKeyHash ∧
    y.vendorHash = x.vendorHash ∧ y.ownerHash = x.ownerHash ∧ y.bypass = x.bypass ∧ y.uds = x.uds

/-- R502: the LMS leaf does not outrun the fused blocks, and then it never goes back. -/
def LmsLe (fx : Flash) (x : Fuses) (fy : Flash) (y : Fuses) : Prop :=
  fx.q ≤ 4096 * x.lmsBlocks → fy.q ≤ 4096 * y.lmsBlocks ∧ fx.q ≤ fy.q

/-- What every operation keeps, from state `a` to state `s`. -/
structure Steady (a s : State) : Prop where
  pending : s.pending = a.pending
  grade : s.grade = a.grade
  mem : MemLe a.mem s.mem
  regs : RegsLe a.grade a.regs s.regs
  fuses : FusesLe a.fuses s.fuses
  lms : LmsLe a.flash a.fuses s.flash s.fuses
  queues : SortLe a.queues s.queues
  sessions : SortLe a.sessions s.sessions
  counters : SortLe a.counters s.counters
  sel : SortLe a.sel s.sel
  carts : SortLe a.carts s.carts
  ver : SortLe a.ver s.ver
  cores : SortLe a.cores s.cores
  droop : SortLe a.droop s.droop
  taps : SortLe a.taps s.taps
  lports : SortLe a.lports s.lports
  gens : SortLe a.gens s.gens
  cxlPorts : SortLe a.cxlPorts s.cxlPorts
  slots : SortLe a.slots s.slots
  migrations : SortLe a.migrations s.migrations
  oldFrames : SortLe a.oldFrames s.oldFrames
  requests : SortLe a.requests s.requests

theorem MemLe.rfl {x : List Host.Cell} : MemLe x x := id
@[simp] theorem MemLe.set {x y : List Host.Cell} {k : Nat} {v : Byte} (h : MemLe x y) : MemLe x (Sparse.set (0#8) y k v) :=
  fun hx => Sparse.wf_set (h hx)
@[simp] theorem MemLe.filter {x y : List Host.Cell} {p : Host.Cell → Bool} (h : MemLe x y) : MemLe x (y.filter p) :=
  fun hx => Sparse.wf_filter p (h hx)
@[simp] theorem MemLe.nil {x : List Host.Cell} : MemLe x [] := fun _ => (Eq.refl _)

theorem RegsLe.rfl {g : Grade} {x : List (Nat × W64)} : RegsLe g x x := id
@[simp] theorem RegsLe.filter {g : Grade} {x y : List (Nat × W64)} {p : Nat × W64 → Bool} (h : RegsLe g x y) :
    RegsLe g x (y.filter p) :=
  fun hx => ⟨Sparse.sorted_filter p (h hx).1, fun e he => (h hx).2 e (List.mem_filter.mp he).1⟩
theorem RegsLe.set {g : Grade} {x y : List (Nat × W64)} {r : Reg} {v : W64} (h : RegsLe g x y) :
    RegsLe g x (Sparse.set (BitVec.ofNat 64 (Reg.resetValue g r)) y (Reg.offset r) v) := by
  intro hx
  refine ⟨Sparse.sorted_set (h hx).1, fun e he => ?_⟩
  rcases Sparse.mem_set he with ⟨rfl, hv⟩ | he
  · exact ⟨r, (Eq.refl _), hv⟩
  · exact (h hx).2 e he

theorem SortLe.rfl {β : Type} {x : List (Nat × β)} : SortLe x x := id
theorem SortLe.trans {β : Type} {x y z : List (Nat × β)} (h : SortLe x y) (k : SortLe y z) : SortLe x z := fun hx => k (h hx)
@[simp] theorem SortLe.nil {β : Type} {x : List (Nat × β)} : SortLe x ([] : List (Nat × β)) := fun _ => (Eq.refl _)
@[simp] theorem SortLe.set {β : Type} [DecidableEq β] {x y : List (Nat × β)} {d : β} {k : Nat} {v : β} (h : SortLe x y) :
    SortLe x (Sparse.set d y k v) :=
  fun hx => Sparse.sorted_set (h hx)
@[simp] theorem SortLe.filter {β : Type} {x y : List (Nat × β)} {p : Nat × β → Bool} (h : SortLe x y) : SortLe x (y.filter p) :=
  fun hx => Sparse.sorted_filter p (h hx)
@[simp] theorem SortLe.insert {β : Type} {x y : List (Nat × β)} {k : Nat} {v : β} (h : SortLe x y) : SortLe x (Sparse.insert y k v) :=
  fun hx => Sparse.sorted_insert (h hx)
@[simp] theorem SortLe.erase {β : Type} {x y : List (Nat × β)} {k : Nat} (h : SortLe x y) : SortLe x (Sparse.erase y k) :=
  fun hx => Sparse.sorted_erase (h hx)
@[simp] theorem SortLe.update {β : Type} [DecidableEq β] {x y : List (Nat × β)} {d : β} {f : Nat → β → β} (h : SortLe x y) :
    SortLe x (Sparse.update d f y) :=
  fun hx => Sparse.sorted_filter _ (Sparse.sorted_map f (h hx))

theorem FusesLe.rfl {x : Fuses} : FusesLe x x := ⟨(Eq.refl _), le_rfl, le_rfl, (Eq.refl _), (Eq.refl _), (Eq.refl _), (Eq.refl _), (Eq.refl _)⟩
theorem FusesLe.trans {x y z : Fuses} (h : FusesLe x y) (k : FusesLe y z) : FusesLe x z :=
  ⟨k.1.trans h.1, h.2.1.trans k.2.1, h.2.2.1.trans k.2.2.1, k.2.2.2.1.trans h.2.2.2.1, k.2.2.2.2.1.trans h.2.2.2.2.1,
    k.2.2.2.2.2.1.trans h.2.2.2.2.2.1, k.2.2.2.2.2.2.1.trans h.2.2.2.2.2.2.1,
    k.2.2.2.2.2.2.2.trans h.2.2.2.2.2.2.2⟩

theorem LmsLe.rfl {f : Flash} {x : Fuses} : LmsLe f x f x := fun h => ⟨h, le_rfl⟩
theorem LmsLe.trans {f1 f2 f3 : Flash} {x1 x2 x3 : Fuses} (h : LmsLe f1 x1 f2 x2) (k : LmsLe f2 x2 f3 x3) : LmsLe f1 x1 f3 x3 :=
  fun hx => ⟨(k (h hx).1).1, (h hx).2.trans (k (h hx).1).2⟩

@[simp] theorem Steady.rfl {s : State} : Steady s s := ⟨(Eq.refl _), (Eq.refl _), MemLe.rfl, RegsLe.rfl, FusesLe.rfl, LmsLe.rfl,
  SortLe.rfl, SortLe.rfl, SortLe.rfl, SortLe.rfl, SortLe.rfl, SortLe.rfl, SortLe.rfl,
  SortLe.rfl, SortLe.rfl, SortLe.rfl, SortLe.rfl, SortLe.rfl, SortLe.rfl, SortLe.rfl, SortLe.rfl, SortLe.rfl⟩

theorem Steady.trans {a b c : State} (h : Steady a b) (k : Steady b c) : Steady a c :=
  ⟨k.pending.trans h.pending, k.grade.trans h.grade, fun x => k.mem (h.mem x), fun x => h.grade ▸ k.regs (h.grade ▸ h.regs x),
    h.fuses.trans k.fuses, h.lms.trans k.lms, h.queues.trans k.queues, h.sessions.trans k.sessions, h.counters.trans k.counters,
    h.sel.trans k.sel, h.carts.trans k.carts, h.ver.trans k.ver, h.cores.trans k.cores,
    h.droop.trans k.droop, h.taps.trans k.taps, h.lports.trans k.lports, h.gens.trans k.gens,
    h.cxlPorts.trans k.cxlPorts, h.slots.trans k.slots, h.migrations.trans k.migrations, h.oldFrames.trans k.oldFrames, h.requests.trans k.requests⟩

/-- A change of fields that the relation does not name. -/
theorem Steady.other {a u t : State} (h : Steady a u) (h1 : t.pending = u.pending) (h2 : t.grade = u.grade) (h3 : t.mem = u.mem)
    (h4 : t.regs = u.regs) (h5 : t.fuses = u.fuses) (h6 : t.flash = u.flash)
    (h7 : t.queues = u.queues) (h8 : t.sessions = u.sessions) (h9 : t.counters = u.counters) (h10 : t.sel = u.sel)
    (h11 : t.carts = u.carts) (h12 : t.ver = u.ver) (h13 : t.cores = u.cores)
    (h14 : t.droop = u.droop) (h15 : t.taps = u.taps) (h16 : t.lports = u.lports) (h17 : t.gens = u.gens)
    (h18 : t.cxlPorts = u.cxlPorts) (h19 : t.slots = u.slots) (h20 : t.migrations = u.migrations) (h21 : t.oldFrames = u.oldFrames) (h22 : t.requests = u.requests) : Steady a t :=
  ⟨h1.trans h.pending, h2.trans h.grade, h3 ▸ h.mem, h4 ▸ h.regs, h5 ▸ h.fuses, h6 ▸ h5 ▸ h.lms,
   h7 ▸ h.queues, h8 ▸ h.sessions, h9 ▸ h.counters, h10 ▸ h.sel, h11 ▸ h.carts, h12 ▸ h.ver, h13 ▸ h.cores,
   h14 ▸ h.droop, h15 ▸ h.taps, h16 ▸ h.lports, h17 ▸ h.gens, h18 ▸ h.cxlPorts, h19 ▸ h.slots, h20 ▸ h.migrations, h21 ▸ h.oldFrames, h22 ▸ h.requests⟩

/-- A change of fuses and flash. -/
theorem Steady.withFuses {a u : State} {f : Fuses} {fl : Flash} (h : Steady a u) (hf : FusesLe u.fuses f)
    (hl : LmsLe u.flash u.fuses fl f) : Steady a { u with fuses := f, flash := fl } :=
  ⟨h.pending, h.grade, h.mem, h.regs, h.fuses.trans hf, h.lms.trans hl, h.queues, h.sessions, h.counters, h.sel, h.carts, h.ver,
   h.cores, h.droop, h.taps, h.lports, h.gens, h.cxlPorts, h.slots, h.migrations, h.oldFrames, h.requests⟩

/-- A state given field by field: what it takes to keep the relation. -/
@[simp] theorem Steady.mk_of {a : State}
    {g : Grade} {p : List Instr} {x_draws : Nat} {x_paceDraws : Nat} {x_wire : List Wire} {r : List (Nat × W64)}
    {x_capsValid : Bool} {x_rowFailed : Bool} {m_sel : List (Nat × Selectors)} {x_partnerHeld : List (Nat × Nat)} {m :
    List Host.Cell} {m_carts : List (Nat × Cart)} {m_ver : List (Nat × Version)} {x_walk : Walk} {m_migrations : List (Nat
    × Migration)} {m_oldFrames : List (Nat × List Nat)} {x_lostFrames : List (Nat × List Nat)} {x_wantHbm : List Nat}
    {m_cxlPorts : List (Nat × CxlPort)} {x_hbmReady : Bool} {x_pendingWrites : List PendingWrite} {x_badWords : List (Nat
    × Nat)} {m_queues : List (Nat × QueueRt)} {x_served : List (Nat × Nat)} {x_serial : Nat} {x_step : StepSt} {x_attempts
    : List (Nat × Nat)} {x_recNext : Nat} {x_logNext : Nat} {m_sessions : List (Nat × Session)} {x_mgmtLink : Bool}
    {m_counters : List (Nat × Counter)} {x_injections : List Injection} {x_teleSeq : Nat} {x_teleLost : Bool} {m_slots :
    List (Nat × Bytes)} {x_acts : List Act} {x_image : Option Image} {x_activated : List Nat} {m_cores : List (Nat ×
    CoreRt)} {x_routes : List (Nat × RouteRt)} {x_live : List (Nat × LiveTok)} {x_nextTok : Nat} {x_sends : Nat} {x_seg :
    Option SegRt} {x_segDead : Bool} {x_ckpt : List (Nat × CkptRt)} {x_selftest : Option SelfRt} {x_spareNext : Nat}
    {m_lports : List (Nat × LPort)} {x_inbox : List (Nat × Packet)} {m_requests : List (Nat × Req)} {x_nextReq : Nat}
    {x_waitReads : List (Nat × Packet)} {x_colls : List CollRt} {x_early : List Packet} {x_kept : List Kept} {x_adopted :
    List (Nat × W32)} {x_adopting : Option AdoptRt} {x_snapArm : Option SnapArm} {x_snapNext : Option SnapArm} {m_gens :
    List (Nat × SnapGen)} {x_snapDisarm : Option (Nat × W32)} {x_restore : Option RestoreRt} {x_refclk : Bool} {x_mainOk :
    Bool} {x_auxOk : Bool} {x_cxlDone : Bool} {x_railMv : Nat} {x_envUnheld : Bool} {m_droop : List (Nat × Droop)} {m_taps
    : List (Nat × Tap)} {x_calDraw : Nat} {x_nonceDraw : Nat} {x_dieTemp : List (Nat × Nat)} {x_stackTemp : List (Nat ×
    Nat)} {x_scrubRow : Nat} {x_timer : Nat} {x_health : Health} {x_healthDone : Bool} {x_sampleDone : Bool} {f : Fuses}
    {fl : Flash} {x_actLog : Bytes} {x_spdm : Spdm} {x_i3c : I3c} {x_slotId : Nat} {x_thermLow : Bool} {x_perstLow : Bool}
    {x_genKeys : List (Nat × W64)}
    (hp : p = a.pending) (hg : g = a.grade) (hm : MemLe a.mem m) (hr : RegsLe a.grade a.regs r) (hf : FusesLe a.fuses f)
    (hl : LmsLe a.flash a.fuses fl f)
    (h_queues : SortLe a.queues m_queues) (h_sessions : SortLe a.sessions m_sessions) (h_counters : SortLe a.counters
    m_counters) (h_sel : SortLe a.sel m_sel) (h_carts : SortLe a.carts m_carts) (h_ver : SortLe a.ver m_ver) (h_cores :
    SortLe a.cores m_cores) (h_droop : SortLe a.droop m_droop) (h_taps : SortLe a.taps m_taps) (h_lports : SortLe a.lports
    m_lports) (h_gens : SortLe a.gens m_gens) (h_cxlPorts : SortLe a.cxlPorts m_cxlPorts) (h_slots : SortLe a.slots
    m_slots) (h_migrations : SortLe a.migrations m_migrations) (h_oldFrames : SortLe a.oldFrames m_oldFrames) (h_requests
    : SortLe a.requests m_requests) :
    Steady a
      ⟨g, p, x_draws, x_paceDraws, x_wire, r, x_capsValid, x_rowFailed, m_sel, x_partnerHeld, m, m_carts, m_ver, x_walk,
      m_migrations, m_oldFrames, x_lostFrames, x_wantHbm, m_cxlPorts, x_hbmReady, x_pendingWrites, x_badWords, m_queues,
      x_served, x_serial, x_step, x_attempts, x_recNext, x_logNext, m_sessions, x_mgmtLink, m_counters, x_injections,
      x_teleSeq, x_teleLost, m_slots, x_acts, x_image, x_activated, m_cores, x_routes, x_live, x_nextTok, x_sends,
      x_seg, x_segDead, x_ckpt, x_selftest, x_spareNext, m_lports, x_inbox, m_requests, x_nextReq, x_waitReads, x_colls,
      x_early, x_kept, x_adopted, x_adopting, x_snapArm, x_snapNext, m_gens, x_snapDisarm, x_restore, x_refclk,
      x_mainOk, x_auxOk, x_cxlDone, x_railMv, x_envUnheld, m_droop, m_taps, x_calDraw, x_nonceDraw, x_dieTemp,
      x_stackTemp, x_scrubRow, x_timer, x_health, x_healthDone, x_sampleDone, f, fl, x_actLog, x_spdm, x_i3c, x_slotId,
      x_thermLow, x_perstLow, x_genKeys⟩ :=
  ⟨hp, hg, hm, hr, hf, hl,
    h_queues, h_sessions, h_counters, h_sel, h_carts, h_ver, h_cores, h_droop, h_taps, h_lports, h_gens, h_cxlPorts,
    h_slots, h_migrations, h_oldFrames, h_requests⟩

@[simp] theorem Steady.pending_eq {a u : State} (h : Steady a u) : (u.pending = a.pending) = True := eq_true h.pending
@[simp] theorem Steady.grade_eq {a u : State} (h : Steady a u) : (u.grade = a.grade) = True := eq_true h.grade
@[simp] theorem Steady.memLe {a u : State} (h : Steady a u) : MemLe a.mem u.mem := h.mem
@[simp] theorem Steady.regsLe {a u : State} (h : Steady a u) : RegsLe a.grade a.regs u.regs := h.regs
@[simp] theorem Steady.fusesLe {a u : State} (h : Steady a u) : FusesLe a.fuses u.fuses := h.fuses
@[simp] theorem Steady.lmsLe {a u : State} (h : Steady a u) : LmsLe a.flash a.fuses u.flash u.fuses := h.lms

@[simp] theorem Steady.queuesLe {a u : State} (h : Steady a u) : SortLe a.queues u.queues := h.queues
@[simp] theorem Steady.sessionsLe {a u : State} (h : Steady a u) : SortLe a.sessions u.sessions := h.sessions
@[simp] theorem Steady.countersLe {a u : State} (h : Steady a u) : SortLe a.counters u.counters := h.counters
@[simp] theorem Steady.selLe {a u : State} (h : Steady a u) : SortLe a.sel u.sel := h.sel
@[simp] theorem Steady.cartsLe {a u : State} (h : Steady a u) : SortLe a.carts u.carts := h.carts
@[simp] theorem Steady.verLe {a u : State} (h : Steady a u) : SortLe a.ver u.ver := h.ver
@[simp] theorem Steady.coresLe {a u : State} (h : Steady a u) : SortLe a.cores u.cores := h.cores
@[simp] theorem Steady.droopLe {a u : State} (h : Steady a u) : SortLe a.droop u.droop := h.droop
@[simp] theorem Steady.tapsLe {a u : State} (h : Steady a u) : SortLe a.taps u.taps := h.taps
@[simp] theorem Steady.lportsLe {a u : State} (h : Steady a u) : SortLe a.lports u.lports := h.lports
@[simp] theorem Steady.gensLe {a u : State} (h : Steady a u) : SortLe a.gens u.gens := h.gens
@[simp] theorem Steady.cxlPortsLe {a u : State} (h : Steady a u) : SortLe a.cxlPorts u.cxlPorts := h.cxlPorts
@[simp] theorem Steady.slotsLe {a u : State} (h : Steady a u) : SortLe a.slots u.slots := h.slots
@[simp] theorem Steady.migrationsLe {a u : State} (h : Steady a u) : SortLe a.migrations u.migrations := h.migrations
@[simp] theorem Steady.oldFramesLe {a u : State} (h : Steady a u) : SortLe a.oldFrames u.oldFrames := h.oldFrames
@[simp] theorem Steady.requestsLe {a u : State} (h : Steady a u) : SortLe a.requests u.requests := h.requests

@[simp] theorem Steady.ite {a s t : State} {c : Prop} [Decidable c] (hs : Steady a s) (ht : Steady a t) : Steady a (if c then s else t) := by
  split <;> assumption

@[simp] theorem Steady.ite_fst {β : Type} {a : State} {s t : State × β} {c : Prop} [Decidable c] (hs : Steady a s.1) (ht : Steady a t.1) :
    Steady a (if c then s else t).1 := by
  split <;> assumption

@[simp] theorem Steady.ite_snd {β : Type} {a : State} {s t : β × State} {c : Prop} [Decidable c] (hs : Steady a s.2) (ht : Steady a t.2) :
    Steady a (if c then s else t).2 := by
  split <;> assumption

@[simp] theorem Steady.ite_snd_snd {β γ : Type} {a : State} {s t : β × γ × State} {c : Prop} [Decidable c] (hs : Steady a s.2.2)
    (ht : Steady a t.2.2) : Steady a (if c then s else t).2.2 := by
  split <;> assumption

theorem Steady.triple {β γ : Type} {a s : State} {x : β} {y : γ} (h : Steady a s) : Steady a (x, y, s).2.2 := h

@[simp] theorem Steady.foldl {α : Type} {a s : State} {g : State → α → State} {l : List α} (hs : Steady a s)
    (hg : ∀ u x, Steady a u → Steady a (g u x)) : Steady a (l.foldl g s) := by
  induction l generalizing s with
  | nil => exact hs
  | cons x l ih => exact ih (hg s x hs)

@[simp] theorem Steady.foldl_snd {α β : Type} {a : State} {s : β × State} {g : β × State → α → β × State} {l : List α}
    (hs : Steady a s.2) (hg : ∀ u x, Steady a u.2 → Steady a (g u x).2) : Steady a (l.foldl g s).2 := by
  induction l generalizing s with
  | nil => exact hs
  | cons x l ih => exact ih (hg s x hs)

@[simp] theorem Steady.foldl_fst {α β : Type} {a : State} {s : State × β} {g : State × β → α → State × β} {l : List α}
    (hs : Steady a s.1) (hg : ∀ u x, Steady a u.1 → Steady a (g u x).1) : Steady a (l.foldl g s).1 := by
  induction l generalizing s with
  | nil => exact hs
  | cons x l ih => exact ih (hg s x hs)

/-- A state, and beside it possibly another that ends the work on it. -/
structure SteadyOpt (a : State) (p : Option State × State) : Prop where
  snd : Steady a p.2
  fst : ∀ t, p.1 = some t → Steady a t

theorem SteadyOpt.none {a s : State} (h : Steady a s) : SteadyOpt a (Option.none, s) := ⟨h, fun _ e => by simp at e⟩
theorem SteadyOpt.some {a s t : State} (h : Steady a t) (k : Steady a s) : SteadyOpt a (Option.some t, s) :=
  ⟨k, fun _ e => by simp at e; exact e ▸ h⟩

theorem SteadyOpt.foldl {α : Type} {a : State} {s : Option State × State} {g : Option State × State → α → Option State × State}
    {l : List α} (hs : SteadyOpt a s) (hg : ∀ u x, SteadyOpt a u → SteadyOpt a (g u x)) : SteadyOpt a (l.foldl g s) := by
  induction l generalizing s with
  | nil => exact hs
  | cons x l ih => exact ih (hg s x hs)

end Sys2Proof.Machine
end

