-- ==== Sys2Proof/Laws/SteadyOps.lean ====
section
/-!
SUPPORT. The operations of Machine/Ops.lean keep what Laws/Steady.lean says.
-/
namespace Sys2Proof.Machine

@[simp] theorem State.draw_steady {s₀ : State} {α : Type} {s : State} {f : Nat → α} (h_s : Steady s₀ s) :
    Steady s₀ (State.draw s f).2 := by
  unfold State.draw
  simp (config := { maxDischargeDepth := 40, contextual := true }) [*]

@[simp] theorem State.emit_steady {s₀ : State} {s : State} {w : Wire} (h_s : Steady s₀ s) :
    Steady s₀ (State.emit s w) := by
  unfold State.emit
  simp (config := { maxDischargeDepth := 40, contextual := true }) [*]

@[simp] theorem State.setReg_steady {s₀ : State} {s : State} {r : Reg} {v : Nat} (h_s : Steady s₀ s) :
    Steady s₀ (State.setReg s r v) := by
  unfold State.setReg
  have hg := h_s.grade
  refine Steady.mk_of h_s.pending hg h_s.mem ?_ h_s.fuses h_s.lms h_s.queues h_s.sessions h_s.counters h_s.sel h_s.carts h_s.ver h_s.cores
    h_s.droop h_s.taps h_s.lports h_s.gens h_s.cxlPorts h_s.slots h_s.migrations h_s.oldFrames h_s.requests
  rw [hg]
  exact RegsLe.set h_s.regs

@[simp] theorem State.setFld_steady {s₀ : State} {s : State} {f : RegField} {v : Nat} (h_s : Steady s₀ s) :
    Steady s₀ (State.setFld s f v) := by
  unfold State.setFld
  simp (config := { maxDischargeDepth := 40, contextual := true }) [*]

@[simp] theorem State.satFld_steady {s₀ : State} {s : State} {f : RegField} {n : Nat} (h_s : Steady s₀ s) :
    Steady s₀ (State.satFld s f n) := by
  unfold State.satFld
  simp (config := { maxDischargeDepth := 40, contextual := true }) [*]

@[simp] theorem State.setRawByte_steady {s₀ : State} {s : State} {p : Nat} {b : Byte} (h_s : Steady s₀ s) :
    Steady s₀ (State.setRawByte s p b) := by
  unfold State.setRawByte
  simp (config := { maxDischargeDepth := 40, contextual := true }) [*]

@[simp] theorem State.setRaw_steady {s₀ : State} {s : State} {p : Nat} {bs : Bytes} (h_s : Steady s₀ s) :
    Steady s₀ (State.setRaw s p bs) := by
  unfold State.setRaw
  simp (config := { maxDischargeDepth := 40, contextual := true }) [*]

@[simp] theorem State.setRawNat_steady {s₀ : State} {s : State} {p len v : Nat} (h_s : Steady s₀ s) :
    Steady s₀ (State.setRawNat s p len v) := by
  unfold State.setRawNat
  simp (config := { maxDischargeDepth := 40, contextual := true }) [*]

@[simp] theorem State.clearRaw_steady {s₀ : State} {s : State} {p len : Nat} (h_s : Steady s₀ s) :
    Steady s₀ (State.clearRaw s p len) := by
  unfold State.clearRaw
  simp (config := { maxDischargeDepth := 40, contextual := true }) [*]

@[simp] theorem State.setCtx_steady {s₀ : State} {s : State} {q off len v : Nat} (h_s : Steady s₀ s) :
    Steady s₀ (State.setCtx s q off len v) := by
  unfold State.setCtx
  simp (config := { maxDischargeDepth := 40, contextual := true }) [*]

@[simp] theorem State.setHead_steady {s₀ : State} {s : State} {q : Nat} {v : W32} (h_s : Steady s₀ s) :
    Steady s₀ (State.setHead s q v) := by
  unfold State.setHead
  simp (config := { maxDischargeDepth := 40, contextual := true }) [*]

@[simp] theorem State.setTail_steady {s₀ : State} {s : State} {q : Nat} {v : W32} (h_s : Steady s₀ s) :
    Steady s₀ (State.setTail s q v) := by
  unfold State.setTail
  simp (config := { maxDischargeDepth := 40, contextual := true }) [*]

@[simp] theorem State.setCqTail_steady {s₀ : State} {s : State} {q : Nat} {v : W32} (h_s : Steady s₀ s) :
    Steady s₀ (State.setCqTail s q v) := by
  unfold State.setCqTail
  simp (config := { maxDischargeDepth := 40, contextual := true }) [*]

@[simp] theorem State.setCqHead_steady {s₀ : State} {s : State} {q : Nat} {v : W32} (h_s : Steady s₀ s) :
    Steady s₀ (State.setCqHead s q v) := by
  unfold State.setCqHead
  simp (config := { maxDischargeDepth := 40, contextual := true }) [*]

@[simp] theorem State.setQState_steady {s₀ : State} {s : State} {q st cause : Nat} (h_s : Steady s₀ s) :
    Steady s₀ (State.setQState s q st cause) := by
  unfold State.setQState
  simp (config := { maxDischargeDepth := 40, contextual := true }) [*]

@[simp] theorem State.setQueue_steady {s₀ : State} {s : State} {q : Nat} {r : QueueRt} (h_s : Steady s₀ s) :
    Steady s₀ (State.setQueue s q r) := by
  unfold State.setQueue
  simp (config := { maxDischargeDepth := 40, contextual := true }) [*]

@[simp] theorem State.modQueue_steady {s₀ : State} {s : State} {q : Nat} {f : QueueRt → QueueRt} (h_s : Steady s₀ s) :
    Steady s₀ (State.modQueue s q f) := by
  unfold State.modQueue
  simp (config := { maxDischargeDepth := 40, contextual := true }) [*]

@[simp] theorem State.modCmd_steady {s₀ : State} {s : State} {q : Nat} {idx : W32} {f : Cmd → Cmd} (h_s : Steady s₀ s) :
    Steady s₀ (State.modCmd s q idx f) := by
  unfold State.modCmd
  simp (config := { maxDischargeDepth := 40, contextual := true }) [*]

@[simp] theorem State.raiseIbi_steady {s₀ : State} {s : State} {code : Nat} (h_s : Steady s₀ s) :
    Steady s₀ (State.raiseIbi s code) := by
  unfold State.raiseIbi
  simp (config := { maxDischargeDepth := 40, contextual := true }) [*]

@[simp] theorem State.event_steady {s₀ : State} {s : State} {code inst : Nat} (h_s : Steady s₀ s) :
    Steady s₀ (State.event s code inst) := by
  unfold State.event
  simp (config := { maxDischargeDepth := 40, contextual := true }) [*]

@[simp] theorem State.count_steady {s₀ : State} {s : State} {num inst n : Nat} (h_s : Steady s₀ s) :
    Steady s₀ (State.count s num inst n) := by
  unfold State.count
  simp (config := { maxDischargeDepth := 40, contextual := true }) [*]

@[simp] theorem State.mark_steady {s₀ : State} {s : State} {status det : Nat} {cmd : Option (Nat × W32)} {run inj :
    Bool} (h_s : Steady s₀ s) :
    Steady s₀ (State.mark s status det cmd run inj) := by
  unfold State.mark
  simp (config := { maxDischargeDepth := 40, contextual := true }) [*]

@[simp] theorem State.refreshNoCommit_steady {s₀ : State} {s : State} (h_s : Steady s₀ s) :
    Steady s₀ (State.refreshNoCommit s) := by
  unfold State.refreshNoCommit
  simp (config := { maxDischargeDepth := 40, contextual := true }) [*]

@[simp] theorem State.detect_steady {s₀ : State} {s : State} {det status : Nat} {q : Option Nat} {inst : Nat} {inj :
    Bool} (h_s : Steady s₀ s) :
    Steady s₀ (State.detect s det status q inst inj) := by
  unfold State.detect
  simp (config := { maxDischargeDepth := 40, contextual := true }) [*]

@[simp] theorem State.segErr_steady {s₀ : State} {s : State} {status det key detail : Nat} (h_s : Steady s₀ s) :
    Steady s₀ (State.segErr s status det key detail) := by
  unfold State.segErr
  (repeat' split) <;> simp (config := { maxDischargeDepth := 40, contextual := true }) [*]

@[simp] theorem State.fabricError_steady {s₀ : State} {s : State} {status det key detail inst : Nat} {inj : Bool} (h_s :
    Steady s₀ s) :
    Steady s₀ (State.fabricError s status det key detail inst inj) := by
  unfold State.fabricError
  simp (config := { maxDischargeDepth := 40, contextual := true }) [*]

@[simp] theorem State.setSession_steady {s₀ : State} {s : State} {k : Nat} {x : Session} (h_s : Steady s₀ s) :
    Steady s₀ (State.setSession s k x) := by
  unfold State.setSession
  simp (config := { maxDischargeDepth := 40, contextual := true }) [*]

@[simp] theorem State.setSelOf_steady {s₀ : State} {s : State} {a : Agent} {x : Selectors} (h_s : Steady s₀ s) :
    Steady s₀ (State.setSelOf s a x) := by
  unfold State.setSelOf
  simp (config := { maxDischargeDepth := 40, contextual := true }) [*]

end Sys2Proof.Machine
end

