-- ==== Sys2Proof/Laws/SteadyMemory.lean ====
section
/-!
SUPPORT. The operations of Machine/Memory.lean keep what Laws/Steady.lean says.
-/
namespace Sys2Proof.Machine

@[simp] theorem State.setCart_steady {s₀ : State} {s : State} {c : Nat} {x : Cart} (h_s : Steady s₀ s) :
    Steady s₀ (State.setCart s c x) := by
  unfold State.setCart
  simp (config := { maxDischargeDepth := 40, contextual := true }) [*]

@[simp] theorem State.setVersion_steady {s₀ : State} {s : State} {page : Nat} {v : Version} (h_s : Steady s₀ s) :
    Steady s₀ (State.setVersion s page v) := by
  unfold State.setVersion
  simp (config := { maxDischargeDepth := 40, contextual := true }) [*]

@[simp] theorem State.writeByte_steady {s₀ : State} {s : State} {a : Nat} {b : Byte} (h_s : Steady s₀ s) :
    Steady s₀ (State.writeByte s a b) := by
  unfold State.writeByte
  simp (config := { maxDischargeDepth := 40, contextual := true }) [*]

@[simp] theorem State.homeWrite_steady {s₀ : State} {s : State} (h_s : Steady s₀ s) :
    Steady s₀ (State.homeWrite s) := by
  unfold State.homeWrite
  simp (config := { maxDischargeDepth := 40, contextual := true }) [*]

@[simp] theorem State.writeBytes_steady {s₀ : State} {s : State} {a : Nat} {bs : Bytes} (h_s : Steady s₀ s) :
    Steady s₀ (State.writeBytes s a bs) := by
  unfold State.writeBytes
  simp (config := { maxDischargeDepth := 40, contextual := true }) [*]

@[simp] theorem State.clearRange_steady {s₀ : State} {s : State} {a len : Nat} (h_s : Steady s₀ s) :
    Steady s₀ (State.clearRange s a len) := by
  unfold State.clearRange
  simp (config := { maxDischargeDepth := 40, contextual := true }) [*]

@[simp] theorem State.cleanWords_steady {s₀ : State} {s : State} {a len : Nat} (h_s : Steady s₀ s) :
    Steady s₀ (State.cleanWords s a len) := by
  unfold State.cleanWords
  simp (config := { maxDischargeDepth := 40, contextual := true }) [*]

@[simp] theorem State.performRange_steady {s₀ : State} {s : State} {w : RangeWrite} (h_s : Steady s₀ s) :
    Steady s₀ (State.performRange s w) := by
  unfold State.performRange
  simp (config := { maxDischargeDepth := 40, contextual := true }) [*]

@[simp] theorem State.touchCart_steady {s₀ : State} {s : State} {c : Nat} (h_s : Steady s₀ s) :
    Steady s₀ (State.touchCart s c) := by
  unfold State.touchCart
  simp (config := { maxDischargeDepth := 40, contextual := true }) [*]

@[simp] theorem State.startMigration_steady {s₀ : State} {s : State} {h : Nat} {dest : CartState} {targets : List Nat}
    (h_s : Steady s₀ s) :
    Steady s₀ (State.startMigration s h dest targets) := by
  unfold State.startMigration
  simp (config := { maxDischargeDepth := 40, contextual := true }) [*]

@[simp] theorem State.moveToHbm_steady {s₀ : State} {s : State} {h : Nat} (h_s : Steady s₀ s) :
    Steady s₀ (State.moveToHbm s h) := by
  unfold State.moveToHbm
  (repeat' split) <;> simp (config := { maxDischargeDepth := 40, contextual := true }) [*]

@[simp] theorem State.moveToCxl_steady {s₀ : State} {s : State} {h : Nat} (h_s : Steady s₀ s) :
    Steady s₀ (State.moveToCxl s h) := by
  unfold State.moveToCxl
  (repeat' split) <;> simp (config := { maxDischargeDepth := 40, contextual := true }) [*]

@[simp] theorem State.promote_steady {s₀ : State} {s : State} {c : Nat} (h_s : Steady s₀ s) :
    Steady s₀ (State.promote s c) := by
  unfold State.promote
  simp (config := { maxDischargeDepth := 40, contextual := true }) [*]

@[simp] theorem State.switchHome_steady {s₀ : State} {s : State} {h : Nat} (h_s : Steady s₀ s) :
    Steady s₀ (State.switchHome s h) := by
  unfold State.switchHome
  simp (config := { maxDischargeDepth := 40, contextual := true }) [*]

@[simp] theorem State.touchRange_steady {s₀ : State} {s : State} {a len : Nat} (h_s : Steady s₀ s) :
    Steady s₀ (State.touchRange s a len) := by
  unfold State.touchRange
  simp (config := { maxDischargeDepth := 40, contextual := true }) [*]

@[simp] theorem State.dirty_steady {s₀ : State} {s : State} {a len : Nat} (h_s : Steady s₀ s) :
    Steady s₀ (State.dirty s a len) := by
  unfold State.dirty
  simp (config := { maxDischargeDepth := 40, contextual := true }) [*]

@[simp] theorem State.agentWrite_steady {s₀ : State} {s : State} {w : RangeWrite} (h_s : Steady s₀ s) :
    Steady s₀ (State.agentWrite s w) := by
  unfold State.agentWrite
  simp (config := { maxDischargeDepth := 40, contextual := true }) [*]

@[simp] theorem State.loseCart_steady {s₀ : State} {s : State} {c : Nat} (h_s : Steady s₀ s) :
    Steady s₀ (State.loseCart s c) := by
  unfold State.loseCart
  simp (config := { maxDischargeDepth := 40, contextual := true }) [*]

@[simp] theorem State.spWrite_steady {s₀ : State} {s : State} {n off : Nat} {bs : Bytes} (h_s : Steady s₀ s) :
    Steady s₀ (State.spWrite s n off bs) := by
  unfold State.spWrite
  simp (config := { maxDischargeDepth := 40, contextual := true }) [*]

@[simp] theorem State.setFlips_steady {s₀ : State} {s : State} {p n : Nat} (h_s : Steady s₀ s) :
    Steady s₀ (State.setFlips s p n) := by
  unfold State.setFlips
  simp (config := { maxDischargeDepth := 40, contextual := true }) [*]

@[simp] theorem State.fire_steady {s₀ : State} {s : State} {det inst : Nat} {addrs : Nat → Bool} (h_s : Steady s₀ s) :
    Steady s₀ (State.fire s det inst addrs).2 := by
  unfold State.fire
  try dsimp only
  (repeat' split) <;> first | assumption | simp (config := { maxDischargeDepth := 40, contextual := true }) [*]

@[simp] theorem State.corrected_steady {s₀ : State} {s : State} (h_s : Steady s₀ s) :
    Steady s₀ (State.corrected s) := by
  unfold State.corrected
  simp (config := { maxDischargeDepth := 40, contextual := true }) [*]

@[simp] theorem State.tierStalled_steady {s₀ : State} {s : State} {q : Option Nat} {port : Nat} {inj : Bool} (h_s :
    Steady s₀ s) :
    Steady s₀ (State.tierStalled s q port inj) := by
  unfold State.tierStalled
  simp (config := { maxDischargeDepth := 40, contextual := true }) [*]

end Sys2Proof.Machine
end

