-- ==== Sys2Proof/Laws/SteadySpares.lean ====
section
/-!
SUPPORT. The operations of Machine/Spares.lean keep what Laws/Steady.lean says.
-/
namespace Sys2Proof.Machine

@[simp] theorem State.showCand_steady {s₀ : State} {s : State} {row : Nat} (h_s : Steady s₀ s) :
    Steady s₀ (State.showCand s row) := by
  unfold State.showCand
  simp (config := { maxDischargeDepth := 40, contextual := true }) [*]

@[simp] theorem State.recordCol_steady {s₀ : State} {s : State} {row col : Nat} (h_s : Steady s₀ s) :
    Steady s₀ (State.recordCol s row col) := by
  unfold State.recordCol
  simp (config := { maxDischargeDepth := 40, contextual := true }) [*]

@[simp] theorem State.recordCore_steady {s₀ : State} {s : State} {n : Nat} (h_s : Steady s₀ s) :
    Steady s₀ (State.recordCore s n) := by
  unfold State.recordCore
  simp (config := { maxDischargeDepth := 40, contextual := true }) [*]

@[simp] theorem State.setRows_steady {s₀ : State} {s : State} (h_s : Steady s₀ s) :
    Steady s₀ (State.setRows s) := by
  unfold State.setRows
  extract_lets rows s1 src s2
  have h1 : Steady s₀ s1 := by
    refine Steady.foldl h_s fun u x hu => ?_
    split
    · exact State.setFld_steady (State.setFld_steady (State.setFld_steady hu))
    · exact State.setFld_steady hu
  exact Steady.foldl (h1.other rfl rfl rfl rfl rfl rfl rfl rfl rfl rfl rfl rfl rfl rfl rfl rfl rfl rfl rfl rfl rfl rfl) fun u x hu => State.showCand_steady hu

end Sys2Proof.Machine
end

