-- ==== Sys2Proof/Laws/SteadyMesh.lean ====
section
/-!
SUPPORT. The operations of Machine/Mesh.lean keep what Laws/Steady.lean says.
-/
namespace Sys2Proof.Machine

@[simp] theorem State.meshCheck_steady {s₀ : State} {s : State} {routers : List MeshPos} {met : State → Nat → State} (h_s :
    Steady s₀ s) (h_met : ∀ u x1, Steady s₀ u → Steady s₀ (met u x1)) :
    Steady s₀ (State.meshCheck s routers met).2 := by
  unfold State.meshCheck
  try dsimp only
  repeat' first
    | assumption
    | exact Steady.rfl
    | with_reducible refine Steady.foldl ?_ (fun u x hu => ?_)
    | with_reducible refine Steady.foldl_snd ?_ (fun u x hu => ?_)
    | with_reducible refine Steady.foldl_fst ?_ (fun u x hu => ?_)
    | dsimp only
    | split
    | (simp (config := { maxDischargeDepth := 40, contextual := true }) [*]; done)

end Sys2Proof.Machine
end

