-- ==== Sys2Proof/Laws/SteadyErrors.lean ====
section
/-!
SUPPORT. The operations of Machine/Errors.lean keep what Laws/Steady.lean says.
-/
namespace Sys2Proof.Machine

@[simp] theorem State.raise_steady {s₀ : State} {s : State} {o : Owner} {status det key detail inst : Nat} {inj : Bool} (h_s :
    Steady s₀ s) :
    Steady s₀ (State.raise s o status det key detail inst inj) := by
  unfold State.raise
  (repeat' split) <;> simp (config := { maxDischargeDepth := 40, contextual := true }) [*]

@[simp] theorem State.scratchMeets_steady {s₀ : State} {s : State} {a len : Nat} (h_s : Steady s₀ s) :
    Steady s₀ (State.scratchMeets s a len).2 := by
  unfold State.scratchMeets
  try dsimp only
  (repeat' split) <;> first | assumption | simp (config := { maxDischargeDepth := 40, contextual := true }) [*]

@[simp] theorem State.scratchRead_steady {s₀ : State} {s : State} {o : Owner} {a len : Nat} (h_s : Steady s₀ s) :
    Steady s₀ (State.scratchRead s o a len) := by
  unfold State.scratchRead
  simp (config := { maxDischargeDepth := 40, contextual := true }) [*]

@[simp] theorem State.cartMeets_steady {s₀ : State} {s : State} {o : Owner} {k a len : Nat} (h_s : Steady s₀ s) :
    Steady s₀ (State.cartMeets s o k a len).2 := by
  unfold State.cartMeets
  try dsimp only
  (repeat' split) <;> first | assumption | simp (config := { maxDischargeDepth := 40, contextual := true }) [*]

@[simp] theorem State.cartAccess_steady {s₀ : State} {s : State} {o : Owner} {k a len : Nat} (h_s : Steady s₀ s) :
    Steady s₀ (State.cartAccess s o k a len).2 := by
  unfold State.cartAccess
  try dsimp only
  (repeat' split) <;> first | assumption | simp (config := { maxDischargeDepth := 40, contextual := true }) [*]

@[simp] theorem State.reservedMeets_steady {s₀ : State} {s : State} {o : Owner} {a len : Nat} (h_s : Steady s₀ s) :
    Steady s₀ (State.reservedMeets s o a len).2 := by
  unfold State.reservedMeets
  try dsimp only
  (repeat' split) <;> first | assumption | simp (config := { maxDischargeDepth := 40, contextual := true }) [*]

@[simp] theorem State.performPart_steady {s₀ : State} {s : State} {p : PendingWrite} {w : RangeWrite} (h_s : Steady s₀ s) :
    Steady s₀ (State.performPart s p w) := by
  unfold State.performPart
  simp (config := { maxDischargeDepth := 40, contextual := true }) [*]

@[simp] theorem State.settle_steady {s₀ : State} {s : State} {sel : PendingWrite → Bool} (h_s : Steady s₀ s) :
    Steady s₀ (State.settle s sel) := by
  unfold State.settle
  simp (config := { maxDischargeDepth := 40, contextual := true }) [*]

@[simp] theorem State.settleRange_steady {s₀ : State} {s : State} {a len : Nat} (h_s : Steady s₀ s) :
    Steady s₀ (State.settleRange s a len) := by
  unfold State.settleRange
  simp (config := { maxDischargeDepth := 40, contextual := true }) [*]

@[simp] theorem State.settleWord_steady {s₀ : State} {s : State} {p : PendingWrite} {word : Nat} (h_s : Steady s₀ s) :
    Steady s₀ (State.settleWord s p word).1 := by
  unfold State.settleWord
  simp (config := { maxDischargeDepth := 40, contextual := true }) [*]

@[simp] theorem State.settleFree_steady {s₀ : State} {s : State} {a len : Nat} (h_s : Steady s₀ s) :
    Steady s₀ (State.settleFree s a len) := by
  unfold State.settleFree
  simp (config := { maxDischargeDepth := 40, contextual := true }) [*]

@[simp] theorem State.meshMet_steady {s₀ : State} {s : State} {o : Owner} {routers : List MeshPos} (h_s : Steady s₀ s) :
    Steady s₀ (State.meshMet s o routers).2 := by
  unfold State.meshMet
  simp (config := { maxDischargeDepth := 40, contextual := true }) [*]

@[simp] theorem State.meshPass_steady {s₀ : State} {s : State} {o : Owner} {routers : List MeshPos} (h_s : Steady s₀ s) :
    Steady s₀ (State.meshPass s o routers) := by
  unfold State.meshPass
  simp (config := { maxDischargeDepth := 40, contextual := true }) [*]

end Sys2Proof.Machine
end

