-- ==== Sys2Proof/Laws/SteadyFlags.lean ====
section
/-!
SUPPORT. The operations of Machine/Flags.lean keep what Laws/Steady.lean says.
-/
namespace Sys2Proof.Machine

@[simp] theorem State.endCmd_steady {s₀ : State} {s : State} {q : Nat} {idx : W32} {status unitKind unitInst detail :
    Nat} (h_s : Steady s₀ s) :
    Steady s₀ (State.endCmd s q idx status unitKind unitInst detail) := by
  unfold State.endCmd
  simp (config := { maxDischargeDepth := 40, contextual := true }) [*]

@[simp] theorem State.endErr_steady {s₀ : State} {s : State} {q : Nat} {idx : W32} {e : Err} (h_s : Steady s₀ s) :
    Steady s₀ (State.endErr s q idx e) := by
  unfold State.endErr
  simp (config := { maxDischargeDepth := 40, contextual := true }) [*]

@[simp] theorem State.endOk_steady {s₀ : State} {s : State} {q : Nat} {idx : W32} (h_s : Steady s₀ s) :
    Steady s₀ (State.endOk s q idx) := by
  unfold State.endOk
  simp (config := { maxDischargeDepth := 40, contextual := true }) [*]

@[simp] theorem State.evalQueueFlags_steady {s₀ : State} {s : State} {q : Nat} (h_s : Steady s₀ s) :
    Steady s₀ (State.evalQueueFlags s q) := by
  unfold State.evalQueueFlags
  simp (config := { maxDischargeDepth := 40, contextual := true }) [*]

@[simp] theorem State.evalFlags_steady {s₀ : State} {s : State} (h_s : Steady s₀ s) :
    Steady s₀ (State.evalFlags s) := by
  unfold State.evalFlags
  simp (config := { maxDischargeDepth := 40, contextual := true }) [*]

@[simp] theorem State.pickEngine_steady {s₀ : State} {s : State} {e : Bytes} (h_s : Steady s₀ s) :
    Steady s₀ (State.pickEngine s e).2 := by
  unfold State.pickEngine
  simp (config := { maxDischargeDepth := 40, contextual := true }) [*]

@[simp] theorem State.settleFor_steady {s₀ : State} {s : State} {q : Nat} {regions : List Region} {rs : List Range} (h_s :
    Steady s₀ s) :
    Steady s₀ (State.settleFor s q regions rs) := by
  unfold State.settleFor
  simp (config := { maxDischargeDepth := 40, contextual := true }) [*]

@[simp] theorem State.servedBy_steady {s₀ : State} {s : State} {q : Nat} {c : Cmd} (h_s : Steady s₀ s) :
    Steady s₀ (State.servedBy s q c).2 := by
  unfold State.servedBy
  simp (config := { maxDischargeDepth := 40, contextual := true }) [*]

@[simp] theorem State.endMet_steady {s₀ : State} {s : State} {q : Nat} {c : Cmd} {e : Err} (h_s : Steady s₀ s) :
    Steady s₀ (State.endMet s q c e) := by
  unfold State.endMet
  simp (config := { maxDischargeDepth := 40, contextual := true }) [*]

@[simp] theorem State.meshErrors_steady {s₀ : State} {s : State} {q : Nat} {c : Cmd} {rs : List Range} (h_s : Steady s₀ s) :
    Steady s₀ (State.meshErrors s q c rs).2 := by
  unfold State.meshErrors
  simp (config := { maxDischargeDepth := 40, contextual := true }) [*]

@[simp] theorem State.memoryErrors_steady {s₀ : State} {s : State} {q : Nat} {c : Cmd} {rs : List Range} (h_s : Steady s₀ s) :
    Steady s₀ (State.memoryErrors s q c rs).2 := by
  unfold State.memoryErrors
  simp (config := { maxDischargeDepth := 40, contextual := true }) [*]

@[simp] theorem State.dispatch_steady {s₀ : State} {s : State} {q : Nat} {idx : W32} {regions : List Region} (h_s :
    Steady s₀ s) :
    Steady s₀ (State.dispatch s q idx regions) := by
  unfold State.dispatch
  simp (config := { maxDischargeDepth := 40, contextual := true }) [*]

@[simp] theorem State.runRow_steady {s₀ : State} {s : State} {q : Nat} {row : Row} (h_s : Steady s₀ s)
    (h_met : ∀ u q c e, Steady s₀ u → Steady s₀ (row.met u q c e)) (h_body : ∀ u c, Steady s₀ u → Steady s₀ (row.body u c)) :
    Steady s₀ (State.runRow s q row) := by
  unfold State.runRow
  split
  · exact h_s
  · rename_i c _
    extract_lets s0 regions s1 rs m s4
    have h0 : Steady s₀ s0 := State.settleFor_steady h_s
    have h1 : Steady s₀ s1 := State.settleFor_steady h0
    have hm : Steady s₀ m.2 := State.memoryErrors_steady (State.dispatch_steady h1)
    have h4 : Steady s₀ s4 := Steady.foldl hm fun u x hu => State.touchRange_steady hu
    clear_value s4 m rs s1 regions s0
    split
    · split
      · exact State.endErr_steady (State.dispatch_steady h1)
      · split
        · exact h_met _ _ _ _ hm
        · exact State.evalFlags_steady (h_body _ _ h4)
    · exact h_s

@[simp] theorem State.runCmd_steady {s₀ : State} {s : State} {q : Nat} {want : Bytes → Bool} {ranges : State → Bytes →
    List Range} {errs : State → Cmd → List Err} {body : State → Cmd → State} (h_s : Steady s₀ s) (h_body : ∀ y0 y1, Steady
    s₀ y0 → Steady s₀ (body y0 y1)) :
    Steady s₀ (State.runCmd s q want ranges errs body) := by
  unfold State.runCmd
  simp (config := { maxDischargeDepth := 40, contextual := true }) [*]

@[simp] theorem State.cmdWrite_steady {s₀ : State} {s : State} {q : Nat} {c : Cmd} {w : RangeWrite} (h_s : Steady s₀ s) :
    Steady s₀ (State.cmdWrite s q c w) := by
  unfold State.cmdWrite
  simp (config := { maxDischargeDepth := 40, contextual := true }) [*]

@[simp] theorem State.endEngine_steady {s₀ : State} {s : State} {q : Nat} {c : Cmd} {inst detail : Nat} (h_s : Steady s₀
    s) :
    Steady s₀ (State.endEngine s q c inst detail) := by
  unfold State.endEngine
  simp (config := { maxDischargeDepth := 40, contextual := true }) [*]

end Sys2Proof.Machine
end

