-- ==== Sys2Proof/Laws/SteadyQueue.lean ====
section
/-!
SUPPORT. The operations of Machine/Queue.lean keep what Laws/Steady.lean says.
-/
namespace Sys2Proof.Machine

@[simp] theorem State.ringDoorbell_steady {s₀ : State} {s : State} {q : Nat} {v : W32} (h_s : Steady s₀ s) :
    Steady s₀ (State.ringDoorbell s q v) := by
  unfold State.ringDoorbell
  simp (config := { maxDischargeDepth := 40, contextual := true }) [*]

@[simp] theorem State.cqRing_steady {s₀ : State} {s : State} {q : Nat} {v : W32} (h_s : Steady s₀ s) :
    Steady s₀ (State.cqRing s q v) := by
  unfold State.cqRing
  simp (config := { maxDischargeDepth := 40, contextual := true }) [*]

@[simp] theorem State.closeStep_steady {s₀ : State} {s : State} {q : Nat} (h_s : Steady s₀ s) :
    Steady s₀ (State.closeStep s q) := by
  unfold State.closeStep
  (repeat' split) <;> simp (config := { maxDischargeDepth := 40, contextual := true }) [*]

@[simp] theorem State.discardEffects_steady {s₀ : State} {s : State} {q : Nat} (h_s : Steady s₀ s) :
    Steady s₀ (State.discardEffects s q) := by
  unfold State.discardEffects
  simp (config := { maxDischargeDepth := 40, contextual := true }) [*]

@[simp] theorem State.closeQ_steady {s₀ : State} {s : State} {q : Nat} (h_s : Steady s₀ s) :
    Steady s₀ (State.closeQ s q) := by
  unfold State.closeQ
  simp (config := { maxDischargeDepth := 40, contextual := true }) [*]

@[simp] theorem State.ctxMeets_steady {s₀ : State} {s : State} {q : Nat} (h_s : Steady s₀ s) :
    Steady s₀ (State.ctxMeets s q).2 := by
  unfold State.ctxMeets
  simp (config := { maxDischargeDepth := 40, contextual := true }) [*]

@[simp] theorem State.openQ_steady {s₀ : State} {s : State} {q : Nat} (h_s : Steady s₀ s) :
    Steady s₀ (State.openQ s q) := by
  unfold State.openQ
  simp (config := { maxDischargeDepth := 40, contextual := true }) [*]

@[simp] theorem State.releaseQ_steady {s₀ : State} {s : State} {q : Nat} (h_s : Steady s₀ s) :
    Steady s₀ (State.releaseQ s q) := by
  unfold State.releaseQ
  simp (config := { maxDischargeDepth := 40, contextual := true }) [*]

@[simp] theorem State.discardQ_steady {s₀ : State} {s : State} {q : Nat} (h_s : Steady s₀ s) :
    Steady s₀ (State.discardQ s q) := by
  unfold State.discardQ
  simp (config := { maxDischargeDepth := 40, contextual := true }) [*]

@[simp] theorem State.abortWaitQ_steady {s₀ : State} {s : State} {q : Nat} (h_s : Steady s₀ s) :
    Steady s₀ (State.abortWaitQ s q) := by
  unfold State.abortWaitQ
  (repeat' split) <;> simp (config := { maxDischargeDepth := 40, contextual := true }) [*]

@[simp] theorem State.ringAccess_steady {s₀ : State} {s : State} {q a len : Nat} (h_s : Steady s₀ s) :
    Steady s₀ (State.ringAccess s q a len).2 := by
  unfold State.ringAccess
  dsimp only
  repeat' split
  all_goals first
    | exact h_s
    | (simp (config := { maxDischargeDepth := 40, contextual := true }) [*]; done)

@[simp] theorem State.ctxCheck_steady {s₀ : State} {s : State} {q : Nat} (h_s : Steady s₀ s) :
    Steady s₀ (State.ctxCheck s q) := by
  unfold State.ctxCheck
  simp (config := { maxDischargeDepth := 40, contextual := true }) [*]

@[simp] theorem State.judgeFetched_steady {s₀ : State} {s : State} {q : Nat} {i : W32} {e : Bytes} (h_s : Steady s₀ s) :
    Steady s₀ (State.judgeFetched s q i e) := by
  unfold State.judgeFetched
  (repeat' split) <;> simp (config := { maxDischargeDepth := 40, contextual := true }) [*]

@[simp] theorem State.takeEntry_steady {s₀ : State} {s : State} {q : Nat} {i : W32} {e : Bytes} (h_s : Steady s₀ s) :
    Steady s₀ (State.takeEntry s q i e) := by
  unfold State.takeEntry
  simp (config := { maxDischargeDepth := 40, contextual := true }) [*]

@[simp] theorem State.serveEntry_steady {s₀ : State} {s : State} {q : Nat} {i : W32} {e : Bytes} (h_s : Steady s₀ s) :
    Steady s₀ (State.serveEntry s q i e) := by
  unfold State.serveEntry
  simp (config := { maxDischargeDepth := 40, contextual := true }) [*]

@[simp] theorem State.readEntry_steady {s₀ : State} {s : State} {q : Nat} {onStale : State → State} (h_s : Steady s₀ s)
    (h_onStale : ∀ y0, Steady s₀ y0 → Steady s₀ (onStale y0)) :
    Steady s₀ (State.readEntry s q onStale) := by
  unfold State.readEntry
  extract_lets s0 i a
  have h0 : Steady s₀ s0 := State.ctxCheck_steady h_s
  clear_value s0 i a
  have hr := State.ringAccess_steady (q := q) (a := a) (len := 128) h0
  split
  · exact h0
  · split
    · rename_i s1 heq
      rw [heq] at hr
      split
      · simp (config := { maxDischargeDepth := 40, contextual := true }) [*]
      · exact hr
    · rename_i s1 heq
      rw [heq] at hr
      extract_lets s2 e
      have h2 : Steady s₀ s2 := by simp (config := { maxDischargeDepth := 40, contextual := true }) [s2, *]
      clear_value s2 e
      split
      · exact State.serveEntry_steady h2
      · exact h_onStale _ h2

@[simp] theorem State.fetch_steady {s₀ : State} {s : State} {q : Nat} (h_s : Steady s₀ s) :
    Steady s₀ (State.fetch s q) := by
  unfold State.fetch
  simp (config := { maxDischargeDepth := 40, contextual := true }) [*]

@[simp] theorem State.reread_steady {s₀ : State} {s : State} {q : Nat} (h_s : Steady s₀ s) :
    Steady s₀ (State.reread s q) := by
  unfold State.reread
  simp (config := { maxDischargeDepth := 40, contextual := true }) [*]

@[simp] theorem State.progressWord_steady {s₀ : State} {s : State} {q : Nat} (h_s : Steady s₀ s) :
    Steady s₀ (State.progressWord s q) := by
  unfold State.progressWord
  simp (config := { maxDischargeDepth := 40, contextual := true }) [*]

@[simp] theorem State.post_steady {s₀ : State} {s : State} {q : Nat} (h_s : Steady s₀ s) :
    Steady s₀ (State.post s q) := by
  unfold State.post
  (repeat' split) <;> simp (config := { maxDischargeDepth := 40, contextual := true }) [*]

end Sys2Proof.Machine
end

