-- ==== Sys2Proof/Laws/SteadyAccess.lean ====
section
/-!
SUPPORT. The operations of Machine/Access.lean keep what Laws/Steady.lean says.
-/
namespace Sys2Proof.Machine

@[simp] theorem State.releaseSession_steady {s₀ : State} {s : State} {k : Nat} (h_s : Steady s₀ s) :
    Steady s₀ (State.releaseSession s k) := by
  unfold State.releaseSession
  simp (config := { maxDischargeDepth := 40, contextual := true }) [*]

@[simp] theorem State.detachSession_steady {s₀ : State} {s : State} {k : Nat} (h_s : Steady s₀ s) :
    Steady s₀ (State.detachSession s k) := by
  unfold State.detachSession
  simp (config := { maxDischargeDepth := 40, contextual := true }) [*]

@[simp] theorem State.refuseRequest_steady {s₀ : State} {s : State} {port k cause addr : Nat} (h_s : Steady s₀ s) :
    Steady s₀ (State.refuseRequest s port k cause addr) := by
  unfold State.refuseRequest
  simp (config := { maxDischargeDepth := 40, contextual := true }) [*]

@[simp] theorem State.accIgnored_steady {s₀ : State} {s : State} {a : Agent} {kind addr : Nat} (h_s : Steady s₀ s) :
    Steady s₀ (State.accIgnored s a kind addr) := by
  unfold State.accIgnored
  simp (config := { maxDischargeDepth := 40, contextual := true }) [*]

@[simp] theorem State.ctlRefuse_steady {s₀ : State} {s : State} {a : Agent} {cause kind off : Nat} (h_s : Steady s₀ s) :
    Steady s₀ (State.ctlRefuse s a cause kind off) := by
  unfold State.ctlRefuse
  (repeat' split) <;> simp (config := { maxDischargeDepth := 40, contextual := true }) [*]

@[simp] theorem State.onWrite_steady {s₀ : State} {s : State} {a : Agent} {off : Nat} {f : State → State} (h_s : Steady
    s₀ s) (h_f : ∀ y0, Steady s₀ y0 → Steady s₀ (f y0)) :
    Steady s₀ (State.onWrite s a off f) := by
  unfold State.onWrite
  (repeat' split) <;> simp (config := { maxDischargeDepth := 40, contextual := true }) [*]

@[simp] theorem State.onReg_steady {s₀ : State} {s : State} {a : Agent} {r : Reg} {f : State → State} (h_s : Steady s₀
    s) (h_f : ∀ y0, Steady s₀ y0 → Steady s₀ (f y0)) :
    Steady s₀ (State.onReg s a r f) := by
  unfold State.onReg
  simp (config := { maxDischargeDepth := 40, contextual := true }) [*]

end Sys2Proof.Machine
end

