-- ==== Sys2Proof/Laws/SteadyFlow.lean ====
section
/-!
SUPPORT. The operations of Machine/Flow.lean keep what Laws/Steady.lean says.
-/
namespace Sys2Proof.Machine

@[simp] theorem State.eventPair_steady {s₀ : State} {s : State} {c1 i1 c2 i2 : Nat} (h_s : Steady s₀ s) :
    Steady s₀ (State.eventPair s c1 i1 c2 i2) := by
  unfold State.eventPair
  simp (config := { maxDischargeDepth := 40, contextual := true }) [*]

@[simp] theorem State.detectWith_steady {s₀ : State} {s : State} {det status : Nat} {q : Option Nat} {inst : Nat} {inj :
    Bool} {code cinst : Nat} (h_s : Steady s₀ s) :
    Steady s₀ (State.detectWith s det status q inst inj code cinst) := by
  unfold State.detectWith
  simp (config := { maxDischargeDepth := 40, contextual := true }) [*]

@[simp] theorem State.deadlock_steady {s₀ : State} {s : State} {wait : List (Nat × Nat × W32 × Nat)} {q : Option Nat}
    {inj : Bool} (h_s : Steady s₀ s) :
    Steady s₀ (State.deadlock s wait q inj) := by
  unfold State.deadlock
  simp (config := { maxDischargeDepth := 40, contextual := true }) [*]

@[simp] theorem State.doNop_steady {s₀ : State} {s : State} {q : Nat} (h_s : Steady s₀ s) :
    Steady s₀ (State.doNop s q) := by
  unfold State.doNop
  simp (config := { maxDischargeDepth := 40, contextual := true }) [*]

@[simp] theorem State.doFence_steady {s₀ : State} {s : State} {q : Nat} (h_s : Steady s₀ s) :
    Steady s₀ (State.doFence s q) := by
  unfold State.doFence
  simp (config := { maxDischargeDepth := 40, contextual := true }) [*]

@[simp] theorem State.doFlagWait_steady {s₀ : State} {s : State} {q : Nat} (h_s : Steady s₀ s) :
    Steady s₀ (State.doFlagWait s q) := by
  unfold State.doFlagWait
  simp (config := { maxDischargeDepth := 40, contextual := true }) [*]

@[simp] theorem State.doFlagWaitTimeout_steady {s₀ : State} {s : State} {q : Nat} (h_s : Steady s₀ s) :
    Steady s₀ (State.doFlagWaitTimeout s q) := by
  unfold State.doFlagWaitTimeout
  (repeat' split) <;> simp (config := { maxDischargeDepth := 40, contextual := true }) [*]

@[simp] theorem State.doQuiescence_steady {s₀ : State} {s : State} (h_s : Steady s₀ s) :
    Steady s₀ (State.doQuiescence s) := by
  unfold State.doQuiescence
  simp (config := { maxDischargeDepth := 40, contextual := true }) [*]

end Sys2Proof.Machine
end

