-- ==== Sys2Proof/Laws/SteadyLaulo.lean ====
section
/-!
SUPPORT. The operations of Machine/Laulo.lean keep what Laws/Steady.lean says.
-/
namespace Sys2Proof.Machine

@[simp] theorem State.setLport_steady {s₀ : State} {s : State} {k : Nat} {p : LPort} (h_s : Steady s₀ s) :
    Steady s₀ (State.setLport s k p) := by
  unfold State.setLport
  simp (config := { maxDischargeDepth := 40, contextual := true }) [*]

@[simp] theorem State.modLport_steady {s₀ : State} {s : State} {k : Nat} {f : LPort → LPort} (h_s : Steady s₀ s) :
    Steady s₀ (State.modLport s k f) := by
  unfold State.modLport
  simp (config := { maxDischargeDepth := 40, contextual := true }) [*]

@[simp] theorem State.sendOn_steady {s₀ : State} {s : State} {k : Nat} {p : Packet} (h_s : Steady s₀ s) :
    Steady s₀ (State.sendOn s k p) := by
  unfold State.sendOn
  simp (config := { maxDischargeDepth := 40, contextual := true }) [*]

@[simp] theorem State.hopDrop_steady {s₀ : State} {s : State} {k : Nat} (h_s : Steady s₀ s) :
    Steady s₀ (State.hopDrop s k) := by
  unfold State.hopDrop
  simp (config := { maxDischargeDepth := 40, contextual := true }) [*]

@[simp] theorem State.sendPeer_steady {s₀ : State} {s : State} {k : Nat} {p : Packet} (h_s : Steady s₀ s) :
    Steady s₀ (State.sendPeer s k p).2 := by
  unfold State.sendPeer
  simp (config := { maxDischargeDepth := 40, contextual := true }) [*]

@[simp] theorem State.originate_steady {s₀ : State} {s : State} {q : Option Nat} {p : Packet} (h_s : Steady s₀ s) :
    Steady s₀ (State.originate s q p).2 := by
  unfold State.originate
  try dsimp only
  (repeat' split) <;> first | assumption | simp (config := { maxDischargeDepth := 40, contextual := true }) [*]

@[simp] theorem State.request_steady {s₀ : State} {s : State} {q : Option Nat} {p : Packet} {owner : ReqOwner} (h_s :
    Steady s₀ s) :
    Steady s₀ (State.request s q p owner).2 := by
  unfold State.request
  simp (config := { maxDischargeDepth := 40, contextual := true }) [*]

@[simp] theorem State.answer_steady {s₀ : State} {s : State} {port : Nat} {rq : Packet} {kind status detail : Nat} {pay
    : Bytes} (h_s : Steady s₀ s) :
    Steady s₀ (State.answer s port rq kind status detail pay) := by
  unfold State.answer
  simp (config := { maxDischargeDepth := 40, contextual := true }) [*]

@[simp] theorem State.setFlagWord_steady {s₀ : State} {s : State} {a op : Nat} {v : W64} (h_s : Steady s₀ s) :
    Steady s₀ (State.setFlagWord s a op v) := by
  unfold State.setFlagWord
  simp (config := { maxDischargeDepth := 40, contextual := true }) [*]

@[simp] theorem State.runFlagSet_steady {s₀ : State} {s : State} {q : Nat} {c : Cmd} (h_s : Steady s₀ s) :
    Steady s₀ (State.runFlagSet s q c) := by
  unfold State.runFlagSet
  simp (config := { maxDischargeDepth := 40, contextual := true }) [*]

@[simp] theorem State.doFlagSet_steady {s₀ : State} {s : State} {q : Nat} (h_s : Steady s₀ s) :
    Steady s₀ (State.doFlagSet s q) := by
  unfold State.doFlagSet
  simp (config := { maxDischargeDepth := 40, contextual := true }) [*]

end Sys2Proof.Machine
end

