-- ==== Sys2Proof/Laws/SteadySnapshots.lean ====
section
/-!
SUPPORT. The operations of Machine/Snapshots.lean keep what Laws/Steady.lean says.
-/
namespace Sys2Proof.Machine

@[simp] theorem State.setGen_steady {s₀ : State} {s : State} {g : Nat} {x : SnapGen} (h_s : Steady s₀ s) :
    Steady s₀ (State.setGen s g x) := by
  unfold State.setGen
  simp (config := { maxDischargeDepth := 40, contextual := true }) [*]

@[simp] theorem State.snapRefresh_steady {s₀ : State} {s : State} (h_s : Steady s₀ s) :
    Steady s₀ (State.snapRefresh s) := by
  unfold State.snapRefresh
  simp (config := { maxDischargeDepth := 40, contextual := true }) [*]

@[simp] theorem State.genEnded_steady {s₀ : State} {s : State} (h_s : Steady s₀ s) :
    Steady s₀ (State.genEnded s) := by
  unfold State.genEnded
  (repeat' split) <;> simp (config := { maxDischargeDepth := 40, contextual := true }) [*]

@[simp] theorem State.snapFail_steady {s₀ : State} {s : State} (h_s : Steady s₀ s) :
    Steady s₀ (State.snapFail s) := by
  unfold State.snapFail
  (repeat' split) <;> simp (config := { maxDischargeDepth := 40, contextual := true }) [*]

@[simp] theorem State.lowerRange_steady {s₀ : State} {s : State} {a len : Nat} (h_s : Steady s₀ s) :
    Steady s₀ (State.lowerRange s a len) := by
  unfold State.lowerRange
  simp (config := { maxDischargeDepth := 40, contextual := true }) [*]

@[simp] theorem State.copyAccess_steady {s₀ : State} {s : State} {a len : Nat} (h_s : Steady s₀ s) :
    Steady s₀ (State.copyAccess s a len).2 := by
  unfold State.copyAccess
  dsimp only
  refine Steady.foldl_snd (State.reservedMeets_steady (Steady.foldl_snd h_s fun u k hu => ?_)) fun u p hu =>
    Steady.foldl_snd (State.scratchMeets_steady hu) fun v i hv => State.detect_steady hv
  have hm := State.cartMeets_steady (o := .nobody) (k := k) (a := a) (len := len) hu
  split
  · exact State.detect_steady hm
  · exact hm

@[simp] theorem State.putLocal_steady {s₀ : State} {s : State} {a : SnapArm} {t : SnapTarget} {adr : Nat} {bs : Bytes} (h_s :
    Steady s₀ s) :
    Steady s₀ (State.putLocal s a t adr bs) := by
  unfold State.putLocal
  simp (config := { maxDischargeDepth := 40, contextual := true }) [*]

@[simp] theorem State.snapPut_steady {s₀ : State} {s : State} {g off : Nat} {bs : Bytes} (h_s : Steady s₀ s) :
    Steady s₀ (State.snapPut s g off bs) := by
  unfold State.snapPut
  (repeat' split) <;> simp (config := { maxDischargeDepth := 40, contextual := true }) [*]

@[simp] theorem State.tapAcked_steady {s₀ : State} {s : State} {id : Nat} (h_s : Steady s₀ s) :
    Steady s₀ (State.tapAcked s id) := by
  unfold State.tapAcked
  simp (config := { maxDischargeDepth := 40, contextual := true }) [*]

@[simp] theorem State.tapFailed_steady {s₀ : State} {s : State} {id : Nat} (h_s : Steady s₀ s) :
    Steady s₀ (State.tapFailed s id) := by
  unfold State.tapFailed
  (repeat' split) <;> simp (config := { maxDischargeDepth := 40, contextual := true }) [*]

@[simp] theorem State.snapBegin_steady {s₀ : State} {s : State} {n : W32} {key : W64} (h_s : Steady s₀ s) :
    Steady s₀ (State.snapBegin s n key) := by
  unfold State.snapBegin
  (repeat' split) <;> simp (config := { maxDischargeDepth := 40, contextual := true }) [*]

@[simp] theorem State.tapShadow_steady {s₀ : State} {s : State} {page off len : Nat} (h_s : Steady s₀ s) :
    Steady s₀ (State.tapShadow s page off len) := by
  unfold State.tapShadow
  (repeat' split) <;> simp (config := { maxDischargeDepth := 40, contextual := true }) [*]

@[simp] theorem State.copyReads_steady {s₀ : State} {s : State} {rs : List (Nat × Nat)} (h_s : Steady s₀ s) :
    Steady s₀ (State.copyReads s rs).2 := by
  unfold State.copyReads
  simp (config := { maxDischargeDepth := 40, contextual := true }) [*]

@[simp] theorem State.tapTile_steady {s₀ : State} {s : State} {tensor tiles t : Nat} {reads : List (Nat × Nat)} {vals scales :
    Bytes} (h_s : Steady s₀ s) :
    Steady s₀ (State.tapTile s tensor tiles t reads vals scales) := by
  unfold State.tapTile
  (repeat' split) <;> simp (config := { maxDischargeDepth := 40, contextual := true }) [*]

@[simp] theorem State.sweepPage_steady {s₀ : State} {s : State} {g page off len : Nat} (h_s : Steady s₀ s) :
    Steady s₀ (State.sweepPage s g page off len) := by
  unfold State.sweepPage
  simp (config := { maxDischargeDepth := 40, contextual := true }) [*]

@[simp] theorem State.snapCommit_steady {s₀ : State} {s : State} {n : W32} (h_s : Steady s₀ s) :
    Steady s₀ (State.snapCommit s n) := by
  unfold State.snapCommit
  (repeat' split) <;> simp (config := { maxDischargeDepth := 40, contextual := true }) [*]

@[simp] theorem State.snapAbandon_steady {s₀ : State} {s : State} (h_s : Steady s₀ s) :
    Steady s₀ (State.snapAbandon s) := by
  unfold State.snapAbandon
  (repeat' split) <;> simp (config := { maxDischargeDepth := 40, contextual := true }) [*]

@[simp] theorem State.doGenerationComplete_steady {s₀ : State} {s : State} (h_s : Steady s₀ s) :
    Steady s₀ (State.doGenerationComplete s) := by
  unfold State.doGenerationComplete
  (repeat' split) <;> simp (config := { maxDischargeDepth := 40, contextual := true }) [*]

@[simp] theorem State.arm_steady {s₀ : State} {s : State} {a : SnapArm} (h_s : Steady s₀ s) :
    Steady s₀ (State.arm s a) := by
  unfold State.arm
  simp (config := { maxDischargeDepth := 40, contextual := true }) [*]

@[simp] theorem State.runSnapArm_steady {s₀ : State} {s : State} {q : Nat} {c : Cmd} (h_s : Steady s₀ s) :
    Steady s₀ (State.runSnapArm s q c) := by
  unfold State.runSnapArm
  simp (config := { maxDischargeDepth := 40, contextual := true }) [*]

@[simp] theorem State.doSnapArm_steady {s₀ : State} {s : State} {q : Nat} (h_s : Steady s₀ s) :
    Steady s₀ (State.doSnapArm s q) := by
  unfold State.doSnapArm
  simp (config := { maxDischargeDepth := 40, contextual := true }) [*]

@[simp] theorem State.runSnapDisarm_steady {s₀ : State} {s : State} {q : Nat} {c : Cmd} (h_s : Steady s₀ s) :
    Steady s₀ (State.runSnapDisarm s q c) := by
  unfold State.runSnapDisarm
  simp (config := { maxDischargeDepth := 40, contextual := true }) [*]

@[simp] theorem State.doSnapDisarm_steady {s₀ : State} {s : State} {q : Nat} (h_s : Steady s₀ s) :
    Steady s₀ (State.doSnapDisarm s q) := by
  unfold State.doSnapDisarm
  simp (config := { maxDischargeDepth := 40, contextual := true }) [*]

@[simp] theorem State.armPreset_steady {s₀ : State} {s : State} (h_s : Steady s₀ s) :
    Steady s₀ (State.armPreset s) := by
  unfold State.armPreset
  simp (config := { maxDischargeDepth := 40, contextual := true }) [*]

@[simp] theorem State.restoreLocal_steady {s₀ : State} {s : State} {r : RestoreRt} {t : SnapTarget} {a len : Nat} (h_s : Steady
    s₀ s) :
    Steady s₀ (State.restoreLocal s r t a len).2 := by
  unfold State.restoreLocal
  (repeat' split) <;> simp (config := { maxDischargeDepth := 40, contextual := true }) [*]

@[simp] theorem State.restoreRead_steady {s₀ : State} {s : State} {r : RestoreRt} {g off len : Nat} (h_s : Steady s₀ s) :
    Steady s₀ (State.restoreRead s r g off len).2 := by
  unfold State.restoreRead
  try dsimp only
  (repeat' split) <;> first | assumption | simp (config := { maxDischargeDepth := 40, contextual := true }) [*]

@[simp] theorem State.restorePage_steady {s₀ : State} {s : State} {page : Nat} {bs : Bytes} (h_s : Steady s₀ s) :
    Steady s₀ (State.restorePage s page bs) := by
  unfold State.restorePage
  simp (config := { maxDischargeDepth := 40, contextual := true }) [*]

@[simp] theorem State.restoreApply_steady {s₀ : State} {s : State} {r : RestoreRt} (h_s : Steady s₀ s) :
    Steady s₀ (State.restoreApply s r) := by
  unfold State.restoreApply
  simp (config := { maxDischargeDepth := 40, contextual := true }) [*]

@[simp] theorem State.restoreWrites_steady {s₀ : State} {s : State} {r : RestoreRt} (h_s : Steady s₀ s) :
    Steady s₀ (State.restoreWrites s r).2 := by
  unfold State.restoreWrites
  simp (config := { maxDischargeDepth := 40, contextual := true }) [*]

@[simp] theorem State.restoreEnd_steady {s₀ : State} {s : State} {r : RestoreRt} {status detail : Nat} (h_s : Steady s₀
    s) :
    Steady s₀ (State.restoreEnd s r status detail) := by
  unfold State.restoreEnd
  simp (config := { maxDischargeDepth := 40, contextual := true }) [*]

@[simp] theorem State.restoreFailed_steady {s₀ : State} {s : State} {r : RestoreRt} {f : Nat × Nat} (h_s : Steady s₀ s) :
    Steady s₀ (State.restoreFailed s r f) := by
  unfold State.restoreFailed
  simp (config := { maxDischargeDepth := 40, contextual := true }) [*]

@[simp] theorem State.restorePages_steady {s₀ : State} {s : State} {r : RestoreRt} (h_s : Steady s₀ s) :
    Steady s₀ (State.restorePages s r) := by
  unfold State.restorePages
  simp (config := { maxDischargeDepth := 40, contextual := true }) [*]

@[simp] theorem State.restoreMissed_steady {s₀ s : State} {r : RestoreRt} {f : Nat × Nat} (h : Steady s₀ s) :
    Steady s₀ (s.restoreMissed r f) := by
  unfold State.restoreMissed
  split
  · dsimp only
    split
    · exact State.restorePages_steady h
    · exact State.restoreFailed_steady h
  · exact State.restoreFailed_steady h

@[simp] theorem State.restorePhase_steady {s₀ : State} {s : State} {r : RestoreRt} (h_s : Steady s₀ s) :
    Steady s₀ (State.restorePhase s r) := by
  unfold State.restorePhase
  extract_lets failure w x src st s1 drop
  have hd : ∀ (u : State) (g : Nat), Steady s₀ u → Steady s₀ (drop u g) := by
    intro u k hu
    dsimp only [drop]
    split <;> simp (config := { maxDischargeDepth := 40 }) [hu]
  have h1 : Steady s₀ s1 := by simp (config := { maxDischargeDepth := 40 }) [s1, h_s]
  have hw : Steady s₀ w.2 := State.restoreWrites_steady h_s
  have hx : Steady s₀ src := State.restoreRead_steady (State.restoreApply_steady hw)
  clear_value failure drop s1 st src x w
  split
  · (repeat' split) <;> simp (config := { maxDischargeDepth := 40, contextual := true }) [*]
  · split
    · cases failure with
      | some f => exact State.restoreMissed_steady h_s
      | none =>
        cases w.1 with
        | some f => exact State.restoreFailed_steady hw
        | none => simp (config := { maxDischargeDepth := 40 }) [hx]
    · split
      · exact State.restoreMissed_steady h_s
      · exact State.restoreEnd_steady (State.snapRefresh_steady (hd _ _ (hd _ _ h1)))

@[simp] theorem State.restoreRun_steady {s₀ s : State} {n : Nat} (h : Steady s₀ s) : Steady s₀ (s.restoreRun n) := by
  induction n generalizing s with
  | zero => exact h
  | succ n ih =>
    unfold State.restoreRun
    split
    · split
      · exact ih (by simp [h])
      · exact h
    · exact h

@[simp] theorem State.runSnapRestore_steady {s₀ : State} {s : State} {q : Nat} {c : Cmd} (h_s : Steady s₀ s) :
    Steady s₀ (State.runSnapRestore s q c) := by
  unfold State.runSnapRestore
  simp (config := { maxDischargeDepth := 40, contextual := true }) [*]

@[simp] theorem State.doSnapRestore_steady {s₀ : State} {s : State} {q : Nat} (h_s : Steady s₀ s) :
    Steady s₀ (State.doSnapRestore s q) := by
  unfold State.doSnapRestore
  simp (config := { maxDischargeDepth := 40, contextual := true }) [*]

@[simp] theorem State.restoreAnswer_steady {s₀ : State} {s : State} {g off : Nat} {res : Sum Bytes (Nat × Nat)} (h_s : Steady
    s₀ s) :
    Steady s₀ (State.restoreAnswer s g off res) := by
  unfold State.restoreAnswer
  (repeat' split) <;> simp (config := { maxDischargeDepth := 40, contextual := true }) [*]

end Sys2Proof.Machine
end

