-- ==== Sys2Proof/Laws/SteadyUpdate.lean ====
section
/-!
SUPPORT. The operations of Machine/Update.lean keep what Laws/Steady.lean says.
-/
namespace Sys2Proof.Machine

@[simp] theorem State.govBegin_steady {s₀ : State} {s : State} (h_s : Steady s₀ s) :
    Steady s₀ (State.govBegin s) := by
  unfold State.govBegin
  simp (config := { maxDischargeDepth := 40, contextual := true }) [*]

@[simp] theorem State.govCommit_steady {s₀ : State} {s : State} (h_s : Steady s₀ s) :
    Steady s₀ (State.govCommit s) := by
  unfold State.govCommit
  simp (config := { maxDischargeDepth := 40, contextual := true }) [*]

@[simp] theorem State.govDiscard_steady {s₀ : State} {s : State} (h_s : Steady s₀ s) :
    Steady s₀ (State.govDiscard s) := by
  unfold State.govDiscard
  simp (config := { maxDischargeDepth := 40, contextual := true }) [*]

@[simp] theorem State.govRestore_steady {s₀ : State} {s : State} {saved : List (Nat × Byte)} (h_s : Steady s₀ s) :
    Steady s₀ (State.govRestore s saved) := by
  unfold State.govRestore
  simp (config := { maxDischargeDepth := 40, contextual := true }) [*]

@[simp] theorem State.govActivate_steady {s₀ : State} {s : State} {im : Image} (h_s : Steady s₀ s) :
    Steady s₀ (State.govActivate s im) := by
  unfold State.govActivate
  refine Steady.foldl h_s fun u x hu => ?_
  extract_lets limits
  have hl : ∀ (v : State) (i : Nat), Steady s₀ v → Steady s₀ (limits v i) := by
    intro v i hv
    simp (config := { maxDischargeDepth := 40 }) [limits, hv]
  clear_value limits
  split
  · exact hl _ _ hu
  · split
    · exact State.setFld_steady hu
    · simp (config := { maxDischargeDepth := 40 }) [hl, hu]

@[simp] theorem State.govCount_steady {s₀ : State} {s : State} {id : Nat} {xs : List Nat} (h_s : Steady s₀ s) :
    Steady s₀ (State.govCount s id xs) := by
  unfold State.govCount
  (repeat' split) <;> simp (config := { maxDischargeDepth := 40, contextual := true }) [*]

@[simp] theorem State.copyGroups_steady {s₀ : State} {s : State} (h_s : Steady s₀ s) :
    Steady s₀ (State.copyGroups s) := by
  unfold State.copyGroups
  simp (config := { maxDischargeDepth := 40, contextual := true }) [*]

@[simp] theorem State.carry_steady {s₀ : State} {s : State} {page : Nat} {skip : List Nat} (h_s : Steady s₀ s) :
    Steady s₀ (State.carry s page skip) := by
  unfold State.carry
  simp (config := { maxDischargeDepth := 40, contextual := true }) [*]

@[simp] theorem State.shadowWrite_steady {s₀ : State} {s : State} {page off : Nat} {bs : Bytes} (h_s : Steady s₀ s) :
    Steady s₀ (State.shadowWrite s page off bs) := by
  unfold State.shadowWrite
  simp (config := { maxDischargeDepth := 40, contextual := true }) [*]

@[simp] theorem State.touchUnit_steady {s₀ : State} {s : State} {u : Upd} {g : Geom} {unit : Nat} (h_s : Steady s₀ s) :
    Steady s₀ (State.touchUnit s u g unit) := by
  unfold State.touchUnit
  simp (config := { maxDischargeDepth := 40, contextual := true }) [*]

@[simp] theorem State.updateBlock_steady {s₀ : State} {s : State} {u : Upd} {g : Geom} {grad : Nat → Nat → Num} {acc :
    UpdAcc} {br bc : Nat} (h_s : Steady s₀ s) :
    Steady s₀ (State.updateBlock s u g grad acc br bc).1 := by
  unfold State.updateBlock
  simp (config := { maxDischargeDepth := 40, contextual := true }) [*]

@[simp] theorem State.update_steady {s₀ : State} {s : State} {u : Upd} {grad : Nat → Nat → Num} (h_s : Steady s₀ s) :
    Steady s₀ (State.update s u grad).1 := by
  unfold State.update
  simp (config := { maxDischargeDepth := 40, contextual := true }) [*]

@[simp] theorem State.updDetect_steady {s₀ : State} {s : State} {q : Nat} {c : Cmd} {u : Upd} {es : List Err} {inj :
    Bool} (h_s : Steady s₀ s) :
    Steady s₀ (State.updDetect s q c u es inj) := by
  unfold State.updDetect
  simp (config := { maxDischargeDepth := 40, contextual := true }) [*]

@[simp] theorem State.streamUpdate_steady {s₀ : State} {s : State} {d : Bytes} {u : Upd} (h_s : Steady s₀ s) :
    Steady s₀ (State.streamUpdate s d u).1 := by
  unfold State.streamUpdate
  simp (config := { maxDischargeDepth := 40, contextual := true }) [*]

@[simp] theorem State.runUpdateStream_steady {s₀ : State} {s : State} {q : Nat} {c : Cmd} (h_s : Steady s₀ s) :
    Steady s₀ (State.runUpdateStream s q c) := by
  unfold State.runUpdateStream
  try dsimp only
  (repeat' split) <;> first | assumption | simp (config := { maxDischargeDepth := 40, contextual := true }) [*]

@[simp] theorem State.doUpdateStream_steady {s₀ : State} {s : State} {q : Nat} (h_s : Steady s₀ s) :
    Steady s₀ (State.doUpdateStream s q) := by
  unfold State.doUpdateStream
  simp (config := { maxDischargeDepth := 40, contextual := true }) [*]

@[simp] theorem State.runGradSum_steady {s₀ : State} {s : State} {q : Nat} {c : Cmd} (h_s : Steady s₀ s) :
    Steady s₀ (State.runGradSum s q c) := by
  unfold State.runGradSum
  simp (config := { maxDischargeDepth := 40, contextual := true }) [*]

@[simp] theorem State.doGradSum_steady {s₀ : State} {s : State} {q : Nat} (h_s : Steady s₀ s) :
    Steady s₀ (State.doGradSum s q) := by
  unfold State.doGradSum
  simp (config := { maxDischargeDepth := 40, contextual := true }) [*]

end Sys2Proof.Machine
end

