-- ==== Sys2Proof/Laws/SteadyTokens.lean ====
section
/-!
SUPPORT. The operations of Machine/Tokens.lean keep what Laws/Steady.lean says.
-/
namespace Sys2Proof.Machine

@[simp] theorem State.modCore_steady {s₀ : State} {s : State} {n : Nat} {f : CoreRt → CoreRt} (h_s : Steady s₀ s) :
    Steady s₀ (State.modCore s n f) := by
  unfold State.modCore
  simp (config := { maxDischargeDepth := 40, contextual := true }) [*]

@[simp] theorem State.modRoute_steady {s₀ : State} {s : State} {k : Nat} {f : RouteRt → RouteRt} (h_s : Steady s₀ s) :
    Steady s₀ (State.modRoute s k f) := by
  unfold State.modRoute
  simp (config := { maxDischargeDepth := 40, contextual := true }) [*]

@[simp] theorem State.flipCheck_steady {s₀ : State} {s : State} {det n counter : Nat} (h_s : Steady s₀ s) :
    Steady s₀ (State.flipCheck s det n counter) := by
  unfold State.flipCheck
  try dsimp only
  (repeat' split) <;> first | assumption | simp (config := { maxDischargeDepth := 40, contextual := true }) [*]

@[simp] theorem State.watchCheck_steady {s₀ : State} {s : State} {n : Nat} (h_s : Steady s₀ s) :
    Steady s₀ (State.watchCheck s n) := by
  unfold State.watchCheck
  simp (config := { maxDischargeDepth := 40, contextual := true }) [*]

@[simp] theorem State.coreCheck_steady {s₀ : State} {s : State} {n : Nat} (h_s : Steady s₀ s) :
    Steady s₀ (State.coreCheck s n) := by
  unfold State.coreCheck
  simp (config := { maxDischargeDepth := 40, contextual := true }) [*]

@[simp] theorem State.spTouch_steady {s₀ : State} {s : State} {n off len : Nat} (h_s : Steady s₀ s) :
    Steady s₀ (State.spTouch s n off len) := by
  unfold State.spTouch
  try dsimp only
  (repeat' split) <;> first | assumption | simp (config := { maxDischargeDepth := 40, contextual := true }) [*]

@[simp] theorem State.spWord_steady {s₀ : State} {s : State} {n off : Nat} (h_s : Steady s₀ s) :
    Steady s₀ (State.spWord s n off) := by
  unfold State.spWord
  simp (config := { maxDischargeDepth := 40, contextual := true }) [*]

@[simp] theorem State.spClean_steady {s₀ : State} {s : State} {n off len : Nat} (h_s : Steady s₀ s) :
    Steady s₀ (State.spClean s n off len) := by
  unfold State.spClean
  simp (config := { maxDischargeDepth := 40, contextual := true }) [*]

@[simp] theorem State.spStore_steady {s₀ : State} {s : State} {n off : Nat} {bs : Bytes} (h_s : Steady s₀ s) :
    Steady s₀ (State.spStore s n off bs) := by
  unfold State.spStore
  simp (config := { maxDischargeDepth := 40, contextual := true }) [*]

@[simp] theorem State.ownStore_steady {s₀ : State} {s : State} {n off : Nat} {bs : Bytes} (h_s : Steady s₀ s) :
    Steady s₀ (State.ownStore s n off bs) := by
  unfold State.ownStore
  simp (config := { maxDischargeDepth := 40, contextual := true }) [*]

@[simp] theorem State.addRef_steady {s₀ : State} {s : State} {id n : Nat} (h_s : Steady s₀ s) :
    Steady s₀ (State.addRef s id n) := by
  unfold State.addRef
  simp (config := { maxDischargeDepth := 40, contextual := true }) [*]

@[simp] theorem State.dropRef_steady {s₀ : State} {s : State} {id : Nat} (h_s : Steady s₀ s) :
    Steady s₀ (State.dropRef s id) := by
  unfold State.dropRef
  simp (config := { maxDischargeDepth := 40, contextual := true }) [*]

@[simp] theorem State.setCoreQ_steady {s₀ : State} {s : State} {n q : Nat} {l : List Nat} (h_s : Steady s₀ s) :
    Steady s₀ (State.setCoreQ s n q l) := by
  unfold State.setCoreQ
  simp (config := { maxDischargeDepth := 40, contextual := true }) [*]

@[simp] theorem State.enterQueue_steady {s₀ : State} {s : State} {n q k : Nat} {h : TokHdr} {parent : Option Nat} (h_s :
    Steady s₀ s) :
    Steady s₀ (State.enterQueue s n q k h parent) := by
  unfold State.enterQueue
  simp (config := { maxDischargeDepth := 40, contextual := true }) [*]

@[simp] theorem State.release_steady {s₀ : State} {s : State} {id : Nat} (h_s : Steady s₀ s) :
    Steady s₀ (State.release s id) := by
  unfold State.release
  (repeat' split) <;> simp (config := { maxDischargeDepth := 40, contextual := true }) [*]

@[simp] theorem State.queueTok_steady {s₀ : State} {s : State} {k : Nat} {w : WaitTok} (h_s : Steady s₀ s) :
    Steady s₀ (State.queueTok s k w) := by
  unfold State.queueTok
  simp (config := { maxDischargeDepth := 40, contextual := true }) [*]

@[simp] theorem State.refusePayload_steady {s₀ : State} {s : State} {n : Nat} {h : TokHdr} {inj : Bool} (h_s : Steady s₀
    s) :
    Steady s₀ (State.refusePayload s n h inj) := by
  unfold State.refusePayload
  simp (config := { maxDischargeDepth := 40, contextual := true }) [*]

@[simp] theorem State.sendTok_steady {s₀ : State} {s : State} {k : Nat} {r : RouteRec} {w : WaitTok} (h_s : Steady s₀ s) :
    Steady s₀ (State.sendTok s k r w) := by
  unfold State.sendTok
  (repeat' split) <;> simp (config := { maxDischargeDepth := 40, contextual := true }) [*]

@[simp] theorem State.doTokenSend_steady {s₀ : State} {s : State} {k : Nat} {tok : Option (TokHdr × Bytes)} (h_s :
    Steady s₀ s) :
    Steady s₀ (State.doTokenSend s k tok) := by
  unfold State.doTokenSend
  try dsimp only
  (repeat' split) <;> first | assumption | simp (config := { maxDischargeDepth := 40, contextual := true }) [*]

@[simp] theorem State.flushStream_steady {s₀ : State} {s : State} {k : Nat} {r : RouteRec} (h_s : Steady s₀ s) :
    Steady s₀ (State.flushStream s k r) := by
  unfold State.flushStream
  simp (config := { maxDischargeDepth := 40, contextual := true }) [*]

@[simp] theorem State.doHeaderEntry_steady {s₀ : State} {s : State} {k : Nat} (h_s : Steady s₀ s) :
    Steady s₀ (State.doHeaderEntry s k) := by
  unfold State.doHeaderEntry
  (repeat' split) <;> simp (config := { maxDischargeDepth := 40, contextual := true }) [*]

@[simp] theorem State.doCreditArrival_steady {s₀ : State} {s : State} {k : Nat} (h_s : Steady s₀ s) :
    Steady s₀ (State.doCreditArrival s k) := by
  unfold State.doCreditArrival
  (repeat' split) <;> simp (config := { maxDischargeDepth := 40, contextual := true }) [*]

@[simp] theorem State.discardOld_steady {s₀ : State} {s : State} (h_s : Steady s₀ s) :
    Steady s₀ (State.discardOld s) := by
  unfold State.discardOld
  refine Steady.foldl (Steady.foldl h_s fun u c hu => Steady.foldl hu fun v q hv => ?_) fun u r hu => ?_
  · dsimp only
    split
    · exact hv
    · exact Steady.foldl (by simp [hv]) fun w id hw => by simp [hw]
  · dsimp only
    split
    · exact hu
    · refine State.count_steady (Steady.foldl (State.modRoute_steady hu) fun w t hw => ?_)
      split
      · simp [hw]
      · exact hw

@[simp] theorem State.copyTok_steady {s₀ : State} {s : State} {n id : Nat} {r : RouteRec} (h_s : Steady s₀ s) :
    Steady s₀ (State.copyTok s n id r).1 := by
  unfold State.copyTok
  simp (config := { maxDischargeDepth := 40, contextual := true }) [*]

@[simp] theorem State.forwardTok_steady {s₀ : State} {s : State} {n id q : Nat} (h_s : Steady s₀ s) :
    Steady s₀ (State.forwardTok s n id q) := by
  unfold State.forwardTok
  (repeat' split) <;> simp (config := { maxDischargeDepth := 40, contextual := true }) [*]

theorem State.steerAct_some {s₀ s t : State} {n d : Nat} {e : SteerRec} (h : s.steerAct n d e = some t) (hs : Steady s₀ s) :
    Steady s₀ t := by
  unfold State.steerAct at h
  dsimp only at h
  repeat' split at h
  all_goals first
    | (simp at h; done)
    | (injection h with h; subst h; simp (config := { maxDischargeDepth := 40, contextual := true }) [*]; done)

@[simp] theorem State.doSteer_steady {s₀ : State} {s : State} {n ctrlQ : Nat} (h_s : Steady s₀ s) :
    Steady s₀ (State.doSteer s n ctrlQ) := by
  unfold State.doSteer
  dsimp only
  (repeat' split) <;> first | assumption | (simp (config := { maxDischargeDepth := 40, contextual := true }) [*]; done) | (refine State.steerAct_some (by assumption) ?_; simp (config := { maxDischargeDepth := 40, contextual := true }) [*]; done)

@[simp] theorem State.setChain_steady {s₀ : State} {s : State} {n c : Nat} {x : ChainRt} (h_s : Steady s₀ s) :
    Steady s₀ (State.setChain s n c x) := by
  unfold State.setChain
  simp (config := { maxDischargeDepth := 40, contextual := true }) [*]

@[simp] theorem State.trimChain_steady {s₀ : State} {s : State} {n c : Nat} (h_s : Steady s₀ s) :
    Steady s₀ (State.trimChain s n c) := by
  unfold State.trimChain
  simp (config := { maxDischargeDepth := 40, contextual := true }) [*]

@[simp] theorem State.doCarriage_steady {s₀ : State} {s : State} {n c : Nat} (h_s : Steady s₀ s) :
    Steady s₀ (State.doCarriage s n c) := by
  unfold State.doCarriage
  try dsimp only
  (repeat' split) <;> first | assumption | simp (config := { maxDischargeDepth := 40, contextual := true }) [*]

end Sys2Proof.Machine
end

