-- ==== Sys2Proof/Laws/SteadyTables.lean ====
section
/-!
SUPPORT. The operations of Machine/Tables.lean keep what Laws/Steady.lean says.
-/
namespace Sys2Proof.Machine

@[simp] theorem State.segAccess_steady {s₀ : State} {s : State} {a len : Nat} (h_s : Steady s₀ s) :
    Steady s₀ (State.segAccess s a len).2 := by
  unfold State.segAccess
  (repeat' split) <;> simp (config := { maxDischargeDepth := 40, contextual := true }) [*]

@[simp] theorem State.segRead_steady {s₀ : State} {s : State} {a len : Nat} (h_s : Steady s₀ s) :
    Steady s₀ (State.segRead s a len).2 := by
  unfold State.segRead
  simp (config := { maxDischargeDepth := 40, contextual := true }) [*]

@[simp] theorem State.segWrite_steady {s₀ : State} {s : State} {a : Nat} {bs : Bytes} (h_s : Steady s₀ s) :
    Steady s₀ (State.segWrite s a bs).2 := by
  unfold State.segWrite
  simp (config := { maxDischargeDepth := 40, contextual := true }) [*]

@[simp] theorem State.modTable_steady {s₀ : State} {s : State} {n j : Nat} {f : TableRt → TableRt} (h_s : Steady s₀ s) :
    Steady s₀ (State.modTable s n j f) := by
  unfold State.modTable
  simp (config := { maxDischargeDepth := 40, contextual := true }) [*]

@[simp] theorem State.dropHeld_steady {s₀ : State} {s : State} {n j : Nat} {o : OperandRec} {k : Nat} (h_s : Steady s₀
    s) :
    Steady s₀ (State.dropHeld s n j o k) := by
  unfold State.dropHeld
  (repeat' split) <;> simp (config := { maxDischargeDepth := 40, contextual := true }) [*]

@[simp] theorem State.mbCheck_steady {s₀ : State} {s : State} {n : Nat} {t : LoopTable} {r : TableRt} {id : Nat} (h_s :
    Steady s₀ s) :
    Steady s₀ (State.mbCheck s n t r id) := by
  unfold State.mbCheck
  simp (config := { maxDischargeDepth := 40, contextual := true }) [*]

@[simp] theorem State.takeOperand_steady {s₀ : State} {s : State} {n j : Nat} {t : LoopTable} {o : OperandRec × Nat}
    (h_s : Steady s₀ s) :
    Steady s₀ (State.takeOperand s n j t o) := by
  unfold State.takeOperand
  try dsimp only
  (repeat' split) <;> first | assumption | simp (config := { maxDischargeDepth := 40, contextual := true }) [*]

@[simp] theorem State.beginIteration_steady {s₀ : State} {s : State} {n j : Nat} {t : LoopTable} (h_s : Steady s₀ s) :
    Steady s₀ (State.beginIteration s n j t) := by
  unfold State.beginIteration
  simp (config := { maxDischargeDepth := 40, contextual := true }) [*]

@[simp] theorem State.endIteration_steady {s₀ : State} {s : State} {n j : Nat} {t : LoopTable} (h_s : Steady s₀ s) :
    Steady s₀ (State.endIteration s n j t) := by
  unfold State.endIteration
  simp (config := { maxDischargeDepth := 40, contextual := true }) [*]

@[simp] theorem State.readTile_steady {s₀ : State} {s : State} {n : Nat} {p : TileBuf} (h_s : Steady s₀ s) :
    Steady s₀ (State.readTile s n p).2 := by
  unfold State.readTile
  simp (config := { maxDischargeDepth := 40, contextual := true }) [*]

@[simp] theorem State.bufferTile_steady {s₀ : State} {s : State} {n j : Nat} {o : OperandRec × Nat} (h_s : Steady s₀ s) :
    Steady s₀ (State.bufferTile s n j o).2 := by
  unfold State.bufferTile
  try dsimp only
  (repeat' split) <;> first | assumption | simp (config := { maxDischargeDepth := 40, contextual := true }) [*]

@[simp] theorem State.modAcc_steady {s₀ : State} {s : State} {n : Nat} {f : List AccTile → List AccTile} (h_s : Steady
    s₀ s) :
    Steady s₀ (State.modAcc s n f) := by
  unfold State.modAcc
  simp (config := { maxDischargeDepth := 40, contextual := true }) [*]

@[simp] theorem State.setOpen_steady {s₀ : State} {s : State} {n : Nat} {x : AccTile} (h_s : Steady s₀ s) :
    Steady s₀ (State.setOpen s n x) := by
  unfold State.setOpen
  simp (config := { maxDischargeDepth := 40, contextual := true }) [*]

@[simp] theorem State.spill_steady {s₀ : State} {s : State} {n j : Nat} {t : LoopTable} {rank : Nat} (h_s : Steady s₀ s) :
    Steady s₀ (State.spill s n j t rank) := by
  unfold State.spill
  try dsimp only
  (repeat' split) <;> first | assumption | simp (config := { maxDischargeDepth := 40, contextual := true }) [*]

@[simp] theorem State.reload_steady {s₀ : State} {s : State} {n : Nat} {t : LoopTable} {a : AccTile} (h_s : Steady s₀ s) :
    Steady s₀ (State.reload s n t a).2 := by
  unfold State.reload
  simp (config := { maxDischargeDepth := 40, contextual := true }) [*]

@[simp] theorem State.product_steady {s₀ : State} {s : State} {n j : Nat} {t : LoopTable} (h_s : Steady s₀ s) :
    Steady s₀ (State.product s n j t) := by
  unfold State.product
  try dsimp only
  (repeat' split) <;> first | assumption | simp (config := { maxDischargeDepth := 40, contextual := true }) [*]

@[simp] theorem State.doTileProduct_steady {s₀ : State} {s : State} {n : Nat} (h_s : Steady s₀ s) :
    Steady s₀ (State.doTileProduct s n) := by
  unfold State.doTileProduct
  (repeat' split) <;> simp (config := { maxDischargeDepth := 40, contextual := true }) [*]

@[simp] theorem State.putTile_steady {s₀ : State} {s : State} {n : Nat} {o : OperandRec} {half : Nat} {sound : Bool} {out : Int}
    {mb tenant first : Nat} {xs : List Nat} (h_s : Steady s₀ s) :
    Steady s₀ (State.putTile s n o half sound out mb tenant first xs) := by
  unfold State.putTile
  extract_lets s gov fmt base w v s1 off sc
  have h0 : Steady s₀ s := by
    dsimp only [s]
    split
    · exact h_s
    · simp [h_s]
  have h1 : Steady s₀ s1 := by
    dsimp only [s1]
    split
    · exact State.govCount_steady h0
    · exact h0
  clear_value s1 off sc v w fmt s
  split
  · split
    · exact State.queueTok_steady h1
    · exact h1
  · exact State.spStore_steady (State.spStore_steady h1)

@[simp] theorem State.doDrain_steady {s₀ : State} {s : State} {n j : Nat} (h_s : Steady s₀ s) :
    Steady s₀ (State.doDrain s n j) := by
  unfold State.doDrain
  (repeat' split) <;> simp (config := { maxDischargeDepth := 40, contextual := true }) [*]

@[simp] theorem State.tmapLookup_steady {s₀ : State} {s : State} {d tag : Nat} (h_s : Steady s₀ s) :
    Steady s₀ (State.tmapLookup s d tag).2 := by
  unfold State.tmapLookup
  (repeat' split) <;> simp (config := { maxDischargeDepth := 40, contextual := true }) [*]

@[simp] theorem State.tmapMiss_steady {s₀ : State} {s : State} {tag : Nat} (h_s : Steady s₀ s) :
    Steady s₀ (State.tmapMiss s tag) := by
  unfold State.tmapMiss
  simp (config := { maxDischargeDepth := 40, contextual := true }) [*]

@[simp] theorem State.homeReads_steady {s₀ : State} {s : State} {u : Upd} (h_s : Steady s₀ s) :
    Steady s₀ (State.homeReads s u) := by
  unfold State.homeReads
  simp (config := { maxDischargeDepth := 40, contextual := true }) [*]

@[simp] theorem State.updAccess_steady {s₀ : State} {s : State} {u : Upd} {count : Nat} {p : ParamRec} (h_s : Steady s₀ s) :
    Steady s₀ (State.updAccess s u count p).2 := by
  unfold State.updAccess
  (repeat' split) <;> simp (config := { maxDischargeDepth := 40, contextual := true }) [*]

@[simp] theorem State.tileUpdate_steady {s₀ : State} {s : State} {p : ParamRec} {tile : Int} {lo height tenant inst : Nat}
    {grad : Array Num} (h_s : Steady s₀ s) :
    Steady s₀ (State.tileUpdate s p tile lo height tenant inst grad) := by
  unfold State.tileUpdate
  try dsimp only
  (repeat' split) <;> first | assumption | simp (config := { maxDischargeDepth := 40, contextual := true }) [*]

@[simp] theorem State.doEngineTile_steady {s₀ : State} {s : State} {k : Nat} (h_s : Steady s₀ s) :
    Steady s₀ (State.doEngineTile s k) := by
  unfold State.doEngineTile
  (repeat' split) <;> simp (config := { maxDischargeDepth := 40, contextual := true }) [*]

@[simp] theorem State.vectorPass_steady {s₀ : State} {s : State} {n j : Nat} {t : LoopTable} (h_s : Steady s₀ s) :
    Steady s₀ (State.vectorPass s n j t) := by
  unfold State.vectorPass
  extract_lets s1 r o x xs out s2
  have h1 : Steady s₀ s1 := State.beginIteration_steady h_s
  have hx : Steady s₀ x.2 := by
    refine Steady.foldl_snd h1 fun u p hu => ?_
    simp (config := { maxDischargeDepth := 40, contextual := true }) [*]
  clear_value s1 x
  have h2 : Steady s₀ s2 := by
    dsimp only [s2]
    split <;> simp (config := { maxDischargeDepth := 40, contextual := true }) [*]
  clear_value s2
  simp (config := { maxDischargeDepth := 40, contextual := true }) [*]

@[simp] theorem State.doVector_steady {s₀ : State} {s : State} {n j : Nat} (h_s : Steady s₀ s) :
    Steady s₀ (State.doVector s n j) := by
  unfold State.doVector
  (repeat' split) <;> simp (config := { maxDischargeDepth := 40, contextual := true }) [*]

end Sys2Proof.Machine
end

