-- ==== Sys2Proof/Laws/SteadyCkpt.lean ====
section
/-!
SUPPORT. The operations of Machine/Ckpt.lean keep what Laws/Steady.lean says.
-/
namespace Sys2Proof.Machine

@[simp] theorem State.setCkpt_steady {s₀ : State} {s : State} {u n : Nat} {c : Option CkptRt} (h_s : Steady s₀ s) :
    Steady s₀ (State.setCkpt s u n c) := by
  unfold State.setCkpt
  (repeat' split) <;> simp (config := { maxDischargeDepth := 40, contextual := true }) [*]

@[simp] theorem State.ckptInvalid_steady {s₀ : State} {s : State} {u n cause : Nat} (h_s : Steady s₀ s) :
    Steady s₀ (State.ckptInvalid s u n cause) := by
  unfold State.ckptInvalid
  (repeat' split) <;> simp (config := { maxDischargeDepth := 40, contextual := true }) [*]

theorem State.takeOrder_some {s₀ s : State} {u n : Nat} {sel : Nat → Bool} {x : TokHdr × State} (h : s.takeOrder u n sel = some x)
    (hs : Steady s₀ s) : Steady s₀ x.2 := by
  unfold State.takeOrder at h
  repeat' split at h
  all_goals first
    | (simp at h; done)
    | (injection h with h; subst h; simp [hs]; done)

@[simp] theorem State.beginOrder_steady {s₀ : State} {s : State} {u n : Nat} {h : TokHdr} {save : Bool} (h_s : Steady s₀
    s) :
    Steady s₀ (State.beginOrder s u n h save) := by
  unfold State.beginOrder
  simp (config := { maxDischargeDepth := 40, contextual := true }) [*]

@[simp] theorem State.segWrites_steady {s₀ : State} {s : State} {a : Nat} {x : Bytes} {b : Nat} {y : Bytes} (h_s :
    Steady s₀ s) :
    Steady s₀ (State.segWrites s a x b y).2 := by
  unfold State.segWrites
  simp (config := { maxDischargeDepth := 40, contextual := true }) [*]

@[simp] theorem State.storeF32_steady {s₀ : State} {s : State} {c : CkptRt} {w : WaitTok} (h_s : Steady s₀ s) :
    Steady s₀ (State.storeF32 s c w).2 := by
  unfold State.storeF32
  simp (config := { maxDischargeDepth := 40, contextual := true }) [*]

@[simp] theorem State.storePlain_steady {s₀ : State} {s : State} {c : CkptRt} {w : WaitTok} (h_s : Steady s₀ s) :
    Steady s₀ (State.storePlain s c w).2 := by
  unfold State.storePlain
  simp (config := { maxDischargeDepth := 40, contextual := true }) [*]

@[simp] theorem State.storeLossless_steady {s₀ : State} {s : State} {c : CkptRt} {w : WaitTok} (h_s : Steady s₀ s) :
    Steady s₀ (State.storeLossless s c w).2.2 := by
  unfold State.storeLossless
  simp (config := { maxDischargeDepth := 40, contextual := true }) [*]

@[simp] theorem State.storeTile_steady {s₀ : State} {s : State} {c : CkptRt} {w : WaitTok} (h_s : Steady s₀ s) :
    Steady s₀ (State.storeTile s c w).2.2 := by
  unfold State.storeTile
  exact Steady.ite_snd_snd (Steady.triple (State.storeF32_steady h_s)) (Steady.ite_snd_snd
    (Steady.triple (State.storePlain_steady h_s)) (State.storeLossless_steady h_s))

@[simp] theorem State.absorbTile_steady {s₀ : State} {s : State} {u n k : Nat} {c : CkptRt} (h_s : Steady s₀ s) :
    Steady s₀ (State.absorbTile s u n k c) := by
  unfold State.absorbTile
  (repeat' split) <;> simp (config := { maxDischargeDepth := 40, contextual := true }) [*]

@[simp] theorem State.finishSave_steady {s₀ : State} {s : State} {u n : Nat} {c : CkptRt} (h_s : Steady s₀ s) :
    Steady s₀ (State.finishSave s u n c) := by
  unfold State.finishSave
  simp (config := { maxDischargeDepth := 40, contextual := true }) [*]

@[simp] theorem State.saveRun_steady {s₀ s : State} {u n fuel : Nat} (h : Steady s₀ s) : Steady s₀ (s.saveRun u n fuel) := by
  induction fuel generalizing s with
  | zero => exact h
  | succ k ih =>
    unfold State.saveRun
    repeat' split
    all_goals first
      | exact h
      | exact State.finishSave_steady h
      | exact ih (State.absorbTile_steady h)

@[simp] theorem State.doSave_steady {s₀ : State} {s : State} {u n : Nat} (h_s : Steady s₀ s) :
    Steady s₀ (State.doSave s u n) := by
  unfold State.doSave
  split
  · exact h_s
  · extract_lets s1
    have h1 : Steady s₀ s1 := by
      dsimp only [s1]
      split
      · exact h_s
      · split
        · rename_i x hx
          have hk : Steady s₀ x.2 := State.takeOrder_some (by assumption) h_s
          split
          · exact State.beginOrder_steady hk
          · exact State.ckptInvalid_steady hk
        · exact h_s
    clear_value s1
    simp [h1]

@[simp] theorem State.loadTile_steady {s₀ : State} {s : State} {c : CkptRt} (h_s : Steady s₀ s) :
    Steady s₀ (State.loadTile s c).2 := by
  unfold State.loadTile
  simp (config := { maxDischargeDepth := 40, contextual := true }) [*]

@[simp] theorem State.restoreTile_steady {s₀ : State} {s : State} {u n k : Nat} {c : CkptRt} (h_s : Steady s₀ s) :
    Steady s₀ (State.restoreTile s u n k c) := by
  unfold State.restoreTile
  simp (config := { maxDischargeDepth := 40, contextual := true }) [*]

@[simp] theorem State.restoreTiles_steady {s₀ s : State} {u n fuel : Nat} (h : Steady s₀ s) :
    Steady s₀ (s.restoreTiles u n fuel) := by
  induction fuel generalizing s with
  | zero => exact h
  | succ k ih =>
    unfold State.restoreTiles
    repeat' split
    all_goals first
      | exact h
      | exact ih (State.restoreTile_steady h)

@[simp] theorem State.doRestore_steady {s₀ : State} {s : State} {u n : Nat} (h_s : Steady s₀ s) :
    Steady s₀ (State.doRestore s u n) := by
  unfold State.doRestore
  split
  · exact h_s
  · extract_lets s1
    have h1 : Steady s₀ s1 := by
      dsimp only [s1]
      split
      · exact h_s
      · split
        · exact State.beginOrder_steady (State.takeOrder_some (by assumption) h_s)
        · exact h_s
    clear_value s1
    simp [h1]

@[simp] theorem State.feedReads_steady {s₀ : State} {s : State} {home : Nat} {pages : List Nat} (h_s : Steady s₀ s) :
    Steady s₀ (State.feedReads s home pages).2 := by
  unfold State.feedReads
  simp (config := { maxDischargeDepth := 40, contextual := true }) [*]

@[simp] theorem State.doFeed_steady {s₀ : State} {s : State} {k : Nat} (h_s : Steady s₀ s) :
    Steady s₀ (State.doFeed s k) := by
  unfold State.doFeed
  split
  · rename_i f r rt _ _ _
    extract_lets sent mb t win slots off tag s0 look g fmt unit s1 acc bs
    split
    · exact h_s
    · have h0 : Steady s₀ s0 := h_s.other rfl rfl rfl rfl rfl rfl rfl rfl rfl rfl rfl rfl rfl rfl rfl rfl rfl rfl rfl rfl rfl rfl
      have hk : Steady s₀ look.2 := State.tmapLookup_steady h0
      have h1 : Steady s₀ s1 := by
        dsimp only [s1]
        split
        · exact hk
        · split
          · exact State.tmapMiss_steady hk
          · exact State.fabricError_steady hk
      have ha : Steady s₀ acc.2 := by
        dsimp only [acc]
        cases unit with
        | some u => exact State.feedReads_steady h1
        | none => exact h1
      clear_value acc bs off fmt
      exact State.queueTok_steady ha
  · exact h_s

end Sys2Proof.Machine
end

