-- ==== Sys2Proof/Laws/SteadyScalar.lean ====
section
/-!
SUPPORT. The operations of Machine/Scalar.lean keep what Laws/Steady.lean says.
-/
namespace Sys2Proof.Machine

@[simp] theorem State.modHart_steady {s₀ : State} {s : State} {n : Nat} {f : ScalarRt → ScalarRt} (h_s : Steady s₀ s) :
    Steady s₀ (State.modHart s n f) := by
  unfold State.modHart
  simp (config := { maxDischargeDepth := 40, contextual := true }) [*]

@[simp] theorem State.dropTaken_steady {s₀ : State} {s : State} {n : Nat} (h_s : Steady s₀ s) :
    Steady s₀ (State.dropTaken s n) := by
  unfold State.dropTaken
  refine State.modHart_steady (Steady.foldl h_s fun u x hu => ?_)
  split
  · exact State.dropRef_steady hu
  · exact hu

@[simp] theorem State.scalarFault_steady {s₀ : State} {s : State} {n cause : Nat} {inj : Bool} (h_s : Steady s₀ s) :
    Steady s₀ (State.scalarFault s n cause inj) := by
  unfold State.scalarFault
  simp (config := { maxDischargeDepth := 40, contextual := true }) [*]

@[simp] theorem State.scalarHalt_steady {s₀ : State} {s : State} {n : Nat} (h_s : Steady s₀ s) :
    Steady s₀ (State.scalarHalt s n) := by
  unfold State.scalarHalt
  simp (config := { maxDischargeDepth := 40, contextual := true }) [*]

@[simp] theorem State.retire_steady {s₀ : State} {s : State} {n rd : Nat} {v : W32} {next : W32} (h_s : Steady s₀ s) :
    Steady s₀ (State.retire s n rd v next) := by
  unfold State.retire
  simp (config := { maxDischargeDepth := 40, contextual := true }) [*]

@[simp] theorem State.doScalarStart_steady {s₀ : State} {s : State} {n : Nat} (h_s : Steady s₀ s) :
    Steady s₀ (State.doScalarStart s n) := by
  unfold State.doScalarStart
  simp (config := { maxDischargeDepth := 40, contextual := true }) [*]

@[simp] theorem State.setTokenReg_steady {s₀ : State} {s : State} {n off : Nat} {v : W32} (h_s : Steady s₀ s) :
    Steady s₀ (State.setTokenReg s n off v) := by
  unfold State.setTokenReg
  (repeat' split) <;> simp (config := { maxDischargeDepth := 40, contextual := true }) [*]

@[simp] theorem State.scalarSend_steady {s₀ : State} {s : State} {n : Nat} {v : W32} (h_s : Steady s₀ s) :
    Steady s₀ (State.scalarSend s n v) := by
  unfold State.scalarSend
  try dsimp only
  (repeat' split) <;> first | assumption | simp (config := { maxDischargeDepth := 40, contextual := true }) [*]

@[simp] theorem State.scalarTake_steady {s₀ : State} {s : State} {n rd f3 off : Nat} (h_s : Steady s₀ s) :
    Steady s₀ (State.scalarTake s n rd f3 off) := by
  unfold State.scalarTake
  try dsimp only
  (repeat' split) <;> first | assumption | simp (config := { maxDischargeDepth := 40, contextual := true }) [*]

@[simp] theorem State.scalarLoad_steady {s₀ : State} {s : State} {n rd f3 a : Nat} (h_s : Steady s₀ s) :
    Steady s₀ (State.scalarLoad s n rd f3 a) := by
  unfold State.scalarLoad
  simp (config := { maxDischargeDepth := 40, contextual := true }) [*]

@[simp] theorem State.scalarStore_steady {s₀ : State} {s : State} {n f3 a : Nat} {v : W32} (h_s : Steady s₀ s) :
    Steady s₀ (State.scalarStore s n f3 a v) := by
  unfold State.scalarStore
  simp (config := { maxDischargeDepth := 40, contextual := true }) [*]

@[simp] theorem State.jumpTo_steady {s₀ : State} {s : State} {n rd : Nat} {v target : W32} (h_s : Steady s₀ s) :
    Steady s₀ (State.jumpTo s n rd v target) := by
  unfold State.jumpTo
  simp (config := { maxDischargeDepth := 40, contextual := true }) [*]

@[simp] theorem State.runScalar_steady {s₀ : State} {s : State} {n : Nat} {w : W32} (h_s : Steady s₀ s) :
    Steady s₀ (State.runScalar s n w) := by
  unfold State.runScalar
  try dsimp only
  (repeat' split) <;> first | assumption | simp (config := { maxDischargeDepth := 40, contextual := true }) [*]

@[simp] theorem State.doScalar_steady {s₀ : State} {s : State} {n : Nat} {want : ScalarKind} (h_s : Steady s₀ s) :
    Steady s₀ (State.doScalar s n want) := by
  unfold State.doScalar
  (repeat' split) <;> simp (config := { maxDischargeDepth := 40, contextual := true }) [*]

end Sys2Proof.Machine
end

