-- ==== Sys2Proof/Laws/SteadyCoach.lean ====
section
/-!
SUPPORT. The operations of Machine/Coach.lean keep what Laws/Steady.lean says.
-/
namespace Sys2Proof.Machine

@[simp] theorem State.stageInto_steady {s₀ : State} {s : State} {d k : Nat} {bytes : Bytes} {length : Nat} (h_s : Steady
    s₀ s) :
    Steady s₀ (State.stageInto s d k bytes length).2 := by
  unfold State.stageInto
  simp (config := { maxDischargeDepth := 40, contextual := true }) [*]

@[simp] theorem State.stageHalf_steady {s₀ : State} {s : State} {q : Nat} {c : Cmd} (h_s : Steady s₀ s) :
    Steady s₀ (State.stageHalf s q c).2 := by
  unfold State.stageHalf
  simp (config := { maxDischargeDepth := 40, contextual := true }) [*]

@[simp] theorem State.runStage_steady {s₀ : State} {s : State} {q : Nat} {c : Cmd} (h_s : Steady s₀ s) :
    Steady s₀ (State.runStage s q c) := by
  unfold State.runStage
  try dsimp only
  repeat' (first
    | assumption
    | with_reducible refine Steady.foldl ?_ (fun u x hu => ?_)
    | with_reducible refine State.runCmd_steady ?_ (fun u c hu => ?_)
    | with_reducible refine State.runDeclared_steady ?_ (fun u c hu => ?_)
    | split
    | (simp (config := { maxDischargeDepth := 40, contextual := true }) [*]; done)
    | (simp only [Prod.ext_iff] at *; casesm* _ ∧ _; subst_vars; simp (config := { maxDischargeDepth := 40, contextual := true }) [*]; done))

@[simp] theorem State.stageFailed_steady {s₀ : State} {s : State} {q : Nat} {c : Cmd} {e : Err} (h_s : Steady s₀ s) :
    Steady s₀ (State.stageFailed s q c e) := by
  unfold State.stageFailed
  simp (config := { maxDischargeDepth := 40, contextual := true }) [*]

@[simp] theorem State.doStage_steady {s₀ : State} {s : State} {q : Nat} (h_s : Steady s₀ s) :
    Steady s₀ (State.doStage s q) := by
  unfold State.doStage
  split
  · exact State.runRow_steady h_s (fun u q c e hu => State.stageFailed_steady hu) fun u c hu => State.runStage_steady hu
  · exact h_s

@[simp] theorem State.stopScalars_steady {s₀ : State} {s : State} (h_s : Steady s₀ s) :
    Steady s₀ (State.stopScalars s) := by
  unfold State.stopScalars
  simp (config := { maxDischargeDepth := 40, contextual := true }) [*]

@[simp] theorem State.emptyFabric_steady {s₀ : State} {s : State} (h_s : Steady s₀ s) :
    Steady s₀ (State.emptyFabric s) := by
  unfold State.emptyFabric
  simp (config := { maxDischargeDepth := 40, contextual := true }) [*]

@[simp] theorem State.setCores_steady {s₀ : State} {s : State} {v : Nat} (h_s : Steady s₀ s) :
    Steady s₀ (State.setCores s v) := by
  unfold State.setCores
  simp (config := { maxDischargeDepth := 40, contextual := true }) [*]

@[simp] theorem State.setActive_steady {s₀ : State} {s : State} {v : Nat} (h_s : Steady s₀ s) :
    Steady s₀ (State.setActive s v) := by
  unfold State.setActive
  simp (config := { maxDischargeDepth := 40, contextual := true }) [*]

@[simp] theorem State.startSegment_steady {s₀ : State} {s : State} {r : SegRt} (h_s : Steady s₀ s) :
    Steady s₀ (State.startSegment s r) := by
  unfold State.startSegment
  simp (config := { maxDischargeDepth := 40, contextual := true }) [*]

@[simp] theorem State.startRun_steady {s₀ : State} {s : State} {q : Nat} {idx : W32} (h_s : Steady s₀ s) :
    Steady s₀ (State.startRun s q idx) := by
  unfold State.startRun
  (repeat' split) <;> simp (config := { maxDischargeDepth := 40, contextual := true }) [*]

@[simp] theorem State.startNext_steady {s₀ s : State} {n : Nat} (h : Steady s₀ s) : Steady s₀ (s.startNext n) := by
  induction n generalizing s with
  | zero => exact h
  | succ k ih =>
    unfold State.startNext
    repeat' split
    all_goals first
      | exact h
      | exact ih (State.startRun_steady h)

@[simp] theorem State.startRuns_steady {s₀ : State} {s : State} (h_s : Steady s₀ s) :
    Steady s₀ (State.startRuns s) := by
  unfold State.startRuns
  simp (config := { maxDischargeDepth := 40, contextual := true }) [*]

@[simp] theorem State.showActs_steady {s₀ : State} {s : State} (h_s : Steady s₀ s) :
    Steady s₀ (State.showActs s) := by
  unfold State.showActs
  (repeat' split) <;> simp (config := { maxDischargeDepth := 40, contextual := true }) [*]

@[simp] theorem State.claim_steady {s₀ : State} {s : State} {q : Nat} (h_s : Steady s₀ s) :
    Steady s₀ (State.claim s q) := by
  unfold State.claim
  simp (config := { maxDischargeDepth := 40, contextual := true }) [*]

@[simp] theorem State.saveLeftover_steady {s₀ : State} {s : State} {slotNew : Nat} {doomed : Nat → Bool} (h_s : Steady
    s₀ s) :
    Steady s₀ (State.saveLeftover s slotNew doomed).2 := by
  unfold State.saveLeftover
  simp (config := { maxDischargeDepth := 40, contextual := true }) [*]

@[simp] theorem State.supersede_steady {s₀ : State} {s : State} (h_s : Steady s₀ s) :
    Steady s₀ (State.supersede s) := by
  unfold State.supersede
  simp (config := { maxDischargeDepth := 40, contextual := true }) [*]

@[simp] theorem State.endRun_steady {s₀ : State} {s : State} {r : SegRt} {errs : List (Nat × Nat × Nat × Nat)} (h_s :
    Steady s₀ s) :
    Steady s₀ (State.endRun s r errs) := by
  unfold State.endRun
  simp (config := { maxDischargeDepth := 40, contextual := true }) [*]

@[simp] theorem State.forceChange_steady {s₀ : State} {s : State} {slotNew : Nat} (h_s : Steady s₀ s) :
    Steady s₀ (State.forceChange s slotNew) := by
  unfold State.forceChange
  try dsimp only
  (repeat' split) <;> first | assumption | simp (config := { maxDischargeDepth := 40, contextual := true }) [*]

@[simp] theorem State.queueAct_steady {s₀ : State} {s : State} {q : Nat} {c : Cmd} {k : Nat} {force : Bool} (h_s :
    Steady s₀ s) :
    Steady s₀ (State.queueAct s q c k force) := by
  unfold State.queueAct
  simp (config := { maxDischargeDepth := 40, contextual := true }) [*]

@[simp] theorem State.doActivate_steady {s₀ : State} {s : State} {q : Nat} (h_s : Steady s₀ s) :
    Steady s₀ (State.doActivate s q) := by
  unfold State.doActivate
  simp (config := { maxDischargeDepth := 40, contextual := true }) [*]

@[simp] theorem State.doForcedActivate_steady {s₀ : State} {s : State} {q : Nat} (h_s : Steady s₀ s) :
    Steady s₀ (State.doForcedActivate s q) := by
  unfold State.doForcedActivate
  simp (config := { maxDischargeDepth := 40, contextual := true }) [*]

@[simp] theorem State.runStageAndActivate_steady {s₀ : State} {s : State} {q : Nat} {c : Cmd} (h_s : Steady s₀ s) :
    Steady s₀ (State.runStageAndActivate s q c) := by
  unfold State.runStageAndActivate
  try dsimp only
  repeat' (first
    | assumption
    | with_reducible refine Steady.foldl ?_ (fun u x hu => ?_)
    | with_reducible refine State.runCmd_steady ?_ (fun u c hu => ?_)
    | with_reducible refine State.runDeclared_steady ?_ (fun u c hu => ?_)
    | split
    | (simp (config := { maxDischargeDepth := 40, contextual := true }) [*]; done)
    | (simp only [Prod.ext_iff] at *; casesm* _ ∧ _; subst_vars; simp (config := { maxDischargeDepth := 40, contextual := true }) [*]; done))

@[simp] theorem State.doStageAndActivate_steady {s₀ : State} {s : State} {q : Nat} (h_s : Steady s₀ s) :
    Steady s₀ (State.doStageAndActivate s q) := by
  unfold State.doStageAndActivate
  split
  · exact State.runRow_steady h_s (fun u q c e hu => State.stageFailed_steady hu) fun u c hu => State.runStageAndActivate_steady hu
  · exact h_s

@[simp] theorem State.discardStale_steady {s₀ : State} {s : State} (h_s : Steady s₀ s) :
    Steady s₀ (State.discardStale s) := by
  unfold State.discardStale
  simp (config := { maxDischargeDepth := 40, contextual := true }) [*]

@[simp] theorem State.unload_steady {s₀ : State} {s : State} (h_s : Steady s₀ s) :
    Steady s₀ (State.unload s) := by
  unfold State.unload
  simp (config := { maxDischargeDepth := 40, contextual := true }) [*]

@[simp] theorem State.loadCore_steady {s₀ : State} {s : State} {im : Image} {n : Nat} (h_s : Steady s₀ s) :
    Steady s₀ (State.loadCore s im n) := by
  unfold State.loadCore
  simp (config := { maxDischargeDepth := 40, contextual := true }) [*]

@[simp] theorem State.grantStreams_steady {s₀ : State} {s : State} {im : Image} (h_s : Steady s₀ s) :
    Steady s₀ (State.grantStreams s im) := by
  unfold State.grantStreams
  simp (config := { maxDischargeDepth := 40, contextual := true }) [*]

@[simp] theorem State.load_steady {s₀ : State} {s : State} {im : Image} {k : Nat} (h_s : Steady s₀ s) :
    Steady s₀ (State.load s im k) := by
  unfold State.load
  simp (config := { maxDischargeDepth := 40, contextual := true }) [*]

@[simp] theorem State.distribute_steady {s₀ : State} {s : State} {k flips : Nat} {q : Nat} (h_s : Steady s₀ s) :
    Steady s₀ (State.distribute s k flips q).2 := by
  unfold State.distribute
  simp (config := { maxDischargeDepth := 40, contextual := true }) [*]

@[simp] theorem State.logActivation_steady {s₀ : State} {s : State} {k : Nat} (h_s : Steady s₀ s) :
    Steady s₀ (State.logActivation s k) := by
  unfold State.logActivation
  simp (config := { maxDischargeDepth := 40, contextual := true }) [*]

@[simp] theorem State.doCoachChange_steady {s₀ : State} {s : State} {flips : Nat} (h_s : Steady s₀ s) :
    Steady s₀ (State.doCoachChange s flips) := by
  unfold State.doCoachChange
  (repeat' split) <;> simp (config := { maxDischargeDepth := 40, contextual := true }) [*]

@[simp] theorem State.dropLeft_steady {s₀ : State} {s : State} (h_s : Steady s₀ s) :
    Steady s₀ (State.dropLeft s) := by
  unfold State.dropLeft
  simp (config := { maxDischargeDepth := 40, contextual := true }) [*]

@[simp] theorem State.unmarkRun_steady {s₀ : State} {s : State} {r : SegRt} (h_s : Steady s₀ s) :
    Steady s₀ (State.unmarkRun s r) := by
  unfold State.unmarkRun
  simp (config := { maxDischargeDepth := 40, contextual := true }) [*]

@[simp] theorem State.rereadList_steady {s₀ : State} {s : State} {q : Nat} {idx : W32} (h_s : Steady s₀ s) :
    Steady s₀ (State.rereadList s q idx) := by
  unfold State.rereadList
  (repeat' split) <;> simp (config := { maxDischargeDepth := 40, contextual := true }) [*]

@[simp] theorem State.replay_steady {s₀ : State} {s : State} {r : SegRt} (h_s : Steady s₀ s) :
    Steady s₀ (State.replay s r) := by
  unfold State.replay
  simp (config := { maxDischargeDepth := 40, contextual := true }) [*]

@[simp] theorem State.endHalted_steady {s₀ : State} {s : State} {r : SegRt} (h_s : Steady s₀ s) :
    Steady s₀ (State.endHalted s r) := by
  unfold State.endHalted
  simp (config := { maxDischargeDepth := 40, contextual := true }) [*]

@[simp] theorem State.listFailed_steady {s₀ : State} {s : State} {q : Nat} {c : Cmd} {e : Err} (h_s : Steady s₀ s) :
    Steady s₀ (State.listFailed s q c e) := by
  unfold State.listFailed
  simp (config := { maxDischargeDepth := 40, contextual := true }) [*]

@[simp] theorem State.doSegmentRun_steady {s₀ : State} {s : State} {q : Nat} (h_s : Steady s₀ s) :
    Steady s₀ (State.doSegmentRun s q) := by
  unfold State.doSegmentRun
  simp (config := { maxDischargeDepth := 40, contextual := true }) [*]

@[simp] theorem State.endDrained_steady {s₀ : State} {s : State} (h_s : Steady s₀ s) :
    Steady s₀ (State.endDrained s) := by
  unfold State.endDrained
  try dsimp only
  (repeat' split) <;> first | assumption | simp (config := { maxDischargeDepth := 40, contextual := true }) [*]

@[simp] theorem State.doSegmentEnd_steady {s₀ : State} {s : State} (h_s : Steady s₀ s) :
    Steady s₀ (State.doSegmentEnd s) := by
  unfold State.doSegmentEnd
  (repeat' split) <;> simp (config := { maxDischargeDepth := 40, contextual := true }) [*]

@[simp] theorem State.setStuck_steady {s₀ : State} {s : State} {r : SegRt} {inj : Bool} (h_s : Steady s₀ s) :
    Steady s₀ (State.setStuck s r inj) := by
  unfold State.setStuck
  simp (config := { maxDischargeDepth := 40, contextual := true }) [*]

@[simp] theorem State.doSegmentStuck_steady {s₀ : State} {s : State} (h_s : Steady s₀ s) :
    Steady s₀ (State.doSegmentStuck s) := by
  unfold State.doSegmentStuck
  (repeat' split) <;> simp (config := { maxDischargeDepth := 40, contextual := true }) [*]

end Sys2Proof.Machine
end

