-- ==== Sys2Proof/Laws/SteadyStepLog.lean ====
section
/-!
SUPPORT. The operations of Machine/StepLog.lean keep what Laws/Steady.lean says.
-/
namespace Sys2Proof.Machine

@[simp] theorem State.logStep_steady {s₀ : State} {s : State} {k : Kept} {outcome : Nat} (h_s : Steady s₀ s) :
    Steady s₀ (State.logStep s k outcome) := by
  unfold State.logStep
  simp (config := { maxDischargeDepth := 40, contextual := true }) [*]

@[simp] theorem State.keptCommit_steady {s₀ : State} {s : State} {n : W32} (h_s : Steady s₀ s) :
    Steady s₀ (State.keptCommit s n) := by
  unfold State.keptCommit
  simp (config := { maxDischargeDepth := 40, contextual := true }) [*]

@[simp] theorem State.keptAbandon_steady {s₀ : State} {s : State} {n : W32} (h_s : Steady s₀ s) :
    Steady s₀ (State.keptAbandon s n) := by
  unfold State.keptAbandon
  simp (config := { maxDischargeDepth := 40, contextual := true }) [*]

end Sys2Proof.Machine
end

