-- ==== Sys2Proof/Laws/SteadySteps.lean ====
section
/-!
SUPPORT. The operations of Machine/Steps.lean keep what Laws/Steady.lean says.
-/
namespace Sys2Proof.Machine

@[simp] theorem State.boundAges_steady {s₀ : State} {s : State} (h_s : Steady s₀ s) :
    Steady s₀ (State.boundAges s) := by
  unfold State.boundAges
  simp (config := { maxDischargeDepth := 40, contextual := true }) [*]

@[simp] theorem State.settleHomes_steady {s₀ : State} {s : State} (h_s : Steady s₀ s) :
    Steady s₀ (State.settleHomes s) := by
  unfold State.settleHomes
  simp (config := { maxDischargeDepth := 40, contextual := true }) [*]

@[simp] theorem State.beginStep_steady {s₀ : State} {s : State} {n : W32} {key : W64} (h_s : Steady s₀ s) :
    Steady s₀ (State.beginStep s n key) := by
  unfold State.beginStep
  simp (config := { maxDischargeDepth := 40, contextual := true }) [*]

@[simp] theorem State.judgeBegin_steady {s₀ : State} {s : State} {q : Nat} {c : Cmd} (h_s : Steady s₀ s) :
    Steady s₀ (State.judgeBegin s q c) := by
  unfold State.judgeBegin
  simp (config := { maxDischargeDepth := 40, contextual := true }) [*]

@[simp] theorem State.doStepBegin_steady {s₀ : State} {s : State} {q : Nat} (h_s : Steady s₀ s) :
    Steady s₀ (State.doStepBegin s q) := by
  unfold State.doStepBegin
  (repeat' split) <;> simp (config := { maxDischargeDepth := 40, contextual := true }) [*]

@[simp] theorem State.writeRecord_steady {s₀ : State} {s : State} {outcome : Nat} (h_s : Steady s₀ s) :
    Steady s₀ (State.writeRecord s outcome) := by
  unfold State.writeRecord
  simp (config := { maxDischargeDepth := 40, contextual := true }) [*]

@[simp] theorem State.closeStepOf_steady {s₀ : State} {s : State} {w : Walk} (h_s : Steady s₀ s) :
    Steady s₀ (State.closeStepOf s w) := by
  unfold State.closeStepOf
  extract_lets s1 s2 f
  have h1 : Steady s₀ s1 := Steady.foldl h_s fun u x hu => State.setFld_steady hu
  have h2 : Steady s₀ s2 := State.setFld_steady (State.setFld_steady (State.setFld_steady (State.setFld_steady h1)))
  clear_value s2
  refine State.refreshNoCommit_steady ?_
  simp (config := { maxDischargeDepth := 40, contextual := true }) [*]

@[simp] theorem State.commitStep_steady {s₀ : State} {s : State} {q : Nat} {idx : W32} (h_s : Steady s₀ s) :
    Steady s₀ (State.commitStep s q idx) := by
  unfold State.commitStep
  simp (config := { maxDischargeDepth := 40, contextual := true }) [*]

@[simp] theorem State.abandonStep_steady {s₀ : State} {s : State} {outcome : Nat} (h_s : Steady s₀ s) :
    Steady s₀ (State.abandonStep s outcome) := by
  unfold State.abandonStep
  simp (config := { maxDischargeDepth := 40, contextual := true }) [*]

@[simp] theorem State.tryClose_steady {s₀ : State} {s : State} {q : Nat} (h_s : Steady s₀ s) :
    Steady s₀ (State.tryClose s q) := by
  unfold State.tryClose
  (repeat' split) <;> simp (config := { maxDischargeDepth := 40, contextual := true }) [*]

@[simp] theorem State.beginClose_steady {s₀ : State} {s : State} {q : Nat} {c : Cmd} (h_s : Steady s₀ s) :
    Steady s₀ (State.beginClose s q c) := by
  unfold State.beginClose
  simp (config := { maxDischargeDepth := 40, contextual := true }) [*]

@[simp] theorem State.doStepCommit_steady {s₀ : State} {s : State} {q : Nat} (h_s : Steady s₀ s) :
    Steady s₀ (State.doStepCommit s q) := by
  unfold State.doStepCommit
  simp (config := { maxDischargeDepth := 40, contextual := true }) [*]

@[simp] theorem State.doStepAbandon_steady {s₀ : State} {s : State} {q : Nat} (h_s : Steady s₀ s) :
    Steady s₀ (State.doStepAbandon s q) := by
  unfold State.doStepAbandon
  simp (config := { maxDischargeDepth := 40, contextual := true }) [*]

@[simp] theorem State.doCommitPoint_steady {s₀ : State} {s : State} (h_s : Steady s₀ s) :
    Steady s₀ (State.doCommitPoint s) := by
  unfold State.doCommitPoint
  (repeat' split) <;> simp (config := { maxDischargeDepth := 40, contextual := true }) [*]

@[simp] theorem State.doCommitWalkEnd_steady {s₀ : State} {s : State} (h_s : Steady s₀ s) :
    Steady s₀ (State.doCommitWalkEnd s) := by
  unfold State.doCommitWalkEnd
  simp (config := { maxDischargeDepth := 40, contextual := true }) [*]

@[simp] theorem State.doAbandonWalkEnd_steady {s₀ : State} {s : State} (h_s : Steady s₀ s) :
    Steady s₀ (State.doAbandonWalkEnd s) := by
  unfold State.doAbandonWalkEnd
  simp (config := { maxDischargeDepth := 40, contextual := true }) [*]

end Sys2Proof.Machine
end

