-- ==== Sys2Proof/Laws/SteadyDataMove.lean ====
section
/-!
SUPPORT. The operations of Machine/DataMove.lean keep what Laws/Steady.lean says.
-/
namespace Sys2Proof.Machine

@[simp] theorem State.putMatrixTile_steady {s₀ : State} {s : State} {q : Nat} {c : Cmd} {fmt vals scales t : Nat} {x :
    Bytes × Bytes} (h_s : Steady s₀ s) :
    Steady s₀ (State.putMatrixTile s q c fmt vals scales t x) := by
  unfold State.putMatrixTile
  simp (config := { maxDischargeDepth := 40, contextual := true }) [*]

@[simp] theorem State.nextDraw_steady {s₀ : State} {s : State} (h_s : Steady s₀ s) :
    Steady s₀ (State.nextDraw s) := by
  unfold State.nextDraw
  simp (config := { maxDischargeDepth := 40, contextual := true }) [*]

@[simp] theorem State.runCopy_steady {s₀ : State} {s : State} {q : Nat} {c : Cmd} (h_s : Steady s₀ s) :
    Steady s₀ (State.runCopy s q c) := by
  unfold State.runCopy
  simp (config := { maxDischargeDepth := 40, contextual := true }) [*]

@[simp] theorem State.doCopy_steady {s₀ : State} {s : State} {q : Nat} (h_s : Steady s₀ s) :
    Steady s₀ (State.doCopy s q) := by
  unfold State.doCopy
  simp (config := { maxDischargeDepth := 40, contextual := true }) [*]

@[simp] theorem State.runTranspose_steady {s₀ : State} {s : State} {q : Nat} {c : Cmd} (h_s : Steady s₀ s) :
    Steady s₀ (State.runTranspose s q c) := by
  unfold State.runTranspose
  simp (config := { maxDischargeDepth := 40, contextual := true }) [*]

@[simp] theorem State.doCopyTranspose_steady {s₀ : State} {s : State} {q : Nat} (h_s : Steady s₀ s) :
    Steady s₀ (State.doCopyTranspose s q) := by
  unfold State.doCopyTranspose
  simp (config := { maxDischargeDepth := 40, contextual := true }) [*]

@[simp] theorem State.runPermuteCopy_steady {s₀ : State} {s : State} {q : Nat} {c : Cmd} (h_s : Steady s₀ s) :
    Steady s₀ (State.runPermuteCopy s q c) := by
  unfold State.runPermuteCopy
  simp (config := { maxDischargeDepth := 40, contextual := true }) [*]

@[simp] theorem State.doPermuteCopy_steady {s₀ : State} {s : State} {q : Nat} (h_s : Steady s₀ s) :
    Steady s₀ (State.doPermuteCopy s q) := by
  unfold State.doPermuteCopy
  simp (config := { maxDischargeDepth := 40, contextual := true }) [*]

@[simp] theorem State.runInlineWrite_steady {s₀ : State} {s : State} {q : Nat} {c : Cmd} (h_s : Steady s₀ s) :
    Steady s₀ (State.runInlineWrite s q c) := by
  unfold State.runInlineWrite
  simp (config := { maxDischargeDepth := 40, contextual := true }) [*]

@[simp] theorem State.doInlineWrite_steady {s₀ : State} {s : State} {q : Nat} (h_s : Steady s₀ s) :
    Steady s₀ (State.doInlineWrite s q) := by
  unfold State.doInlineWrite
  simp (config := { maxDischargeDepth := 40, contextual := true }) [*]

theorem State.injectedIndex_opt {s₀ s : State} {q : Nat} {c : Cmd} {inst : Nat} (h : Steady s₀ s) :
    SteadyOpt s₀ (s.injectedIndex q c inst) := by
  have hf : Steady s₀ (s.fire 0x11 (7 <<< 16 + inst) fun _ => true).2 := State.fire_steady h
  unfold State.injectedIndex
  dsimp only
  split
  · exact .some (State.endCmd_steady (State.detect_steady hf)) hf
  · exact .none hf

@[simp] theorem State.runGather_steady {s₀ : State} {s : State} {q : Nat} {c : Cmd} (h_s : Steady s₀ s) :
    Steady s₀ (State.runGather s q c) := by
  unfold State.runGather
  extract_lets -lift e x
  have hx : Steady s₀ x.2 := State.pickEngine_steady h_s
  have ho := State.injectedIndex_opt (q := q) (c := c) (inst := x.1) hx
  clear_value x
  split
  · rename_i t _ heq
    exact ho.fst t (by rw [heq])
  · rename_i s0 heq
    rw [heq] at ho
    exact State.endEngine_steady (State.nextDraw_steady (Steady.foldl ho.snd fun u x hu => State.putMatrixTile_steady hu))

@[simp] theorem State.doGather_steady {s₀ : State} {s : State} {q : Nat} (h_s : Steady s₀ s) :
    Steady s₀ (State.doGather s q) := by
  unfold State.doGather
  simp (config := { maxDischargeDepth := 40, contextual := true }) [*]

@[simp] theorem State.putElem_steady {s₀ : State} {s : State} {q : Nat} {c : Cmd} {fmt vals cols r col code : Nat} (h_s
    : Steady s₀ s) :
    Steady s₀ (State.putElem s q c fmt vals cols r col code) := by
  unfold State.putElem
  simp (config := { maxDischargeDepth := 40, contextual := true }) [*]

@[simp] theorem State.runScatterAdd_steady {s₀ : State} {s : State} {q : Nat} {c : Cmd} (h_s : Steady s₀ s) :
    Steady s₀ (State.runScatterAdd s q c) := by
  unfold State.runScatterAdd
  extract_lets -lift e x
  have hx : Steady s₀ x.2 := State.pickEngine_steady h_s
  have ho := State.injectedIndex_opt (q := q) (c := c) (inst := x.1) hx
  clear_value x
  split
  · rename_i t _ heq
    exact ho.fst t (by rw [heq])
  · rename_i s0 heq
    rw [heq] at ho
    refine State.endEngine_steady ?_
    split
    · exact Steady.foldl ho.snd fun u x hu => Steady.foldl hu fun u x hu => State.putElem_steady hu
    · exact State.count_steady (Steady.foldl ho.snd fun u x hu => Steady.foldl hu fun u x hu => State.putElem_steady hu)

@[simp] theorem State.doScatterAdd_steady {s₀ : State} {s : State} {q : Nat} (h_s : Steady s₀ s) :
    Steady s₀ (State.doScatterAdd s q) := by
  unfold State.doScatterAdd
  simp (config := { maxDischargeDepth := 40, contextual := true }) [*]

@[simp] theorem State.zeroCart_steady {s₀ : State} {s : State} {c : Nat} (h_s : Steady s₀ s) :
    Steady s₀ (State.zeroCart s c) := by
  unfold State.zeroCart
  simp (config := { maxDischargeDepth := 40, contextual := true }) [*]

@[simp] theorem State.mapCart_steady {s₀ : State} {s : State} {c kind d : Nat} {pin : Bool} (h_s : Steady s₀ s) :
    Steady s₀ (State.mapCart s c kind d pin) := by
  unfold State.mapCart
  simp (config := { maxDischargeDepth := 40, contextual := true }) [*]

@[simp] theorem State.runCartMap_steady {s₀ : State} {s : State} {q : Nat} {c : Cmd} (h_s : Steady s₀ s) :
    Steady s₀ (State.runCartMap s q c) := by
  unfold State.runCartMap
  simp (config := { maxDischargeDepth := 40, contextual := true }) [*]

@[simp] theorem State.doCartMap_steady {s₀ : State} {s : State} {q : Nat} (h_s : Steady s₀ s) :
    Steady s₀ (State.doCartMap s q) := by
  unfold State.doCartMap
  simp (config := { maxDischargeDepth := 40, contextual := true }) [*]

@[simp] theorem State.unmapCart_steady {s₀ : State} {s : State} {c : Nat} (h_s : Steady s₀ s) :
    Steady s₀ (State.unmapCart s c) := by
  unfold State.unmapCart
  simp (config := { maxDischargeDepth := 40, contextual := true }) [*]

@[simp] theorem State.runCartFree_steady {s₀ : State} {s : State} {q : Nat} {c : Cmd} (h_s : Steady s₀ s) :
    Steady s₀ (State.runCartFree s q c) := by
  unfold State.runCartFree
  simp (config := { maxDischargeDepth := 40, contextual := true }) [*]

@[simp] theorem State.doCartFree_steady {s₀ : State} {s : State} {q : Nat} (h_s : Steady s₀ s) :
    Steady s₀ (State.doCartFree s q) := by
  unfold State.doCartFree
  simp (config := { maxDischargeDepth := 40, contextual := true }) [*]

@[simp] theorem State.setPin_steady {s₀ : State} {s : State} {h : Nat} {pin : Bool} (h_s : Steady s₀ s) :
    Steady s₀ (State.setPin s h pin) := by
  unfold State.setPin
  simp (config := { maxDischargeDepth := 40, contextual := true }) [*]

@[simp] theorem State.runPin_steady {s₀ : State} {s : State} {q : Nat} {c : Cmd} (h_s : Steady s₀ s) :
    Steady s₀ (State.runPin s q c) := by
  unfold State.runPin
  simp (config := { maxDischargeDepth := 40, contextual := true }) [*]

@[simp] theorem State.doPin_steady {s₀ : State} {s : State} {q : Nat} (h_s : Steady s₀ s) :
    Steady s₀ (State.doPin s q) := by
  unfold State.doPin
  simp (config := { maxDischargeDepth := 40, contextual := true }) [*]

@[simp] theorem State.runUnpin_steady {s₀ : State} {s : State} {q : Nat} {c : Cmd} (h_s : Steady s₀ s) :
    Steady s₀ (State.runUnpin s q c) := by
  unfold State.runUnpin
  simp (config := { maxDischargeDepth := 40, contextual := true }) [*]

@[simp] theorem State.doUnpin_steady {s₀ : State} {s : State} {q : Nat} (h_s : Steady s₀ s) :
    Steady s₀ (State.doUnpin s q) := by
  unfold State.doUnpin
  simp (config := { maxDischargeDepth := 40, contextual := true }) [*]

@[simp] theorem State.hintHead_steady {s₀ : State} {s : State} {h : Nat} {lower : Bool} (h_s : Steady s₀ s) :
    Steady s₀ (State.hintHead s h lower) := by
  unfold State.hintHead
  simp (config := { maxDischargeDepth := 40, contextual := true }) [*]

@[simp] theorem State.runMigrateHint_steady {s₀ : State} {s : State} {q : Nat} {c : Cmd} (h_s : Steady s₀ s) :
    Steady s₀ (State.runMigrateHint s q c) := by
  unfold State.runMigrateHint
  simp (config := { maxDischargeDepth := 40, contextual := true }) [*]

@[simp] theorem State.doMigrateHint_steady {s₀ : State} {s : State} {q : Nat} (h_s : Steady s₀ s) :
    Steady s₀ (State.doMigrateHint s q) := by
  unfold State.doMigrateHint
  simp (config := { maxDischargeDepth := 40, contextual := true }) [*]

end Sys2Proof.Machine
end

