-- ==== Sys2Proof/Laws/SteadyCollectives.lean ====
section
/-!
SUPPORT. The operations of Machine/Collectives.lean keep what Laws/Steady.lean says.
-/
namespace Sys2Proof.Machine

@[simp] theorem State.modColl_steady {s₀ : State} {s : State} {id : Nat} {step : W32} {f : CollRt → CollRt} (h_s :
    Steady s₀ s) :
    Steady s₀ (State.modColl s id step f) := by
  unfold State.modColl
  simp (config := { maxDischargeDepth := 40, contextual := true }) [*]

@[simp] theorem State.dropColl_steady {s₀ : State} {s : State} {c : CollRt} (h_s : Steady s₀ s) :
    Steady s₀ (State.dropColl s c) := by
  unfold State.dropColl
  simp (config := { maxDischargeDepth := 40, contextual := true }) [*]

@[simp] theorem State.writeResults_steady {s₀ : State} {s : State} {c : CollRt} {sel : Nat → Bool} (h_s : Steady s₀ s) :
    Steady s₀ (State.writeResults s c sel) := by
  unfold State.writeResults
  (repeat' split) <;> simp (config := { maxDischargeDepth := 40, contextual := true }) [*]

@[simp] theorem State.collLost_steady {s₀ : State} {s : State} {c : CollRt} {det dst port : Nat} (h_s : Steady s₀ s) :
    Steady s₀ (State.collLost s c det dst port) := by
  unfold State.collLost
  simp (config := { maxDischargeDepth := 40, contextual := true }) [*]

@[simp] theorem State.collSend_steady {s₀ : State} {s : State} {c : CollRt} {i : CollInfo} {rank chunk node : Nat} {pay
    : Bytes} (h_s : Steady s₀ s) :
    Steady s₀ (State.collSend s c i rank chunk node pay) := by
  unfold State.collSend
  simp (config := { maxDischargeDepth := 40, contextual := true }) [*]

@[simp] theorem State.collAbortEnd_steady {s₀ : State} {s : State} {c : CollRt} {i : CollInfo} (h_s : Steady s₀ s) :
    Steady s₀ (State.collAbortEnd s c i) := by
  unfold State.collAbortEnd
  simp (config := { maxDischargeDepth := 40, contextual := true }) [*]

@[simp] theorem State.blur_steady {s₀ : State} {s : State} {a len : Nat} (h_s : Steady s₀ s) :
    Steady s₀ (State.blur s a len) := by
  unfold State.blur
  simp (config := { maxDischargeDepth := 40, contextual := true }) [*]

@[simp] theorem State.collEnd_steady {s₀ : State} {s : State} {c : CollRt} {i : CollInfo} (h_s : Steady s₀ s) :
    Steady s₀ (State.collEnd s c i) := by
  unfold State.collEnd
  simp (config := { maxDischargeDepth := 40, contextual := true }) [*]

@[simp] theorem State.putResult_steady {s₀ : State} {s : State} {c : CollRt} {i : CollInfo} {k t : Nat} {idx : List Nat}
    {x : Bytes × Bytes} (h_s : Steady s₀ s) :
    Steady s₀ (State.putResult s c i k t idx x) := by
  unfold State.putResult
  (repeat' split) <;> simp (config := { maxDischargeDepth := 40, contextual := true }) [*]

@[simp] theorem State.collTile_steady {s₀ : State} {s : State} {key : Nat × W32} {i : CollInfo} {k t : Nat} {idx : List
    Nat} (h_s : Steady s₀ s) :
    Steady s₀ (State.collTile s key i k t idx) := by
  unfold State.collTile
  (repeat' split) <;> simp (config := { maxDischargeDepth := 40, contextual := true }) [*]

@[simp] theorem State.permuteTile_steady {s₀ : State} {s : State} {key : Nat × W32} {i : CollInfo} {t : Nat} {idx : List
    Nat} (h_s : Steady s₀ s) :
    Steady s₀ (State.permuteTile s key i t idx) := by
  unfold State.permuteTile
  (repeat' split) <;> simp (config := { maxDischargeDepth := 40, contextual := true }) [*]

@[simp] theorem State.closeFull_steady {s₀ : State} {s : State} {key : Nat × W32} {i : CollInfo} (h_s : Steady s₀ s) :
    Steady s₀ (State.closeFull s key i) := by
  unfold State.closeFull
  (repeat' split) <;> simp (config := { maxDischargeDepth := 40, contextual := true }) [*]

@[simp] theorem State.collAdvance_steady {s₀ : State} {s : State} {key : Nat × W32} (h_s : Steady s₀ s) :
    Steady s₀ (State.collAdvance s key) := by
  unfold State.collAdvance
  split
  · exact h_s
  · rename_i c0 _
    extract_lets -lift i s0 s1
    have h0 : Steady s₀ s0 := State.closeFull_steady h_s
    have h1 : Steady s₀ s1 := by
      dsimp only [s1]
      split
      · exact Steady.foldl h0 fun u x hu => State.permuteTile_steady hu
      · exact Steady.foldl h0 fun u x hu => Steady.foldl hu fun u x hu => State.collTile_steady hu
    clear_value s1
    split
    · exact h1
    · exact Steady.ite (State.collEnd_steady h1) h1

@[simp] theorem State.lateChunk_steady {s₀ : State} {s : State} {p : Packet} {codes : List Nat} (h_s : Steady s₀ s) :
    Steady s₀ (State.lateChunk s p codes).2 := by
  unfold State.lateChunk
  simp (config := { maxDischargeDepth := 40, contextual := true }) [*]

@[simp] theorem State.collTake_steady {s₀ : State} {s : State} {c : CollRt} {p : Packet} (h_s : Steady s₀ s) :
    Steady s₀ (State.collTake s c p) := by
  unfold State.collTake
  simp (config := { maxDischargeDepth := 40, contextual := true }) [*]

theorem State.acceptColl_some {s₀ s t : State} {p : Packet} (h : s.acceptColl p = some t) (hs : Steady s₀ s) : Steady s₀ t := by
  unfold State.acceptColl at h
  dsimp only at h
  repeat' split at h
  all_goals first
    | (simp at h; done)
    | (injection h with h; subst h; simp (config := { maxDischargeDepth := 40, contextual := true }) [*]; done)

@[simp] theorem State.acceptColl_getD {s₀ s t : State} {p : Packet} (ht : Steady s₀ t) (hs : Steady s₀ s) :
    Steady s₀ ((s.acceptColl p).getD t) := by
  cases h : s.acceptColl p with
  | none => exact ht
  | some u => exact State.acceptColl_some h hs

@[simp] theorem State.foldBegin_steady {s₀ : State} {s : State} {c : CollRt} {i : CollInfo} (h_s : Steady s₀ s) :
    Steady s₀ (State.foldBegin s c i) := by
  unfold State.foldBegin
  simp (config := { maxDischargeDepth := 40, contextual := true }) [*]

@[simp] theorem State.permuteSend_steady {s₀ : State} {s : State} {c : CollRt} {i : CollInfo} (h_s : Steady s₀ s) :
    Steady s₀ (State.permuteSend s c i) := by
  unfold State.permuteSend
  simp (config := { maxDischargeDepth := 40, contextual := true }) [*]

@[simp] theorem State.startColl_steady {s₀ : State} {s : State} {q : Nat} {c : Cmd} (h_s : Steady s₀ s) :
    Steady s₀ (State.startColl s q c) := by
  unfold State.startColl
  simp (config := { maxDischargeDepth := 40, contextual := true }) [*]

@[simp] theorem State.doColl_steady {s₀ : State} {s : State} {op q : Nat} (h_s : Steady s₀ s) :
    Steady s₀ (State.doColl s op q) := by
  unfold State.doColl
  simp (config := { maxDischargeDepth := 40, contextual := true }) [*]

@[simp] theorem State.closeLate_steady {s₀ : State} {s : State} {c : CollRt} {i : CollInfo} {k : Nat} (h_s : Steady s₀
    s) :
    Steady s₀ (State.closeLate s c i k) := by
  unfold State.closeLate
  simp (config := { maxDischargeDepth := 40, contextual := true }) [*]

@[simp] theorem State.doAllowExpiry_steady {s₀ : State} {s : State} {coll : Nat} (h_s : Steady s₀ s) :
    Steady s₀ (State.doAllowExpiry s coll) := by
  unfold State.doAllowExpiry
  try dsimp only
  (repeat' split) <;> first | assumption | simp (config := { maxDischargeDepth := 40, contextual := true }) [*]

end Sys2Proof.Machine
end

