-- ==== Sys2Proof/Laws/SteadyDoorbells.lean ====
section
/-!
SUPPORT. The operations of Machine/Doorbells.lean keep what Laws/Steady.lean says.
-/
namespace Sys2Proof.Machine

@[simp] theorem State.selectQueue_steady {s₀ : State} {s : State} {a : Agent} {q : Nat} (h_s : Steady s₀ s) :
    Steady s₀ (State.selectQueue s a q) := by
  unfold State.selectQueue
  simp (config := { maxDischargeDepth := 40, contextual := true }) [*]

@[simp] theorem State.qctrl_steady {s₀ : State} {s : State} {a : Agent} {q : Nat} {f : State → State} (h_s : Steady s₀
    s) (h_f : ∀ y0, Steady s₀ y0 → Steady s₀ (f y0)) :
    Steady s₀ (State.qctrl s a q f) := by
  unfold State.qctrl
  simp (config := { maxDischargeDepth := 40, contextual := true }) [*]

end Sys2Proof.Machine
end

