-- ==== Sys2Proof/Laws/SteadyLinks.lean ====
section
/-!
SUPPORT. The operations of Machine/Links.lean keep what Laws/Steady.lean says.
-/
namespace Sys2Proof.Machine

@[simp] theorem State.showCredit_steady {s₀ : State} {s : State} {k : Nat} (h_s : Steady s₀ s) :
    Steady s₀ (State.showCredit s k) := by
  unfold State.showCredit
  simp (config := { maxDischargeDepth := 40, contextual := true }) [*]

@[simp] theorem State.freeBuffers_steady {s₀ : State} {s : State} {k cls n : Nat} (h_s : Steady s₀ s) :
    Steady s₀ (State.freeBuffers s k cls n) := by
  unfold State.freeBuffers
  simp (config := { maxDischargeDepth := 40, contextual := true }) [*]

@[simp] theorem State.failRequest_steady {s₀ : State} {s : State} {id status detail det : Nat} (h_s : Steady s₀ s) :
    Steady s₀ (State.failRequest s id status detail det) := by
  unfold State.failRequest
  (repeat' split) <;> simp (config := { maxDischargeDepth := 40, contextual := true }) [*]

@[simp] theorem State.packetLost_steady {s₀ : State} {s : State} {det kind : Nat} {h : Packet} {port : Nat} (h_s : Steady s₀ s) :
    Steady s₀ (State.packetLost s det kind h port) := by
  unfold State.packetLost
  (repeat' split) <;> simp (config := { maxDischargeDepth := 40, contextual := true }) [*]

@[simp] theorem State.reroute_steady {s₀ : State} {s : State} {k : Nat} (h_s : Steady s₀ s) :
    Steady s₀ (State.reroute s k) := by
  unfold State.reroute
  simp (config := { maxDischargeDepth := 40, contextual := true }) [*]

@[simp] theorem State.linkDown_steady {s₀ : State} {s : State} {k : Nat} {failed : Bool} (h_s : Steady s₀ s) :
    Steady s₀ (State.linkDown s k failed) := by
  unfold State.linkDown
  simp (config := { maxDischargeDepth := 40, contextual := true }) [*]

@[simp] theorem State.retrain_steady {s₀ : State} {s : State} {k : Nat} (h_s : Steady s₀ s) :
    Steady s₀ (State.retrain s k) := by
  unfold State.retrain
  simp (config := { maxDischargeDepth := 40, contextual := true }) [*]

@[simp] theorem State.sendNew_steady {s₀ : State} {s : State} {k : Nat} (h_s : Steady s₀ s) :
    Steady s₀ (State.sendNew s k) := by
  unfold State.sendNew
  simp (config := { maxDischargeDepth := 40, contextual := true }) [*]

@[simp] theorem State.sendReplay_steady {s₀ : State} {s : State} {k : Nat} {n : W32} (h_s : Steady s₀ s) :
    Steady s₀ (State.sendReplay s k n) := by
  unfold State.sendReplay
  try dsimp only
  (repeat' split) <;> first | assumption | simp (config := { maxDischargeDepth := 40, contextual := true }) [*]

@[simp] theorem State.doFrameSend_steady {s₀ : State} {s : State} {k : Nat} (h_s : Steady s₀ s) :
    Steady s₀ (State.doFrameSend s k) := by
  unfold State.doFrameSend
  (repeat' split) <;> simp (config := { maxDischargeDepth := 40, contextual := true }) [*]

@[simp] theorem State.answerLost_steady {s₀ : State} {s : State} {p : Packet} (h_s : Steady s₀ s) :
    Steady s₀ (State.answerLost s p) := by
  unfold State.answerLost
  simp (config := { maxDischargeDepth := 40, contextual := true }) [*]

@[simp] theorem State.crossing_steady {s₀ : State} {s : State} {k out : Nat} (h_s : Steady s₀ s) :
    Steady s₀ (State.crossing s k out) := by
  unfold State.crossing
  simp (config := { maxDischargeDepth := 40, contextual := true }) [*]

@[simp] theorem State.forward_steady {s₀ : State} {s : State} {k : Nat} {p : Packet} (h_s : Steady s₀ s) :
    Steady s₀ (State.forward s k p) := by
  unfold State.forward
  simp (config := { maxDischargeDepth := 40, contextual := true }) [*]

@[simp] theorem State.receivePacket_steady {s₀ : State} {s : State} {k : Nat} {p : Packet} (h_s : Steady s₀ s) :
    Steady s₀ (State.receivePacket s k p) := by
  unfold State.receivePacket
  simp (config := { maxDischargeDepth := 40, contextual := true }) [*]

@[simp] theorem State.receiveFlit_steady {s₀ : State} {s : State} {k : Nat} {x : Flit} (h_s : Steady s₀ s) :
    Steady s₀ (State.receiveFlit s k x) := by
  unfold State.receiveFlit
  try dsimp only
  (repeat' split) <;> first | assumption | simp (config := { maxDischargeDepth := 40, contextual := true }) [*]

@[simp] theorem State.acceptFrame_steady {s₀ : State} {s : State} {k : Nat} {f : LFrame} (h_s : Steady s₀ s) :
    Steady s₀ (State.acceptFrame s k f) := by
  unfold State.acceptFrame
  simp (config := { maxDischargeDepth := 40, contextual := true }) [*]

@[simp] theorem State.doFrameReceive_steady {s₀ : State} {s : State} {k : Nat} {f : LFrame} {errs : List (Nat × Byte)}
    (h_s : Steady s₀ s) :
    Steady s₀ (State.doFrameReceive s k f errs) := by
  unfold State.doFrameReceive
  (repeat' split) <;> simp (config := { maxDischargeDepth := 40, contextual := true }) [*]

@[simp] theorem State.enablePort_steady {s₀ : State} {s : State} {k : Nat} (h_s : Steady s₀ s) :
    Steady s₀ (State.enablePort s k) := by
  unfold State.enablePort
  simp (config := { maxDischargeDepth := 40, contextual := true }) [*]

@[simp] theorem State.disablePort_steady {s₀ : State} {s : State} {k : Nat} (h_s : Steady s₀ s) :
    Steady s₀ (State.disablePort s k) := by
  unfold State.disablePort
  simp (config := { maxDischargeDepth := 40, contextual := true }) [*]

@[simp] theorem State.doLinkEnable_steady {s₀ : State} {s : State} {a : Agent} {k : Nat} (h_s : Steady s₀ s) :
    Steady s₀ (State.doLinkEnable s a k) := by
  unfold State.doLinkEnable
  simp (config := { maxDischargeDepth := 40, contextual := true }) [*]

@[simp] theorem State.doLinkDisable_steady {s₀ : State} {s : State} {a : Agent} {k : Nat} (h_s : Steady s₀ s) :
    Steady s₀ (State.doLinkDisable s a k) := by
  unfold State.doLinkDisable
  simp (config := { maxDischargeDepth := 40, contextual := true }) [*]

@[simp] theorem State.doTrained_steady {s₀ : State} {s : State} {k peer cable fseq : Nat} (h_s : Steady s₀ s) :
    Steady s₀ (State.doTrained s k peer cable fseq) := by
  unfold State.doTrained
  simp (config := { maxDischargeDepth := 40, contextual := true }) [*]

@[simp] theorem State.doTrainRetry_steady {s₀ : State} {s : State} {k : Nat} (h_s : Steady s₀ s) :
    Steady s₀ (State.doTrainRetry s k) := by
  unfold State.doTrainRetry
  simp (config := { maxDischargeDepth := 40, contextual := true }) [*]

@[simp] theorem State.doLaneLoss_steady {s₀ : State} {s : State} {k : Nat} (h_s : Steady s₀ s) :
    Steady s₀ (State.doLaneLoss s k) := by
  unfold State.doLaneLoss
  simp (config := { maxDischargeDepth := 40, contextual := true }) [*]

@[simp] theorem State.doRetrainFailure_steady {s₀ : State} {s : State} {k : Nat} (h_s : Steady s₀ s) :
    Steady s₀ (State.doRetrainFailure s k) := by
  unfold State.doRetrainFailure
  simp (config := { maxDischargeDepth := 40, contextual := true }) [*]

@[simp] theorem State.writeRoute_steady {s₀ : State} {s : State} {i : Nat} {v : Nat} (h_s : Steady s₀ s) :
    Steady s₀ (State.writeRoute s i v) := by
  unfold State.writeRoute
  simp (config := { maxDischargeDepth := 40, contextual := true }) [*]

@[simp] theorem State.doRouteWrite_steady {s₀ : State} {s : State} {a : Agent} {i : Nat} {v : W64} (h_s : Steady s₀ s) :
    Steady s₀ (State.doRouteWrite s a i v) := by
  unfold State.doRouteWrite
  simp (config := { maxDischargeDepth := 40, contextual := true }) [*]

end Sys2Proof.Machine
end

