-- ==== Sys2Proof/Laws/SteadyResets.lean ====
section
/-!
SUPPORT. The operations of Machine/Resets.lean keep what Laws/Steady.lean says.
-/
namespace Sys2Proof.Machine

/-- R502: with the leaf within the fused blocks, the boot check never takes it back. -/
theorem lmsBoot_le {q f : Nat} (h : q ≤ 4096 * f) : (lmsBoot q f).1 ≤ 4096 * f ∧ q ≤ (lmsBoot q f).1 := by
  unfold lmsBoot
  split
  · exact ⟨by omega, by simp only; omega⟩
  · exact ⟨h, le_rfl⟩

@[simp] theorem State.setPwr_steady {s₀ : State} {s : State} {v : Nat} (h_s : Steady s₀ s) :
    Steady s₀ (State.setPwr s v) := by
  unfold State.setPwr
  simp (config := { maxDischargeDepth := 40, contextual := true }) [*]

@[simp] theorem State.recordReset_steady {s₀ : State} {s : State} {kind cause die : Nat} (h_s : Steady s₀ s) :
    Steady s₀ (State.recordReset s kind cause die) := by
  unfold State.recordReset
  simp (config := { maxDischargeDepth := 40, contextual := true }) [*]

@[simp] theorem State.endUnlock_steady {s₀ : State} {s : State} (h_s : Steady s₀ s) :
    Steady s₀ (State.endUnlock s) := by
  unfold State.endUnlock
  simp (config := { maxDischargeDepth := 40, contextual := true }) [*]

@[simp] theorem State.resetRegs_steady {s₀ : State} {s : State} {lo hi : Nat} (h_s : Steady s₀ s) :
    Steady s₀ (State.resetRegs s lo hi) := by
  unfold State.resetRegs
  simp (config := { maxDischargeDepth := 40, contextual := true }) [*]

@[simp] theorem State.closeAll_steady {s₀ : State} {s : State} (h_s : Steady s₀ s) :
    Steady s₀ (State.closeAll s) := by
  unfold State.closeAll
  simp (config := { maxDischargeDepth := 40, contextual := true }) [*]

@[simp] theorem State.settleVersions_steady {s₀ : State} {s : State} (h_s : Steady s₀ s) :
    Steady s₀ (State.settleVersions s) := by
  unfold State.settleVersions
  simp (config := { maxDischargeDepth := 40, contextual := true }) [*]

@[simp] theorem State.dropStep_steady {s₀ : State} {s : State} (h_s : Steady s₀ s) :
    Steady s₀ (State.dropStep s) := by
  unfold State.dropStep
  simp (config := { maxDischargeDepth := 40, contextual := true }) [*]

@[simp] theorem State.clearFabric_steady {s₀ : State} {s : State} (h_s : Steady s₀ s) :
    Steady s₀ (State.clearFabric s) := by
  unfold State.clearFabric
  simp (config := { maxDischargeDepth := 40, contextual := true }) [*]

@[simp] theorem State.resetLinks_steady {s₀ : State} {s : State} (h_s : Steady s₀ s) :
    Steady s₀ (State.resetLinks s) := by
  unfold State.resetLinks
  simp (config := { maxDischargeDepth := 40, contextual := true }) [*]

@[simp] theorem State.testPhysical_steady {s₀ : State} {s : State} {fails : List (Nat × Nat)} (h_s : Steady s₀ s) :
    Steady s₀ (State.testPhysical s fails) := by
  unfold State.testPhysical
  simp (config := { maxDischargeDepth := 40, contextual := true }) [*]

@[simp] theorem State.fabricEffects_steady {s₀ : State} {s : State} {fails : List (Nat × Nat)} (h_s : Steady s₀ s) :
    Steady s₀ (State.fabricEffects s fails) := by
  unfold State.fabricEffects
  simp (config := { maxDischargeDepth := 40, contextual := true }) [*]

@[simp] theorem State.fabricReset_steady {s₀ : State} {s : State} {cause : Nat} {fails : List (Nat × Nat)} (h_s : Steady
    s₀ s) :
    Steady s₀ (State.fabricReset s cause fails) := by
  unfold State.fabricReset
  simp (config := { maxDischargeDepth := 40, contextual := true }) [*]

@[simp] theorem State.lostRegs_steady {s₀ : State} {s : State} {keep : Nat → Bool} (h_s : Steady s₀ s) :
    Steady s₀ (State.lostRegs s keep) := by
  unfold State.lostRegs
  simp (config := { maxDischargeDepth := 40, contextual := true }) [*]

@[simp] theorem State.railsOff_steady {s₀ : State} {s : State} {keep : Nat → Bool} (h_s : Steady s₀ s) :
    Steady s₀ (State.railsOff s keep) := by
  unfold State.railsOff
  simp (config := { maxDischargeDepth := 40, contextual := true }) [*]

@[simp] theorem State.tryStart_steady {s₀ : State} {s : State} (h_s : Steady s₀ s) :
    Steady s₀ (State.tryStart s) := by
  unfold State.tryStart
  simp (config := { maxDischargeDepth := 40, contextual := true }) [*]

@[simp] theorem State.moduleLoss_steady {s₀ : State} {s : State} {cause die state : Nat} (h_s : Steady s₀ s) :
    Steady s₀ (State.moduleLoss s cause die state) := by
  unfold State.moduleLoss
  simp (config := { maxDischargeDepth := 40, contextual := true }) [*]

@[simp] theorem State.moduleReset_steady {s₀ : State} {s : State} {cause : Nat} (h_s : Steady s₀ s) :
    Steady s₀ (State.moduleReset s cause) := by
  unfold State.moduleReset
  simp (config := { maxDischargeDepth := 40, contextual := true }) [*]

@[simp] theorem State.boot_steady {s₀ : State} {s : State} (h_s : Steady s₀ s) :
    Steady s₀ (State.boot s) := by
  unfold State.boot
  extract_lets l fl s0 s1 s2 s3
  have h0 : Steady s₀ s0 := by
    refine ⟨h_s.pending, h_s.grade, h_s.mem, h_s.regs, h_s.fuses, fun hq => ?_, h_s.queues, h_s.sessions, h_s.counters, h_s.sel, h_s.carts, h_s.ver, h_s.cores,
     h_s.droop, h_s.taps, h_s.lports, h_s.gens, h_s.cxlPorts, h_s.slots, h_s.migrations, h_s.oldFrames, h_s.requests⟩
    have hl := h_s.lms hq
    exact ⟨(lmsBoot_le hl.1).1, hl.2.trans (lmsBoot_le hl.1).2⟩
  have h1 : Steady s₀ s1 := State.setFld_steady (State.setFld_steady h0)
  have h2 : Steady s₀ s2 := State.setFld_steady (State.setFld_steady h1)
  have h3 : Steady s₀ s3 := State.setFld_steady (State.setFld_steady (State.setFld_steady h2))
  clear_value s3
  split
  · exact State.setPwr_steady (State.setFld_steady (State.setFld_steady (State.setFld_steady h3)))
  · exact State.setPwr_steady (State.setFld_steady h3)

@[simp] theorem State.powerOff_steady {s₀ : State} {s : State} (h_s : Steady s₀ s) :
    Steady s₀ (State.powerOff s) := by
  unfold State.powerOff
  simp (config := { maxDischargeDepth := 40, contextual := true }) [*]

@[simp] theorem State.doPowerOn_steady {s₀ : State} {s : State} {slotId : Nat} (h_s : Steady s₀ s) :
    Steady s₀ (State.doPowerOn s slotId) := by
  unfold State.doPowerOn
  simp (config := { maxDischargeDepth := 40, contextual := true }) [*]

@[simp] theorem State.doMainStart_steady {s₀ : State} {s : State} {vin : Nat} (h_s : Steady s₀ s) :
    Steady s₀ (State.doMainStart s vin) := by
  unfold State.doMainStart
  simp (config := { maxDischargeDepth := 40, contextual := true }) [*]

@[simp] theorem State.doRefclkValid_steady {s₀ : State} {s : State} (h_s : Steady s₀ s) :
    Steady s₀ (State.doRefclkValid s) := by
  unfold State.doRefclkValid
  simp (config := { maxDischargeDepth := 40, contextual := true }) [*]

@[simp] theorem State.tryInit_steady {s₀ : State} {s : State} (h_s : Steady s₀ s) :
    Steady s₀ (State.tryInit s) := by
  unfold State.tryInit
  simp (config := { maxDischargeDepth := 40, contextual := true }) [*]

@[simp] theorem State.doHbmTrained_steady {s₀ : State} {s : State} {failures : Nat} (h_s : Steady s₀ s) :
    Steady s₀ (State.doHbmTrained s failures) := by
  unfold State.doHbmTrained
  simp (config := { maxDischargeDepth := 40, contextual := true }) [*]

@[simp] theorem State.setCxl_steady {s₀ : State} {s : State} {p gib frames : Nat} (h_s : Steady s₀ s) :
    Steady s₀ (State.setCxl s p gib frames) := by
  unfold State.setCxl
  simp (config := { maxDischargeDepth := 40, contextual := true }) [*]

@[simp] theorem State.doCxlTrained_steady {s₀ : State} {s : State} {gib0 gib1 : Nat} (h_s : Steady s₀ s) :
    Steady s₀ (State.doCxlTrained s gib0 gib1) := by
  unfold State.doCxlTrained
  simp (config := { maxDischargeDepth := 40, contextual := true }) [*]

@[simp] theorem State.doReady_steady {s₀ : State} {s : State} {fails : List (Nat × Nat)} (h_s : Steady s₀ s) :
    Steady s₀ (State.doReady s fails) := by
  unfold State.doReady
  simp (config := { maxDischargeDepth := 40, contextual := true }) [*]

@[simp] theorem State.doAuxLost_steady {s₀ : State} {s : State} (h_s : Steady s₀ s) :
    Steady s₀ (State.doAuxLost s) := by
  unfold State.doAuxLost
  simp (config := { maxDischargeDepth := 40, contextual := true }) [*]

@[simp] theorem State.doUndervoltage_steady {s₀ : State} {s : State} (h_s : Steady s₀ s) :
    Steady s₀ (State.doUndervoltage s) := by
  unfold State.doUndervoltage
  simp (config := { maxDischargeDepth := 40, contextual := true }) [*]

@[simp] theorem State.doOvervoltage_steady {s₀ : State} {s : State} (h_s : Steady s₀ s) :
    Steady s₀ (State.doOvervoltage s) := by
  unfold State.doOvervoltage
  simp (config := { maxDischargeDepth := 40, contextual := true }) [*]

@[simp] theorem State.doRegulator_steady {s₀ : State} {s : State} (h_s : Steady s₀ s) :
    Steady s₀ (State.doRegulator s) := by
  unfold State.doRegulator
  simp (config := { maxDischargeDepth := 40, contextual := true }) [*]

@[simp] theorem State.doRefclkLoss_steady {s₀ : State} {s : State} (h_s : Steady s₀ s) :
    Steady s₀ (State.doRefclkLoss s) := by
  unfold State.doRefclkLoss
  simp (config := { maxDischargeDepth := 40, contextual := true }) [*]

@[simp] theorem State.onResetCtrl_steady {s₀ : State} {s : State} {a : Agent} {f : State → State} (h_s : Steady s₀ s)
    (h_f : ∀ y0, Steady s₀ y0 → Steady s₀ (f y0)) :
    Steady s₀ (State.onResetCtrl s a f) := by
  unfold State.onResetCtrl
  simp (config := { maxDischargeDepth := 40, contextual := true }) [*]

@[simp] theorem State.trip_steady {s₀ : State} {s : State} {die : Nat} {inj : Bool} (h_s : Steady s₀ s) :
    Steady s₀ (State.trip s die inj) := by
  unfold State.trip
  simp (config := { maxDischargeDepth := 40, contextual := true }) [*]

@[simp] theorem State.doCoolingEnd_steady {s₀ : State} {s : State} (h_s : Steady s₀ s) :
    Steady s₀ (State.doCoolingEnd s) := by
  unfold State.doCoolingEnd
  simp (config := { maxDischargeDepth := 40, contextual := true }) [*]

end Sys2Proof.Machine
end

