-- ==== Sys2Proof/Laws/SteadyFront.lean ====
section
/-!
SUPPORT. The operations of Machine/Front.lean keep what Laws/Steady.lean says.
-/
namespace Sys2Proof.Machine

@[simp] theorem State.markForeign_steady {s₀ : State} {s : State} {port : Nat} (h_s : Steady s₀ s) :
    Steady s₀ (State.markForeign s port) := by
  unfold State.markForeign
  simp (config := { maxDischargeDepth := 40, contextual := true }) [*]

@[simp] theorem State.latchPartner_steady {s₀ : State} {s : State} {port src : Nat} (h_s : Steady s₀ s) :
    Steady s₀ (State.latchPartner s port src) := by
  unfold State.latchPartner
  simp (config := { maxDischargeDepth := 40, contextual := true }) [*]

@[simp] theorem State.packetIn_steady {s₀ : State} {s : State} {port : Nat} (h_s : Steady s₀ s) :
    Steady s₀ (State.packetIn s port) := by
  unfold State.packetIn
  simp (config := { maxDischargeDepth := 40, contextual := true }) [*]

@[simp] theorem State.bindSession_steady {s₀ : State} {s : State} {rq : ConnReq} {k : Nat} {x : Session} (h_s : Steady
    s₀ s) :
    Steady s₀ (State.bindSession s rq k x) := by
  unfold State.bindSession
  simp (config := { maxDischargeDepth := 40, contextual := true }) [*]

@[simp] theorem State.connect_steady {s₀ : State} {s : State} {rq : ConnReq} (h_s : Steady s₀ s) :
    Steady s₀ (State.connect s rq) := by
  unfold State.connect
  simp (config := { maxDischargeDepth := 40, contextual := true }) [*]

@[simp] theorem State.doAttach_steady {s₀ : State} {s : State} {rq : ConnReq} (h_s : Steady s₀ s) :
    Steady s₀ (State.doAttach s rq) := by
  unfold State.doAttach
  simp (config := { maxDischargeDepth := 40, contextual := true }) [*]

@[simp] theorem State.doReattach_steady {s₀ : State} {s : State} {rq : ConnReq} (h_s : Steady s₀ s) :
    Steady s₀ (State.doReattach s rq) := by
  unfold State.doReattach
  simp (config := { maxDischargeDepth := 40, contextual := true }) [*]

@[simp] theorem State.doDreq_steady {s₀ : State} {s : State} {port : Nat} {r : DiscReq} (h_s : Steady s₀ s) :
    Steady s₀ (State.doDreq s port r) := by
  unfold State.doDreq
  simp (config := { maxDischargeDepth := 40, contextual := true }) [*]

@[simp] theorem State.doEthDown_steady {s₀ : State} {s : State} {port : Nat} (h_s : Steady s₀ s) :
    Steady s₀ (State.doEthDown s port) := by
  unfold State.doEthDown
  simp (config := { maxDischargeDepth := 40, contextual := true }) [*]

@[simp] theorem State.doEthUp_steady {s₀ : State} {s : State} {port : Nat} (h_s : Steady s₀ s) :
    Steady s₀ (State.doEthUp s port) := by
  unfold State.doEthUp
  simp (config := { maxDischargeDepth := 40, contextual := true }) [*]

@[simp] theorem State.doSessionDetach_steady {s₀ : State} {s : State} {port : Nat} (h_s : Steady s₀ s) :
    Steady s₀ (State.doSessionDetach s port) := by
  unfold State.doSessionDetach
  simp (config := { maxDischargeDepth := 40, contextual := true }) [*]

@[simp] theorem State.doSessionRelease_steady {s₀ : State} {s : State} {slot : Nat} (h_s : Steady s₀ s) :
    Steady s₀ (State.doSessionRelease s slot) := by
  unfold State.doSessionRelease
  simp (config := { maxDischargeDepth := 40, contextual := true }) [*]

@[simp] theorem State.doRetryExhausted_steady {s₀ : State} {s : State} {slot : Nat} (h_s : Steady s₀ s) :
    Steady s₀ (State.doRetryExhausted s slot) := by
  unfold State.doRetryExhausted
  simp (config := { maxDischargeDepth := 40, contextual := true }) [*]

@[simp] theorem State.writePartnerHi_steady {s₀ : State} {s : State} {port v : Nat} (h_s : Steady s₀ s) :
    Steady s₀ (State.writePartnerHi s port v) := by
  unfold State.writePartnerHi
  simp (config := { maxDischargeDepth := 40, contextual := true }) [*]

@[simp] theorem State.writePartnerLo_steady {s₀ : State} {s : State} {port v : Nat} (h_s : Steady s₀ s) :
    Steady s₀ (State.writePartnerLo s port v) := by
  unfold State.writePartnerLo
  simp (config := { maxDischargeDepth := 40, contextual := true }) [*]

@[simp] theorem State.doForeign_steady {s₀ : State} {s : State} {port src : Nat} (h_s : Steady s₀ s) :
    Steady s₀ (State.doForeign s port src) := by
  unfold State.doForeign
  simp (config := { maxDischargeDepth := 40, contextual := true }) [*]

@[simp] theorem State.doFcsDrop_steady {s₀ : State} {s : State} {port : Nat} (h_s : Steady s₀ s) :
    Steady s₀ (State.doFcsDrop s port) := by
  unfold State.doFcsDrop
  simp (config := { maxDischargeDepth := 40, contextual := true }) [*]

@[simp] theorem State.doMgmtLoss_steady {s₀ : State} {s : State} (h_s : Steady s₀ s) :
    Steady s₀ (State.doMgmtLoss s) := by
  unfold State.doMgmtLoss
  simp (config := { maxDischargeDepth := 40, contextual := true }) [*]

end Sys2Proof.Machine
end

