-- ==== Sys2Proof/Laws/SteadyPace.lean ====
section
/-!
SUPPORT. The operations of Machine/Pace.lean keep what Laws/Steady.lean says.
-/
namespace Sys2Proof.Machine

@[simp] theorem State.setDroop_steady {s₀ : State} {s : State} {die : Nat} {x : Droop} (h_s : Steady s₀ s) :
    Steady s₀ (State.setDroop s die x) := by
  unfold State.setDroop
  simp (config := { maxDischargeDepth := 40, contextual := true }) [*]

@[simp] theorem State.crit_steady {s₀ : State} {s : State} {die : Nat} {inj : Bool} (h_s : Steady s₀ s) :
    Steady s₀ (State.crit s die inj) := by
  unfold State.crit
  simp (config := { maxDischargeDepth := 40, contextual := true }) [*]

@[simp] theorem State.checkRail_steady {s₀ : State} {s : State} {die : Nat} (h_s : Steady s₀ s) :
    Steady s₀ (State.checkRail s die) := by
  unfold State.checkRail
  simp (config := { maxDischargeDepth := 40, contextual := true }) [*]

@[simp] theorem State.doDroopTrip_steady {s₀ : State} {s : State} {die : Nat} (h_s : Steady s₀ s) :
    Steady s₀ (State.doDroopTrip s die) := by
  unfold State.doDroopTrip
  simp (config := { maxDischargeDepth := 40, contextual := true }) [*]

@[simp] theorem State.doDroopRecovery_steady {s₀ : State} {s : State} {die : Nat} (h_s : Steady s₀ s) :
    Steady s₀ (State.doDroopRecovery s die) := by
  unfold State.doDroopRecovery
  simp (config := { maxDischargeDepth := 40, contextual := true }) [*]

@[simp] theorem State.doDroopHold_steady {s₀ : State} {s : State} {die : Nat} (h_s : Steady s₀ s) :
    Steady s₀ (State.doDroopHold s die) := by
  unfold State.doDroopHold
  simp (config := { maxDischargeDepth := 40, contextual := true }) [*]

@[simp] theorem State.doDroopRelease_steady {s₀ : State} {s : State} {die : Nat} (h_s : Steady s₀ s) :
    Steady s₀ (State.doDroopRelease s die) := by
  unfold State.doDroopRelease
  simp (config := { maxDischargeDepth := 40, contextual := true }) [*]

@[simp] theorem State.doCritical_steady {s₀ : State} {s : State} {die : Nat} (h_s : Steady s₀ s) :
    Steady s₀ (State.doCritical s die) := by
  unfold State.doCritical
  simp (config := { maxDischargeDepth := 40, contextual := true }) [*]

@[simp] theorem State.doPowerSample_steady {s₀ : State} {s : State} {p10us p1s : Nat} (h_s : Steady s₀ s) :
    Steady s₀ (State.doPowerSample s p10us p1s) := by
  unfold State.doPowerSample
  simp (config := { maxDischargeDepth := 40, contextual := true }) [*]

@[simp] theorem State.setFraction_steady {s₀ : State} {s : State} (h_s : Steady s₀ s) :
    Steady s₀ (State.setFraction s) := by
  unfold State.setFraction
  simp (config := { maxDischargeDepth := 40, contextual := true }) [*]

@[simp] theorem State.tripDie_steady {s₀ : State} {s : State} (h_s : Steady s₀ s) :
    Steady s₀ (State.tripDie s).2 := by
  unfold State.tripDie
  try dsimp only
  (repeat' split) <;> first | assumption | simp (config := { maxDischargeDepth := 40, contextual := true }) [*]

@[simp] theorem State.doSlowLoop_steady {s₀ : State} {s : State} {dieC stackC : List Nat} (h_s : Steady s₀ s) :
    Steady s₀ (State.doSlowLoop s dieC stackC) := by
  unfold State.doSlowLoop
  try dsimp only
  (repeat' split) <;> first | assumption | simp (config := { maxDischargeDepth := 40, contextual := true }) [*]

@[simp] theorem State.calLimit_steady {s₀ : State} {s : State} {n : Nat} {inj : Bool} (h_s : Steady s₀ s) :
    Steady s₀ (State.calLimit s n inj) := by
  unfold State.calLimit
  simp (config := { maxDischargeDepth := 40, contextual := true }) [*]

@[simp] theorem State.ageTaps_steady {s₀ : State} {s : State} (h_s : Steady s₀ s) :
    Steady s₀ (State.ageTaps s) := by
  unfold State.ageTaps
  simp (config := { maxDischargeDepth := 40, contextual := true }) [*]

@[simp] theorem State.measure_steady {s₀ : State} {s : State} {n path margin : Nat} (h_s : Steady s₀ s) :
    Steady s₀ (State.measure s n path margin) := by
  unfold State.measure
  simp (config := { maxDischargeDepth := 40, contextual := true }) [*]

@[simp] theorem State.doCalibration_steady {s₀ : State} {s : State} {margins : List (Nat × Nat × Nat)} (h_s : Steady s₀
    s) :
    Steady s₀ (State.doCalibration s margins) := by
  unfold State.doCalibration
  simp (config := { maxDischargeDepth := 40, contextual := true }) [*]

@[simp] theorem State.doWatchdog_steady {s₀ : State} {s : State} {n : Nat} (h_s : Steady s₀ s) :
    Steady s₀ (State.doWatchdog s n) := by
  unfold State.doWatchdog
  simp (config := { maxDischargeDepth := 40, contextual := true }) [*]

@[simp] theorem State.upset_steady {s₀ : State} {s : State} {p n : Nat} (h_s : Steady s₀ s) :
    Steady s₀ (State.upset s p n) := by
  unfold State.upset
  simp (config := { maxDischargeDepth := 40, contextual := true }) [*]

@[simp] theorem State.doScrub_steady {s₀ : State} {s : State} {upsets : List (Nat × Nat × Nat)} (h_s : Steady s₀ s) :
    Steady s₀ (State.doScrub s upsets) := by
  unfold State.doScrub
  simp (config := { maxDischargeDepth := 40, contextual := true }) [*]

end Sys2Proof.Machine
end

