-- ==== Sys2Proof/Laws/SteadySecurity.lean ====
section
/-!
SUPPORT. The operations of Machine/Security.lean keep what Laws/Steady.lean says.
-/
namespace Sys2Proof.Machine

@[simp] theorem State.setScope_steady {s₀ : State} {s : State} {scope : Nat} (h_s : Steady s₀ s) :
    Steady s₀ (State.setScope s scope) := by
  unfold State.setScope
  simp (config := { maxDischargeDepth := 40, contextual := true }) [*]

@[simp] theorem State.submitToken_steady {s₀ : State} {s : State} (h_s : Steady s₀ s) :
    Steady s₀ (State.submitToken s) := by
  unfold State.submitToken
  simp (config := { maxDischargeDepth := 40, contextual := true }) [*]

@[simp] theorem State.doSubmit_steady {s₀ : State} {s : State} {a : Agent} (h_s : Steady s₀ s) :
    Steady s₀ (State.doSubmit s a) := by
  unfold State.doSubmit
  simp (config := { maxDischargeDepth := 40, contextual := true }) [*]

@[simp] theorem State.commitSvn_steady {s₀ : State} {s : State} (h_s : Steady s₀ s) :
    Steady s₀ (State.commitSvn s) := by
  unfold State.commitSvn
  split
  · exact h_s
  · exact State.setFld_steady (h_s.withFuses (fl := s.flash) ⟨rfl, le_max_left _ _, le_rfl, rfl, rfl, rfl, rfl, rfl⟩
      fun hq => ⟨hq, le_rfl⟩)

theorem State.openBlock_some {s₀ : State} {s : State} {t : State} (h : State.openBlock s = some t) (h_s : Steady s₀ s) :
    Steady s₀ t := by
  unfold State.openBlock at h
  split at h
  · cases h
    exact h_s
  · split at h
    · cases h
    · cases h
      refine State.setFld_steady (h_s.withFuses (fl := s.flash) ⟨rfl, le_rfl, Nat.le_succ _, rfl, rfl, rfl, rfl, rfl⟩ fun hq => ⟨?_, le_rfl⟩)
      show s.flash.q ≤ 4096 * (s.fuses.lmsBlocks + 1)
      omega

/-- R502: what opening a block leaves: the leaf, and room for it. -/
theorem State.openBlock_leaf {s t : State} (h : State.openBlock s = some t) :
    t.flash = s.flash ∧ (s.flash.q ≤ 4096 * s.fuses.lmsBlocks → s.flash.q < 4096 * t.fuses.lmsBlocks) := by
  unfold State.openBlock at h
  split at h
  · cases h
    exact ⟨rfl, fun hq => by omega⟩
  · split at h
    · cases h
    · cases h
      refine ⟨rfl, fun hq => ?_⟩
      show s.flash.q < 4096 * (s.fuses.lmsBlocks + 1)
      omega

@[simp] theorem State.takeLeaf_steady {s₀ : State} {s : State} (h_s : Steady s₀ s) :
    Steady s₀ (State.takeLeaf s).2 := by
  unfold State.takeLeaf
  dsimp only
  split
  · exact State.setFld_steady h_s
  · split
    · exact State.setFld_steady h_s
    · rename_i s1 heq
      have h1 := State.openBlock_some heq h_s
      have hb := State.openBlock_leaf heq
      split
      · exact State.setFld_steady h1
      · refine State.setFld_steady (State.setFld_steady ⟨h1.pending, h1.grade, h1.mem, h1.regs, h1.fuses, fun hq => ?_, h1.queues,
          h1.sessions, h1.counters, h1.sel, h1.carts, h1.ver, h1.cores, h1.droop, h1.taps, h1.lports, h1.gens, h1.cxlPorts, h1.slots,
          h1.migrations, h1.oldFrames, h1.requests⟩)
        have h2 := h_s.lms hq
        exact ⟨hb.2 h2.1, h2.2.trans (Nat.le_succ _)⟩

@[simp] theorem State.respond_steady {s₀ : State} {s : State} {code : Nat} {body : Bytes} (h_s : Steady s₀ s) :
    Steady s₀ (State.respond s code body) := by
  unfold State.respond
  simp (config := { maxDischargeDepth := 40, contextual := true }) [*]

@[simp] theorem State.spdmRefuse_steady {s₀ : State} {s : State} {code : Nat} (h_s : Steady s₀ s) :
    Steady s₀ (State.spdmRefuse s code) := by
  unfold State.spdmRefuse
  simp (config := { maxDischargeDepth := 40, contextual := true }) [*]

@[simp] theorem State.onSpdm_steady {s₀ : State} {s : State} {phase : Nat} {f : State → State} (h_s : Steady s₀ s) (h_f
    : ∀ y0, Steady s₀ y0 → Steady s₀ (f y0)) :
    Steady s₀ (State.onSpdm s phase f) := by
  unfold State.onSpdm
  simp (config := { maxDischargeDepth := 40, contextual := true }) [*]

@[simp] theorem State.signed_steady {s₀ : State} {s : State} {code : Nat} {nonce report : Bytes} (h_s : Steady s₀ s) :
    Steady s₀ (State.signed s code nonce report) := by
  unfold State.signed
  try dsimp only
  repeat' (first
    | assumption
    | with_reducible refine Steady.foldl ?_ (fun u x hu => ?_)
    | with_reducible refine State.runCmd_steady ?_ (fun u c hu => ?_)
    | with_reducible refine State.runDeclared_steady ?_ (fun u c hu => ?_)
    | with_reducible refine State.onReg_steady ?_ (fun u hu => ?_)
    | split
    | (simp (config := { maxDischargeDepth := 40, contextual := true }) [*]; done)
    | (simp only [Prod.ext_iff] at *; casesm* _ ∧ _; subst_vars; simp (config := { maxDischargeDepth := 40, contextual := true }) [*]; done))

@[simp] theorem State.doGetVersion_steady {s₀ : State} {s : State} (h_s : Steady s₀ s) :
    Steady s₀ (State.doGetVersion s) := by
  unfold State.doGetVersion
  simp (config := { maxDischargeDepth := 40, contextual := true }) [*]

@[simp] theorem State.doGetCapabilities_steady {s₀ : State} {s : State} (h_s : Steady s₀ s) :
    Steady s₀ (State.doGetCapabilities s) := by
  unfold State.doGetCapabilities
  simp (config := { maxDischargeDepth := 40, contextual := true }) [*]

@[simp] theorem State.doNegotiate_steady {s₀ : State} {s : State} {ecdsa sha : Bool} (h_s : Steady s₀ s) :
    Steady s₀ (State.doNegotiate s ecdsa sha) := by
  unfold State.doNegotiate
  simp (config := { maxDischargeDepth := 40, contextual := true }) [*]

@[simp] theorem State.doGetDigests_steady {s₀ : State} {s : State} (h_s : Steady s₀ s) :
    Steady s₀ (State.doGetDigests s) := by
  unfold State.doGetDigests
  simp (config := { maxDischargeDepth := 40, contextual := true }) [*]

@[simp] theorem State.doGetCertificate_steady {s₀ : State} {s : State} {slot offset length : Nat} (h_s : Steady s₀ s) :
    Steady s₀ (State.doGetCertificate s slot offset length) := by
  unfold State.doGetCertificate
  simp (config := { maxDischargeDepth := 40, contextual := true }) [*]

@[simp] theorem State.doChallenge_steady {s₀ : State} {s : State} {slot : Nat} {nonce : Bytes} (h_s : Steady s₀ s) :
    Steady s₀ (State.doChallenge s slot nonce) := by
  unfold State.doChallenge
  simp (config := { maxDischargeDepth := 40, contextual := true }) [*]

@[simp] theorem State.captured_steady {s₀ : State} {s : State} (h_s : Steady s₀ s) :
    Steady s₀ (State.captured s).2 := by
  unfold State.captured
  (repeat' split) <;> simp (config := { maxDischargeDepth := 40, contextual := true }) [*]

@[simp] theorem State.doGetMeasurements_steady {s₀ : State} {s : State} {index : Nat} {sign : Bool} {nonce : Bytes} (h_s
    : Steady s₀ s) :
    Steady s₀ (State.doGetMeasurements s index sign nonce) := by
  unfold State.doGetMeasurements
  refine State.onSpdm_steady h_s fun u hu => ?_
  extract_lets x record
  have hx : Steady s₀ x.2 := State.captured_steady hu
  clear_value x record
  split
  · exact State.spdmRefuse_steady hx
  · exact Steady.ite (State.signed_steady hx) (State.respond_steady hx)

end Sys2Proof.Machine
end

