-- ==== Sys2Proof/Laws/SteadyTelemetry.lean ====
section
/-!
SUPPORT. The operations of Machine/Telemetry.lean keep what Laws/Steady.lean says.
-/
namespace Sys2Proof.Machine

@[simp] theorem State.tickHealth_steady {s₀ : State} {s : State} (h_s : Steady s₀ s) :
    Steady s₀ (State.tickHealth s) := by
  unfold State.tickHealth
  simp (config := { maxDischargeDepth := 40, contextual := true }) [*]

@[simp] theorem State.doHealth_steady {s₀ : State} {s : State} (h_s : Steady s₀ s) :
    Steady s₀ (State.doHealth s) := by
  unfold State.doHealth
  simp (config := { maxDischargeDepth := 40, contextual := true }) [*]

@[simp] theorem State.doSample_steady {s₀ : State} {s : State} (h_s : Steady s₀ s) :
    Steady s₀ (State.doSample s) := by
  unfold State.doSample
  simp (config := { maxDischargeDepth := 40, contextual := true }) [*]

end Sys2Proof.Machine
end

