-- ==== Sys2Proof/Laws/SteadyRegisters.lean ====
section
/-!
SUPPORT. The operations of Machine/Registers.lean keep what Laws/Steady.lean says.
-/
namespace Sys2Proof.Machine

@[simp] theorem State.readClear_steady {s₀ : State} {s : State} {r : Reg} {lo size : Nat} (h_s : Steady s₀ s) :
    Steady s₀ (State.readClear s r lo size) := by
  unfold State.readClear
  simp (config := { maxDischargeDepth := 40, contextual := true }) [*]

@[simp] theorem State.ctlRead_steady {s₀ : State} {s : State} {a : Agent} {off size : Nat} (h_s : Steady s₀ s) :
    Steady s₀ (State.ctlRead s a off size).2 := by
  unfold State.ctlRead
  (repeat' split) <;> simp (config := { maxDischargeDepth := 40, contextual := true }) [*]

@[simp] theorem State.plainWrite_steady {s₀ : State} {s : State} {r : Reg} {v : Nat} (h_s : Steady s₀ s) :
    Steady s₀ (State.plainWrite s r v) := by
  unfold State.plainWrite
  simp (config := { maxDischargeDepth := 40, contextual := true }) [*]

@[simp] theorem State.paceWrite_steady {s₀ : State} {s : State} {ok : Bool} {f : State → State} (h_s : Steady s₀ s) (h_f
    : ∀ y0, Steady s₀ y0 → Steady s₀ (f y0)) :
    Steady s₀ (State.paceWrite s ok f) := by
  unfold State.paceWrite
  simp (config := { maxDischargeDepth := 40, contextual := true }) [*]

@[simp] theorem State.writeVset_steady {s₀ : State} {s : State} {v : Nat} (h_s : Steady s₀ s) :
    Steady s₀ (State.writeVset s v) := by
  unfold State.writeVset
  simp (config := { maxDischargeDepth := 40, contextual := true }) [*]

@[simp] theorem State.writeDroopThr_steady {s₀ : State} {s : State} {v : Nat} (h_s : Steady s₀ s) :
    Steady s₀ (State.writeDroopThr s v) := by
  unfold State.writeDroopThr
  simp (config := { maxDischargeDepth := 40, contextual := true }) [*]

@[simp] theorem State.writeEnvLimit_steady {s₀ : State} {s : State} {v : Nat} (h_s : Steady s₀ s) :
    Steady s₀ (State.writeEnvLimit s v) := by
  unfold State.writeEnvLimit
  simp (config := { maxDischargeDepth := 40, contextual := true }) [*]

@[simp] theorem State.writeUnlockCtl_steady {s₀ : State} {s : State} {a : Agent} {v : Nat} (h_s : Steady s₀ s) :
    Steady s₀ (State.writeUnlockCtl s a v) := by
  unfold State.writeUnlockCtl
  simp (config := { maxDischargeDepth := 40, contextual := true }) [*]

@[simp] theorem State.writeCntCtrl_steady {s₀ : State} {s : State} {a : Agent} {v : Nat} (h_s : Steady s₀ s) :
    Steady s₀ (State.writeCntCtrl s a v) := by
  unfold State.writeCntCtrl
  simp (config := { maxDischargeDepth := 40, contextual := true }) [*]

@[simp] theorem State.writeEvtHead_steady {s₀ : State} {s : State} {v : Nat} (h_s : Steady s₀ s) :
    Steady s₀ (State.writeEvtHead s v) := by
  unfold State.writeEvtHead
  simp (config := { maxDischargeDepth := 40, contextual := true }) [*]

@[simp] theorem State.writeTeleHead_steady {s₀ : State} {s : State} {v : Nat} (h_s : Steady s₀ s) :
    Steady s₀ (State.writeTeleHead s v) := by
  unfold State.writeTeleHead
  simp (config := { maxDischargeDepth := 40, contextual := true }) [*]

@[simp] theorem State.writePortCfg_steady {s₀ : State} {s : State} {k v : Nat} (h_s : Steady s₀ s) :
    Steady s₀ (State.writePortCfg s k v) := by
  unfold State.writePortCfg
  simp (config := { maxDischargeDepth := 40, contextual := true }) [*]

@[simp] theorem State.writeEthCfg_steady {s₀ : State} {s : State} {a : Agent} {k v : Nat} (h_s : Steady s₀ s) :
    Steady s₀ (State.writeEthCfg s a k v) := by
  unfold State.writeEthCfg
  simp (config := { maxDischargeDepth := 40, contextual := true }) [*]

@[simp] theorem State.writeCartQuery_steady {s₀ : State} {s : State} {a : Agent} {v : Nat} (h_s : Steady s₀ s) :
    Steady s₀ (State.writeCartQuery s a v) := by
  unfold State.writeCartQuery
  simp (config := { maxDischargeDepth := 40, contextual := true }) [*]

@[simp] theorem State.writeSessQuery_steady {s₀ : State} {s : State} {a : Agent} {v : Nat} (h_s : Steady s₀ s) :
    Steady s₀ (State.writeSessQuery s a v) := by
  unfold State.writeSessQuery
  simp (config := { maxDischargeDepth := 40, contextual := true }) [*]

@[simp] theorem State.writeGovCtrl_steady {s₀ : State} {s : State} {v : Nat} (h_s : Steady s₀ s) :
    Steady s₀ (State.writeGovCtrl s v) := by
  unfold State.writeGovCtrl
  simp (config := { maxDischargeDepth := 40, contextual := true }) [*]

@[simp] theorem State.releaseFabric_steady {s₀ : State} {s : State} (h_s : Steady s₀ s) :
    Steady s₀ (State.releaseFabric s) := by
  unfold State.releaseFabric
  simp (config := { maxDischargeDepth := 40, contextual := true }) [*]

@[simp] theorem State.writeDomCtl_steady {s₀ : State} {s : State} {v : Nat} (h_s : Steady s₀ s) :
    Steady s₀ (State.writeDomCtl s v) := by
  unfold State.writeDomCtl
  simp (config := { maxDischargeDepth := 40, contextual := true }) [*]

@[simp] theorem State.writeSpare_steady {s₀ : State} {s : State} {n v : Nat} (h_s : Steady s₀ s) :
    Steady s₀ (State.writeSpare s n v) := by
  unfold State.writeSpare
  simp (config := { maxDischargeDepth := 40, contextual := true }) [*]

@[simp] theorem State.writeTmap_steady {s₀ : State} {s : State} {k v : Nat} (h_s : Steady s₀ s) :
    Steady s₀ (State.writeTmap s k v) := by
  unfold State.writeTmap
  simp (config := { maxDischargeDepth := 40, contextual := true }) [*]

@[simp] theorem State.writeWinOpen_steady {s₀ : State} {s : State} {n v : Nat} (h_s : Steady s₀ s) :
    Steady s₀ (State.writeWinOpen s n v) := by
  unfold State.writeWinOpen
  simp (config := { maxDischargeDepth := 40, contextual := true }) [*]

@[simp] theorem State.writeEngStatus_steady {s₀ : State} {s : State} {n v : Nat} (h_s : Steady s₀ s) :
    Steady s₀ (State.writeEngStatus s n v) := by
  unfold State.writeEngStatus
  simp (config := { maxDischargeDepth := 40, contextual := true }) [*]

@[simp] theorem State.writeQctrl_steady {s₀ : State} {s : State} {a : Agent} {v : Nat} (h_s : Steady s₀ s) :
    Steady s₀ (State.writeQctrl s a v) := by
  unfold State.writeQctrl
  (repeat' split) <;> simp (config := { maxDischargeDepth := 40, contextual := true }) [*]

@[simp] theorem State.writeQstat_steady {s₀ : State} {s : State} {a : Agent} {v : Nat} (h_s : Steady s₀ s) :
    Steady s₀ (State.writeQstat s a v) := by
  unfold State.writeQstat
  simp (config := { maxDischargeDepth := 40, contextual := true }) [*]

@[simp] theorem State.writeNonzero_steady {s₀ : State} {s : State} {r : Reg} {l : List (Nat × Nat)} {v : Nat} (h_s : Steady s₀ s) :
    Steady s₀ (State.writeNonzero s r l v) := by
  unfold State.writeNonzero
  simp (config := { maxDischargeDepth := 40, contextual := true }) [*]

@[simp] theorem State.writeReg_steady {s₀ : State} {s : State} {a : Agent} {r : Reg} {v : Nat} (h_s : Steady s₀ s) :
    Steady s₀ (State.writeReg s a r v) := by
  unfold State.writeReg
  (repeat' split) <;> simp (config := { maxDischargeDepth := 40, contextual := true }) [*]

@[simp] theorem State.badWrite_steady {s₀ : State} {s : State} {a : Agent} {off : Nat} (h_s : Steady s₀ s) :
    Steady s₀ (State.badWrite s a off) := by
  unfold State.badWrite
  simp (config := { maxDischargeDepth := 40, contextual := true }) [*]

@[simp] theorem State.ctlWrite_steady {s₀ : State} {s : State} {a : Agent} {off size v : Nat} (h_s : Steady s₀ s) :
    Steady s₀ (State.ctlWrite s a off size v) := by
  unfold State.ctlWrite
  (repeat' split) <;> simp (config := { maxDischargeDepth := 40, contextual := true }) [*]

@[simp] theorem State.regWrite_steady {s₀ : State} {s : State} {a : Agent} {r : Reg} {v : Nat} (h_s : Steady s₀ s) :
    Steady s₀ (State.regWrite s a r v) := by
  unfold State.regWrite
  simp (config := { maxDischargeDepth := 40, contextual := true }) [*]

@[simp] theorem State.doRegRead_steady {s₀ : State} {s : State} {a : Agent} {off size : Nat} (h_s : Steady s₀ s) :
    Steady s₀ (State.doRegRead s a off size) := by
  unfold State.doRegRead
  try dsimp only
  (repeat' split) <;> first | assumption | simp (config := { maxDischargeDepth := 40, contextual := true }) [*]

@[simp] theorem State.mgmtRefuse_steady {s₀ : State} {s : State} {a : Nat} (h_s : Steady s₀ s) :
    Steady s₀ (State.mgmtRefuse s a) := by
  unfold State.mgmtRefuse
  simp (config := { maxDischargeDepth := 40, contextual := true }) [*]

@[simp] theorem State.mgmtRead_steady {s₀ : State} {s : State} {a size : Nat} (h_s : Steady s₀ s) :
    Steady s₀ (State.mgmtRead s a size) := by
  unfold State.mgmtRead
  simp (config := { maxDischargeDepth := 40, contextual := true }) [*]

@[simp] theorem State.mgmtWrite_steady {s₀ : State} {s : State} {a size v : Nat} (h_s : Steady s₀ s) :
    Steady s₀ (State.mgmtWrite s a size v) := by
  unfold State.mgmtWrite
  simp (config := { maxDischargeDepth := 40, contextual := true }) [*]

@[simp] theorem State.doRegisterRead_steady {s₀ : State} {s : State} {a : Agent} {off size : Nat} (h_s : Steady s₀ s) :
    Steady s₀ (State.doRegisterRead s a off size) := by
  unfold State.doRegisterRead
  simp (config := { maxDischargeDepth := 40, contextual := true }) [*]

@[simp] theorem State.doRegisterWrite_steady {s₀ : State} {s : State} {a : Agent} {off size v : Nat} (h_s : Steady s₀ s) :
    Steady s₀ (State.doRegisterWrite s a off size v) := by
  unfold State.doRegisterWrite
  simp (config := { maxDischargeDepth := 40, contextual := true }) [*]

end Sys2Proof.Machine
end

