-- ==== Sys2Proof/Laws/SteadyI3c.lean ====
section
/-!
SUPPORT. The operations of Machine/I3c.lean keep what Laws/Steady.lean says.
-/
namespace Sys2Proof.Machine

@[simp] theorem State.i3cReply_steady {s₀ : State} {s : State} {status : Nat} {data : Bytes} (h_s : Steady s₀ s) :
    Steady s₀ (State.i3cReply s status data) := by
  unfold State.i3cReply
  simp (config := { maxDischargeDepth := 40, contextual := true }) [*]

@[simp] theorem State.onI3c_steady {s₀ : State} {s : State} {code : Nat} {args : Bytes} {pec : Byte} {ok : Bytes → Bool}
    {f : State → State} (h_s : Steady s₀ s) (h_f : ∀ y0, Steady s₀ y0 → Steady s₀ (f y0)) :
    Steady s₀ (State.onI3c s code args pec ok f) := by
  unfold State.onI3c
  simp (config := { maxDischargeDepth := 40, contextual := true }) [*]

@[simp] theorem State.i3cGet_steady {s₀ : State} {s : State} {code : Nat} {args : Bytes} {pec : Byte} {data : State →
    Bytes} (h_s : Steady s₀ s) :
    Steady s₀ (State.i3cGet s code args pec data) := by
  unfold State.i3cGet
  simp (config := { maxDischargeDepth := 40, contextual := true }) [*]

@[simp] theorem State.i3cRead_steady {s₀ : State} {s : State} {args : Bytes} (h_s : Steady s₀ s) :
    Steady s₀ (State.i3cRead s args) := by
  unfold State.i3cRead
  simp (config := { maxDischargeDepth := 40, contextual := true }) [*]

@[simp] theorem State.i3cWrite_steady {s₀ : State} {s : State} {args : Bytes} (h_s : Steady s₀ s) :
    Steady s₀ (State.i3cWrite s args) := by
  unfold State.i3cWrite
  simp (config := { maxDischargeDepth := 40, contextual := true }) [*]

@[simp] theorem State.i3cModule_steady {s₀ : State} {s : State} (h_s : Steady s₀ s) :
    Steady s₀ (State.i3cModule s) := by
  unfold State.i3cModule
  simp (config := { maxDischargeDepth := 40, contextual := true }) [*]

@[simp] theorem State.i3cFabric_steady {s₀ : State} {s : State} {fails : List (Nat × Nat)} (h_s : Steady s₀ s) :
    Steady s₀ (State.i3cFabric s fails) := by
  unfold State.i3cFabric
  simp (config := { maxDischargeDepth := 40, contextual := true }) [*]

@[simp] theorem State.doPrivateRead_steady {s₀ : State} {s : State} {ready : Bool} (h_s : Steady s₀ s) :
    Steady s₀ (State.doPrivateRead s ready) := by
  unfold State.doPrivateRead
  (repeat' split) <;> simp (config := { maxDischargeDepth := 40, contextual := true }) [*]

@[simp] theorem State.onCcc_steady {s₀ : State} {s : State} {f : State → State} (h_s : Steady s₀ s) (h_f : ∀ y0, Steady
    s₀ y0 → Steady s₀ (f y0)) :
    Steady s₀ (State.onCcc s f) := by
  unfold State.onCcc
  simp (config := { maxDischargeDepth := 40, contextual := true }) [*]

@[simp] theorem State.doSetdasa_steady {s₀ : State} {s : State} {static dynamic : Nat} (h_s : Steady s₀ s) :
    Steady s₀ (State.doSetdasa s static dynamic) := by
  unfold State.doSetdasa
  simp (config := { maxDischargeDepth := 40, contextual := true }) [*]

@[simp] theorem State.doSetnewda_steady {s₀ : State} {s : State} {dynamic : Nat} (h_s : Steady s₀ s) :
    Steady s₀ (State.doSetnewda s dynamic) := by
  unfold State.doSetnewda
  simp (config := { maxDischargeDepth := 40, contextual := true }) [*]

@[simp] theorem State.doRstdaa_steady {s₀ : State} {s : State} (h_s : Steady s₀ s) :
    Steady s₀ (State.doRstdaa s) := by
  unfold State.doRstdaa
  simp (config := { maxDischargeDepth := 40, contextual := true }) [*]

@[simp] theorem State.cccReply_steady {s₀ : State} {s : State} {f : State → Bytes} (h_s : Steady s₀ s) :
    Steady s₀ (State.cccReply s f) := by
  unfold State.cccReply
  simp (config := { maxDischargeDepth := 40, contextual := true }) [*]

@[simp] theorem State.doEnec_steady {s₀ : State} {s : State} (h_s : Steady s₀ s) :
    Steady s₀ (State.doEnec s) := by
  unfold State.doEnec
  simp (config := { maxDischargeDepth := 40, contextual := true }) [*]

@[simp] theorem State.doDisec_steady {s₀ : State} {s : State} (h_s : Steady s₀ s) :
    Steady s₀ (State.doDisec s) := by
  unfold State.doDisec
  simp (config := { maxDischargeDepth := 40, contextual := true }) [*]

@[simp] theorem State.doIbiRetry_steady {s₀ : State} {s : State} {code : Nat} {accepted : Bool} (h_s : Steady s₀ s) :
    Steady s₀ (State.doIbiRetry s code accepted) := by
  unfold State.doIbiRetry
  simp (config := { maxDischargeDepth := 40, contextual := true }) [*]

end Sys2Proof.Machine
end

