-- ==== Sys2Proof/Laws/SteadyIdle.lean ====
section
/-!
SUPPORT. The operations of Machine/Idle.lean keep what Laws/Steady.lean says.
-/
namespace Sys2Proof.Machine

@[simp] theorem State.idle_steady {s₀ : State} {s : State} (h_s : Steady s₀ s) :
    Steady s₀ (State.idle s) := by
  unfold State.idle
  simp (config := { maxDischargeDepth := 40, contextual := true }) [*]

end Sys2Proof.Machine
end

