-- ==== Sys2Proof/Laws/SteadyTiers.lean ====
section
/-!
SUPPORT. The operations of Machine/Tiers.lean keep what Laws/Steady.lean says.
-/
namespace Sys2Proof.Machine

@[simp] theorem State.evict_steady {s₀ s : State} {n : Nat} (h : Steady s₀ s) : Steady s₀ (s.evict n) := by
  induction n generalizing s with
  | zero => exact h
  | succ k ih =>
    unfold State.evict
    repeat' split
    all_goals first
      | exact h
      | exact State.setFld_steady h
      | exact ih (State.moveToCxl_steady h)

@[simp] theorem State.dropMigration_steady {s₀ : State} {s : State} {h : Nat} (h_s : Steady s₀ s) :
    Steady s₀ (State.dropMigration s h) := by
  unfold State.dropMigration
  simp (config := { maxDischargeDepth := 40, contextual := true }) [*]

@[simp] theorem State.doMigrationSwitch_steady {s₀ : State} {s : State} {h : Nat} (h_s : Steady s₀ s) :
    Steady s₀ (State.doMigrationSwitch s h) := by
  unfold State.doMigrationSwitch
  simp (config := { maxDischargeDepth := 40, contextual := true }) [*]

@[simp] theorem State.retryPins_steady {s₀ : State} {s : State} (h_s : Steady s₀ s) :
    Steady s₀ (State.retryPins s) := by
  unfold State.retryPins
  simp (config := { maxDischargeDepth := 40, contextual := true }) [*]

@[simp] theorem State.doEviction_steady {s₀ : State} {s : State} (h_s : Steady s₀ s) :
    Steady s₀ (State.doEviction s) := by
  unfold State.doEviction
  simp (config := { maxDischargeDepth := 40, contextual := true }) [*]

@[simp] theorem State.doFrameReturn_steady {s₀ : State} {s : State} {h : Nat} (h_s : Steady s₀ s) :
    Steady s₀ (State.doFrameReturn s h) := by
  unfold State.doFrameReturn
  simp (config := { maxDischargeDepth := 40, contextual := true }) [*]

@[simp] theorem State.doTierStall_steady {s₀ : State} {s : State} {p : Nat} (h_s : Steady s₀ s) :
    Steady s₀ (State.doTierStall s p) := by
  unfold State.doTierStall
  simp (config := { maxDischargeDepth := 40, contextual := true }) [*]

@[simp] theorem State.tierFault_steady {s₀ : State} {s : State} {q : Nat} {c : Cmd} {cart : Nat} {inj : Bool} (h_s : Steady s₀
    s) :
    Steady s₀ (State.tierFault s q c cart inj) := by
  unfold State.tierFault
  simp (config := { maxDischargeDepth := 40, contextual := true }) [*]

@[simp] theorem State.tierAlone_steady {s₀ : State} {s : State} {cart : Nat} (h_s : Steady s₀ s) :
    Steady s₀ (State.tierAlone s cart) := by
  unfold State.tierAlone
  simp (config := { maxDischargeDepth := 40, contextual := true }) [*]

@[simp] theorem State.accessFails_steady {s₀ : State} {s : State} {cart : Nat} {q : Option Nat} (h_s : Steady s₀ s) :
    Steady s₀ (State.accessFails s cart q) := by
  unfold State.accessFails
  (repeat' split) <;> simp (config := { maxDischargeDepth := 40, contextual := true }) [*]

@[simp] theorem State.doTierAbort_steady {s₀ : State} {s : State} {cart : Nat} {q : Option Nat} (h_s : Steady s₀ s) :
    Steady s₀ (State.doTierAbort s cart q) := by
  unfold State.doTierAbort
  simp (config := { maxDischargeDepth := 40, contextual := true }) [*]

@[simp] theorem State.doCxlPoison_steady {s₀ : State} {s : State} {cart : Nat} {q : Option Nat} (h_s : Steady s₀ s) :
    Steady s₀ (State.doCxlPoison s cart q) := by
  unfold State.doCxlPoison
  simp (config := { maxDischargeDepth := 40, contextual := true }) [*]

@[simp] theorem State.doCxlLinkDown_steady {s₀ : State} {s : State} {p : Nat} (h_s : Steady s₀ s) :
    Steady s₀ (State.doCxlLinkDown s p) := by
  unfold State.doCxlLinkDown
  split
  · extract_lets s1
    have h1 : Steady s₀ s1 := State.setFld_steady (State.setFld_steady h_s)
    clear_value s1
    exact Steady.foldl h1 fun u m hu => State.dropMigration_steady hu
  · exact h_s

@[simp] theorem State.doCxlLinkUp_steady {s₀ : State} {s : State} {p : Nat} (h_s : Steady s₀ s) :
    Steady s₀ (State.doCxlLinkUp s p) := by
  unfold State.doCxlLinkUp
  simp (config := { maxDischargeDepth := 40, contextual := true }) [*]

end Sys2Proof.Machine
end

