-- ==== Sys2Proof/Laws/SteadyRemote.lean ====
section
/-!
SUPPORT. The operations of Machine/Remote.lean keep what Laws/Steady.lean says.
-/
namespace Sys2Proof.Machine

@[simp] theorem State.remoteErrors_steady {s₀ : State} {s : State} {pd a len : Nat} {write : Bool} (h_s : Steady s₀ s) :
    Steady s₀ (State.remoteErrors s pd a len write).2 := by
  unfold State.remoteErrors
  simp (config := { maxDischargeDepth := 40, contextual := true }) [*]

@[simp] theorem State.remoteAccess_steady {s₀ : State} {s : State} {pd a len : Nat} {write : Bool} (h_s : Steady s₀ s) :
    Steady s₀ (State.remoteAccess s pd a len write).2 := by
  unfold State.remoteAccess
  simp (config := { maxDischargeDepth := 40, contextual := true }) [*]

@[simp] theorem State.remoteWrite_steady {s₀ : State} {s : State} {a : Nat} {bs : Bytes} (h_s : Steady s₀ s) :
    Steady s₀ (State.remoteWrite s a bs) := by
  unfold State.remoteWrite
  simp (config := { maxDischargeDepth := 40, contextual := true }) [*]

end Sys2Proof.Machine
end

