-- ==== Sys2Proof/Laws/SteadyLauloRows.lean ====
section
/-!
SUPPORT. The operations of Machine/LauloRows.lean keep what Laws/Steady.lean says.
-/
namespace Sys2Proof.Machine

theorem State.takeInbox_some {s₀ s : State} {k : Nat} {sel : Packet → Bool} {x : Packet × State} (h : s.takeInbox k sel = some x)
    (hs : Steady s₀ s) : Steady s₀ x.2 := by
  unfold State.takeInbox at h
  split at h
  · simp at h
  · injection h with h
    subst h
    exact State.freeBuffers_steady (hs.other rfl rfl rfl rfl rfl rfl rfl rfl rfl rfl rfl rfl rfl rfl rfl rfl rfl rfl rfl rfl rfl rfl)

@[simp] theorem State.serve_steady {s₀ : State} {s : State} {k kind : Nat} {f : State → Packet → State} (h_s : Steady s₀
    s) (h_f : ∀ y0 y1, Steady s₀ y0 → Steady s₀ (f y0 y1)) :
    Steady s₀ (State.serve s k kind f) := by
  unfold State.serve
  split
  · exact h_s
  · rename_i p s1 heq
    have h1 : Steady s₀ s1 := State.takeInbox_some heq h_s
    exact State.evalFlags_steady (h_f _ _ h1)

@[simp] theorem State.answerAccess_steady {s₀ : State} {s : State} {k : Nat} {p : Packet} {kind a len : Nat} {write :
    Bool} {errs : List Err} {f : State → State × Bytes} (h_s : Steady s₀ s) (h_f : ∀ y0, Steady s₀ y0 → Steady s₀ (f y0).1) :
    Steady s₀ (State.answerAccess s k p kind a len write errs f) := by
  unfold State.answerAccess
  (repeat' split) <;> simp (config := { maxDischargeDepth := 40, contextual := true }) [*]

@[simp] theorem State.serveWrite_steady {s₀ : State} {s : State} {k : Nat} {p : Packet} (h_s : Steady s₀ s) :
    Steady s₀ (State.serveWrite s k p) := by
  unfold State.serveWrite
  simp (config := { maxDischargeDepth := 40, contextual := true }) [*]

@[simp] theorem State.serveRead_steady {s₀ : State} {s : State} {k : Nat} {p : Packet} (h_s : Steady s₀ s) :
    Steady s₀ (State.serveRead s k p) := by
  unfold State.serveRead
  simp (config := { maxDischargeDepth := 40, contextual := true }) [*]

@[simp] theorem State.doTaggedResume_steady {s₀ : State} {s : State} (h_s : Steady s₀ s) :
    Steady s₀ (State.doTaggedResume s) := by
  unfold State.doTaggedResume
  (repeat' split) <;> simp (config := { maxDischargeDepth := 40, contextual := true }) [*]

@[simp] theorem State.serveFlag_steady {s₀ : State} {s : State} {k : Nat} {p : Packet} (h_s : Steady s₀ s) :
    Steady s₀ (State.serveFlag s k p) := by
  unfold State.serveFlag
  simp (config := { maxDischargeDepth := 40, contextual := true }) [*]

@[simp] theorem State.serveAnswer_steady {s₀ : State} {s : State} {p : Packet} {kind : Nat} {ok : State → Nat → Req → State}
    (h_s : Steady s₀ s) (h_ok : ∀ u x1 x2, Steady s₀ u → Steady s₀ (ok u x1 x2)) :
    Steady s₀ (State.serveAnswer s p kind ok) := by
  unfold State.serveAnswer
  (repeat' split) <;> simp (config := { maxDischargeDepth := 40, contextual := true }) [*]

@[simp] theorem State.ackWrite_steady {s₀ : State} {s : State} {id : Nat} {r : Req} (h_s : Steady s₀ s) :
    Steady s₀ (State.ackWrite s id r) := by
  unfold State.ackWrite
  (repeat' split) <;> simp (config := { maxDischargeDepth := 40, contextual := true }) [*]

@[simp] theorem State.ackRead_steady {s₀ : State} {s : State} {r : Req} {pay : Bytes} (h_s : Steady s₀ s) :
    Steady s₀ (State.ackRead s r pay) := by
  unfold State.ackRead
  (repeat' split) <;> simp (config := { maxDischargeDepth := 40, contextual := true }) [*]

@[simp] theorem State.ackFlag_steady {s₀ : State} {s : State} {r : Req} (h_s : Steady s₀ s) :
    Steady s₀ (State.ackFlag s r) := by
  unfold State.ackFlag
  (repeat' split) <;> simp (config := { maxDischargeDepth := 40, contextual := true }) [*]

@[simp] theorem State.serveLost_steady {s₀ : State} {s : State} {p : Packet} (h_s : Steady s₀ s) :
    Steady s₀ (State.serveLost s p) := by
  unfold State.serveLost
  simp (config := { maxDischargeDepth := 40, contextual := true }) [*]

@[simp] theorem State.doE2eTimeout_steady {s₀ : State} {s : State} {id : Nat} (h_s : Steady s₀ s) :
    Steady s₀ (State.doE2eTimeout s id) := by
  unfold State.doE2eTimeout
  (repeat' split) <;> simp (config := { maxDischargeDepth := 40, contextual := true }) [*]

@[simp] theorem State.serveStream_steady {s₀ : State} {s : State} {k : Nat} {p : Packet} (h_s : Steady s₀ s) :
    Steady s₀ (State.serveStream s k p) := by
  unfold State.serveStream
  (repeat' split) <;> simp (config := { maxDischargeDepth := 40, contextual := true }) [*]

@[simp] theorem State.serveCredit_steady {s₀ : State} {s : State} {k : Nat} {p : Packet} (h_s : Steady s₀ s) :
    Steady s₀ (State.serveCredit s k p) := by
  unfold State.serveCredit
  (repeat' split) <;> simp (config := { maxDischargeDepth := 40, contextual := true }) [*]

@[simp] theorem State.serveColl_steady {s₀ : State} {s : State} {k kind : Nat} (h_s : Steady s₀ s) :
    Steady s₀ (State.serveColl s k kind) := by
  unfold State.serveColl
  split
  · exact h_s
  · rename_i p s1 heq
    have h1 : Steady s₀ s1 := State.takeInbox_some heq h_s
    exact State.evalFlags_steady (State.acceptColl_getD h_s h1)

@[simp] theorem State.adoptEnd_steady {s₀ : State} {s : State} {r : AdoptRt} (h_s : Steady s₀ s) :
    Steady s₀ (State.adoptEnd s r) := by
  unfold State.adoptEnd
  simp (config := { maxDischargeDepth := 40, contextual := true }) [*]

@[simp] theorem State.runAdopt_steady {s₀ : State} {s : State} {q : Nat} {c : Cmd} (h_s : Steady s₀ s) :
    Steady s₀ (State.runAdopt s q c) := by
  unfold State.runAdopt
  simp (config := { maxDischargeDepth := 40, contextual := true }) [*]

@[simp] theorem State.doLizardAdopt_steady {s₀ : State} {s : State} {q : Nat} (h_s : Steady s₀ s) :
    Steady s₀ (State.doLizardAdopt s q) := by
  unfold State.doLizardAdopt
  simp (config := { maxDischargeDepth := 40, contextual := true }) [*]

@[simp] theorem State.turnTo_steady {s₀ : State} {s : State} {k pos : Nat} (h_s : Steady s₀ s) :
    Steady s₀ (State.turnTo s k pos) := by
  unfold State.turnTo
  simp (config := { maxDischargeDepth := 40, contextual := true }) [*]

@[simp] theorem State.serveAdopt_steady {s₀ : State} {s : State} {k : Nat} {p : Packet} (h_s : Steady s₀ s) :
    Steady s₀ (State.serveAdopt s k p) := by
  unfold State.serveAdopt
  simp (config := { maxDischargeDepth := 40, contextual := true }) [*]

@[simp] theorem State.serveAdoptAck_steady {s₀ : State} {s : State} {k : Nat} {p : Packet} (h_s : Steady s₀ s) :
    Steady s₀ (State.serveAdoptAck s k p) := by
  unfold State.serveAdoptAck
  (repeat' split) <;> simp (config := { maxDischargeDepth := 40, contextual := true }) [*]

@[simp] theorem State.serveMgmt_steady {s₀ : State} {s : State} {k sub : Nat} {f : State → Packet → State} (h_s : Steady
    s₀ s) (h_f : ∀ y0 y1, Steady s₀ y0 → Steady s₀ (f y0 y1)) :
    Steady s₀ (State.serveMgmt s k sub f) := by
  unfold State.serveMgmt
  repeat' split
  all_goals first
    | exact h_s
    | exact h_f _ _ (State.takeInbox_some (by assumption) h_s)
    | exact State.evalFlags_steady (h_f _ _ (State.takeInbox_some (by assumption) h_s))

@[simp] theorem State.doAdoptElapsed_steady {s₀ : State} {s : State} (h_s : Steady s₀ s) :
    Steady s₀ (State.doAdoptElapsed s) := by
  unfold State.doAdoptElapsed
  (repeat' split) <;> simp (config := { maxDischargeDepth := 40, contextual := true }) [*]

end Sys2Proof.Machine
end

