-- ==== Sys2Proof/Laws/SteadyRdma.lean ====
section
/-!
SUPPORT. The operations of Machine/Rdma.lean keep what Laws/Steady.lean says.
-/
namespace Sys2Proof.Machine

@[simp] theorem State.onRequest_steady {s₀ : State} {s : State} {rq : RdmaReq} {f : State → State} (h_s : Steady s₀ s)
    (h_f : ∀ y0, Steady s₀ y0 → Steady s₀ (f y0)) :
    Steady s₀ (State.onRequest s rq f) := by
  unfold State.onRequest
  simp (config := { maxDischargeDepth := 40, contextual := true }) [*]

@[simp] theorem State.onAdmitted_steady {s₀ : State} {s : State} {rq : RdmaReq} {len : Nat} {write atomic : Bool} {f :
    State → State} (h_s : Steady s₀ s) (h_f : ∀ y0, Steady s₀ y0 → Steady s₀ (f y0)) :
    Steady s₀ (State.onAdmitted s rq len write atomic f) := by
  unfold State.onAdmitted
  simp (config := { maxDischargeDepth := 40, contextual := true }) [*]

@[simp] theorem State.settleRequest_steady {s₀ : State} {s : State} {port a len : Nat} (h_s : Steady s₀ s) :
    Steady s₀ (State.settleRequest s port a len) := by
  unfold State.settleRequest
  simp (config := { maxDischargeDepth := 40, contextual := true }) [*]

@[simp] theorem State.writeMemory_steady {s₀ : State} {s : State} {rq : RdmaReq} {data : Bytes} (h_s : Steady s₀ s) :
    Steady s₀ (State.writeMemory s rq data) := by
  unfold State.writeMemory
  simp (config := { maxDischargeDepth := 40, contextual := true }) [*]

@[simp] theorem State.doRdmaWrite_steady {s₀ : State} {s : State} {rq : RdmaReq} {data : Bytes} (h_s : Steady s₀ s) :
    Steady s₀ (State.doRdmaWrite s rq data) := by
  unfold State.doRdmaWrite
  simp (config := { maxDischargeDepth := 40, contextual := true }) [*]

@[simp] theorem State.readReply_steady {s₀ : State} {s : State} {rq : RdmaReq} {data : Bytes} (h_s : Steady s₀ s) :
    Steady s₀ (State.readReply s rq data) := by
  unfold State.readReply
  simp (config := { maxDischargeDepth := 40, contextual := true }) [*]

@[simp] theorem State.readMemory_steady {s₀ : State} {s : State} {rq : RdmaReq} {len : Nat} (h_s : Steady s₀ s) :
    Steady s₀ (State.readMemory s rq len) := by
  unfold State.readMemory
  simp (config := { maxDischargeDepth := 40, contextual := true }) [*]

@[simp] theorem State.doRdmaRead_steady {s₀ : State} {s : State} {rq : RdmaReq} {len : Nat} (h_s : Steady s₀ s) :
    Steady s₀ (State.doRdmaRead s rq len) := by
  unfold State.doRdmaRead
  refine State.onAdmitted_steady h_s fun u hu => ?_
  split
  · extract_lets x
    have hx : Steady s₀ x.2 := State.ctlRead_steady hu
    clear_value x
    split
    · exact State.readReply_steady hx
    · exact hx
  · exact State.readMemory_steady hu

@[simp] theorem State.doAtomic_steady {s₀ : State} {s : State} {rq : RdmaReq} {f : W64 → Option W64} (h_s : Steady s₀ s) :
    Steady s₀ (State.doAtomic s rq f) := by
  unfold State.doAtomic
  refine State.onAdmitted_steady h_s fun u hu => ?_
  extract_lets r old s1
  have hr : Steady s₀ r.2 := State.remoteAccess_steady (State.settleRequest_steady hu)
  have h1 : Steady s₀ s1 := by
    dsimp only [s1]
    split
    · exact State.evalFlags_steady (State.remoteWrite_steady hr)
    · exact State.touchRange_steady hr
  clear_value s1 r
  exact Steady.ite hr (State.emit_steady h1)

end Sys2Proof.Machine
end

