-- ==== Sys2Proof/Laws/SteadyScans.lean ====
section
/-!
SUPPORT. The operations of Machine/Scans.lean keep what Laws/Steady.lean says.
-/
namespace Sys2Proof.Machine

@[simp] theorem State.startSelftest_steady {s₀ : State} {s : State} (h_s : Steady s₀ s) :
    Steady s₀ (State.startSelftest s) := by
  unfold State.startSelftest
  (repeat' split) <;> simp (config := { maxDischargeDepth := 40, contextual := true }) [*]

@[simp] theorem State.runSelftest_steady {s₀ : State} {s : State} {q : Nat} {c : Cmd} (h_s : Steady s₀ s) :
    Steady s₀ (State.runSelftest s q c) := by
  unfold State.runSelftest
  simp (config := { maxDischargeDepth := 40, contextual := true }) [*]

@[simp] theorem State.doSelftest_steady {s₀ : State} {s : State} {q : Nat} (h_s : Steady s₀ s) :
    Steady s₀ (State.doSelftest s q) := by
  unfold State.doSelftest
  simp (config := { maxDischargeDepth := 40, contextual := true }) [*]

@[simp] theorem State.testScratch_steady {s₀ : State} {s : State} {n : Nat} (h_s : Steady s₀ s) :
    Steady s₀ (State.testScratch s n).2 := by
  unfold State.testScratch
  try dsimp only
  (repeat' split) <;> first | assumption | simp (config := { maxDischargeDepth := 40, contextual := true }) [*]

@[simp] theorem State.testCore_steady {s₀ : State} {s : State} {n failed : Nat} (h_s : Steady s₀ s) :
    Steady s₀ (State.testCore s n failed).2 := by
  unfold State.testCore
  simp (config := { maxDischargeDepth := 40, contextual := true }) [*]

@[simp] theorem State.endSelftest_steady {s₀ : State} {s : State} {r : SelfRt} {was : List Nat} {failures : List (Nat ×
    Nat)} (h_s : Steady s₀ s) :
    Steady s₀ (State.endSelftest s r was failures) := by
  unfold State.endSelftest
  simp (config := { maxDischargeDepth := 40, contextual := true }) [*]

@[simp] theorem State.doSelftestComplete_steady {s₀ : State} {s : State} {failures : List (Nat × Nat)} (h_s : Steady s₀
    s) :
    Steady s₀ (State.doSelftestComplete s failures) := by
  unfold State.doSelftestComplete
  (repeat' split) <;> simp (config := { maxDischargeDepth := 40, contextual := true }) [*]

@[simp] theorem State.doSpareTest_steady {s₀ : State} {s : State} {failed : Nat} (h_s : Steady s₀ s) :
    Steady s₀ (State.doSpareTest s failed) := by
  unfold State.doSpareTest
  try dsimp only
  (repeat' split) <;> first | assumption | simp (config := { maxDischargeDepth := 40, contextual := true }) [*]

@[simp] theorem State.runInject_steady {s₀ : State} {s : State} {q : Nat} {c : Cmd} (h_s : Steady s₀ s) :
    Steady s₀ (State.runInject s q c) := by
  unfold State.runInject
  simp (config := { maxDischargeDepth := 40, contextual := true }) [*]

@[simp] theorem State.doInject_steady {s₀ : State} {s : State} {q : Nat} (h_s : Steady s₀ s) :
    Steady s₀ (State.doInject s q) := by
  unfold State.doInject
  simp (config := { maxDischargeDepth := 40, contextual := true }) [*]

@[simp] theorem State.newtSave_steady {s₀ : State} {s : State} {whole : Bool} {first n : Nat} (h_s : Steady s₀ s) :
    Steady s₀ (State.newtSave s whole first n) := by
  unfold State.newtSave
  simp (config := { maxDischargeDepth := 40, contextual := true }) [*]

@[simp] theorem State.newTok_steady {s₀ : State} {s : State} {k : Nat} {h : TokHdr} (h_s : Steady s₀ s) :
    Steady s₀ (State.newTok s k h).2 := by
  unfold State.newTok
  simp (config := { maxDischargeDepth := 40, contextual := true }) [*]

@[simp] theorem State.restoreQueue_steady {s₀ : State} {s : State} {n : Nat} {r : QueueRec} {hs : List TokHdr} (h_s :
    Steady s₀ s) :
    Steady s₀ (State.restoreQueue s n r hs) := by
  unfold State.restoreQueue
  simp (config := { maxDischargeDepth := 40, contextual := true }) [*]

@[simp] theorem State.restoreCore_steady {s₀ : State} {s : State} {n epoch : Nat} (h_s : Steady s₀ s) :
    Steady s₀ (State.restoreCore s n epoch) := by
  unfold State.restoreCore
  simp (config := { maxDischargeDepth := 40, contextual := true }) [*]

@[simp] theorem State.newtClaim_steady {s₀ : State} {s : State} (h_s : Steady s₀ s) : Steady s₀ (State.newtClaim s) := by
  unfold State.newtClaim
  simp (config := { maxDischargeDepth := 40, contextual := true }) [*]

@[simp] theorem State.newtFabric_steady {s₀ : State} {s : State} {whole : Bool} {im : Image} (h_s : Steady s₀ s) :
    Steady s₀ (State.newtFabric s whole im) := by
  unfold State.newtFabric
  simp (config := { maxDischargeDepth := 40, contextual := true }) [*]

@[simp] theorem State.newtCore_steady {s₀ s s' : State} {im : Image} {k : Nat} (h : Steady s₀ s') :
    Steady s₀ (State.newtCore s im s' k) := by
  unfold State.newtCore
  simp (config := { maxDischargeDepth := 40, contextual := true }) [*]

@[simp] theorem State.newtRestore_steady {s₀ : State} {s : State} {whole : Bool} {first n : Nat} (h_s : Steady s₀ s) :
    Steady s₀ (State.newtRestore s whole first n) := by
  unfold State.newtRestore
  simp (config := { maxDischargeDepth := 40, contextual := true }) [*]

@[simp] theorem State.newtStatus_steady {s₀ : State} {s : State} {e : Bytes} {dir status : Nat} (h_s : Steady s₀ s) :
    Steady s₀ (State.newtStatus s e dir status) := by
  unfold State.newtStatus
  simp (config := { maxDischargeDepth := 40, contextual := true }) [*]

@[simp] theorem State.runNewtSave_steady {s₀ : State} {s : State} {q : Nat} {c : Cmd} (h_s : Steady s₀ s) :
    Steady s₀ (State.runNewtSave s q c) := by
  unfold State.runNewtSave
  simp (config := { maxDischargeDepth := 40, contextual := true }) [*]

@[simp] theorem State.doNewtSave_steady {s₀ : State} {s : State} {q : Nat} (h_s : Steady s₀ s) :
    Steady s₀ (State.doNewtSave s q) := by
  unfold State.doNewtSave
  simp (config := { maxDischargeDepth := 40, contextual := true }) [*]

@[simp] theorem State.runNewtRestore_steady {s₀ : State} {s : State} {q : Nat} {c : Cmd} (h_s : Steady s₀ s) :
    Steady s₀ (State.runNewtRestore s q c) := by
  unfold State.runNewtRestore
  simp (config := { maxDischargeDepth := 40, contextual := true }) [*]

@[simp] theorem State.doNewtRestore_steady {s₀ : State} {s : State} {q : Nat} (h_s : Steady s₀ s) :
    Steady s₀ (State.doNewtRestore s q) := by
  unfold State.doNewtRestore
  simp (config := { maxDischargeDepth := 40, contextual := true }) [*]

end Sys2Proof.Machine
end

