-- ==== Sys2Proof/Tests/Slice0.lean ====
section
/-!
SUPPORT. The author's tests: for every statement with hypotheses a state and operands that meet them, for every check of
WellFormed a term that it refuses, and a few commands and functions with the values that the manual gives.
-/
namespace Sys2Proof.Machine
set_option Elab.async false

theorem test_meets_ScalarArithmeticIsRv32im : (31 : Nat) < 32 ∧ (0 : Nat) < 32 := by decide

/-! ### States for the tests -/

/-- A module of the full grade in READY, with the management link and front port 0 up. -/
def rig : State :=
  { State.reset with
    mainOk := true, refclk := true, mgmtLink := true, railMv := 750, hbmReady := true, cxlDone := true, capsValid := true,
    perstLow := false, regs := [(0x10000, 0x40000000)] }

/-- 128 bytes with the fields (offset, length, value) given. -/
def entry (fields : List (Nat × Nat × Nat)) : Bytes :=
  fields.foldl (fun b f => b.take f.1 ++ leBytes f.2.1 f.2.2 ++ b.drop (f.1 + f.2.1)) (List.replicate 128 0)

/-- A data cart of domain 0 in HBM. -/
def dataCart (k : Nat) : Nat × Cart := (k, { state := .hbm, frameA := k })

/-- The rig with queue 5 in STATE `st`: rings of 16 slots in carts 1 and 2, HEAD 3, TAIL 5, CQ_TAIL and CQ_HEAD 2, STEP_CTL, and these
commands. -/
def rigQ (st : Nat) (cmds : List Cmd) : State :=
  { rig with
    carts := (List.range 16).map fun k => dataCart (k + 1)
    queues := [(5, { cmds })]
    mem := [(ctxBase + 320 + 2, 1), (ctxBase + 320 + 10, 2), (ctxBase + 320 + 24, 4), (ctxBase + 320 + 25, 4), (ctxBase + 320 + 26, 4),
      (ctxBase + 320 + 32, 3), (ctxBase + 320 + 36, 5), (ctxBase + 320 + 40, 2), (ctxBase + 320 + 44, 2),
      (ctxBase + 320 + 48, 100)] ++ if st = 0 then [] else [(ctxBase + 320 + 56, BitVec.ofNat 8 st)] }

/-- The next command of queue 5, with index 2 and so sequence number 102, with the fields given. -/
def waits (fields : List (Nat × Nat × Nat)) : Cmd := { idx := 2, entry := entry ((4, 4, 102) :: fields) }

/-- A session of domain 0 attached on port 0. -/
def owner : Session := { state := .attached, owner := true, src := 7, rkey := 9 }

/-- The invariant as one test; `rs` names registers that may hold another value than their reset value. -/
def holdsInv (s : State) (rs : List Reg) : Bool :=
  s.memWf && (Sparse.sorted s.regs && s.regs.all fun e => rs.any fun r => Reg.offset r = e.1 && e.2 ≠ BitVec.ofNat 64 (Reg.resetValue s.grade r)) &&
    (Sparse.sorted s.queues && Sparse.sorted s.sessions && Sparse.sorted s.counters && Sparse.sorted s.sel && Sparse.sorted s.carts) &&
    (Sparse.sorted s.ver && Sparse.sorted s.cores && Sparse.sorted s.droop && Sparse.sorted s.taps && Sparse.sorted s.lports) &&
    (Sparse.sorted s.gens && Sparse.sorted s.cxlPorts && Sparse.sorted s.slots && Sparse.sorted s.migrations) &&
    (Sparse.sorted s.oldFrames && Sparse.sorted s.requests && decide (s.flash.q ≤ 4096 * s.fuses.lmsBlocks) && s.pending.all (·.wf))

theorem inv_of_holdsInv {s : State} (rs : List Reg) (h : holdsInv s rs = true) : s.Inv := by
  simp only [holdsInv, Bool.and_eq_true, List.all_eq_true, List.any_eq_true, decide_eq_true_eq, ne_eq] at h
  obtain ⟨⟨⟨⟨⟨hm, hr, ho⟩, ⟨⟨⟨h1, h2⟩, h3⟩, h4⟩, h5⟩, ⟨⟨⟨h6, h7⟩, h8⟩, h9⟩, h10⟩, ⟨⟨h11, h12⟩, h13⟩, h14⟩, ⟨⟨h15, h16⟩, h17⟩, h18⟩ := h
  refine ⟨hm, ⟨hr, fun e he => ?_⟩, h1, h2, h3, h4, h5, h6, h7, h8, h9, h10, h11, h12, h13, h14, h15, h16, h17, h18⟩
  obtain ⟨r, -, h⟩ := ho e he
  exact ⟨r, h⟩

/-- Registers that the states of the tests may have set. -/
def someRegs : List Reg := [.pwrStatus, .qdirStepStatus, .injStatus, .fabCoachSlot 1, .fabTmap 0, .hbmUpdStatus]

theorem rig_inv : rig.Inv := inv_of_holdsInv [.pwrStatus] (by decide +kernel)
theorem rigQ_inv : (rigQ 1 [waits [(0, 1, 1)]]).Inv := inv_of_holdsInv [.pwrStatus] (by decide +kernel)

/-! ### Hypotheses of the statements, met: queues -/

theorem test_meets_StepRunsFrontCommand : ({ rig with pending := [.nop 5] } : State).pending = .nop 5 :: [] := by decide +kernel
theorem test_meets_IdleCountsOnePeriod :
    rig.pending = [] ∧ Sparse.sorted rig.regs = true ∧ (rig.refclk && rig.auxOk) = true ∧ State.reset.pending = [] ∧
      (State.reset.refclk && State.reset.auxOk) = false := by decide +kernel
theorem test_meets_StepKeepsInvariant : ∃ t, rig.Inv ∧ step { rig with pending := [.nop 5] } = .next t := ⟨_, rig_inv, rfl⟩
theorem test_meets_CommandsKeepQueueAndGrade : ∃ t, exec (.commitSvn .mgmt) rig = .next t := ⟨_, rfl⟩
theorem test_meets_FusedStateOnlyAdvances :
    ∃ t, exec (.challenge 0 []) rig = .next t ∧ rig.flash.q ≤ 4096 * rig.fuses.lmsBlocks := ⟨_, rfl, by decide +kernel⟩

/-- The rig with an owner session in slot 1, a controller session of domain 1 in slot 2. -/
def rigS : State := { rig with sessions := [(1, owner), (2, { state := .attached, domain := 1, src := 7, rkey := 9 })] }

theorem test_meets_DeniedWritesAreRefused :
    (rigS.writes (.paceVsetWrite (.session 2) 700) = some (.session 2, .paceVset) ∧ rigS.denies (.session 2) .paceVset = true) ∧
      (rigS.writes (.paceVsetWrite .modctl 700) = some (.modctl, .paceVset) ∧ rigS.denies .modctl .paceVset = true) := by decide +kernel
theorem test_meets_AbsentAgentsDoNothing :
    (rigS.writes (.cntClear (.session 3)) = some (.session 3, .telCntCtrl) ∧ rigS.present (.session 3) = false) ∧
      ({ rig with mgmtLink := false } : State).present .mgmt = false ∧ ({ rig with auxOk := false } : State).present .modctl = false := by
  decide +kernel
theorem test_meets_DoorbellsFollowR300 :
    (let s := rigQ 4 []
     Sparse.sorted s.mem = true ∧ Sparse.sorted s.queues = true ∧ s.grants .mgmt (.qdirDoorbell 5) = true ∧
       s.grants .mgmt (.qdirCqDoorbell 5) = true ∧ s.qState 5 = 4 ∧ ((19 : W32) - s.qHead 5).toNat = 2 ^ s.ringLog2 5 ∧
       ((20 : W32) - s.qHead 5).toNat = 2 ^ s.ringLog2 5 + 1 ∧ ((2 : W32) - s.qCqHead 5).toNat ≤ (s.qCqTail 5 - s.qCqHead 5).toNat ∧
       ¬ ((3 : W32) - s.qCqHead 5).toNat ≤ (s.qCqTail 5 - s.qCqHead 5).toNat) ∧
    (rigQ 0 []).qState 5 = 0 ∧ (rigQ 0 []).grants .mgmt (.qdirDoorbell 5) = true := by decide +kernel
theorem test_meets_OpenFollowsR293 :
    (rigQ 0 []).mayOpen 5 = true ∧ (rigQ 1 []).mayOpen 5 = false ∧ (rigQ 0 []).grants .mgmt .qdirQctrl = true ∧
      Sparse.sorted (rigQ 0 []).mem = true ∧ Sparse.sorted (rigQ 0 []).queues = true ∧ Sparse.sorted (rigQ 0 []).sel = true := by
  decide +kernel

/-- A FLAG_WAIT in front that is frozen. -/
def frozenWait : Cmd := { waits [(0, 1, 4), (16, 8, 0x30000), (24, 8, 1)] with phase := .running, frozen := true }

theorem test_meets_QueueActionsFollowR328 :
    ([0, 1, 2, 3].all fun st => (rigQ st [frozenWait]).grants .mgmt .qdirQctrl && (rigQ st [frozenWait]).qState 5 = st) = true ∧
      ((rigQ 3 [frozenWait]).queue 5).cmds.find? (fun c => c.frozen) = some frozenWait ∧ frozenWait.isWait = true := by decide +kernel
theorem test_meets_HeldEntriesEndWithQueueHeld :
    ([2, 3].all fun st => (rigQ st [waits [(0, 1, 1)]]).grants .mgmt .qdirQctrl && (rigQ st [waits [(0, 1, 1)]]).qState 5 = st) = true ∧
      ((rigQ 2 [waits [(0, 1, 1)]]).queue 5).closing = false ∧
      ((rigQ 2 [waits [(0, 1, 1)]]).qTail 5 - (rigQ 2 [waits [(0, 1, 1)]]).qHead 5).toNat = 2 ∧
      Sparse.sorted (rigQ 2 [waits [(0, 1, 1)]]).mem = true := by decide +kernel

/-- Queue 5 with a stale entry at HEAD, read again `n` times. -/
def rigStale (n : Nat) : State := { rigQ 1 [] with queues := [(5, { stale := true, rereads := n })] }

theorem test_meets_FetchReadsTheEntryAtHead :
    (rigQ 1 []).mayFetch 5 = true ∧ ((rigQ 1 []).ringAccess 5 (0x10000 + 128 * 3) 128).1 = true ∧ ((rigQ 1 []).queue 5).stale = false ∧
      ([0, 6, 7].all fun n => (rigStale n).mayFetch 5 && ((rigStale n).ringAccess 5 (0x10000 + 128 * 3) 128).1 &&
        ((rigStale n).queue 5).stale && !(rigStale n).entryCurrent 5 3 ((rigStale n).bytes (0x10000 + 128 * 3) 128)) = true ∧
      (let s := (rigStale 0).setCart 1 { state := .lost }
       s.mayFetch 5 = true ∧ (s.ringAccess 5 (0x10000 + 128 * 3) 128).1 = false) := by decide +kernel
theorem test_meets_FetchReadsTheEntryAtHead_context :
    (rigQ 1 []).ctxMeets 5 = (false, rigQ 1 []) ∧
      (let s := { rigQ 1 [] with badWords := [(ctxBase + 320, 2)] }
       s.mayFetch 5 = true ∧ (s.ctxMeets 5).1 = true ∧ Sparse.sorted (s.ctxMeets 5).2.mem = true) := by decide +kernel
theorem test_meets_TakenEntryAdvancesHead :
    Sparse.sorted (rigQ 1 []).mem = true ∧ Sparse.sorted (rigQ 1 []).queues = true := by decide +kernel
theorem test_meets_PostWritesTheRecord :
    (let s := rigQ 1 [{ waits [(0, 1, 1)] with phase := .ended }]
     (s.queue 5).cmds = { waits [(0, 1, 1)] with phase := .ended } :: [] ∧ s.qState 5 ≠ 0 ∧
       ((2 : W32) - s.qCqHead 5).toNat < 2 ^ s.cqLog2 5 ∧ (s.ringAccess 5 (0x20000 + 16 * 2) 16).1 = true) ∧
      ((rigQ 1 [waits [(0, 1, 1)]]).queue 5).cmds = waits [(0, 1, 1)] :: [] := by decide +kernel
theorem test_meets_CompletionRecordFollowsR297 :
    ({ waits [(0, 1, 1)] with status := 255, unitKind := 15, detail := 2 ^ 48 - 1 } : Cmd).status < 256 ∧
      waits [(0, 1, 1)] ∈ ((rigQ 1 [waits [(0, 1, 1)]]).queue 5).cmds := by decide +kernel

/-! ### Hypotheses met: commands of queues -/

/-- The fields (offset, length, value) of cart 4: two tensor descriptors of one tile each, a collective's descriptor, a snapshot's
with its directory, an injection's. -/
def descriptors : List (Nat × Nat × Nat) :=
  [(4, 1, 2), (5, 1, 6), (8, 8, 0x50000), (24, 4, 1), (32, 8, 0x40100), (64, 4, 64), (68, 4, 1), (80, 4, 1), (96, 4, 64), (100, 4,
    1), (112, 4, 1), (0x204, 1, 2), (0x205, 1, 6), (0x208, 8, 0x60000), (0x218, 4, 1), (0x220, 8, 0x40100), (0x240, 4, 64), (0x244,
    4, 1), (0x250, 4, 1), (0x260, 4, 64), (0x264, 4, 1), (0x270, 4, 1), (0x408, 8, 0x40000), (0x410, 8, 0x40200), (0x418, 8,
    0x70000), (0x428, 4, 7), (0x607, 1, 1), (0x608, 8, 0x40700), (0x630, 8, 0x80000), (0x700, 4, 1), (0x710, 4, 1), (0x718, 8,
    266240), (0x908, 8, 0x40A00), (0xc00, 1, 1), (0xc02, 1, 1), (0xc14, 2, 1)]

/-- The memory of a queue that runs, with the descriptors at 0x40000. -/
def descMem : List Host.Cell :=
  (descriptors.flatMap fun f => ((leBytes f.2.1 f.2.2).zipIdx.map fun b => (0x40000 + f.1 + b.2, b.1)).filter fun c => c.2 ≠ 0) ++
    (rigQ 1 []).mem

/-- The rig with queue 5 running, the descriptors in memory, step 1 in progress, injections unlocked, and one command. -/
def rigC (fields : List (Nat × Nat × Nat)) : State :=
  (({ rigQ 1 [waits ((8, 4, 1) :: fields)] with mem := descMem } : State).setFld QdirStepStatus.inProgress 1).setFld
    InjStatus.unlocked 1

/-- The rig of `rigC` with no step in progress. -/
def rigO (fields : List (Nat × Nat × Nat)) : State := (rigC fields).setFld QdirStepStatus.inProgress 0

theorem test_meets_FlowCommandsComplete :
    ((rigC [(0, 1, 1)]).accepts (.nop 5)).isSome = true ∧ ((rigC [(0, 1, 2)]).accepts (.fence 5)).isSome = true ∧
    (((rigC [(0, 1, 3), (16, 8, 0x30000), (36, 4, 0xFFFFFF)]).accepts (.flagSet 5)).map fun x => x.1.flagLocal x.2.entry) = some true ∧
    (((rigC [(0, 1, 3), (16, 8, 0x30000), (36, 4, 7)]).accepts (.flagSet 5)).map fun x => x.1.flagLocal x.2.entry) = some false ∧
    ((rigC [(0, 1, 4), (16, 8, 0x30000)]).accepts (.flagWait 5)).isSome = true := by decide +kernel
theorem test_meets_CoachCommandsComplete :
    ((rigC [(0, 1, 0x20), (24, 8, 0x30000), (32, 4, 1024)]).accepts (.stage 5)).isSome = true ∧
    (((rigC [(0, 1, 0x20), (16, 1, 1)]).setFld (FabCoachSlot.state 0) 2).accepts (.activate 5)).isSome = true ∧
    (((rigC [(0, 1, 0x20), (16, 1, 1), (18, 1, 1)]).setFld (FabCoachSlot.state 0) 2).accepts (.forcedActivate 5)).isSome = true ∧
    ((rigC [(0, 1, 0x20), (16, 1, 2), (24, 8, 0x30000), (32, 4, 1024)]).accepts (.stageAndActivate 5)).isSome = true ∧
    ((rigC [(0, 1, 0x21), (16, 8, 0x30000), (24, 2, 1)]).accepts (.segmentRun 5)).isSome = true := by decide +kernel
theorem test_meets_DataCommandsComplete :
    ((rigC [(0, 1, 0x40), (16, 8, 0x50000), (24, 8, 0x60000), (32, 8, 64)]).accepts (.copy 5)).isSome = true ∧
    ((rigC [(0, 1, 0x41), (16, 8, 0x50000), (24, 8, 0x60000), (48, 4, 1), (52, 4, 1), (56, 1, 6)]).accepts
      (.copyTranspose 5)).isSome = true ∧
    ((rigC [(0, 1, 0x42), (16, 8, 0x40000), (24, 8, 0x40200), (32, 3, 0x10)]).accepts (.permuteCopy 5)).isSome = true ∧
    ((rigC [(0, 1, 0x43), (16, 8, 0x50000), (32, 8, 0x60000), (48, 8, 0x70000), (56, 4, 64), (60, 4, 64), (64, 4, 1), (68, 1, 6),
      (69, 1, 6)]).accepts (.gather 5)).isSome = true ∧
    ((rigC [(0, 1, 0x44), (16, 8, 0x50000), (32, 8, 0x60000), (48, 8, 0x70000), (56, 4, 64), (60, 4, 64), (64, 4, 1), (68, 1, 6),
      (69, 1, 8)]).accepts (.scatterAdd 5)).isSome = true ∧
    ((rigC [(0, 1, 0x45), (2, 1, 96), (16, 8, 0x50000)]).accepts (.inlineWrite 5)).isSome = true ∧
    ((rigC [(0, 1, 0x46), (16, 8, 0x50000), (24, 2, 1)]).accepts (.migrateHint 5)).isSome = true := by decide +kernel
theorem test_meets_CartCommandsComplete :
    ((rigC [(0, 1, 0x48), (16, 8, 0x200000), (24, 2, 1)]).accepts (.cartMap 5)).isSome = true ∧
    ((rigC [(0, 1, 0x49), (16, 8, 0x50000), (24, 2, 1)]).accepts (.cartFree 5)).isSome = true ∧
    ((rigC [(0, 1, 0x47), (16, 8, 0x50000), (24, 2, 1)]).accepts (.pin 5)).isSome = true ∧
    ((rigC [(0, 1, 0x47), (16, 8, 0x50000), (24, 2, 1), (32, 1, 1)]).accepts (.unpin 5)).isSome = true := by decide +kernel
theorem test_meets_EngineCommandsComplete_collectives :
    [(0x60, Instr.reduce 5), (0x61, .allReduce 5), (0x62, .allGather 5), (0x63, .reduceScatter 5), (0x64, .permute 5)].all (fun x =>
      ((rigC [(0, 1, x.1), (16, 8, 0x40400)]).accepts x.2).isSome) = true := by decide +kernel
theorem test_meets_EngineCommandsComplete :
    ((rigC [(0, 1, 0x80), (16, 8, 0x40800)]).accepts (.updateStream 5)).isSome = true ∧
    ((rigC [(0, 1, 0x81), (16, 8, 0x50000 + 6 <<< 48), (24, 4, 1), (32, 1, 2), (64, 8, 0x60000 + 6 <<< 48),
      (72, 8, 0x70000 + 6 <<< 48)]).accepts (.gradSum 5)).isSome = true ∧
    ((rigC [(0, 1, 0xA0), (16, 8, 0x40600)]).accepts (.snapArm 5)).isSome = true ∧
    ((rigC [(0, 1, 0xA1)]).accepts (.snapDisarm 5)).isSome = true ∧
    ((rigO [(0, 1, 0xA2), (16, 8, 0x40800)]).accepts (.snapRestore 5)).isSome = true ∧
    ((rigO [(0, 1, 0xA3), (16, 8, 0x40900)]).accepts (.lizardAdopt 5)).isSome = true ∧
    ((rigC [(0, 1, 0xC0), (18, 2, 1)]).accepts (.selftest 5)).isSome = true ∧
    ((rigC [(0, 1, 0xC1), (16, 8, 0x40C00)]).accepts (.inject 5)).isSome = true := by decide +kernel
theorem test_meets_NewtCommandsComplete :
    ((rigC [(0, 1, 0xC2)]).accepts (.newtScanSave 5)).isSome = true ∧
    ((rigC [(0, 1, 0xC2), (16, 1, 1)]).accepts (.newtScanRestore 5)).isSome = true := by decide +kernel

/-- `rigC` with the command in front running as the STEP_COMMIT that closes the step, with these marks. -/
def rigClose (marks : List Mark) : State :=
  { rigC [] with
    queues := [(5, { cmds := [{ waits [(0, 1, 0x23), (8, 4, 1)] with phase := .running, serial := 3 }] })]
    step := { (rigC []).step with closer := some (5, 2), marks } }

/-- A mark of the scratchpad detector. -/
def aMark : Mark := { status := 0x0A, det := 1, q := none, seq := 0, run := false, inj := false }

/-- A step in progress and STEP_BEGIN of step `n` dispatched before: it waits for the close. -/
def rigBegin (n : Nat) : State :=
  { rigO [] with queues := [(5, { cmds := [{ waits [(0, 1, 0x22), (8, 4, n)] with phase := .running, serial := 3 }] })] }

theorem test_meets_StepCommandsComplete :
    (((rigO [(0, 1, 0x22)]).accepts (.stepBegin 5)).map fun x =>
      (x.1.closePending, x.1.beginRefused (stepTag x.2.entry), decide (x.1.walk = .none))) = some (false, false, true) ∧
    ((((rigO [(0, 1, 0x22)]).setFld QdirStepStatus.closing 1).accepts (.stepBegin 5)).map fun x => x.1.closePending) = some true ∧
    ((rigBegin 1).waitingBegin 5).isSome = true ∧ (rigBegin 1).closePending = false ∧
      [0, 1].map (fun v => ((rigBegin 9).setFld QdirStepStatus.committedValid v).beginRefused 9) = [false, true] ∧
    ((rigC [(0, 1, 0x23)]).accepts (.stepCommit 5)).isSome = true ∧ ((rigC [(0, 1, 0x24)]).accepts (.stepAbandon 5)).isSome = true ∧
    [[], [aMark]].all (fun m => (rigClose m).step.closer = some (5, 2) &&
      ((rigClose m).cmd? 5 2).map (fun c => opcodeOf c.entry) = some 0x23 && !(rigClose m).boundBefore ((rigClose m).placeOf 5 2) &&
      (rigClose m).step.marks = m) = true := by decide +kernel

/-- `rigC` with a command of a domain that is not the queue's. -/
def otherDomain (op : Nat) : State := rigC [(0, 1, op), (12, 2, 9)]

theorem test_meets_RejectedCommandsOnlyEnd :
    [(0x01, Instr.nop 5), (0x02, .fence 5), (0x03, .flagSet 5), (0x04, .flagWait 5), (0x20, .stage 5), (0x21, .segmentRun 5),
      (0x22, .stepBegin 5), (0x23, .stepCommit 5), (0x24, .stepAbandon 5), (0x40, .copy 5), (0x43, .gather 5), (0x48, .cartMap 5),
      (0x49, .cartFree 5), (0x61, .allReduce 5), (0x80, .updateStream 5), (0xA0, .snapArm 5), (0xC1, .inject 5),
      (0xC2, .newtScanSave 5)].all (fun x => ((otherDomain x.1).rejects x.2).isSome) = true := by decide +kernel
/-- The memory of a command fails: a source cart of COPY and the image of STAGE are LOST, and so is the list of a SEGMENT_RUN. -/
theorem test_meets_RejectedCommandsOnlyEnd_memory :
    [((3, ([(0, 1, 0x40), (16, 8, 0x30000), (24, 8, 0x60000), (32, 8, 64)] : List (Nat × Nat × Nat))), Instr.copy 5),
      ((3, [(0, 1, 0x20), (24, 8, 0x30000), (32, 4, 1024)]), .stage 5),
      ((3, [(0, 1, 0x21), (16, 8, 0x30000), (24, 2, 1)]), .segmentRun 5)].all (fun x =>
        (((rigC x.1.2).setCart x.1.1 { state := .lost, kind := 0 }).misses x.2).isSome) = true := by decide +kernel


/-! ### Hypotheses met: the fabric -/

/-- A record of `size` bytes with the fields given. -/
def record (size : Nat) (fields : List (Nat × Nat × Nat)) : Bytes :=
  fields.foldl (fun b f => b.take f.1 ++ leBytes f.2.1 f.2.2 ++ b.drop (f.1 + f.2.1)) (List.replicate size 0)

/-- A section: its type and records. -/
def imageSec (ty : Nat) (recs : List Bytes) : Nat × Nat × Bytes := (ty, recs.length, recs.flatten)

/-- An operand record. -/
def operand (role src arg fmt tensor : Nat) : Bytes := record 32 [(0, 1, role), (1, 1, src), (2, 1, arg), (3, 1, fmt), (28, 4, tensor)]

/-- Three loop tables of one level: a matrix table with operands in place, a vector table, and a table of a gradient output that
leaves on queue 18. -/
def loopTables : Bytes :=
  record 32 [(1, 1, 1), (2, 1, 3)] ++ record 16 [(4, 4, 1)] ++ operand 0 0 0 6 1 ++ operand 1 0 0 6 1 ++ operand 3 0 0 6 2 ++
  (record 32 [(0, 1, 1), (1, 1, 1), (2, 1, 2)] ++ record 16 [(4, 4, 1)] ++ operand 0 0 0 6 1 ++ operand 3 0 0 6 2) ++
  (record 32 [(1, 1, 1), (2, 1, 3)] ++ record 16 [(4, 4, 1)] ++ operand 0 0 0 6 1 ++ operand 1 0 0 6 1 ++ operand 4 1 18 6 7)

/-- A QUEUE record. -/
def queueRec (core q kind unit route : Nat) : Bytes :=
  record 16 [(0, 2, core), (2, 1, q), (3, 1, kind), (4, 2, 4), (6, 1, unit), (8, 4, route)]

/-- A ROUTE record of class X. -/
def routeRec (sk dk src dst sq dq : Nat) : Bytes :=
  record 16 [(0, 1, sk), (1, 1, dk), (2, 2, src), (4, 2, dst), (6, 1, sq), (7, 1, dq), (8, 1, 1)]

/-- An image, with this word as the program of core 0, of two active cores: core 0 steers its control queue 0 and data queue 1 by selectors 0 to 3, and heads chain 0 on queue
2; its queues 16 and 17 end at core 1, 18 at an update engine, 19 at a Laulo port, 20 (control) and 21 at a checkpoint unit; a front
port, a Laulo port, a checkpoint unit and a command processor send to it; parameter 7 has its home in cart 8 of memory. -/
def imageOf (word : Nat) : Image :=
  { hdr := record 256 [],
    secs := [
      imageSec 0x0001 [record 32 [(0, 1, 1), (2, 1, 3), (8, 4, 4), (16, 4, 432)], record 32 [(0, 1, 1)]],
      imageSec 0x0002 [leBytes 4 word],
      imageSec 0x0003 [queueRec 0 0 1 1 1, queueRec 0 1 0 1 4, queueRec 0 2 0 6 7, queueRec 0 3 0 0 6, queueRec 0 16 2 1 0,
        queueRec 0 17 2 1 5, queueRec 0 18 2 2 2, queueRec 0 19 2 1 3, queueRec 0 20 3 1 8, queueRec 0 21 2 1 9,
        queueRec 1 0 0 1 0, queueRec 1 1 0 1 5],
      imageSec 0x0004 [routeRec 0 0 0 1 16 0, routeRec 1 0 0x2000 0 0 0, routeRec 0 1 0 0x5000 18 0, routeRec 0 1 0 0x1001 19 0,
        routeRec 1 0 0x1001 0 0 1, routeRec 0 0 0 1 17 1, routeRec 1 0 0x4000 0 0 3, routeRec 1 0 0x6000 0 0 2,
        routeRec 0 1 0 0x4000 20 0, routeRec 0 1 0 0x4000 21 0, routeRec 0 1 0 0x2000 22 0],
      imageSec 0x0005 ([(0, 0), (1, 1), (2, 2), (3, 3)].map fun x =>
        record 16 [(3, 1, 1), (4, 1, x.1), (5, 1, x.2), (6, 1, 16), (7, 1, 17)]),
      imageSec 0x0006 [loopTables],
      imageSec 0x0007 [record 16 [(2, 1, 15), (3, 1, 7), (8, 4, 0x10000), (12, 4, 0x10000)]],
      imageSec 0x0009 [record 32 [(0, 4, 7), (6, 1, 2), (8, 8, 0x80000), (16, 8, 8192)]],
      imageSec 0x000A [record 16 [(8, 4, 7), (12, 4, 1)]]] }

/-- The image with a program that does nothing. -/
def anImage : Image := imageOf 0x13

/-- A data token of one granule with its payload. -/
def token (epoch sel : Nat) : WaitTok :=
  { hdr := { dataHdr epoch 6 0 0 1 0x10000 0xFFFFFFFF with selector := sel }, values := List.replicate 64 1, scales := [],
    parent := none, inPlace := false }

/-- The rig with the image active and every credit at its sender. -/
def rigI : State :=
  { rig with
    image := some anImage, routes := anImage.freshRoutes,
    carts := [dataCart 4] ++ [(8, { state := .hbm, kind := 1, frameA := 8, frameB := 9 }), (9, { state := .hbm, kind := 2 })],
    mem := [(0x40003, 0x80)] ++ [(0x80008, 64), (0x8000C, 64), (0x80010, 64)] }

/-- The rig with a SEGMENT_RUN of one micro-batch (tag 0) in progress. -/
def rigR : State :=
  (({ rigI with seg := some { q := 5, idx := 2, tenants := [0], domain := 0 } } : State).setFld (FabTmap.valid 0) 1).setFld
    (FabTmap.base 0) 4

/-- The rig with this route as given. -/
def withRoute (s : State) (k : Nat) (f : RouteRt → RouteRt) : State := s.modRoute k f

theorem test_meets_TokenSendSpendsACredit :
    let s := withRoute rigI 0 fun x => { x with waiting := [token 0 0, token 0 1], inflight := [token 0 2] }
    s.image.isSome = true ∧ s.halted = false ∧ (s.im.route? 0).isSome = true ∧ (s.route 0).credits ≠ 0 ∧
      (s.route 0).waiting = token 0 0 :: [token 0 1] ∧ Sparse.sorted s.mem = true ∧ (token 0 0).hdr.epoch = s.epoch ∧
      (let u := withRoute rigI 0 fun x => { x with waiting := [token 1 0] }
       u.image.isSome = true ∧ u.halted = false ∧ (u.route 0).credits ≠ 0 ∧ (u.route 0).waiting = token 1 0 :: [] ∧
         (token 1 0).hdr.epoch ≠ u.epoch) := by decide +kernel
theorem test_meets_UnitTokensEnterTheFabric :
    rigI.image.isSome = true ∧ rigI.halted = false ∧ (rigI.im.route? 1).map (fun r => (r.srcKind, unitKindOf r.src)) = some (1, 2) ∧
      (rigI.im.route? 7).map (fun r => (r.srcKind, unitKindOf r.src)) = some (1, 6) ∧ (rigI.route 1).credits = 4 ∧
      (rigI.route 1).waiting = [] := by decide +kernel
theorem test_meets_HeadersEnterInOrder :
    let s := [0, 2, 3, 10].foldl (fun s k => withRoute s k fun x => { x with inflight := [token 0 0, token 1 0] }) rigI
    [0, 2, 3, 10].all (fun k => (s.route k).inflight = [token 0 0, token 1 0]) = true ∧
      [0, 2, 3, 10].map (fun k => (s.im.route? k).map fun r => (r.dstKind, unitKindOf r.dst)) =
        [some (0, 0), some (1, 5), some (1, 1), some (1, 2)] ∧
      (token 0 0).hdr.epoch = s.epoch ∧ (token 1 0).hdr.epoch ≠ s.epoch ∧ [0, 2, 3, 10].all (fun k => (s.im.route? k).any fun r =>
        !s.overtakes k r (token 0 0)) = true ∧
      (let u := withRoute (withRoute rigI 0 fun x => { x with inflight := [{ token 0 0 with seq := 3 }] }) 5 fun x =>
         { x with inflight := [{ token 0 0 with seq := 4 }] }
       (u.im.route? 5).any (fun r => u.overtakes 5 r { token 0 0 with seq := 4 }) = true ∧
         (u.route 5).inflight = { token 0 0 with seq := 4 } :: []) := by decide +kernel

/-- The rig with live tokens 0 (shared by token 1, whose references have ended) and 1, and a credit on its way on routes 0 and 4. -/
def rigL : State :=
  withRoute (withRoute ({ rigI with
    live := [(0, { hdr := (token 0 0).hdr, route := 1, refs := 2, parent := none }),
      (1, { hdr := (token 0 0).hdr, route := 0, refs := 0, parent := some 0 })] } : State) 0 fun x => { x with returning := 1 })
    4 fun x => { x with returning := 1 }

theorem test_meets_CreditsComeBack :
    ((rigL.tok? 1).map fun x => (x.refs, x.parent)) = some (0, some 0) ∧ ((rigL.tok? 0).map (·.refs)) = some 2 ∧
      (rigL.route 0).returning ≠ 0 ∧ (rigL.route 4).returning ≠ 0 ∧
      (rigL.im.route? 4).map (fun r => (r.srcKind, unitKindOf r.src)) = some (1, 1) ∧
      (rigL.im.route? 0).map (·.srcKind) = some 0 := by decide +kernel

/-- The run with a control token of selector `sel` and a data token at the heads, and `n` entries in the deferred list. -/
def rigSteer (sel n : Nat) : State :=
  { rigR with
    cores := [(0, { queues := [(0, [0]), (1, [1]), (2, [2])], deferred := List.replicate n 1 })],
    live := [(0, { hdr := (token 0 sel).hdr, route := 1, refs := 1, parent := none }),
      (1, { hdr := (token 0 0).hdr, route := 4, refs := 1 + n, parent := none }),
      (2, { hdr := (token 0 0).hdr, route := 7, refs := 1, parent := none })] }

theorem test_meets_SteeringFollowsR117 :
    (rigSteer 0 0).working = true ∧ (rigSteer 0 0).injections = [] ∧ (rigSteer 0 0).coreQ 0 0 = 0 :: [] ∧
      (((rigSteer 0 0).im.steerRecs.filter fun r => r.core = 0 && r.ctrlQ = 0).head?.map fun r => (rigSteer 0 0).coreQ 0 r.dataQ) =
        some (1 :: []) ∧
      [(0, 0), (1, 0), (2, 0), (3, 31), (3, 32), (4, 0)].map (fun x =>
        let s := rigSteer x.1 x.2
        (((s.im.steerRecs.filter fun r => r.core = 0 && r.ctrlQ = 0).find? fun r => r.sel = (s.tokHdr 0).selector).map (·.action),
          decide ((s.core 0).deferred.length < 32), s.outFree 0 16, s.outFree 0 17)) =
        [(some 0, true, true, true), (some 1, true, true, true), (some 2, true, true, true), (some 3, true, true, true),
          (some 3, false, true, true), (none, true, true, true)] := by decide +kernel
theorem test_meets_CarriageForwardsItsHead :
    (rigSteer 0 0).working = true ∧ (rigSteer 0 0).injections = [] ∧ ((rigSteer 0 0).im.chainIn 0 0).map (·.q) = some 2 ∧
      (rigSteer 0 0).coreQ 0 2 = 2 :: [] ∧ (rigSteer 0 0).im.chainOut 0 0 = none := by decide +kernel

/-- The run with a complete tile of table 0, and a gradient tile at an update engine on route 2. -/
def rigE : State :=
  let t : AccTile := { table := 0, tile := 0, first := 0, out := 0, adds := 1, vals := [], complete := true, spilled := false, mb := 0,
                       tenant := 0 }
  withRoute { rigR with cores := [(0, { acc := [t] })] } 2 fun x =>
    { x with unitIn := [{ token 0 0 with values := List.replicate 8192 0 }] }

theorem test_meets_EnginesRunTheirTables :
    (rigR.working = true ∧ rigR.injections = [] ∧ (rigR.pickTable 0).map (·.2) = some 0) ∧
    ((rigE.table? 0 0).bind (·.out?)).map (rigE.outReady 0) = some true ∧
    ((rigE.core 0).acc.find? fun a => a.table = 0 && a.complete).isSome = true ∧
    ((rigR.table? 0 1).map fun t => rigR.canVector 0 1 t) = some true ∧
    rigE.halted = false ∧ (rigE.im.route? 2).map (fun r => (r.dstKind, unitKindOf r.dst)) = some (1, 5) ∧
    ((rigE.im.route? 2).bind fun r => rigE.im.gradOut r.src r.srcQ).map (·.tensor) = some 7 ∧ (rigE.im.param? 7).isSome = true ∧
    ((rigE.route 2).unitIn.map fun w => (w.values.length, tileBytes w.hdr.fmt)) = [(8192, 8192)] ∧
    (let s := withRoute rigE 2 fun x => { x with unitIn := [{ token 0 0 with values := List.replicate 4096 0 }] }
     (s.route 2).unitIn.map fun w => (w.values.length * 2, tileBytes w.hdr.fmt)) = [(8192, 8192)] := by decide +kernel

/-- The run with this word as the program of core 0, which runs at byte `pc` with x1 at the token registers. -/
def rigScalar (word pc : Nat) : State :=
  { rigR with
    image := some (imageOf word),
    cores := [(0, { scalar := { running := true, pc := BitVec.ofNat 32 pc, x := [(1, 0x04000000)] } })] }

theorem test_meets_ScalarRowsRunTheProgram :
    (rigR.working = true ∧ rigR.injections = [] ∧ (rigR.im.core 0).progLen = 4 ∧ (rigR.hart 0).running = false ∧
      (rigR.hart 0).faulted = false ∧ (rigR.hart 0).halted < rigR.batches.length) ∧
    [(0x00000013, ScalarKind.other), (0x0020A423, .send), (0x00C0A103, .take)].all (fun x =>
      let s := rigScalar x.1 0
      s.working && s.injections.isEmpty && (s.hart 0).running && (s.hart 0).pc.toNat < (s.im.core 0).progLen &&
        (s.hart 0).kind (BitVec.ofNat 32 (leField (s.im.prog 0) (s.hart 0).pc.toNat 4)) = x.2) = true ∧
    ((rigScalar 0x13 4).hart 0).running = true ∧ ((rigScalar 0x13 4).im.core 0).progLen ≤ ((rigScalar 0x13 4).hart 0).pc.toNat := by
  decide +kernel
theorem test_meets_ScalarFaultStopsTheProgram :
    (767 : Nat) < 768 ∧ Sparse.sorted rigR.regs = true ∧ Sparse.sorted rigR.cores = true ∧ (rigR.seg.map (·.q)) = some 5 ∧ (5 : Nat) < 1048576 := by decide +kernel

/-- The run with a SAVE order at a checkpoint unit, and a RESTORE order in another state. -/
def rigCk (sel : Nat) : State :=
  withRoute rigR 8 fun x => { x with unitIn := [{ token 0 sel with hdr := { (token 0 sel).hdr with control := true } }] }

theorem test_meets_CheckpointsAndFeedsRun :
    (rigCk 0).image.isSome = true ∧ (rigCk 0).halted = false ∧ [0, 1].all (fun n => ((rigCk n).takeOrder 0x4000 0 (· ≠ 2)).isSome) = true ∧
      ((rigCk 2).takeOrder 0x4000 0 (· = 2)).isSome = true ∧ ((rigCk 0).ckptOf 0x4000 0) = none ∧
    (let f := rigR.im.feed? 7
     let r : SegRt := { q := 5, idx := 2, tenants := [0], domain := 0 }
     rigR.working = true ∧ f.map (fun x => (x.1.tiles, x.2.home)) = some (1, 0x80000) ∧ rigR.seg = some r ∧ rigR.canSend 7 = true ∧
      0 < r.tenants.length * 1 ∧ Sparse.get 0 r.feeds 7 = 0 ∧ rigR.slotFree 7 0x10000 = true ∧
        (rigR.im.windowRecs.find? fun w => w.core = 0 && w.w = 15).map (·.base) = some 0x10000 ∧
      let look := ({ rigR with seg := some { r with feeds := Sparse.set 0 r.feeds 7 1 } } : State).tmapLookup 0 0
      look.1 = some 0 ∧ 0 < (look.2.geom 0x80000).units true) := by decide +kernel

/-! ### Hypotheses met: coach changes, segment ends, steps -/

/-- The rig with slot 1 VALID and an ACTIVATE of it, of queue 5, that may proceed. -/
def rigA : State :=
  ({ rigQ 1 [{ waits [(0, 1, 0x20), (16, 1, 1), (17, 1, 1)] with phase := .running }] with
    acts := [{ q := 5, idx := 2, slot := 1, force := false }], slots := [(1, record 256 [])] } : State).setFld (FabCoachSlot.state 1) 2

theorem rigA_inv : rigA.Inv := inv_of_holdsInv someRegs (by decide +kernel)
theorem test_meets_CoachChangeActivatesASlot :
    rig.acts = [] ∧
    ({ rigA with seg := rigR.seg } : State).mayChange { q := 5, idx := 2, slot := 1, force := false } = false ∧
    (rigA.mayChange { q := 5, idx := 2, slot := 1, force := false } = true ∧ rigA.slotValid 1 = true ∧ rigA.injections = [] ∧
      ((rigA.queue 5).cmds.map (·.idx)) = [2]) := by decide +kernel
theorem test_meets_SegmentEndFollowsR126 :
    rigR.seg.isSome = true ∧ rigR.halted = false ∧ rigR.segmentEnded = false ∧
      ({ rigR with seg := some { q := 5, idx := 2, tenants := [], domain := 0, errs := [(0x0A, 1, 0, 0)] } } : State).halted = true := by
  decide +kernel

/-- The rig with an empty image and a SEGMENT_RUN of queue 5 that has drained. -/
def rigDone : State :=
  { rigQ 1 [{ waits [(0, 1, 0x21)] with phase := .running }] with
    image := some { hdr := [], secs := [] }, seg := some { q := 5, idx := 2, tenants := [0], domain := 0 } }

theorem rigDone_inv : rigDone.Inv := inv_of_holdsInv someRegs (by decide +kernel)
theorem test_meets_DrainedRunEndsWithOk :
    rigDone.segmentEnded = true ∧ rigDone.leftTokens = [] ∧ rigDone.injections = [] ∧ ((rigDone.queue 5).cmds.map (·.idx)) = [2] := by
  decide +kernel

/-- Queue 5 waits at a FLAG_WAIT for a flag that stays 0; `remote` is its byte of REMOTE, with a timeout. -/
def rigWait (remote : Nat) : State :=
  rigQ 1 [{ waits [(0, 1, 4), (16, 8, 0x30000), (24, 8, 1), (33, 1, remote), (36, 4, 9 * remote)] with phase := .running }]

/-- A run whose only core waits for a token of another core. -/
def rigStuck : State :=
  { rig with
    image := some
      { hdr := [], secs := [
        imageSec 0x0001 [record 32 [(0, 1, 1), (2, 1, 1), (16, 4, 112)]], imageSec 0x0003 [queueRec 0 0 0 0 0],
        imageSec 0x0004 [routeRec 0 0 0 0 16 0],
        imageSec 0x0006 [record 32 [(0, 1, 1), (1, 1, 1), (2, 1, 2)] ++ record 16 [(4, 4, 1)] ++ operand 0 1 0 6 1 ++ operand 3 0 0 6 2]] },
    seg := some { q := 5, idx := 2, tenants := [0], domain := 0 } }

theorem test_meets_DetectorsFindDeadlock :
    (rigStuck.injections = [] ∧ (rigStuck.seg.map (·.stuck)) = some false ∧ rigStuck.halted = false ∧ rigStuck.segmentEnded = false ∧
      rigStuck.quiescent = true ∧ rigStuck.allInside = true) ∧
    (rigR.allInside = false ∧ rigR.injections = []) ∧
    (let s := rigWait 1
     ((s.queue 5).cmds.find? (·.isWait)).map (fun c => (waitRemote c.entry, decide (waitTimeout c.entry ≠ 0), s.waitHolds c.entry)) =
       some (true, true, false)) := by decide +kernel
theorem rigWait_inv : (rigWait 0).Inv := inv_of_holdsInv someRegs (by decide +kernel)
theorem test_meets_DeadlockFreezesTheWaitSet :
    let s := rigWait 0
    s.injections = [] ∧ s.queueNums = [5] ∧ (s.stuckWait 5).isSome = true ∧ (∀ c ∈ (s.queue 5).cmds, s.idleCmd 5 c = true) ∧
      s.quiescent = true ∧ s.flagArriving = false := by decide +kernel
theorem rigO_inv : (rigO [(0, 1, 0x22)]).Inv := inv_of_holdsInv someRegs (by decide +kernel)
theorem test_meets_StepBeginOpensTheStep :
    let s := rigO [(0, 1, 0x22)]
    ((s.accepts (.stepBegin 5)).map fun x => (x.1.closePending, x.1.beginRefused (stepTag x.2.entry), decide (x.1.walk = .none))) =
      some (false, false, true) := by decide +kernel
theorem rigClose_inv : (rigClose []).Inv := inv_of_holdsInv someRegs (by decide +kernel)
theorem test_meets_CommitPointCommitsTheStep :
    let s := rigClose []
    s.step.closer = some (5, 2) ∧ ((s.cmd? 5 2).map fun c => (opcodeOf c.entry, s.boundBefore c.serial)) = some (0x23, false) ∧
      s.step.marks = [] ∧ s.sweepHolds = false := by decide +kernel
theorem test_meets_StepRecordFollowsR406 :
    rig.step.logFirst < 2 ^ 32 ∧ ({ rig.step with first := some { aMark with q := some 1048575 } } : StepSt).first.map
      (fun m => (decide (m.status < 256), decide (m.det < 256), m.q)) = some (true, true, some 1048575) := by decide +kernel

/-- The rig in a walk, with P of two pages set. -/
def rigWalk (w : Walk) : State :=
  ({ rig with walk := w, ver := [(4, { p := true }), (5, { v := true, p := true })] } : State).setFld HbmUpdStatus.walk 1

theorem rigWalk_inv : (rigWalk .commit).Inv ∧ (rigWalk .abandon).Inv :=
  ⟨inv_of_holdsInv someRegs (by decide +kernel), inv_of_holdsInv someRegs (by decide +kernel)⟩
theorem test_meets_WalksFollowR245 :
    (rigWalk .commit).walk = .commit ∧ (rigWalk .commit).walkHeld = false ∧ (rigWalk .abandon).walk = .abandon ∧ rig.walk = .none ∧
      ({ rigWalk .commit with carts := [(8, { state := .toHbm, kind := 1 })], migrations := [(8, { active := true })] } : State).walkHeld = true := by decide +kernel

/-- The rig with a collective that reduces, of descriptor 0x40400, open at its root with an allowance. -/
def rigColl : State :=
  { rigQ 1 [] with
    mem := ((rigC []).setRaw 0x4042C (leBytes 4 5)).mem,
    colls := [{ q := 5, idx := 2, op := 0x60, collId := 7, step := 1, desc := 0x40400, engine := 0 }] }

/-- The rig with a committed generation open in slot 0 of an arm that names HBM of this device, and what follows its header. -/
def rigGen (period : Nat) : State :=
  { rig with
    carts := [dataCart 8], step := {}, gens := [(0, { state := 1, committed := true })],
    snapArm := some { first := 1, period, sweepWait := false, entries := [], dir := [],
                      targets := [⟨rig.pos, 0, 0x80000⟩, ⟨rig.pos, 0, 0x80000⟩], length := 4096, domain := 0 } }

theorem test_meets_TestsAndTimersEnd :
    ((rigColl.colls.find? fun c => c.collId = 7 && !c.closed).map fun c =>
      ((rigColl.collInfo c.op c.desc).flows.find? (rigColl.collInfo c.op c.desc).governs).isSome) = some true ∧
    rig.drainWindow = true ∧
    ((rig.setFld FabSpareTest.en 1).flag FabSpareTest.en = true ∧ (rig.setFld FabSpareTest.en 1).railMv ≠ 0 ∧
      ((((List.range rig.grade.rows).map fun k => (rig.spareNext + k) % rig.grade.rows).find?
        (rig.setFld FabSpareTest.en 1).spareTested) = some 0)) ∧
    ([0, 1].all fun p =>
      let s := rigGen p
      s.snapArm.isSome && s.openGen = some 0 && (s.gen 0).committed && (s.gen 0).waiting = [] &&
        (s.snapArm.map fun a => ((s.snapPut 0 0 (s.snapHeader a 0 2 (s.gen 0).gov)).gen 0).state) = some 1) = true := by decide +kernel

/-! ### Hypotheses met: registers, pace, tiers -/

theorem test_meets_PortAndSecurityWritesTakeEffect :
    [Reg.lauPortCfg 0, .lauPortCfg 7, .lauRoute 63, .ethPartnerHi 3, .ethPartnerLo 3, .secUnlockCtl, .secCtrl, .pwrCtrl,
      .pwrResetCtrl].all (rig.grants .mgmt) = true ∧ (7 : Nat) < rig.grade.laulo ∧ rig.pwr = 4 ∧ rig.noFirmware = false := by
  decide +kernel
theorem test_meets_RegisterWritesTakeEffect :
    [Reg.fabDomCtl, .coreWinOpen 767, .fabTmap 63, .paceVset, .fabEdgeWeight 1, .fabSpare 31, .fabGovCtrl, .cxlCartQuery, .ethSessQuery,
      .telCntCtrl, .telEvtHead, .telTeleIdx].all (rig.grants .mgmt) = true ∧
    (767 : Nat) < rig.grade.cores ∧ 767 < rig.usableCores ∧ 31 < rig.grade.rows ∧ rig.present .mgmt = true ∧
    (rig.writeTarget (Reg.offset .paceVset) 4).map (fun r => (decide (r = .paceVset), rig.mayWrite .mgmt (Reg.offset r))) = some (true, true) ∧
    rig.writeTarget 0x3FFFFFC 4 = none ∧
    readForm (Reg.offset .telEvtStatus) 8 = true ∧ rig.mayRead .mgmt (Reg.offset .telEvtStatus) = true ∧
    (rig.slotReg (Reg.offset .telEvtStatus)).isSome = true ∧ rig.mgmtLink = true ∧ rig.badWords = [] ∧ rig.injections = [] := by
  decide +kernel
/-- The management channel at the last word of the step-record area, in the newt area, at a data cart, at the end of the control
space. -/
theorem test_meets_RegisterWritesTakeEffect_reserved :
    [areaBase 9 - 8, areaBase 1, 0x30000].map (fun x => (rig.allReserved x 8, decide (ctlBase ≤ x))) =
      [(true, false), (true, false), (false, false)] ∧ rig.fld SecStatus.scope < 2 ∧ areaBase 1 < areaBase 1 + 8 ∧
      ¬ areaBase 9 - 8 < areaBase 1 + (areaOf 1).2 ∧ (67108863 : Nat) < 67108864 := by decide +kernel

/-- The rig with a counter one below saturation, a saturated one, and the management channel's CNT_SEL at the first. -/
def rigCnt : State :=
  { rig with
    counters := [(2 ^ 20 + 5, { count := 2 ^ 64 - 2 }), (3 * 2 ^ 20, { count := 2 ^ 64 - 1, ovf := true })],
    sel := [(4096, { cnt := 2 ^ 20 + 5 })] }

theorem test_meets_CountersFollowR511 :
    Sparse.sorted rigCnt.counters = true ∧ (rigCnt.counter 1 5).count + 1 = 0xFFFFFFFFFFFFFFFF ∧ (rigCnt.counter 1 5).ovf = false ∧
      rigCnt.counter 3 0 = { count := 0xFFFFFFFFFFFFFFFF, ovf := true } ∧ (rigCnt.selOf .mgmt).cnt = 1 * 2 ^ 20 + 5 ∧
      rigCnt.present .mgmt = true ∧ rigCnt.mayRead .mgmt (Reg.offset .telCntVal) = true := by decide +kernel

/-- The rig with the dies of the grade in the four phases of the fast loop, the last one slot before its end. -/
def rigDroop : State :=
  { rig with droop := [(1, { phase := .active, slots := 10, stretched := true }), (2, { phase := .recovered, slots := 10, stretched := true }),
                       (3, { phase := .releasing, slots := 15, stretched := true })] }

theorem rigDroop_inv : rigDroop.Inv := inv_of_holdsInv someRegs (by decide +kernel)
theorem test_meets_FastLoopFollowsR30 :
    rigDroop.injections = [] ∧ rigDroop.railsUp = true ∧ 3 < rigDroop.grade.dies ∧
      [0, 1, 2, 3].map (fun d => (rigDroop.droopOf d).phase) = [.none, .active, .recovered, .releasing] ∧
      16 ≤ (rigDroop.droopOf 3).slots + 1 ∧ (rigDroop.counter 0x00D 0).count < 2 ^ 64 - 1 := by decide +kernel

/-- The rig with the replica pair 0 at tap 63 and pair 1 at tap 40. -/
def rigTaps : State := { rig with taps := [(0, { tap := some 63 }), (1, { tap := some 40 })] }

/-- Bank 31 lies at line 31 of row 0, and the two lines at the ends of a stride of 2^8 lie in banks 0 and 31. -/
theorem test_bank : bankOf 0x1F00 = 31 ∧ bankRow 0x1F00 = 0 ∧ bankOf 0x2000 = 1 ∧ bankLine 1 1 = 0x2000 ∧ bankOf 0x1FFFFF = bankOf 0x1FFF00 := by
  decide +kernel
/-- A junction at its target holds the fraction; one above it, or 1 s of power above LIMIT_W, asks for less than the floor. -/
theorem test_envelope :
    ({ rig with dieTemp := [(0, rig.fld PaceEnvLimit.tjTargetC)] } : State).overEnvelope = false ∧
      ({ rig with dieTemp := [(0, rig.fld PaceEnvLimit.tjTargetC + 1)] } : State).overEnvelope = true ∧
      ((rig.setFld PwrInPower.p1sW 65535).setFld PwrStatus.vin10mv 4800).overEnvelope = true := by decide +kernel

theorem rigTaps_inv : rigTaps.Inv := inv_of_holdsInv someRegs (by decide +kernel)
theorem test_meets_PaceAndHealthRowsRun :
    rig.railsUp = true ∧ rig.injections = [] ∧ rig.auxOk = true ∧ (767 : Nat) < rig.grade.cores ∧ (2097151 : Nat) < 2097152 ∧
    3 < rig.grade.dies ∧ (rig.setPwr 6).pwr = 6 ∧
    (rigTaps.tapOf 0 = 63 ∧ rigTaps.tapOf 1 = 40 ∧ (Sparse.get {} rigTaps.taps 1 : Tap).wait = 0) ∧ rig.badWords = [] ∧
    rig.scrubRow < 256 ∧ [0, 0x2000].map bankRow = [0, 1] ∧ rig.scrubRow = 0 ∧ ({ rig with healthDone := false } : State).healthDone = false ∧
    rig.fld TelIntervalCnt.count % 100000 = 0 ∧ (rig.setFld PwrInPower.p1sW 65535).fld PaceEnvLimit.limitW < 65535 ∧
    (let s := ({ rig with sampleDone := false } : State).setFld TelSampleCfg.periodUs 10
     s.fld TelSampleCfg.periodUs ≠ 0 ∧ s.hbmReady = true ∧ s.sampleDone = false ∧
      s.fld TelIntervalCnt.count % (s.fld TelSampleCfg.periodUs * 100) = 0 ∧ (s.setFld TelTeleIdx.tail 64).fld TelTeleIdx.head = 0) := by decide +kernel

/-- The rig with both CXL ports, LOW_FRAMES at every HBM frame, data carts in HBM and below, two carts on the way (the second with
a dirty line), old frames of cart 3, and a command of queue 5 that runs. -/
def rigTier : State :=
  let s := (rigQ 1 [{ waits [(0, 1, 0x40), (16, 8, 0x80000), (24, 8, 0x90000), (32, 8, 64)] with phase := .running }])
  (({ s with
      carts := [(3, { state := .hbm, frameA := 3, lastTouch := 0xFFFFFF00 }), dataCart 4, (5, { state := .toCxl, frameA := 5 }), (6, { state := .toHbm, frameA := cxlFrame 0 0 }),
        (7, { state := .lost }), (8, { state := .cxl, frameA := cxlFrame 0 2 })],
      migrations := [(5, { targetA := cxlFrame 0 1, active := true }), (6, { targetA := 6, dirty := [1], rounds := 3, active := true })],
      oldFrames := [(3, [17])], cxlPorts := [(0, { frames := 65536, present := true }), (1, { present := true })] } : State).setFld
    (CxlPortStatus.up 0) 1).setFld CxlPoolCfg.lowFrames (2 ^ 32 - 1)

theorem rigTier_inv : rigTier.Inv := inv_of_holdsInv (someRegs ++ [.cxlPortStatus 0, .cxlPoolCfg]) (by decide +kernel)
theorem test_meets_TierRowsFollowR266ToR274 :
    (rig.retryPins.mustEvict = false ∧ rigTier.retryPins.mustEvict = true ∧ rigTier.retryPins.victim = some 3 ∧
      Sparse.sorted rigTier.retryPins.carts = true ∧
      (let s := ({ rigTier with carts := [(7, { state := .lost })] } : State).retryPins
       s.victim = none ∧ s.mustEvict = true)) ∧
    ([5, 6].map (fun h => ((Sparse.get {} rigTier.migrations h : Migration).active, (Sparse.get {} rigTier.migrations h : Migration).dirty,
      (rigTier.cart h).state)) = [(true, [], .toCxl), (true, [1], .toHbm)]) ∧
    ([5, 6].map rigTier.migrationDown = [false, false] ∧ (rigTier.setFld (CxlPortStatus.up 0) 0).migrationDown 5 = true) ∧
    (let s := { rigTier with migrations := [(5, { targetA := cxlFrame 0 1, rounds := 4, active := true })] }
     cartsOf 0x50000 64 = [5] ∧ s.headOf 5 = 5 ∧ (Sparse.get {} s.migrations 5 : Migration).rounds = 4 ∧
       (Sparse.get {} s.migrations 5 : Migration).dirty = [] ∧ s.migrationDown 5 = false ∧
       (Sparse.sorted s.carts && Sparse.sorted s.migrations && Sparse.sorted s.oldFrames) = true) ∧
    rigTier.oldHomeUsed 3 = false ∧ (0 : Nat) < 2 ∧
    Sparse.get [] rigTier.oldFrames 3 = [17] ∧ rigTier.portInUse 0 = true ∧ rigTier.canFail 8 none = true ∧
    rigTier.canFail 8 (some 5) = true ∧ rigTier.seg = none ∧ (rigTier.accessor 5 8).map (·.phase) = some .running ∧
    ({ rigTier with seg := rigR.seg } : State).canFail 8 (some 5) = true ∧ (rigR.seg.map (·.q)) = some 5 ∧
    rigTier.flag (CxlPortStatus.up 0) = true ∧ (Sparse.get {} rigTier.cxlPorts 1 : CxlPort).present = true ∧
    rigTier.flag (CxlPortStatus.up 1) = false := by decide +kernel

/-! ### Hypotheses met: links, front ports, identity, power -/

/-- A frame of 16 flits of class X. -/
def aFrame : LFrame :=
  frameSealed { flits := List.replicate 16 { cls := 1, first := false, data := List.replicate 64 0 }, fseq := 0, ack := 0,
                credits := [1, 2, 3, 65535], nak := false, retrain := true, crc := 0 }

theorem test_meets_FramesAndPacketsSurviveTheLink :
    (aFrame.flits.length = 16 ∧ (∀ x ∈ aFrame.flits, x.cls < 8 ∧ x.data.length = 64) ∧ aFrame.credits.length = 4 ∧
      (∀ c ∈ aFrame.credits, c < 65536) ∧
      ∀ j, j < 8 → ((([(0, 1), (8, 2), (1087, 255), (1079, 1)] : List (Nat × Byte)).filter fun e => e.2 ≠ 0 && e.1 < 1088).filter
        fun e => e.1 % 8 = j).length ≤ 2) ∧
    (let p : Packet := { cls := 3, kind := 255, hops := 255, dst := 2 ^ 24 - 1, src := 2 ^ 24 - 1, step := 2 ^ 32 - 1, domain := 65535,
                         reqId := 2 ^ 32 - 1, addr := 2 ^ 64 - 1, arg := List.replicate 32 7, pay := List.replicate 128 9 }
     p.kind < 256 ∧ p.hops < 256 ∧ p.dst < 2 ^ 24 ∧ p.src < 2 ^ 24 ∧ p.step < 2 ^ 32 ∧ p.domain < 65536 ∧ p.reqId < 2 ^ 32 ∧
      p.addr < 2 ^ 64 ∧ p.arg.length = 32 ∧ p.pay.length % 64 = 0) := by decide +kernel

/-- The rig with Laulo port 7 in a state. -/
def rigLau (st : Nat) (l : LPort) : State := ({ rig with lports := if l = {} then [] else [(7, l)] } : State).setFld (LauPortStatus.state 7) st

theorem test_meets_LinkRowsFollowR370AndR479 :
    (7 : Nat) < rig.grade.laulo ∧ (rigLau 2 {}).lauUp 7 = true ∧ Sparse.sorted (rigLau 2 {}).lports = true ∧
      ((rigLau 2 {}).lport 7).replayDue = none ∧ (rigLau 2 {}).injections = [] ∧
    (let s := rigLau 2 { txSeq := 2, replayDue := some 1, sent := [aFrame, { aFrame with fseq := 1 }] }
     s.lauUp 7 = true ∧ (s.lport 7).replayDue = some 1 ∧ ((s.lport 7).sent.find? fun f => f.fseq = 1).isSome = true ∧
      (1 : W32) ≠ (s.lport 7).una) ∧
    [1, 2, 3].all (fun st => (rigLau st {}).lauState 7 = st) = true ∧
    (let s := rigLau 2 { txSeq := 256, sent := List.replicate 256 aFrame }
     s.lauUp 7 = true ∧ (s.lport 7).replayDue = none ∧ ((s.lport 7).txSeq - (s.lport 7).una).toNat = 256) := by decide +kernel
set_option maxRecDepth 100000 in
theorem test_meets_LinkRowsFollowR370AndR479_frames :
    (frameReceived aFrame []).map (fun g => (g.fseq, g.retrain)) = some (((rigLau 2 {}).lport 7).rxSeq, true) ∧
      frameReceived { aFrame with crc := aFrame.crc + 1 } [] = none ∧ ((rigLau 2 { rxSeq := 5 }).lport 7).rxSeq ≠ aFrame.fseq := by decide +kernel

/-- A packet of a kind from position 9. -/
def packet (kind : Nat) : Packet := { cls := Pk.classM, kind, hops := 1, dst := 0, src := 9, addr := 0x30000, arg := List.replicate 32 0 }

/-- The rig with this packet delivered on port 0, request 0 (of `kind`) waiting for its answer, and a LIZARD_ADOPT that waits for port 0. -/
def rigIn (p : Packet) (kind : Nat) : State :=
  { rigR with
    carts := [dataCart 3], inbox := [(0, p)], requests := [(0, { kind, dst := 9, port := 0, owner := .tap })],
    adopting := some { q := 5, idx := 2, seq := 0, announced := 1, acks := 0 }, adopted := [(0, 0)],
    colls := [{ q := 5, idx := 2, op := 0x60, collId := 0x30000, step := 0, desc := 0x30000, engine := 0 }] }

/-- The packet that a row takes from port 0, and the state after. -/
def took (s : State) (kind : Nat) : Option (Packet × State) := s.takeInbox 0 fun p => p.kind = kind

theorem test_meets_DeliveredPacketsAreServed_memory :
    (let p : Packet := { packet Pk.write with pay := List.replicate 64 1 }
     (took (rigIn p 0) Pk.write).map (fun x => ((pickErr (x.2.lauErrs x.1.domain x.1.addr x.1.pay.length true)).isNone,
       (x.2.remoteAccess 0 x.1.addr x.1.pay.length true).1)) = some (true, (0, 0)) ∧
     (took (rigIn { p with addr := 0x90000 } 0) Pk.write).map (fun x =>
       (pickErr (x.2.lauErrs x.1.domain x.1.addr x.1.pay.length true)).isSome) = some true) ∧
    (took (rigIn { packet Pk.readReq with arg := leBytes 32 64 } 0) Pk.readReq).map (fun x =>
      (x.2.lauErrs x.1.domain x.1.addr 64 false, x.2.homePages x.1.addr 64, (x.2.remoteAccess 0 x.1.addr 64 false).1)) =
      some ([], [], (0, 0)) ∧
    (let s := { rigIn { packet Pk.readReq with arg := leBytes 32 64, addr := 0x80000, step := 5 } 0 with
                carts := [(8, { state := .hbm, kind := 1, frameA := 8, frameB := 9 }), (9, { state := .hbm, kind := 2 })] }
     (took s Pk.readReq).map (fun x => (x.2.lauErrs x.1.domain x.1.addr 64 false,
       (x.2.homePages x.1.addr 64).map fun g => x.2.tagged g 5)) = some ([], [.waits])) ∧
    (let s := { rig with waitReads := [(0, { packet Pk.readReq with step := 1 })] }
     s.waitReads.findIdx? (fun x => !serialBefore s.committed (BitVec.ofNat 32 x.2.step - 1)) = some 0) ∧
    (took (rigIn (packet Pk.flag) 0) Pk.flag).map (fun x =>
      ((pickErr (x.2.flagAddrErr x.1.addr ++ x.2.lauErrs x.1.domain x.1.addr 8 true)).isNone, (x.2.remoteAccess 0 x.1.addr 8 false).1)) =
      some (true, (0, 0)) := by decide +kernel
theorem test_meets_DeliveredPacketsAreServed_answers :
    [(Pk.writeAck, Pk.write), (Pk.readResp, Pk.readReq), (Pk.flagAck, Pk.flag)].all (fun x =>
      ((took (rigIn (packet x.1) x.2) x.1).bind fun y => (y.2.requests.find? (·.1 = y.1.reqId)).map (·.2.kind)) = some x.2) = true ∧
    ((rigIn (packet 0) 1).requests.find? (·.1 = 0)).isSome = true ∧
    (let s := fun (p : Packet) => ({ rigIn p 0 with inbox := [(1, p)] } : State)
     ((s { packet Pk.stream with addr := 0 }).takeInbox 1 fun p => p.kind = Pk.stream).map (fun x =>
       (x.2.im.streamRoute 1 (x.1.addr % 65536) false, x.2.image.isSome)) = some (some 4, true) ∧
     ((s { packet Pk.stream with addr := 1 }).takeInbox 1 fun p => p.kind = Pk.stream).map (fun x =>
       x.2.im.streamRoute 1 (x.1.addr % 65536) false) = some none ∧
     ((s { packet Pk.streamCredit with addr := 0 }).takeInbox 1 fun p => p.kind = Pk.streamCredit).map (fun x =>
       ((x.2.im.streamRoute 1 (x.1.addr % 65536) true).bind x.2.im.route?).isSome) = some true) ∧
    [Pk.collData, Pk.collAbort].all (fun k => ((took (rigIn (packet k) 0) k).map fun x => (x.2.acceptColl x.1).isSome) = some true) = true ∧
    (took (rigIn (packet Pk.lost) 0) Pk.lost).isSome = true := by decide +kernel

/-- An MGMT packet of subkind `k` from position 0 with ADOPT_SEQ `seq`. -/
def mgmtPkt (k seq : Nat) : Packet := { packet Pk.mgmt with arg := leBytes 4 k ++ leBytes 4 0 ++ leBytes 4 seq ++ leBytes 20 0 }

theorem test_meets_DeliveredPacketsAreServed_adopt :
    [(1, true), (0, false)].all (fun x =>
      (((rigIn (mgmtPkt 1 x.1) 0).takeInbox 0 fun p => mgmtKind p = 1).map fun y =>
        (leField y.1.arg 4 4 % 2 ^ 24, (y.2.adoptSeq 0).map (serialAfter (BitVec.ofNat 32 (leField y.1.arg 8 4))))) =
        some (0, some x.2)) = true ∧
    (((rigIn (mgmtPkt 2 0) 0).takeInbox 0 fun p => mgmtKind p = 2).map fun y =>
      (BitVec.ofNat 32 (leField y.1.arg 8 4), y.2.adopting.map fun r => (r.seq, bitOf r.announced 0, bitOf r.acks 0))) =
      some ((0 : W32), some ((0 : W32), true, false)) := by decide +kernel

/-- The rig with front port 0 up to partner 7, an owner session in slot 1 and a detached session of generation 3 in slot 2, domain 0
open to attaches, and data cart 3. -/
def rigP : State :=
  (((({ rig with
       carts := [dataCart 3], sessions := [(1, owner), (2, { gen := 3, state := .detached, src := 7, rkey := 5 })] } : State).setFld
    (EthStatus.linkUp 0) 1).setFld (EthPartnerLo.addr 0) 7).setFld (EthDomOpen.open 0) 1).setFld (EthCfg.lingerS 0) 1

theorem rigP_inv : rigP.Inv :=
  inv_of_holdsInv (someRegs ++ [.ethStatus 0, .ethPartnerLo 0, .ethDomOpen 0, .ethCfg 0]) (by decide +kernel)

/-- A request of the connection of the owner session. -/
def ownerReq (addr : Nat) : RdmaReq := { port := 0, src := 7, slot := 1, rkey := 9, addr }

theorem test_meets_FrontPortRowsFollowR340ToR363_requests :
    rigP.portUp 0 = true ∧ rigP.foreign 0 7 = false ∧ rigP.connected (ownerReq 0) = true ∧ rigP.injections = [] ∧
    (let c := ctlBase + Reg.offset .paceVset / 8 * 8
     rigP.requestCause (ownerReq c) 8 true false = 0 ∧ inControl c 8 = true ∧ rigP.requestCause (ownerReq c) 8 false false = 0 ∧
      (rigP.ctlRead (.session 1) (c - ctlBase) 8).1.isSome = true) ∧
    (rigP.requestCause (ownerReq 0x30000) 8 true false = 0 ∧ inControl 0x30000 8 = false ∧
      ((rigP.settleRequest 0 0x30000 8).remoteAccess 0 0x30000 8 true).1 = (0, 0)) ∧
    (rigP.requestCause (ownerReq 0x30000) 8 false false = 0 ∧
      ((rigP.settleRequest 0 0x30000 8).remoteAccess 0 0x30000 8 false).1 = (0, 0)) ∧
    rigP.requestCause (ownerReq 0x30000) 8 true true = 0 ∧ rigP.requestCause (ownerReq 0x90000) 8 true false ≠ 0 ∧
    rigP.requestCause (ownerReq 0x90000) 8 false false ≠ 0 ∧ rigP.requestCause (ownerReq 0x90000) 8 true true ≠ 0 ∧
    rigP.requestCause (ownerReq 0x30000) 0 true false = 0 ∧
    ((rigP.emit (.cnp 0 1)).requestCause { ownerReq 0x30000 with ecn := true } 8 true false = 0) := by decide +kernel

/-- A REQ of the partner for domain 0. -/
def aReq : ConnReq := { port := 0, src := 7, version := 1, role := 0, flags := 2, session := 0, domain := 0, reserved := 0 }

theorem test_meets_FrontPortRowsFollowR340ToR363 :
    (aReq.src < 2 ^ 128 ∧ isReattach aReq = false ∧ rigP.attachCode aReq = 0) ∧
    (let r := { aReq with flags := 1, session := 3 * 4096 + 2 }
     r.session ≠ 0 ∧ isReattach r = true ∧ rigP.attachCode r = 0) ∧
    (rigP.foreignAttach 0 8 = true ∧ rigP.attachCode { aReq with src := 8 } = 2 ∧ rigP.attachCode { aReq with version := 2 } = 1) ∧
    rigP.foreign 0 8 = true ∧ rigP.foreign 0 7 = false ∧ rigP.attachedAs 0 ⟨7, 0, 1⟩ = true ∧ rigP.pwr = 4 ∧
    ((rigP.setFld (EthStatus.linkUp 0) 0).flag (EthStatus.linkUp 0) = false ∧ rigP.attachedOn 0 ≠ []) ∧
    ((rigP.session 2).state = .detached ∧ rigP.fld (EthCfg.lingerS (rigP.session 2).port) ≠ 0 ∧ (rigP.session 1).state = .attached) ∧
    rigP.mgmtLink = true := by decide +kernel

/-- The rig with an SPDM connection that has negotiated its algorithms, `q` leaves spent, and a write that fails or not. -/
def rigSpdm (q : Nat) (fails : Bool) : State :=
  { rig with
    spdm := { phase := 3, captured := some [(1, [1, 2])] }, flash := { rig.flash with q, writeFails := fails },
    fuses := { rig.fuses with lmsBlocks := (q + 4095) / 4096 } }

theorem test_meets_ResponderFollowsR498ToR502 :
    rig.mgmtLink = true ∧ rig.spdm.phase < 1 ∧ 3 ≤ (rigSpdm 0 false).spdm.phase ∧ (((rigSpdm 0 false).captured.1.find? (·.1 = 1)).map (·.2)) = some [1, 2] ∧
      (rigSpdm 1048576 false).flash.q = 1048576 ∧ (rigSpdm 0 true).flash.writeFails = true ∧ Sparse.sorted rig.regs = true ∧
      ((rigSpdm 4096 false).flash.q ≠ 1048576 ∧ (rigSpdm 4096 false).flash.q = 4096 * (rigSpdm 4096 false).fuses.lmsBlocks) ∧
      (let s := { rigSpdm 4096 false with fuses := { (rigSpdm 4096 false).fuses with writeFails := true } }
       s.flash.q = 4096 * s.fuses.lmsBlocks ∧ s.fuses.writeFails = true ∧ s.flash.writeFails = false) ∧
      (rigSpdm 1048575 false).flash.q + 1 = 1048576 ∧ (rigSpdm 1048575 false).flash.writeFails = false := by decide +kernel

/-- The rig before its rails: STANDBY with every input, CAUSE as given. -/
def rigUp (pwr cause : Nat) : State :=
  (({ rig with railMv := 0, hbmReady := false, cxlDone := false } : State).setPwr pwr).setFld PwrResetCause.cause cause

theorem rigUp_inv : (rigUp 1 5).Inv ∧ ({ rigUp 1 0 with auxOk := false } : State).Inv ∧ (rigUp 2 0).Inv ∧ (rigUp 3 0).Inv ∧
    ({ rigUp 1 0 with mainOk := false } : State).Inv :=
  ⟨inv_of_holdsInv (someRegs ++ [.pwrResetCause]) (by decide +kernel), inv_of_holdsInv (someRegs ++ [.pwrResetCause]) (by decide +kernel),
    inv_of_holdsInv (someRegs ++ [.pwrResetCause]) (by decide +kernel), inv_of_holdsInv (someRegs ++ [.pwrResetCause]) (by decide +kernel),
    inv_of_holdsInv (someRegs ++ [.pwrResetCause]) (by decide +kernel)⟩
/-- The banks of the factory verify when their signatures do (which Config leaves free, R496). -/
theorem test_meets_StartUpAndLossesFollowR472ToR478_bank (h : ∀ k m x, Config.ecdsaVerifies k m x = true)
    (h' : ∀ k m x, Config.lmsVerifies k m x = true) : rig.bootBank.isSome = true := by
  have v : ∀ k, k < 2 → FwImage.verifies rig.fuses (FwImage.initial k) = true := by
    simp only [FwImage.verifies, h, h', Bool.and_true]
    decide +kernel
  have b : rig.bankOk rig.flash.bank0 = true := by
    simp only [State.bankOk, rig, State.reset, Flash.initial] at v ⊢
    rw [v 0 (by decide), v 1 (by decide)]
    decide +kernel
  have e : rig.flash.bank0.svn < rig.flash.bank1.svn ↔ False := by decide +kernel
  simp only [State.bootBank, e, if_false, if_true, b, Option.isSome_some]
theorem test_meets_StartUpAndLossesFollowR472ToR478 :
    (let b : Bank := { mc := { body := [], block := [] }, cp := { body := [], block := [] } }
     ({ rig with flash := { rig.flash with bank0 := b, bank1 := b } } : State).bootBank) = none ∧
    ((rigUp 1 5).auxOk = true ∧ (rigUp 1 5).mainOk = true ∧ (rigUp 1 5).refclk = true ∧ (rigUp 1 5).pwr = 1 ∧
      [(4, false), (5, true), (8, true), (9, false)].all (fun x =>
        let s := ((rigUp 1 x.1).setFld PwrCtrl.holdOff 1)
        let c := s.fld PwrResetCause.cause
        (s.flag PwrCtrl.holdOff && decide (5 ≤ c) && decide (c ≤ 8)) = x.2) = true) ∧
    (rigUp 2 0).pwr = 2 ∧ (rigUp 2 0).hbmReady = false ∧ (rigUp 2 0).cxlDone = false ∧ (rigUp 3 0).pwr = 3 ∧
    rig.railsUp = true ∧ rig.noFirmware = false ∧ rig.mainOk = true ∧ rig.refclk = true := by decide +kernel

/-- The PEC of a command frame. -/
def pec (code : Nat) (args : Bytes) : Byte := BitVec.ofNat 8 (pecOf (leBytes 1 code ++ leBytes 1 args.length ++ args))

theorem test_meets_I3cTargetFollowsR544ToR547 :
    rig.auxOk = true ∧ [(0x01, []), (0x02, []), (0x03, []), (0x04, []), (0x10, leBytes 4 0x10000), (0x11, leBytes 8 0x10000),
      (0x11, leBytes 12 0x10000), (0x20, [0x52, 0x4D]), (0x21, [0x52, 0x46])].all (fun (x : Nat × Bytes) =>
        pecOf (leBytes 1 x.1 ++ leBytes 1 x.2.length ++ x.2) = (pec x.1 x.2).toNat) = true ∧
    pecOf (leBytes 1 1 ++ leBytes 1 ([] : Bytes).length ++ []) ≠ (pec 1 [] + 1).toNat ∧
    (rig.mayRead .modctl (Reg.offset .pwrStatus) = true ∧ Reg.offset .pwrStatus % 8 = 0 ∧ rig.mayRead .modctl 0x3FFFF8 = false) ∧
    (rig.mayWrite .modctl (Reg.offset .pwrCtrl) = true ∧ Reg.offset .pwrCtrl ≠ 0x10018 ∧ Reg.offset .pwrCtrl ≠ 0x1001C ∧
      rig.mayWrite .modctl (Reg.offset .paceVset) = false) ∧
    rig.noFirmware = false ∧ rig.pwr = 4 ∧ (rig.setPwr 6).pwr ≠ 4 ∧ rig.i3c.response = none ∧
    ({ rig with i3c := { rig.i3c with pendingIbi := [3], dynamic := some 9, response := some [0] } } : State).i3c.pendingIbi = [3] := by
  decide +kernel
theorem test_meets_ResponderFollowsR498ToR502_chain : 0 < certChain.length := by simp [certChain]

/-! ### Well-formed commands: a term that each check refuses -/

theorem test_wellFormed :
    [Instr.doorbell (.session 4095) 1048575 0, .coachChange 32, .steerPairRetire 767 63, .accumulatorDrain 767 3,
      .calibrationTick [(767, 3, 9)], .droopTrip 3, .cxlLinkUp 1, .lauloFrameReceive 7 aFrame [(1087, 1)], .attach aReq,
      .challenge 0 (List.replicate 32 0), .registerWrite .mgmt 67108860 4 0].all (·.wf) = true := by decide +kernel
theorem test_illFormed_queues :
    [Instr.doorbell (.session 4096) 0 0, .doorbell .mgmt 1048576 0, .nop 1048576, .coachChange 33].all (fun i => !i.wf) = true := by
  decide +kernel
theorem test_illFormed_fabric :
    [Instr.steerPairRetire 768 0, .steerPairRetire 0 64, .tileProduct 768, .accumulatorDrain 0 4, .carriageForward 768 0,
      .checkpointSave 0 768, .selftestComplete [(768, 0)], .tokenSend 0 (some ({ (token 0 0).hdr with epoch := 4 }, [])),
      .tokenSend 0 (some ({ (token 0 0).hdr with selector := 16 }, []))].all (fun i => !i.wf) = true := by decide +kernel
theorem test_illFormed_pace :
    [Instr.scrubTick [(768, 0, 0)], .scrubTick [(0, 2097152, 0)], .calibrationTick [(0, 4, 0)], .droopTrip 4, .spareTestTick 256,
      .migrationSwitch 268435456, .tierStall 2, .tierAbort 268435456 none, .tierAbort 0 (some 1048576)].all (fun i => !i.wf) = true := by
  decide +kernel
theorem test_illFormed_links :
    [Instr.lauloFrameSend 16, .lauloFrameReceive 8 aFrame [], .lauloFrameReceive 0 { aFrame with flits := [] } [],
      .lauloFrameReceive 0 { aFrame with credits := [] } [], .lauloFrameReceive 0 { aFrame with credits := [0, 0, 0, 65536] } [],
      .lauloFrameReceive 0 aFrame [(1088, 1)], .e2eTimeout (2 ^ 32), .linkEnable .mgmt 8, .linkTrainingComplete 0 (2 ^ 24) 0 0,
      .linkTrainingRetry 8, .routeWrite .mgmt 64 0].all (fun i => !i.wf) = true := by decide +kernel
theorem test_illFormed_front :
    [Instr.rdmaWrite { ownerReq 0 with port := 4 } [], .rdmaRead { ownerReq 0 with slot := 4096 } 0, .attach { aReq with port := 4 },
      .attach { aReq with domain := 65536 }, .foreignPacketDrop 4 0, .dreq 4 ⟨0, 0, 0⟩, .dreq 0 ⟨0, 0, 2 ^ 32⟩, .ethLinkUp 4, .sessionRelease 4096,
      .partnerLoWrite .mgmt 4 0].all (fun i => !i.wf) = true := by decide +kernel
theorem test_illFormed_module :
    [Instr.getCertificate 256 0 0, .getCertificate 0 65536 0, .challenge 0 [], .getMeasurements 256 false [],
      .getMeasurements 0 true (List.replicate 33 0), .powerOnReset 8, .ready [(48, 0)], .resetCtrlFabric .mgmt [(0, 17)],
      .i3cFabricReset [] 0 [(48, 0)], .setdasa 128 0, .setnewda 128, .ibiRetry 256 true, .winOpenWrite .mgmt 768 0, .tmapWrite .mgmt 64 0,
      .edgeWeightWrite .mgmt 2 0, .spareReqColWrite .mgmt 48 0, .registerReadClear .mgmt 67108864 8, .registerWrite .mgmt 0 2 0].all
      (fun i => !i.wf) = true := by decide +kernel
theorem test_no_row_gives_bits : decodeTableWord 128 1 = none ∧ rig.withFetchWord 128 1 = rig := ⟨rfl, rfl⟩

/-! ### Expected values from the manual -/

/-- What `f` reads of the state after a command. -/
def after {α : Type} (i : Instr) (s : State) (f : State → α) : Option α := match exec i s with
  | .next t => some (f t)
  | _ => none

/-- Element (37, 10) has ordinal 2,154 (the example after R161), its transpose 789. -/
theorem test_ordinal : ordinal 37 10 = 2154 ∧ ordinal 10 37 = 789 ∧ elementOf 2154 = (37, 10) := by decide +kernel
/-- "One block of a W-1 gradient to E4M3": scale codes 112 and 105; 0x7D to nearest, 0x7E for a draw of 0xA3C1, 0x7D for 0x2000;
−3 is 0xC4; 2^-26 underflows to zero. -/
theorem test_e4m3_block :
    blockScale 4 [0x3C568000, 0xB8C00000, 0x32800000] = 112 ∧ blockScale 5 [0x3C568000, 0xB8C00000, 0x32800000] = 105 ∧
      scaledCode 4 112 .nearest 0x3C568000 = 0x7D ∧ scaledCode 4 112 (.stochastic 0xA3C1) 0x3C568000 = 0x7E ∧
      scaledCode 4 112 (.stochastic 0x2000) 0x3C568000 = 0x7D ∧ scaledCode 4 112 .nearest 0xB8C00000 = 0xC4 ∧
      scaledCode 4 112 .nearest 0x32800000 = 0 := by decide +kernel
/-- "A BF16 weight that nearest rounding would freeze": 1.0 − 2^-10 − 2^-12 is 1.0 when r is at least 20,480. -/
theorem test_bf16_weight :
    convertNum 6 .nearest false (f32 0x3F7FB000) = 0x3F80 ∧ convertNum 6 (.stochastic 20480) false (f32 0x3F7FB000) = 0x3F80 ∧
      convertNum 6 (.stochastic 20479) false (f32 0x3F7FB000) = 0x3F7F := by decide +kernel
/-- "A flash restored from an old copy". -/
theorem test_lms_rollback : lmsBoot 135000 37 = (151552, true) ∧ lmsBoot 148000 37 = (148000, false) := by decide
/-- R515: step 0x0000_0002 is after step 0xFFFF_FFFF. -/
theorem test_serial : serialAfter 2 0xFFFFFFFF = true := by decide

/-- R300: TAIL moves to the index written, one lap ahead at most. -/
theorem test_doorbell :
    after (.doorbell .mgmt 5 19) (rigQ 1 []) (fun t => (t.qTail 5, (t.queue 5).dbBad)) = some (19, false) ∧
      after (.doorbell .mgmt 5 20) (rigQ 1 []) (fun t => (t.qTail 5, (t.queue 5).dbBad)) = some (5, true) := by decide +kernel
/-- R314: FLAG_SET with OP 0 stores its value. -/
theorem test_flagSet :
    after (.flagSet 5) (rigC [(0, 1, 3), (16, 8, 0x30000), (24, 8, 0x1122), (36, 4, 0xFFFFFF)]) (fun t => t.bytes 0x30000 8) =
      some (leBytes 8 0x1122) := by decide +kernel
/-- R325: INLINE_WRITE with VISIBLE set writes INLINE_LEN bytes of its operand area. -/
theorem test_inlineWrite :
    after (.inlineWrite 5) (rigC [(0, 2, 0x445), (2, 1, 3), (16, 8, 0x30001), (32, 3, 0x030201)]) (fun t => t.bytes 0x30000 5) =
      some [0, 1, 2, 3, 0] := by decide +kernel
/-- R323: COPY with VISIBLE set copies its bytes; source and destination lie in two carts. -/
theorem test_copy :
    after (.copy 5) (rigC [(0, 2, 0x440), (16, 8, 0x40000), (24, 8, 0x50000), (32, 8, 64)]) (fun t => (t.bytes 0x50000 12).drop 4) =
      some (leBytes 2 0x0602 ++ leBytes 6 0x500000000) := by decide +kernel
/-- R319: STEP_BEGIN on a queue without STEP_CTL is refused; R297: DESC_INVALID with cause 0x56. -/
theorem test_stepBegin_refused :
    after (.stepBegin 5) ((rigO [(0, 1, 0x22)]).setRaw (ctxBase + 320 + 24) [4, 4, 0])
      (fun t => (t.cmd? 5 2).map fun c => (c.status, c.detail)) = some (some (0x03, 0x56 <<< 40)) := by decide +kernel
/-- R346: the fetch-and-add wraps and answers the old word. -/
theorem test_fetchAdd :
    after (.atomicFetchAdd (ownerReq 0x30000) 2) (rigP.setRaw 0x30000 (List.replicate 8 0xFF))
      (fun t => (t.bytes 0x30000 8, t.wire)) = some (leBytes 8 1, [.atomicOld 0 1 0xFFFFFFFFFFFFFFFF]) := by decide +kernel
/-- RV32IM: the sum wraps; the quotient of the most negative number by −1 is the dividend; a division by zero gives all ones. -/
theorem test_scalar_alu :
    aluOp 0 false 0xFFFFFFFF 1 = 0 ∧ aluOp 5 true 0x80000000 31 = 0xFFFFFFFF ∧ mulOp 4 0x80000000 0xFFFFFFFF = 0x80000000 ∧
      mulOp 5 7 0 = 0xFFFFFFFF ∧ mulOp 6 7 0 = 7 ∧ mulOp 1 0xFFFFFFFF 0xFFFFFFFF = 0 := by decide +kernel
/-- R30: a trip takes the die to 10 of 16 slots. -/
theorem test_droopTrip : after (.droopTrip 3) rig (fun t => ((t.droopOf 3).slots, t.fld PaceStatus.fastActive)) = some (10, 8) := by
  decide +kernel
/-- R472: the main input starts the rails of a module in STANDBY: STATE 2. -/
theorem test_mainStart :
    after (.mainStart 4800) ({ State.reset with refclk := true } : State) (fun t => (t.pwr, t.railsUp, t.fld PwrStatus.vin10mv)) =
      some (2, true, 4800) := by decide +kernel
/-- R545: a frame with a wrong PEC is answered with STATUS 2. -/
theorem test_i3c_pec :
    after (.i3cGetId [] (pec 1 [] + 1)) rig (fun t => t.i3c.response.map (·.head?)) = some (some (some 2)) := by decide +kernel
/-- R344: a REQ of version 2 is answered with REJ and code 1. -/
theorem test_attach_refused : after (.attach { aReq with version := 2 }) rigP (·.wire) = some [.rej 0 1] := by decide +kernel

/-- R168: w1 holds the core in bits 63 to 48, the tile count in bits 47 to 12 and the element in bits 11 to 0. -/
theorem test_draw : drawW1 3 2 1 = 0x0003000000002001 ∧ drawW0 7 5 2 = 0x0002000500000007 := by decide
/-- R54: X first goes along the row and then along the column. -/
theorem test_route :
    (routeXY { x := 0, y := 1 } { x := 2, y := 0 }).map (fun p => (p.x, p.y)) = [(0, 1), (1, 1), (2, 1), (2, 0)] ∧
      (routeYX { x := 0, y := 1 } { x := 2, y := 0 }).map (fun p => (p.x, p.y)) = [(0, 1), (0, 0), (1, 0), (2, 0)] := by decide +kernel

end Sys2Proof.Machine
end

section
/-!
What every command keeps: `exec` answers a next state for each row of the table, and that state is steady with respect to the one
before it (Laws/Steady.lean). The two statements about all commands, O6 and O8, are read off from this.
-/
namespace Sys2Proof.Machine

/-- Every command answers a next state, and that state keeps what `Steady` names. A row that runs its effect under a shared check (the
agent's access to a register, a queue action, the packet at the front of a port's inbox, the frame of the I3C target) is named: it is
steady because the check is and its own effect is. Every other row is a single operation, whose steadiness is its simp lemma. -/
theorem exec_next_steady (i : Instr) (s : State) : ∃ t, exec i s = .next t ∧ Steady s t := by
  cases i with
  -- queue actions (R293, R328)
  | openQueue => exact ⟨_, rfl, State.qctrl_steady .rfl fun _ h => State.openQ_steady h⟩
  | closeQueue => exact ⟨_, rfl, State.qctrl_steady .rfl fun _ h => State.closeQ_steady h⟩
  | releaseQueue => exact ⟨_, rfl, State.qctrl_steady .rfl fun _ h => State.releaseQ_steady h⟩
  | discardQueue => exact ⟨_, rfl, State.qctrl_steady .rfl fun _ h => State.discardQ_steady h⟩
  | abortWait => exact ⟨_, rfl, State.qctrl_steady .rfl fun _ h => State.abortWaitQ_steady h⟩
  -- writes of one register by an agent
  | doorbell => exact ⟨_, rfl, Steady.ite (State.onReg_steady .rfl fun _ h => State.ringDoorbell_steady h) .rfl⟩
  | cqDoorbell => exact ⟨_, rfl, Steady.ite (State.onReg_steady .rfl fun _ h => State.cqRing_steady h) .rfl⟩
  | partnerHiWrite => exact ⟨_, rfl, Steady.ite (State.onReg_steady .rfl fun _ h => State.writePartnerHi_steady h) .rfl⟩
  | partnerLoWrite => exact ⟨_, rfl, Steady.ite (State.onReg_steady .rfl fun _ h => State.writePartnerLo_steady h) .rfl⟩
  | unlockLock => exact ⟨_, rfl, State.onReg_steady .rfl fun _ h => State.endUnlock_steady h⟩
  | commitSvn => exact ⟨_, rfl, State.onReg_steady .rfl fun _ h => State.commitSvn_steady h⟩
  | holdOffWrite => exact ⟨_, rfl, State.onReg_steady .rfl fun _ h => State.tryStart_steady (State.setFld_steady h)⟩
  | resetCtrlFabric => exact ⟨_, rfl, State.onResetCtrl_steady .rfl fun _ h => State.fabricReset_steady h⟩
  | resetCtrlModule => exact ⟨_, rfl, State.onResetCtrl_steady .rfl fun _ h => State.moduleReset_steady h⟩
  -- packets from a Laulo port
  | write => exact ⟨_, rfl, State.serve_steady .rfl fun _ _ h => State.serveWrite_steady h⟩
  | readReq => exact ⟨_, rfl, State.serve_steady .rfl fun _ _ h => State.serveRead_steady h⟩
  | flag => exact ⟨_, rfl, State.serve_steady .rfl fun _ _ h => State.serveFlag_steady h⟩
  | stream => exact ⟨_, rfl, State.serve_steady .rfl fun _ _ h => State.serveStream_steady h⟩
  | streamCredit => exact ⟨_, rfl, State.serve_steady .rfl fun _ _ h => State.serveCredit_steady h⟩
  | lost => exact ⟨_, rfl, State.serve_steady .rfl fun _ _ h => State.serveLost_steady h⟩
  | writeAck =>
    exact ⟨_, rfl, State.serve_steady .rfl fun _ _ h => State.serveAnswer_steady h fun _ _ _ k => State.ackWrite_steady k⟩
  | readResp =>
    exact ⟨_, rfl, State.serve_steady .rfl fun _ _ h => State.serveAnswer_steady h fun _ _ _ k => State.ackRead_steady k⟩
  | flagAck =>
    exact ⟨_, rfl, State.serve_steady .rfl fun _ _ h => State.serveAnswer_steady h fun _ _ _ k => State.ackFlag_steady k⟩
  | adopt => exact ⟨_, rfl, State.serveMgmt_steady .rfl fun _ _ h => State.serveAdopt_steady h⟩
  | adoptAck => exact ⟨_, rfl, State.serveMgmt_steady .rfl fun _ _ h => State.serveAdoptAck_steady h⟩
  -- frames to the I3C target (R546)
  | i3cGetEvents =>
    exact ⟨_, rfl, State.onI3c_steady .rfl fun _ h => State.i3cReply_steady (State.readClear_steady h)⟩
  | i3cReadReg => exact ⟨_, rfl, State.onI3c_steady .rfl fun _ h => State.i3cRead_steady h⟩
  | i3cWriteReg => exact ⟨_, rfl, State.onI3c_steady .rfl fun _ h => State.i3cWrite_steady h⟩
  | i3cModuleReset => exact ⟨_, rfl, State.onI3c_steady .rfl fun _ h => State.i3cModule_steady h⟩
  | i3cFabricReset => exact ⟨_, rfl, State.onI3c_steady .rfl fun _ h => State.i3cFabric_steady h⟩
  -- the rows of one operation
  | _ => exact ⟨_, rfl, by simp⟩

/-- A command that answers a next state answers one that keeps what `Steady` names. -/
theorem exec_steady {i : Instr} {s t : State} (h : exec i s = .next t) : Steady s t := by
  obtain ⟨u, hu, hs⟩ := exec_next_steady i s
  obtain rfl : u = t := Host.Outcome.next.inj (hu.symm.trans h)
  exact hs

/-- Settles O6: the queue of waiting commands and the grade are among what every command keeps. -/
theorem commandsKeepQueueAndGrade : Obligations.CommandsKeepQueueAndGrade := by
  intro i s t h
  exact ⟨(exec_steady h).pending, (exec_steady h).grade⟩

/-- Settles O8: a row whose own condition does not hold answers a next state as well (log entry 2). -/
theorem noCommandStops : Obligations.NoCommandStops := by
  intro i s
  obtain ⟨t, ht, -⟩ := exec_next_steady i s
  exact ⟨t, ht⟩

end Sys2Proof.Machine
end

section
/-!
One period of REFCLK_SYS (R41; log entry 5): what the step of an empty queue leaves.
-/
namespace Sys2Proof.Machine

/-- With no command waiting a step is the idle period. -/
theorem step_of_pending_nil {s : State} (h : s.pending = []) : step s = .next s.idle := by
  simp [step, h]

/-- R41: without a valid clock or a running module controller nothing counts. -/
theorem State.idle_of_stopped {s : State} (h : (s.refclk && s.auxOk) = false) : s.idle = s := by
  simp [State.idle, h]

/-- R41: the state after a counted period. -/
theorem State.idle_of_running {s : State} (h : (s.refclk && s.auxOk) = true) :
    s.idle = ({ s with timer := s.timer + 1, healthDone := false, sampleDone := false } : State).setFld TelIntervalCnt.count
      (s.fld TelIntervalCnt.count + 1) := by
  simp [State.idle, h]

/-- Settles O2: the idle period writes one register, so every other reads as before and COUNT reads what was written. -/
theorem idleCountsOnePeriod : Obligations.IdleCountsOnePeriod := by
  intro s hp hs
  rw [step_of_pending_nil hp]
  refine ⟨fun hrun => ⟨s.idle, rfl, ?_⟩, fun hstop => by rw [State.idle_of_stopped hstop]⟩
  rw [State.idle_of_running hrun]
  generalize hc : s.fld TelIntervalCnt.count = c
  let u : State := { s with timer := s.timer + 1, healthDone := false, sampleDone := false }
  have hu : Sparse.sorted u.regs = true := hs
  exact ⟨rfl, fun r hr => State.reg_setFld_ne hu hr _, State.fld_setFld hu (by decide) (by decide) _⟩

end Sys2Proof.Machine
end

section
/-!
What a report leaves alone. An error, an event or a count reaches the registers, the event ring in memory, the counters, the marks of
the step, the errors of the run in progress and the in-band interrupts, and no other field of the state; of the registers each report
writes few, and any other field reads as before.
-/
namespace Sys2Proof.Machine

/-! ### Fields of the state -/

/-- From `s` to `t` nothing has changed but what a report writes. -/
def Reported (s t : State) : Prop :=
  t = { s with
    regs := t.regs, mem := t.mem, wire := t.wire, i3c := t.i3c, counters := t.counters, step := t.step, seg := t.seg }

namespace Reported
variable {s t u : State}

theorem refl (s : State) : Reported s s := rfl

theorem trans (h : Reported s t) (k : Reported t u) : Reported s u := by
  unfold Reported at *
  rw [k, h]

section Fields
variable (h : Reported s t)
include h

theorem grade : t.grade = s.grade := by unfold Reported at h; rw [h]
theorem injections : t.injections = s.injections := by unfold Reported at h; rw [h]
theorem badWords : t.badWords = s.badWords := by unfold Reported at h; rw [h]
theorem taps : t.taps = s.taps := by unfold Reported at h; rw [h]
theorem calDraw : t.calDraw = s.calDraw := by unfold Reported at h; rw [h]
theorem dieTemp : t.dieTemp = s.dieTemp := by unfold Reported at h; rw [h]
theorem stackTemp : t.stackTemp = s.stackTemp := by unfold Reported at h; rw [h]
theorem envUnheld : t.envUnheld = s.envUnheld := by unfold Reported at h; rw [h]

end Fields

theorem ite {c : Prop} [Decidable c] (h : Reported s t) (k : Reported s u) : Reported s (if c then t else u) := by
  split
  · exact h
  · exact k

theorem foldl {α : Type} {f : State → α → State} (hf : ∀ u x, Reported u (f u x)) (l : List α) (s : State) :
    Reported s (l.foldl f s) :=
  List.foldlRecOn l f (refl s) fun u hu x _ => hu.trans (hf u x)

end Reported

theorem State.setReg_reported (s : State) (r : Reg) (v : Nat) : Reported s (s.setReg r v) := rfl
theorem State.setFld_reported (s : State) (f : RegField) (v : Nat) : Reported s (s.setFld f v) := rfl
theorem State.satFld_reported (s : State) (f : RegField) (n : Nat) : Reported s (s.satFld f n) := rfl
theorem State.emit_reported (s : State) (w : Wire) : Reported s (s.emit w) := rfl
theorem State.setI3c_reported (s : State) (x : I3c) : Reported s { s with i3c := x } := rfl
theorem State.setCounters_reported (s : State) (x : List (Nat × Counter)) : Reported s { s with counters := x } := rfl

theorem State.setRaw_reported (s : State) (p : Nat) (bs : Bytes) : Reported s (s.setRaw p bs) := by
  unfold Reported
  rw [s.setRaw_eq]

theorem State.raiseIbi_reported (s : State) (code : Nat) : Reported s (s.raiseIbi code) :=
  Reported.ite ((s.setI3c_reported _).trans (State.emit_reported _ _)) (Reported.refl s)

theorem State.event_reported (s : State) (code inst : Nat) : Reported s (s.event code inst) := by
  unfold State.event
  have written : ∀ p bs f v, Reported s ((s.setRaw p bs).setFld f v) := fun p bs f v =>
    (s.setRaw_reported p bs).trans (State.setFld_reported _ f v)
  refine Reported.ite ((s.setFld_reported _ _).trans (State.satFld_reported _ _ _)) (Reported.ite ?_ (written _ _ _ _))
  exact ((written _ _ _ _).trans (State.setI3c_reported _ _)).trans (State.raiseIbi_reported _ _)

theorem State.count_reported (s : State) (num inst n : Nat) : Reported s (s.count num inst n) := by
  unfold State.count
  refine Reported.ite (s.setCounters_reported _) (Reported.ite (s.setCounters_reported _) ?_)
  exact (s.setCounters_reported _).trans (State.event_reported _ _ _)

theorem State.mark_reported (s : State) (status det : Nat) (cmd : Option (Nat × W32)) (run inj : Bool) :
    Reported s (s.mark status det cmd run inj) := by
  unfold State.mark
  split
  · rfl
  · rfl

theorem State.detect_reported (s : State) (det status : Nat) (q : Option Nat) (inst : Nat) (inj : Bool) :
    Reported s (s.detect det status q inst inj) :=
  (s.setReg_reported _ _).trans (State.event_reported _ _ _)

theorem State.segErr_reported (s : State) (status det key detail : Nat) : Reported s (s.segErr status det key detail) := by
  unfold State.segErr
  split
  · rfl
  · rfl

theorem State.fabricError_reported (s : State) (status det key detail inst : Nat) (inj : Bool) :
    Reported s (s.fabricError status det key detail inst inj) := by
  unfold State.fabricError
  have hd := Reported.ite (c := det = 0) (Reported.refl s) (s.detect_reported det status (s.seg.map (·.q)) inst inj)
  exact (hd.trans (State.mark_reported _ _ _ _ _ _)).trans (State.segErr_reported _ _ _ _ _)

theorem State.raise_reported (s : State) (o : Owner) (status det key detail inst : Nat) (inj : Bool) :
    Reported s (s.raise o status det key detail inst inj) := by
  cases o with
  | fabric => exact s.fabricError_reported _ _ _ _ _ _
  | command q idx run => exact (s.detect_reported _ _ _ _ _).trans (State.mark_reported _ _ _ _ _ _)
  | nobody => exact (s.detect_reported _ _ _ _ _).trans (State.mark_reported _ _ _ _ _ _)

theorem State.showCand_reported (s : State) (row : Nat) : Reported s (s.showCand row) :=
  Reported.foldl (fun u _ => Reported.ite (u.setFld_reported _ _) (Reported.refl u)) _ s

theorem State.recordCol_reported (s : State) (row col : Nat) : Reported s (s.recordCol row col) := by
  unfold State.recordCol
  refine Reported.ite ?_ (Reported.ite (s.setFld_reported _ _) (Reported.refl s))
  exact (s.setFld_reported _ _).trans ((State.setFld_reported _ _ _).trans (State.showCand_reported _ _))

/-- R29: CAL_LIMIT is a report: the delay lines stay. -/
theorem State.calLimit_reported (s : State) (n : Nat) (inj : Bool) : Reported s (s.calLimit n inj) :=
  (((s.setFld_reported _ _).trans (State.count_reported _ _ _ _)).trans (State.recordCol_reported _ _ _)).trans
    (State.fabricError_reported _ _ _ _ _ _ _)

/-! ### Fields of the registers -/

/-- From `s` to `t` the registers keep rising keys, and a field reads as before. -/
def KeepsFld (f : RegField) (s t : State) : Prop :=
  Sparse.sorted s.regs = true → Sparse.sorted t.regs = true ∧ t.fld f = s.fld f

/-- Two fields share no bit. -/
def RegField.apart (f g : RegField) : Prop :=
  Reg.offset f.reg ≠ Reg.offset g.reg ∨ (f.reg = g.reg ∧ f.lo ≤ f.hi ∧ g.lo ≤ g.hi ∧ g.hi < 64 ∧ (g.hi < f.lo ∨ f.hi < g.lo))

namespace KeepsFld
variable {f : RegField} {s t u : State}

theorem refl (f : RegField) (s : State) : KeepsFld f s s := fun h => ⟨h, rfl⟩

theorem trans (h : KeepsFld f s t) (k : KeepsFld f t u) : KeepsFld f s u := fun hs =>
  have ht := h hs
  have hu := k ht.1
  ⟨hu.1, hu.2.trans ht.2⟩

theorem ite {c : Prop} [Decidable c] (h : KeepsFld f s t) (k : KeepsFld f s u) : KeepsFld f s (if c then t else u) := by
  split
  · exact h
  · exact k

theorem foldl {α : Type} {g : State → α → State} (hg : ∀ u x, KeepsFld f u (g u x)) (l : List α) (s : State) :
    KeepsFld f s (l.foldl g s) :=
  List.foldlRecOn l g (refl f s) fun u hu x _ => hu.trans (hg u x)

/-- A change of other state than the registers. -/
theorem of_regs (hg : t.grade = s.grade) (hr : t.regs = s.regs) : KeepsFld f s t := fun h => by
  refine ⟨hr ▸ h, ?_⟩
  unfold State.fld State.reg
  rw [hg, hr]

end KeepsFld

theorem State.setFld_keepsFld {f g : RegField} (h : f.apart g) (s : State) (v : Nat) : KeepsFld f s (s.setFld g v) := fun hs => by
  refine ⟨State.sorted_setFld hs g v, ?_⟩
  rcases h with hr | ⟨hr, hf, hg, h64, hb⟩
  · exact State.fld_setFld_reg hs hr v
  · exact State.fld_setFld_other hs hg h64 hr hf hb v

theorem State.setReg_keepsFld {f : RegField} {r : Reg} (h : Reg.offset f.reg ≠ Reg.offset r) (s : State) (v : Nat) :
    KeepsFld f s (s.setReg r v) := fun hs => ⟨State.sorted_setReg hs r v, State.fld_setReg_ne hs h v⟩

theorem State.raiseIbi_keepsFld {f : RegField} (s : State) (code : Nat) : KeepsFld f s (s.raiseIbi code) :=
  KeepsFld.ite (KeepsFld.of_regs rfl rfl) (KeepsFld.refl f s)

theorem State.setI3c_keepsFld {f : RegField} (s : State) (x : I3c) : KeepsFld f s { s with i3c := x } := KeepsFld.of_regs rfl rfl
theorem State.setCounters_keepsFld {f : RegField} (s : State) (x : List (Nat × Counter)) : KeepsFld f s { s with counters := x } :=
  KeepsFld.of_regs rfl rfl
theorem State.setRaw_keepsFld {f : RegField} (s : State) (p : Nat) (bs : Bytes) : KeepsFld f s (s.setRaw p bs) :=
  KeepsFld.of_regs (s.setRaw_grade p bs) (s.setRaw_regs p bs)

/-- An event writes TEL.EVT_STATUS. -/
theorem State.event_keepsFld {f : RegField} (h : Reg.offset f.reg ≠ Reg.offset .telEvtStatus) (s : State) (code inst : Nat) :
    KeepsFld f s (s.event code inst) := by
  have full : KeepsFld f s ((s.setFld TelEvtStatus.lost 1).satFld TelEvtStatus.lostCount 1) :=
    (State.setFld_keepsFld (g := TelEvtStatus.lost) (.inl h) s 1).trans
      (State.setFld_keepsFld (g := TelEvtStatus.lostCount) (.inl h) _ _)
  have written : ∀ p bs v, KeepsFld f s ((s.setRaw p bs).setFld TelEvtStatus.tail v) := fun p bs v =>
    (s.setRaw_keepsFld p bs).trans (State.setFld_keepsFld (g := TelEvtStatus.tail) (.inl h) _ v)
  unfold State.event
  refine KeepsFld.ite full (KeepsFld.ite ?_ (written _ _ _))
  exact ((written _ _ _).trans (State.setI3c_keepsFld _ _)).trans (State.raiseIbi_keepsFld _ _)

theorem State.count_keepsFld {f : RegField} (h : Reg.offset f.reg ≠ Reg.offset .telEvtStatus) (s : State) (num inst n : Nat) :
    KeepsFld f s (s.count num inst n) := by
  unfold State.count
  refine KeepsFld.ite (s.setCounters_keepsFld _) (KeepsFld.ite (s.setCounters_keepsFld _) ?_)
  exact (s.setCounters_keepsFld _).trans (State.event_keepsFld h _ _ _)

/-- A fabric error writes GLB.ERR_LAST, TEL.EVT_STATUS and QDIR.STEP_STATUS. -/
theorem State.fabricError_keepsFld {f : RegField} (he : Reg.offset f.reg ≠ Reg.offset .telEvtStatus)
    (hl : Reg.offset f.reg ≠ Reg.offset .glbErrLast) (hq : Reg.offset f.reg ≠ Reg.offset .qdirStepStatus) (s : State)
    (status det key detail inst : Nat) (inj : Bool) : KeepsFld f s (s.fabricError status det key detail inst inj) := by
  have detected : ∀ q, KeepsFld f s (s.detect det status q inst inj) := fun q =>
    (State.setReg_keepsFld hl s _).trans (State.event_keepsFld he _ _ _)
  have marked : ∀ u c r, KeepsFld f u (State.mark u status det c r inj) := fun u c r =>
    KeepsFld.ite (KeepsFld.trans (KeepsFld.of_regs rfl rfl) (State.setFld_keepsFld (.inl hq) _ _)) (KeepsFld.refl f u)
  have run : ∀ u, KeepsFld f u (State.segErr u status det key detail) := fun u => by
    unfold State.segErr
    split
    · exact KeepsFld.of_regs rfl rfl
    · exact KeepsFld.refl f u
  exact ((KeepsFld.ite (KeepsFld.refl f s) (detected _)).trans (marked _ _ _)).trans (run _)

end Sys2Proof.Machine
end

section
/-!
Granted writes of one register by an agent (R525 to R529): what each row of the table that writes a register of its own leaves.
-/
namespace Sys2Proof.Machine

/-- R529: a granted write of a register that the part has is performed, and answered when the agent is a session. -/
theorem State.regWrite_granted {s : State} {a : Agent} {r : Reg} {v : Nat} (hat : Reg.at (Reg.offset r) = some r)
    (hr : s.hasReg r = true) (hg : s.grants a r = true) (hv : v < 2 ^ r.width) :
    s.regWrite a r v = s.answered a (s.writeReg a r v) := by
  rw [State.regWrite_eq hat hr, State.onReg_granted hg, Nat.mod_eq_of_lt hv]

/-! ### What each register does with a write -/

/-- R457: RELEASE of FAB.DOM_CTL. -/
theorem State.writeDomCtl_release (s : State) :
    s.writeDomCtl (2 ^ 31) =
      if s.mayReleaseFabric then (s.plainWrite .fabDomCtl (2 ^ 31)).releaseFabric
      else (s.plainWrite .fabDomCtl (2 ^ 31)).setFld FabDomCtl.rej 1 := by
  have h : bitOf (2 ^ 31) 31 = true := by decide
  simp only [State.writeDomCtl, h, if_true]

/-- R37: PACE.VSET. -/
theorem State.writeVset_eq (s : State) (v : Nat) :
    s.writeVset v =
      if 700 ≤ bitsOf v 9 0 ∧ bitsOf v 9 0 ≤ 800 then
        (if s.railsUp then { s.setFld PaceVset.vsetMv (bitsOf v 9 0) with railMv := bitsOf v 9 0 }
         else s.setFld PaceVset.vsetMv (bitsOf v 9 0))
      else s.setFld PaceStatus.cfgRej 1 := by
  simp only [State.writeVset, State.paceWrite, Bool.and_eq_true, decide_eq_true_eq]

/-- R65: FAB.SPARE[n]. -/
theorem State.writeSpare_eq (s : State) (n v : Nat) :
    s.writeSpare n v =
      if 17 ≤ bitsOf v 12 8 ∧ bitsOf v 12 8 ≤ 30 then
        s.plainWrite (.fabSpare n) (putBits v 12 8 (s.fld (FabSpare.reqCol n)))
      else ((s.plainWrite (.fabSpare n) v).setFld (FabSpare.reqHw n) 0).showCand n := by
  simp only [State.writeSpare, Bool.and_eq_true, decide_eq_true_eq]

/-- R178: CLEAR of FAB.GOV_CTRL. -/
theorem State.writeGovCtrl_clear (s : State) :
    s.writeGovCtrl (2 ^ 16) =
      if s.inStep then (s.plainWrite .fabGovCtrl (2 ^ 16)).setFld FabGovCtrl.rej 1
      else (s.plainWrite .fabGovCtrl (2 ^ 16)).clearRaw (areaBase 5) (areaOf 5).2 := by
  have h : bitOf (2 ^ 16) 16 = true := by decide
  simp only [State.writeGovCtrl, h, if_true]

/-- R522: CLEAR of TEL.CNT_CTRL. -/
theorem State.writeCntCtrl_clear (s : State) (a : Agent) :
    s.writeCntCtrl a (2 ^ 31) = { s with counters := Sparse.set {} s.counters (s.selOf a).cnt {} } :=
  (if_neg (by decide)).trans (if_pos (by decide))

/-- R522: ALL of TEL.CNT_CTRL. -/
theorem State.writeCntCtrl_all (s : State) (a : Agent) : s.writeCntCtrl a (2 ^ 30) = { s with counters := [] } :=
  (if_neg (by decide)).trans ((if_neg (by decide)).trans (if_pos (by decide)))

/-- R523: TEL.EVT_HEAD, with the index that is written as the word that it is. -/
theorem State.writeEvtHead_eq (s : State) (v : W32) :
    s.writeEvtHead v.toNat =
      if (v - BitVec.ofNat 32 (s.fld TelEvtHead.head)).toNat ≤
          (BitVec.ofNat 32 (s.fld TelEvtStatus.tail) - BitVec.ofNat 32 (s.fld TelEvtHead.head)).toNat then
        (if v = BitVec.ofNat 32 (s.fld TelEvtStatus.tail) then
          { s.setFld TelEvtHead.head v.toNat with i3c := { (s.setFld TelEvtHead.head v.toNat).i3c with ringArmed := true } }
         else s.setFld TelEvtHead.head v.toNat)
      else s := by
  simp only [State.writeEvtHead, headOk, BitVec.ofNat_toNat, BitVec.setWidth_eq, decide_eq_true_eq]

/-- R524: TEL.TELE_IDX. -/
theorem State.writeTeleHead_eq (s : State) (v : Nat) :
    s.writeTeleHead v =
      if (BitVec.ofNat 32 v - BitVec.ofNat 32 (s.fld TelTeleIdx.head)).toNat ≤
          (BitVec.ofNat 32 (s.fld TelTeleIdx.tail) - BitVec.ofNat 32 (s.fld TelTeleIdx.head)).toNat then
        s.setFld TelTeleIdx.head v
      else s := by
  simp only [State.writeTeleHead, headOk, decide_eq_true_eq]

/-! ### The rows that write one register -/

section Rows
variable {s : State} {a : Agent}

theorem exec_domCtlRelease_granted (h : s.grants a .fabDomCtl = true) :
    exec (.domCtlRelease a) s = .next (s.answered a
      (if s.mayReleaseFabric then (s.plainWrite .fabDomCtl (2 ^ 31)).releaseFabric
       else (s.plainWrite .fabDomCtl (2 ^ 31)).setFld FabDomCtl.rej 1)) := by
  rw [← State.writeDomCtl_release]
  exact congrArg _ (State.regWrite_granted Reg.at_fabDomCtl rfl h (by decide))

theorem exec_winOpenWrite_granted {n : Nat} {v : W32} (hc : n < s.grade.cores) (hu : n < s.usableCores)
    (h : s.grants a (.coreWinOpen n) = true) :
    exec (.winOpenWrite a n v) s =
      .next (s.answered a (s.setReg (.coreWinOpen n) (v.toNat % 65536 &&& s.windowMask n))) := by
  have hn : n < 768 := by cases hg : s.grade <;> rw [hg] at hc <;> simp only [Grade.cores] at hc <;> omega
  have hr : s.hasReg (.coreWinOpen n) = true := by simp [State.hasReg, Grade.hasReg, hc, hu]
  exact congrArg _ (State.regWrite_granted (Reg.at_coreWinOpen hn) hr h v.isLt)

theorem exec_tmapWrite_granted {k : Nat} {v : W64} (hk : k < 64) (h : s.grants a (.fabTmap k) = true) :
    exec (.tmapWrite a k v) s = .next (s.answered a
      (if s.seg.isSome then s.setFld FabDomCtl.rej 1 else s.plainWrite (.fabTmap k) v.toNat)) :=
  congrArg _ (State.regWrite_granted (Reg.at_fabTmap hk) rfl h v.isLt)

theorem exec_paceVsetWrite_granted {v : W32} (h : s.grants a .paceVset = true) :
    exec (.paceVsetWrite a v) s = .next (s.answered a
      (if 700 ≤ bitsOf v.toNat 9 0 ∧ bitsOf v.toNat 9 0 ≤ 800 then
        (if s.railsUp then { s.setFld PaceVset.vsetMv (bitsOf v.toNat 9 0) with railMv := bitsOf v.toNat 9 0 }
         else s.setFld PaceVset.vsetMv (bitsOf v.toNat 9 0))
       else s.setFld PaceStatus.cfgRej 1)) := by
  rw [← State.writeVset_eq]
  exact congrArg _ (State.regWrite_granted Reg.at_paceVset rfl h v.isLt)

theorem exec_edgeWeightWrite_granted {k : Nat} {v : W32} (hk : k < 2) (h : s.grants a (.fabEdgeWeight k) = true) :
    exec (.edgeWeightWrite a k v) s = .next (s.answered a
      (if bitsOf v.toNat 15 0 = 0 then s else s.plainWrite (.fabEdgeWeight k) v.toNat)) :=
  congrArg _ (State.regWrite_granted (Reg.at_fabEdgeWeight hk) rfl h v.isLt)

theorem exec_spareReqColWrite_granted {n : Nat} {v : W32} (hn : n < s.grade.rows) (h : s.grants a (.fabSpare n) = true) :
    exec (.spareReqColWrite a n v) s = .next (s.answered a
      (if 17 ≤ bitsOf v.toNat 12 8 ∧ bitsOf v.toNat 12 8 ≤ 30 then
         s.plainWrite (.fabSpare n) (putBits v.toNat 12 8 (s.fld (FabSpare.reqCol n)))
       else ((s.plainWrite (.fabSpare n) v.toNat).setFld (FabSpare.reqHw n) 0).showCand n)) := by
  have h48 : n < 48 := by cases hg : s.grade <;> rw [hg] at hn <;> simp only [Grade.rows] at hn <;> omega
  have hr : s.hasReg (.fabSpare n) = true := by simp [State.hasReg, Grade.hasReg, hn]
  rw [← State.writeSpare_eq]
  exact congrArg _ (State.regWrite_granted (Reg.at_fabSpare h48) hr h v.isLt)

theorem exec_govClear_granted (h : s.grants a .fabGovCtrl = true) :
    exec (.govClear a) s = .next (s.answered a
      (if s.inStep then (s.plainWrite .fabGovCtrl (2 ^ 16)).setFld FabGovCtrl.rej 1
       else (s.plainWrite .fabGovCtrl (2 ^ 16)).clearRaw (areaBase 5) (areaOf 5).2)) := by
  rw [← State.writeGovCtrl_clear]
  exact congrArg _ (State.regWrite_granted Reg.at_fabGovCtrl rfl h (by decide))

theorem exec_cartQuery_granted {v : W64} (h : s.grants a .cxlCartQuery = true) :
    exec (.cartQuery a v) s = .next (s.answered a (s.writeCartQuery a v.toNat)) :=
  congrArg _ (State.regWrite_granted Reg.at_cxlCartQuery rfl h v.isLt)

theorem exec_sessQuery_granted {v : W32} (h : s.grants a .ethSessQuery = true) :
    exec (.sessQuery a v) s = .next (s.answered a (s.writeSessQuery a v.toNat)) :=
  congrArg _ (State.regWrite_granted Reg.at_ethSessQuery rfl h v.isLt)

theorem exec_cntClear_granted (h : s.grants a .telCntCtrl = true) :
    exec (.cntClear a) s = .next (s.answered a { s with counters := Sparse.set {} s.counters (s.selOf a).cnt {} }) := by
  rw [← State.writeCntCtrl_clear]
  exact congrArg _ (State.regWrite_granted Reg.at_telCntCtrl rfl h (by decide))

theorem exec_cntClearAll_granted (h : s.grants a .telCntCtrl = true) :
    exec (.cntClearAll a) s = .next (s.answered a { s with counters := [] }) := by
  rw [← State.writeCntCtrl_all s a]
  exact congrArg _ (State.regWrite_granted Reg.at_telCntCtrl rfl h (by decide))

theorem exec_evtHeadWrite_granted {v : W32} (h : s.grants a .telEvtHead = true) :
    exec (.evtHeadWrite a v) s = .next (s.answered a (s.writeEvtHead v.toNat)) :=
  congrArg _ (State.regWrite_granted Reg.at_telEvtHead rfl h v.isLt)

theorem exec_teleHeadWrite_granted {v : W64} (h : s.grants a .telTeleIdx = true) :
    exec (.teleHeadWrite a v) s = .next (s.answered a (s.writeTeleHead (v.toNat % 2 ^ 32))) :=
  congrArg _ (State.regWrite_granted Reg.at_telTeleIdx rfl h v.isLt)

end Rows

/-! ### REGISTER_WRITE and REGISTER_READ_CLEAR of the control space (R525 to R527) -/

section Access
variable {s : State} {a : Agent} {off size : Nat}

theorem exec_registerWrite_granted {v : W64} {r : Reg} (hp : s.present a = true) (ha : a ≠ .mgmtAt)
    (ht : s.writeTarget off size = some r) (hw : s.mayWrite a (Reg.offset r) = true) :
    exec (.registerWrite a off size v) s = .next (s.answered a (s.writeReg a r (v.toNat % 2 ^ r.width))) := by
  have hg : s.grants a r = true := by simp [State.grants, hp, hw]
  rw [← State.onReg_granted (f := fun s => s.writeReg a r (v.toNat % 2 ^ r.width)) hg]
  refine congrArg Host.Outcome.next ?_
  simp [State.doRegisterWrite, State.ctlWrite, ha, hp, ht]

theorem exec_registerWrite_noTarget {v : W64} (hp : s.present a = true) (ha : a ≠ .mgmtAt)
    (ht : s.writeTarget off size = none) :
    exec (.registerWrite a off size v) s = .next (s.ctlRefuse a 2 (if (s.slotReg off).isNone then 1 else 2) off) := by
  refine congrArg Host.Outcome.next ?_
  simp [State.doRegisterWrite, State.ctlWrite, State.badWrite, ha, hp, ht]

theorem exec_registerReadClear_granted {r : Reg} (hp : s.present a = true) (ha : a ≠ .mgmtAt)
    (hf : readForm off size = true) (hm : s.mayRead a off = true) (hs : s.slotReg off = some r) :
    exec (.registerReadClear a off size) s = .next ((s.readClear r (off % 8) size).emit
      (.regRead a (BitVec.ofNat 64 (s.readReg a r / 2 ^ (8 * (off % 8)) % 2 ^ (8 * size))))) := by
  refine congrArg Host.Outcome.next ?_
  simp [State.doRegisterRead, State.doRegRead, State.ctlRead, State.slotValue, ha, hp, hf, hm, hs]

end Access

end Sys2Proof.Machine
end

section
/-!
Requests of the management channel for unified addresses (R452, R453), and O49. A read of reserved carts first settles the pending
writes that it meets; where no injection is armed and no word is damaged, no such write damages one.
-/
namespace Sys2Proof.Machine

/-! ### States without damage -/

/-- No injection is armed (R411) and no word holds a flipped bit (R49, R414). -/
structure State.Undamaged (s : State) : Prop where
  injections : s.injections = []
  badWords : s.badWords = []

namespace State.Undamaged
variable {s t : State}

theorem of_eq (h : s.Undamaged) (hi : t.injections = s.injections) (hb : t.badWords = s.badWords) : t.Undamaged :=
  ⟨hi.trans h.injections, hb.trans h.badWords⟩

theorem reported (h : s.Undamaged) (k : Reported s t) : t.Undamaged := h.of_eq k.injections k.badWords

theorem ite {c : Prop} [Decidable c] (h : s.Undamaged) (k : t.Undamaged) : (if c then s else t).Undamaged := by
  split
  · exact h
  · exact k

theorem foldl {α : Type} {f : State → α → State} (hf : ∀ u x, u.Undamaged → (f u x).Undamaged) (l : List α)
    (h : s.Undamaged) :
    (l.foldl f s).Undamaged :=
  List.foldlRecOn l f h fun u hu x _ => hf u x hu

/-- What a write clears lies in memory. -/
theorem clearRange (h : s.Undamaged) (a len : Nat) : (s.clearRange a len).Undamaged := by
  refine foldl (fun u c hu => ?_) _ h
  exact ite (ite (hu.of_eq rfl rfl) hu) (hu.of_eq rfl rfl)

theorem writeByte (h : s.Undamaged) (a : Nat) (b : Byte) : (s.writeByte a b).Undamaged :=
  ite (ite (h.of_eq rfl rfl) h) (ite h (h.of_eq rfl rfl))

/-- R414: a write takes flipped bits away and brings none. -/
theorem cleanWords (h : s.Undamaged) (a len : Nat) : (s.cleanWords a len).Undamaged :=
  ite ⟨h.injections, by simp [h.badWords]⟩ h

theorem performRange (h : s.Undamaged) (w : RangeWrite) : (s.performRange w).Undamaged :=
  (foldl (fun _ _ hu => hu.writeByte _ _) _ (h.clearRange _ _)).cleanWords _ _

theorem switchHome (h : s.Undamaged) (c : Nat) : (s.switchHome c).Undamaged := by
  unfold State.switchHome
  dsimp only
  split
  · exact h.of_eq rfl rfl
  · exact h.of_eq rfl rfl

theorem dirty (h : s.Undamaged) (a len : Nat) : (s.dirty a len).Undamaged := by
  refine foldl (fun u c hu => ?_) _ h
  exact ite (ite (hu.switchHome _) (hu.of_eq rfl rfl)) hu

/-- R273, R411: without an armed injection an access of a cart sets at most CXL.POOL_STATUS.ABORTED. -/
theorem cartMeets (h : s.Undamaged) (o : Owner) (k a len : Nat) : (s.cartMeets o k a len).2.Undamaged := by
  unfold State.cartMeets
  simp only [State.fire_nil h.injections]
  split
  · exact h
  · split
    · exact h.reported (s.setFld_reported _ _)
    · split
      · exact h
      · exact h

theorem cartAccess (h : s.Undamaged) (o : Owner) (k a len : Nat) : (s.cartAccess o k a len).2.Undamaged := by
  unfold State.cartAccess
  dsimp only
  split
  · exact (h.cartMeets o k a len).reported (State.raise_reported _ _ _ _ _ _ _ _)
  · exact h.cartMeets o k a len

theorem performPart (h : s.Undamaged) (p : PendingWrite) (w : RangeWrite) : (s.performPart p w).Undamaged :=
  foldl (fun _ _ hu => ite (((hu.cartAccess _ _ _ _).performRange _).dirty _ _) (hu.cartAccess _ _ _ _)) _ h

theorem settleWord (h : s.Undamaged) (p : PendingWrite) (word : Nat) : (s.settleWord p word).1.Undamaged := by
  unfold State.settleWord
  dsimp only
  split
  · exact h
  · split
    · exact h.performPart p _
    · exact h

theorem withPending (h : s.Undamaged) (p : List PendingWrite) (d : Nat) :
    ({ s with pendingWrites := p, draws := d } : State).Undamaged := ⟨h.injections, h.badWords⟩

/-- R353: the pending writes that a free reader settles bring no damage. -/
theorem settleFree (h : s.Undamaged) (a len : Nat) : (s.settleFree a len).Undamaged := by
  unfold State.settleFree
  split
  · refine withPending ?_ _ _
    refine List.foldlRecOn (motive := fun acc : State × List PendingWrite => acc.1.Undamaged) (b := (s, [])) _ _ h
      fun acc hacc p _ => ?_
    dsimp only
    split
    · split
      · exact hacc.performPart p _
      · exact hacc
    · split
      · exact List.foldlRecOn (motive := fun acc : State × List PendingWrite => acc.1.Undamaged) (b := (acc.1, [])) _ _ hacc
          fun _ hx _ _ => hx.settleWord _ _
      · exact hacc
  · exact h

/-- R414: a read of reserved carts meets nothing. -/
theorem reservedMeets (h : s.Undamaged) (o : Owner) (a len : Nat) : s.reservedMeets o a len = (false, s) := by
  simp [State.reservedMeets, h.injections, h.badWords]

end State.Undamaged

/-! ### The management channel (R452, R453) -/

section Mgmt
variable {s : State} {at' size : Nat}

/-- R452, R453: a write outside the control space goes to reserved carts, or is refused. -/
theorem exec_registerWrite_mgmtAt {v : W64} (hl : s.mgmtLink = true) (hc : ¬ (ctlBase ≤ at' ∧ at' < ctlBase + 67108864)) :
    exec (.registerWrite .mgmtAt at' size v) s = .next
      (if s.allReserved at' size then (s.agentWrite (rangeOf at' (leBytes size v.toNat))).evalFlags
       else (s.accIgnored .mgmt 3 at').emit .mgmtRefused) := by
  refine congrArg Host.Outcome.next ?_
  simp only [State.doRegisterWrite, State.mgmtWrite, State.mgmtRefuse, hl, Bool.not_true, if_true, Bool.and_eq_true,
    decide_eq_true_eq, hc, if_false, Bool.false_eq_true]

/-- R452, R503: what the management channel may read of the reserved carts. -/
theorem State.mgmtReads_iff :
    s.mgmtReads at' size = true ↔ s.allReserved at' size = true ∧
      ¬ (s.fld SecStatus.scope < 2 ∧ areaBase 1 < at' + size ∧ at' < areaBase 1 + (areaOf 1).2) := by
  simp only [State.mgmtReads, Bool.and_eq_true, Bool.or_eq_true, decide_eq_true_eq]
  exact and_congr_right fun _ => by omega

theorem exec_registerReadClear_mgmtAt_refused (hl : s.mgmtLink = true) (hc : ¬ (ctlBase ≤ at' ∧ at' < ctlBase + 67108864))
    (hr : s.mgmtReads at' size = false) :
    exec (.registerReadClear .mgmtAt at' size) s = .next ((s.accIgnored .mgmt 3 at').emit .mgmtRefused) := by
  refine congrArg Host.Outcome.next ?_
  simp only [State.doRegisterRead, State.mgmtRead, State.mgmtRefuse, hl, hr, Bool.not_true, if_true, Bool.and_eq_true,
    decide_eq_true_eq, hc, if_false, Bool.false_eq_true]

/-- R452: a granted read of undamaged carts gives the bytes that stand there once the pending writes are settled. -/
theorem exec_registerReadClear_mgmtAt_granted (hl : s.mgmtLink = true) (hc : ¬ (ctlBase ≤ at' ∧ at' < ctlBase + 67108864))
    (hr : s.mgmtReads at' size = true) (hd : s.Undamaged) :
    exec (.registerReadClear .mgmtAt at' size) s =
      .next ((s.settleFree at' size).emit (.mgmtData ((s.settleFree at' size).bytes at' size))) := by
  refine congrArg Host.Outcome.next ?_
  simp only [State.doRegisterRead, State.mgmtRead, hl, hr, (hd.settleFree at' size).reservedMeets, Bool.not_true, if_true,
    Bool.and_eq_true, decide_eq_true_eq, hc, if_false, Bool.false_eq_true]

variable {off : Nat}

/-- R530: the control space also stands at its unified address. -/
theorem exec_registerWrite_mgmtAt_control {v : W64} (hl : s.mgmtLink = true) (ho : off < 67108864) :
    exec (.registerWrite .mgmtAt (ctlBase + off) size v) s = exec (.registerWrite .mgmt off size v) s := by
  refine congrArg Host.Outcome.next ?_
  simp [State.doRegisterWrite, State.mgmtWrite, hl, ho]

theorem exec_registerReadClear_mgmtAt_control (hl : s.mgmtLink = true) (ho : off < 67108864) :
    exec (.registerReadClear .mgmtAt (ctlBase + off) size) s = exec (.registerReadClear .mgmt off size) s := by
  refine congrArg Host.Outcome.next ?_
  simp [State.doRegisterRead, State.mgmtRead, hl, ho]

end Mgmt

/-- Settles O49: each row of a register is a granted write of it, and the accesses of the management channel follow R452. -/
theorem registerWritesTakeEffect : Obligations.RegisterWritesTakeEffect := by
  intro s a
  refine ⟨exec_domCtlRelease_granted, fun _ _ => exec_winOpenWrite_granted, fun _ _ => exec_tmapWrite_granted,
    fun _ => exec_paceVsetWrite_granted, fun _ _ => exec_edgeWeightWrite_granted, fun _ _ => exec_spareReqColWrite_granted,
    exec_govClear_granted, fun _ => exec_cartQuery_granted, fun _ => exec_sessQuery_granted,
    fun h => ⟨exec_cntClear_granted h, exec_cntClearAll_granted h⟩, fun v h => ?_, fun v h => ?_, fun off size v hp ha => ?_,
    fun at' size v hl hc => ?_,
    fun _ _ _ hl ho => ⟨exec_registerWrite_mgmtAt_control hl ho, exec_registerReadClear_mgmtAt_control hl ho⟩⟩
  · rw [exec_evtHeadWrite_granted h, State.writeEvtHead_eq]
  · rw [exec_teleHeadWrite_granted h, State.writeTeleHead_eq]
  · exact ⟨fun _ => exec_registerWrite_granted hp ha, exec_registerWrite_noTarget hp ha,
      fun hf hm _ => exec_registerReadClear_granted hp ha hf hm⟩
  · refine ⟨exec_registerWrite_mgmtAt hl hc, fun hr => exec_registerReadClear_mgmtAt_refused hl hc ?_, fun hr hn hi hb =>
      exec_registerReadClear_mgmtAt_granted hl hc (State.mgmtReads_iff.mpr ⟨hr, hn⟩) ⟨hi, hb⟩⟩
    rw [Bool.eq_false_iff, Ne, State.mgmtReads_iff]
    rintro ⟨hres, hnewt⟩
    rcases hr with h | h
    · exact absurd hres (by simp [h])
    · exact hnewt h

end Sys2Proof.Machine
end

section
/-!
The banks of a scratchpad (R45 to R47): bank and row determine the line, and a run of lines at a stride of a power of two takes 32
banks.
-/
namespace Sys2Proof.Machine

theorem bankRow_eq (a : Nat) : bankRow a = a / 8192 % 256 := by
  simp [bankRow, bitsOf, Nat.shiftRight_eq_div_pow]

theorem bankOf_eq (a : Nat) : bankOf a = (a / 256 % 32 ^^^ a / 8192 % 32) ^^^ a / 262144 % 8 := by
  simp [bankOf, bitsOf, Nat.shiftRight_eq_div_pow]

/-- The hash of R46 with the same row bits again gives its operand back. -/
theorem xor_xor_cancel (x y z : Nat) : ((((x ^^^ y) ^^^ z) ^^^ y) ^^^ z) = x := by
  rw [Nat.xor_right_comm _ z y, Nat.xor_assoc x y y, Nat.xor_self, Nat.xor_zero, Nat.xor_assoc, Nat.xor_self, Nat.xor_zero]

/-- R45, R46: bank and row of an offset determine its line. -/
theorem bankLine_bankOf_bankRow {a : Nat} (h : a < 2097152) : bankLine (bankOf a) (bankRow a) = a / 256 * 256 := by
  rw [bankOf_eq, bankRow_eq]
  unfold bankLine
  have h5 : a / 8192 % 256 % 32 = a / 8192 % 32 := by omega
  have h8 : a / 8192 % 256 / 32 = a / 262144 % 8 := by omega
  rw [h5, h8, xor_xor_cancel]
  omega

/-- R46: the place of a line in its row is one of 32. -/
theorem lineSlot_lt {b r : Nat} (hb : b < 32) (hr : r < 256) : ((b ^^^ r % 32) ^^^ r / 32) < 32 :=
  Nat.xor_lt_two_pow (n := 5) (Nat.xor_lt_two_pow (n := 5) hb (by omega)) (by omega)

/-- R45, R46: the line that a bank holds at a row has this row. -/
theorem bankRow_bankLine {b r : Nat} (hb : b < 32) (hr : r < 256) : bankRow (bankLine b r) = r := by
  have hw := lineSlot_lt hb hr
  rw [bankRow_eq]
  unfold bankLine
  omega

/-- R45, R46: the line that a bank holds lies in this bank. -/
theorem bankOf_bankLine {b r : Nat} (hb : b < 32) (hr : r < 256) : bankOf (bankLine b r) = b := by
  have hw := lineSlot_lt hb hr
  rw [bankOf_eq]
  have h1 : bankLine b r / 256 % 32 = (b ^^^ r % 32) ^^^ r / 32 := by unfold bankLine; omega
  have h2 : bankLine b r / 8192 % 32 = r % 32 := by unfold bankLine; omega
  have h3 : bankLine b r / 262144 % 8 = r / 32 := by unfold bankLine; omega
  rw [h1, h2, h3, xor_xor_cancel]

/-- R46: bit `p` of a bank number, from the three bits of the offset that it hashes. -/
theorem testBit_bankOf {a p : Nat} (h : a < 2097152) (hp : p < 5) :
    (bankOf a).testBit p = ((a.testBit (8 + p) ^^ a.testBit (13 + p)) ^^ a.testBit (18 + p)) := by
  have h3 : a / 262144 % 8 = a / 262144 := by omega
  rw [bankOf_eq, h3, show 256 = 2 ^ 8 from rfl, show 8192 = 2 ^ 13 from rfl, show 262144 = 2 ^ 18 from rfl,
    show 32 = 2 ^ 5 from rfl]
  simp only [Nat.testBit_xor, Nat.testBit_mod_two_pow, Nat.testBit_div_two_pow, hp, decide_true, Bool.true_and,
    Nat.add_comm p]

/-- R47: two offsets in one bank that differ in no bit but five in a row, from bit 8 on, are equal: of the three bits that a bit of the
bank hashes, one lies among the five. -/
theorem eq_of_bankOf_eq {a b k : Nat} (ha : a < 2097152) (hb : b < 2097152) (hk : 8 ≤ k)
    (hlow : a % 2 ^ k = b % 2 ^ k) (hhigh : a / 2 ^ (k + 5) = b / 2 ^ (k + 5)) (h : bankOf a = bankOf b) : a = b := by
  have low : ∀ q, q < k → a.testBit q = b.testBit q := fun q hq => by
    have e := congrArg (Nat.testBit · q) hlow
    simpa only [Nat.testBit_mod_two_pow, hq, decide_true, Bool.true_and] using e
  have high : ∀ q, k + 5 ≤ q → a.testBit q = b.testBit q := fun q hq => by
    have e := congrArg (Nat.testBit · (q - (k + 5))) hhigh
    simpa only [Nat.testBit_div_two_pow, Nat.sub_add_cancel hq] using e
  have top : ∀ x q, x < 2097152 → 21 ≤ q → x.testBit q = false := fun x q hx hq =>
    Nat.testBit_lt_two_pow (lt_of_lt_of_le hx (Nat.pow_le_pow_right (n := 2) (by decide) hq))
  have outside : ∀ q, q < k ∨ k + 5 ≤ q → a.testBit q = b.testBit q := fun q hq => hq.elim (low q) (high q)
  have bit : ∀ p, p < 5 → ((a.testBit (8 + p) ^^ a.testBit (13 + p)) ^^ a.testBit (18 + p)) =
      ((b.testBit (8 + p) ^^ b.testBit (13 + p)) ^^ b.testBit (18 + p)) := fun p hp => by
    rw [← testBit_bankOf ha hp, ← testBit_bankOf hb hp, h]
  refine Nat.eq_of_testBit_eq fun q => ?_
  by_cases hq : q < k ∨ k + 5 ≤ q
  · exact outside q hq
  by_cases hq21 : 21 ≤ q
  · rw [top a q ha hq21, top b q hb hq21]
  -- the place of bit q in the bank, and which of the three hashed bits it is
  by_cases h13 : q < 13
  · have e := bit (q - 8) (by omega)
    rw [show 8 + (q - 8) = q by omega, outside (13 + (q - 8)) (by omega), outside (18 + (q - 8)) (by omega)] at e
    simpa using e
  · by_cases h18 : q < 18
    · have e := bit (q - 13) (by omega)
      rw [show 13 + (q - 13) = q by omega, outside (8 + (q - 13)) (by omega), outside (18 + (q - 13)) (by omega)] at e
      simpa using e
    · have e := bit (q - 18) (by omega)
      rw [show 18 + (q - 18) = q by omega, outside (8 + (q - 18)) (by omega), outside (13 + (q - 18)) (by omega)] at e
      simpa using e

/-- R47: lines at a stride of a power of two, the first with a multiple of 32 strides, lie in distinct banks. -/
theorem bankOf_stride_ne {base k i j : Nat} (hk : 8 ≤ k) (hb : base / 2 ^ k % 32 = 0) (hi : i < 32) (hj : j < 32) (hij : i ≠ j)
    (hbi : base + i * 2 ^ k < 2097152) (hbj : base + j * 2 ^ k < 2097152) :
    bankOf (base + i * 2 ^ k) ≠ bankOf (base + j * 2 ^ k) := by
  intro h
  have pos : 0 < 2 ^ k := by positivity
  have low : ∀ n, (base + n * 2 ^ k) % 2 ^ k = base % 2 ^ k := fun n => Nat.add_mul_mod_self_right _ _ _
  have high : ∀ n, n < 32 → (base + n * 2 ^ k) / 2 ^ (k + 5) = base / 2 ^ k / 32 := fun n hn => by
    rw [Nat.pow_add, ← Nat.div_div_eq_div_mul, Nat.add_mul_div_right _ _ pos]
    omega
  have e := eq_of_bankOf_eq hbi hbj hk ((low i).trans (low j).symm) ((high i hi).trans (high j hj).symm) h
  exact hij (Nat.eq_of_mul_eq_mul_right pos (Nat.add_left_cancel e))

end Sys2Proof.Machine
end

section
/-!
The scrubber (R49): what a read of a line meets where at most one word of a scratchpad holds flipped bits, and what a scrub tick does.
-/
namespace Sys2Proof.Machine

/-! ### One read of the scrubber -/

/-- A read of `len` bytes at `a` includes the word at `p`. -/
def readsWord (a len p : Nat) : Bool := a / 4 ≤ p / 4 && p / 4 ≤ (a + len - 1) / 4

theorem readsWord_iff {a len p : Nat} : readsWord a len p = true ↔ a / 4 ≤ p / 4 ∧ p / 4 ≤ (a + len - 1) / 4 := by
  simp [readsWord]

/-- R412: an error of the fabric. -/
theorem State.raise_fabric (s : State) (status det key detail inst : Nat) (inj : Bool) :
    s.raise .fabric status det key detail inst inj = s.fabricError status det key detail inst inj := rfl

section Reads
variable {s : State} {a len p : Nat}

/-- R48: a read of undamaged scratchpads meets nothing. -/
theorem State.Undamaged.scratchRead (h : s.Undamaged) (o : Owner) : s.scratchRead o a len = s := by
  simp [State.scratchRead, State.scratchMeets, h.injections, h.badWords]

/-- R49: a read that does not include the one damaged word meets nothing. -/
theorem State.scratchRead_elsewhere {k : Nat} (hi : s.injections = []) (hb : s.badWords = [(p, k)])
    (hp : readsWord a len p = false) (o : Owner) : s.scratchRead o a len = s := by
  unfold readsWord at hp
  simp [State.scratchRead, State.scratchMeets, State.fire_nil hi, hi, hb, hp]

/-- The one damaged word loses its flipped bits. -/
theorem State.setFlips_only {k : Nat} (hb : s.badWords = [(p, k)]) : s.setFlips p 0 = { s with badWords := [] } := by
  unfold State.setFlips
  rw [hb]
  simp only [Sparse.set, Sparse.erase, if_true]

/-- R49: a read that includes the one damaged word corrects one flipped bit; two set SP_UE and are uncorrectable. -/
theorem State.scratchMeets_word {k : Nat} (hi : s.injections = []) (hb : s.badWords = [(p, k)]) (hl : len ≠ 0)
    (hp : readsWord a len p = true) :
    s.scratchMeets a len =
      if k = 1 then ([], ((s.setFlips p 0).count 0x001 ((a - spBase) / 2097152) 1).corrected)
      else ([false], s.setFld (CoreStatus.spUe ((a - spBase) / 2097152)) 1) := by
  unfold readsWord at hp
  simp only [State.scratchMeets, State.fire_nil hi, hi, hb, List.isEmpty_nil, List.isEmpty_cons, Bool.and_false,
    Bool.false_or, hl, if_false, List.filter_cons, hp, if_true, List.filter_nil, List.foldl_cons,
    List.foldl_nil, reduceCtorEq, decide_false, List.nil_append]

/-- R49: a read that meets no uncorrectable word raises nothing. -/
theorem State.scratchRead_of_meets_nil {t : State} (h : s.scratchMeets a len = ([], t)) (o : Owner) : s.scratchRead o a len = t := by
  simp only [State.scratchRead, h, List.foldl_nil]

/-- R49: a read that meets one uncorrectable word raises it. -/
theorem State.scratchRead_of_meets_one {t : State} (h : s.scratchMeets a len = ([false], t)) (o : Owner) :
    s.scratchRead o a len =
      t.raise o St.uncorrectable 0x01 ((a - spBase) / 2097152) 0 ((a - spBase) / 2097152) false := by
  simp only [State.scratchRead, h, List.foldl_cons, List.foldl_nil]

/-- R49: a word with one flipped bit is corrected and counted. -/
theorem State.scratchRead_corrects (hi : s.injections = []) (hb : s.badWords = [(p, 1)]) (hl : len ≠ 0)
    (hp : readsWord a len p = true) (o : Owner) :
    s.scratchRead o a len = (({ s with badWords := [] } : State).count 0x001 ((a - spBase) / 2097152) 1).corrected := by
  rw [← State.setFlips_only hb]
  exact State.scratchRead_of_meets_nil ((State.scratchMeets_word hi hb hl hp).trans (if_pos rfl)) o

/-- R49: a word with two flipped bits stays as it is and is reported. -/
theorem State.scratchRead_reports (hi : s.injections = []) (hb : s.badWords = [(p, 2)]) (hl : len ≠ 0)
    (hp : readsWord a len p = true) :
    s.scratchRead .fabric a len =
      (s.setFld (CoreStatus.spUe ((a - spBase) / 2097152)) 1).fabricError St.uncorrectable 0x01 ((a - spBase) / 2097152) 0
        ((a - spBase) / 2097152) false :=
  (State.scratchRead_of_meets_one ((State.scratchMeets_word hi hb hl hp).trans (if_neg (by decide))) .fabric).trans
    (State.raise_fabric _ _ _ _ _ _ _)

end Reads

/-! ### A tick -/

/-- The scrubber reads the lines of one row of a core, bank by bank. -/
def State.scrubCore (s : State) (row n : Nat) : State :=
  (List.range 32).foldl (fun v bank => v.scratchRead .fabric (spBase + n * 2097152 + bankLine bank row) 256) s

/-- The scrubber reads a row in every core that holds a flipped word. -/
def State.scrubDamaged (s : State) (row : Nat) : State :=
  (((s.badWords.filter fun w => spBase ≤ w.1 && w.1 < ctlBase).map fun w => (w.1 - spBase) / 2097152).eraseDups).foldl
    (fun v n => v.scrubCore row n) s

theorem State.scrubDamaged_none {s : State} (h : s.badWords = []) (row : Nat) : s.scrubDamaged row = s := by
  simp only [State.scrubDamaged, h, List.filter_nil, List.map_nil, List.eraseDups_nil, List.foldl_nil]

theorem State.scrubDamaged_one {s : State} {p k n : Nat} (h : s.badWords = [(p, k)]) (h1 : spBase ≤ p) (h2 : p < ctlBase)
    (hn : (p - spBase) / 2097152 = n) (row : Nat) : s.scrubDamaged row = s.scrubCore row n := by
  have hin : (decide (spBase ≤ p) && decide (p < ctlBase)) = true := by simp [h1, h2]
  simp only [State.scrubDamaged, h, List.filter_cons, hin, if_true, List.filter_nil, List.map_cons, List.map_nil, hn,
    List.eraseDups_cons, List.filter_nil, List.eraseDups_nil, List.foldl_cons, List.foldl_nil]

theorem State.upset_injections (s : State) (p n : Nat) : (s.upset p n).injections = s.injections := by
  unfold State.upset
  split
  · rfl
  · rfl

/-- R49: with nothing armed, the scrubber reads the row in every core that holds a flipped word. -/
theorem exec_scrubTick_eq {s : State} (upsets : List (Nat × Nat × Nat)) (hr : s.railsUp = true) (hi : s.injections = []) :
    let u := (upsets.filter fun x => x.1 < s.grade.cores && x.2.1 < 2097152 && bankRow x.2.1 = s.scrubRow).foldl
      (fun u x => u.upset (spBase + x.1 * 2097152 + x.2.1 / 4 * 4) x.2.2) { s with scrubRow := (s.scrubRow + 1) % 256 }
    exec (.scrubTick upsets) s = .next (u.scrubDamaged s.scrubRow) := by
  intro u
  have hu : u.injections = [] :=
    List.foldlRecOn (motive := fun v : State => v.injections = []) _ _ hi fun v hv x _ => (v.upset_injections _ _).trans hv
  refine congrArg Host.Outcome.next ?_
  unfold State.doScrub
  rw [if_pos hr]
  change (List.eraseDups (((u.injections.filter _).map _) ++ _)).foldl _ u = _
  rw [hu]
  rfl

/-- A fold over a range in which one index alone changes the state. -/
theorem foldl_range_one {α : Type} {f : α → Nat → α} {x y : α} {n i : Nat} (hi : i < n) (before : ∀ j, j < i → f x j = x)
    (at_i : f x i = y) (after : ∀ j, i < j → j < n → f y j = y) : (List.range n).foldl f x = y := by
  have fixed : ∀ (l : List Nat) (z : α), (∀ j ∈ l, f z j = z) → l.foldl f z = z := fun l z h =>
    List.foldlRecOn (motive := (· = z)) l f rfl fun w hw j hj => hw ▸ h j hj
  obtain ⟨m, rfl⟩ : ∃ m, n = i + (m + 1) := ⟨n - i - 1, by omega⟩
  rw [List.range_add, List.foldl_append, fixed _ _ fun j hj => before j (List.mem_range.mp hj), List.range_succ_eq_map]
  simp only [List.map_cons, List.foldl_cons, Nat.add_zero, at_i]
  refine fixed _ _ fun j hj => ?_
  simp only [List.map_map, List.mem_map, List.mem_range, Function.comp] at hj
  obtain ⟨k, hk, rfl⟩ := hj
  exact after _ (by omega) (by omega)

theorem bankOf_lt (a : Nat) : bankOf a < 32 := by
  rw [bankOf_eq]
  exact Nat.xor_lt_two_pow (n := 5) (Nat.xor_lt_two_pow (n := 5) (by omega) (by omega)) (by omega)

/-- The line that a bank holds at a row includes a word of an offset when the offset lies in that bank and row. -/
theorem readsWord_bankLine {n off bank : Nat} (ho : off < 2097152) (hb : bank < 32) :
    readsWord (spBase + n * 2097152 + bankLine bank (bankRow off)) 256 (spBase + n * 2097152 + off / 4 * 4) =
      decide (bank = bankOf off) := by
  have hrow : bankRow off < 256 := by rw [bankRow_eq]; omega
  have hline := bankLine_bankOf_bankRow ho
  have hmul : ∃ m, bankLine bank (bankRow off) = 256 * m :=
    ⟨_, by unfold bankLine; rw [show 8192 = 256 * 32 from rfl, Nat.mul_assoc, ← Nat.mul_add]⟩
  obtain ⟨m, hm⟩ := hmul
  have key : bank = bankOf off ↔ m = off / 256 := by
    constructor
    · intro h
      rw [h, hline] at hm
      omega
    · intro h
      rw [← bankOf_bankLine hb hrow, ← bankOf_bankLine (b := bankOf off) (bankOf_lt off) hrow, hline, hm, h, Nat.mul_comm]
  have hread : readsWord (spBase + n * 2097152 + 256 * m) 256 (spBase + n * 2097152 + off / 4 * 4) = true ↔ m = off / 256 := by
    rw [readsWord_iff]
    unfold spBase
    omega
  rw [hm, Bool.eq_iff_iff, hread, decide_eq_true_eq]
  exact key.symm

/-! ### One upset -/

section Upset
variable {s : State} {n off : Nat}

/-- R49: over the banks of one row, the scrubber meets the one damaged word in the bank of its line. -/
theorem State.scrubCore_one {k : Nat} {t : State} (ho : off < 2097152) (hi : s.injections = [])
    (hb : s.badWords = [(spBase + n * 2097152 + off / 4 * 4, k)])
    (hmet : ∀ a, readsWord a 256 (spBase + n * 2097152 + off / 4 * 4) = true → (a - spBase) / 2097152 = n →
      s.scratchRead .fabric a 256 = t)
    (hafter : ∀ a, readsWord a 256 (spBase + n * 2097152 + off / 4 * 4) = false → t.scratchRead .fabric a 256 = t) :
    s.scrubCore (bankRow off) n = t := by
  have hrow : bankRow off < 256 := by rw [bankRow_eq]; omega
  have miss : ∀ bank, bank < 32 → bank ≠ bankOf off →
      readsWord (spBase + n * 2097152 + bankLine bank (bankRow off)) 256 (spBase + n * 2097152 + off / 4 * 4) = false :=
    fun bank hbank hne => by rw [readsWord_bankLine ho hbank, decide_eq_false hne]
  have hB := bankOf_lt off
  refine foldl_range_one (i := bankOf off) hB (fun j hj => ?_) ?_ fun j hj hj32 => ?_
  · exact State.scratchRead_elsewhere hi hb (miss j (by omega) (by omega)) _
  · refine hmet _ (by rw [readsWord_bankLine ho hB, decide_eq_true rfl]) ?_
    have hline := bankLine_bankOf_bankRow ho
    unfold spBase
    omega
  · exact hafter _ (miss j hj32 (by omega))

/-- R49: one upset in the row that the scrubber reads. -/
theorem exec_scrubTick_one {b : Nat} (hr : s.railsUp = true) (hi : s.injections = []) (hw : s.badWords = [])
    (hn : n < s.grade.cores) (ho : off < 2097152) :
    let u : State := { s with scrubRow := (s.scrubRow + 1) % 256 }
    let p := spBase + n * 2097152 + off / 4 * 4
    exec (.scrubTick [(n, off, b)]) s = .next
      (if b = 0 ∨ bankRow off ≠ s.scrubRow then u
       else ({ u with badWords := [(p, min 2 b)] } : State).scrubCore (bankRow off) n) := by
  intro u p
  have hn768 : n < 768 := by cases hg : s.grade <;> rw [hg] at hn <;> simp only [Grade.cores] at hn <;> omega
  have hcore : (p - spBase) / 2097152 = n ∧ spBase ≤ p ∧ p < ctlBase := by
    simp only [p, spBase, ctlBase]
    omega
  have hub : u.badWords = [] := hw
  refine (exec_scrubTick_eq [(n, off, b)] hr hi).trans (congrArg Host.Outcome.next ?_)
  by_cases hrow : bankRow off = s.scrubRow
  · rw [List.filter_cons_of_pos (by simp [hn, ho, hrow]), List.filter_nil, List.foldl_cons, List.foldl_nil]
    change (u.upset p b).scrubDamaged s.scrubRow = _
    by_cases hb0 : b = 0
    · rw [if_pos (.inl hb0), State.upset, if_pos hb0, State.scrubDamaged_none hub]
    · have hflips : min 2 (u.flips p + b) = min 2 b := by simp [State.flips, hub]
      have hset : Sparse.set 0 u.badWords p (min 2 b) = [(p, min 2 b)] := by
        rw [hub, Sparse.set, if_neg (by omega)]
        rfl
      rw [if_neg (by simp [hb0, hrow]), State.upset, if_neg hb0, State.setFlips, hflips, hset, hrow]
      exact State.scrubDamaged_one rfl hcore.2.1 hcore.2.2 hcore.1 _
  · rw [List.filter_cons_of_neg (by simp [hrow]), List.filter_nil, List.foldl_nil, if_pos (.inr hrow)]
    exact State.scrubDamaged_none hub _

/-- R49: one flipped bit in the row is corrected and counted. -/
theorem State.scrubCore_corrects (ho : off < 2097152) (hi : s.injections = [])
    (hb : s.badWords = [(spBase + n * 2097152 + off / 4 * 4, 1)]) :
    s.scrubCore (bankRow off) n = (({ s with badWords := [] } : State).count 0x001 n 1).corrected := by
  have hu : (({ s with badWords := [] } : State).count 0x001 n 1).corrected.Undamaged := by
    have h : ({ s with badWords := [] } : State).Undamaged := ⟨hi, rfl⟩
    have hc := h.reported (State.count_reported _ 0x001 n 1)
    exact ⟨hc.injections, hc.badWords⟩
  refine State.scrubCore_one ho hi hb (fun a ha hn => ?_) fun a _ => hu.scratchRead _
  rw [State.scratchRead_corrects hi hb (by decide) ha, hn]

/-- R49: two flipped bits in the row stay and are reported. -/
theorem State.scrubCore_reports (ho : off < 2097152) (hi : s.injections = [])
    (hb : s.badWords = [(spBase + n * 2097152 + off / 4 * 4, 2)]) :
    s.scrubCore (bankRow off) n =
      (s.setFld (CoreStatus.spUe n) 1).fabricError St.uncorrectable 0x01 n 0 n false := by
  have hk := (s.setFld_reported (CoreStatus.spUe n) 1).trans (State.fabricError_reported _ St.uncorrectable 0x01 n 0 n false)
  refine State.scrubCore_one ho hi hb (fun a ha hn => ?_) fun a ha =>
    State.scratchRead_elsewhere (hk.injections.trans hi) (hk.badWords.trans hb) ha _
  rw [State.scratchRead_reports hi hb (by decide) ha, hn]

end Upset

end Sys2Proof.Machine
end

section
/-!
Calibration (R28, R29): what one measurement of a replica pair changes, and the tick of a microsecond.
-/
namespace Sys2Proof.Machine

/-- An entry of a map whose entries have all been changed; an unlisted key reads as before. -/
theorem Sparse.get_update {β : Type} [DecidableEq β] {d : β} {f : Nat → β → β} {m : List (Nat × β)}
    (h : Sparse.sorted m = true) {k : Nat} (hd : f k d = d) : Sparse.get d (Sparse.update d f m) k = f k (Sparse.get d m k) := by
  induction m with
  | nil => exact hd.symm
  | cons e m ih =>
    obtain ⟨j, v⟩ := e
    have hs := Sparse.sorted_cons.mp h
    have rest := ih hs.2
    have hcons : Sparse.update d f ((j, v) :: m) =
        if f j v = d then Sparse.update d f m else (j, f j v) :: Sparse.update d f m := by
      simp only [Sparse.update, List.map_cons, List.filter_cons, decide_eq_true_eq, ne_eq, ite_not]
    rw [hcons, Sparse.get]
    by_cases hk : k = j
    · subst hk
      rw [if_pos rfl]
      split
      · next hv =>
        rw [rest, Sparse.get_of_notMem fun x hx => by have := hs.1 x hx; omega, hd, hv]
      · rw [Sparse.get, if_pos rfl]
    · rw [if_neg hk, ← rest]
      split
      · rfl
      · rw [Sparse.get, if_neg hk]

/-! ### The change of a delay line -/

/-- The delay line of a replica pair. -/
def State.delayLine (s : State) (pair : Nat) : Tap := Sparse.get {} s.taps pair

theorem State.tapOf_eq (s : State) (pair : Nat) :
    s.tapOf pair = (s.delayLine pair).tap.getD (Config.startTap s.calDraw pair % 64) := rfl

/-- R28: the change that a measurement brings to the delay line, before the limit of R29 is looked at. -/
def State.adjust (s : State) (pair margin : Nat) : State :=
  let set := fun (t : Tap) => ({ s with taps := Sparse.set {} s.taps pair t } : State)
  if margin < 80 && s.tapOf pair < 63 && (s.delayLine pair).wait = 0 then
    let u := set { tap := some (s.tapOf pair + 1), wait := 10 }
    if 59 ≤ s.tapOf pair + 1 then { u with health := { u.health with n5 := u.health.n5 + 1 } } else u
  else if 200 < margin && 0 < s.tapOf pair && (s.delayLine pair).wait = 0 then set { tap := some (s.tapOf pair - 1), wait := 10 }
  else s

section Measure
variable {s : State} {pair margin : Nat}

theorem State.delayLine_set (h : Sparse.sorted s.taps = true) (t : Tap) :
    ({ s with taps := Sparse.set {} s.taps pair t } : State).delayLine pair = t := by
  unfold State.delayLine
  rw [Sparse.get_set h, if_pos rfl]

theorem State.adjust_injections : (s.adjust pair margin).injections = s.injections := by
  unfold State.adjust
  dsimp only
  split
  · split
    · rfl
    · rfl
  · split
    · rfl
    · rfl

/-- R28: a margin below 8 % moves the line up by one tap. -/
theorem State.adjust_up (hs : Sparse.sorted s.taps = true) (hm : margin < 80) (ht : s.tapOf pair < 63)
    (hw : (s.delayLine pair).wait = 0) :
    (s.adjust pair margin).delayLine pair = { tap := some (s.tapOf pair + 1), wait := 10 } := by
  unfold State.adjust
  rw [if_pos (by simp [hm, ht, hw])]
  dsimp only
  split
  · exact State.delayLine_set hs _
  · exact State.delayLine_set hs _

/-- R28: a margin above 20 % moves the line down by one tap. -/
theorem State.adjust_down (hs : Sparse.sorted s.taps = true) (hm : 200 < margin) (ht : 0 < s.tapOf pair)
    (hw : (s.delayLine pair).wait = 0) :
    (s.adjust pair margin).delayLine pair = { tap := some (s.tapOf pair - 1), wait := 10 } := by
  unfold State.adjust
  rw [if_neg (by simp; omega), if_pos (by simp [hm, ht, hw])]
  exact State.delayLine_set hs _

/-- R28, R29: within the margins, at the last tap, or while it waits, the line stays. -/
theorem State.adjust_stays
    (h : (80 ≤ margin ∧ margin ≤ 200) ∨ (s.delayLine pair).wait ≠ 0 ∨ (margin < 80 ∧ s.tapOf pair = 63)) :
    s.adjust pair margin = s := by
  unfold State.adjust
  rw [if_neg (by simp; omega), if_neg (by simp; omega)]

/-- R28, R29: without an armed injection a measurement adjusts the line, and sets CAL_LIMIT below 8 % at the last tap. -/
theorem State.measure_eq (hi : s.injections = []) (n path : Nat) :
    s.measure n path margin =
      if margin < 80 ∧ s.tapOf (n * 4 + path) = 63 then (s.adjust (n * 4 + path) margin).calLimit n false
      else s.adjust (n * 4 + path) margin := by
  have hu : (s.adjust (n * 4 + path) margin).injections = [] := State.adjust_injections.trans hi
  change (let f := (s.adjust (n * 4 + path) margin).fire 0x06 n fun _ => true
    if f.1.isSome then f.2.calLimit n true
    else if margin < 80 && s.tapOf (n * 4 + path) = 63 then f.2.calLimit n false else f.2) = _
  rw [State.fire_nil hu]
  simp only [Option.isSome_none, Bool.false_eq_true, if_false, Bool.and_eq_true, decide_eq_true_eq]

end Measure

/-! ### CAL_LIMIT (R29) -/

theorem Grade.dieRow_lt {g : Grade} {n : Nat} (h : n < g.cores) : (g.dieRow n).1 < 48 := by
  cases g with
  | f =>
    simp only [Grade.cores] at h
    simp only [Grade.dieRow]
    omega
  | m =>
    simp only [Grade.cores] at h
    simp only [Grade.dieRow]
    split
    · omega
    · split <;> omega

/-- The record of a column writes FAB.SPARE and SPARE_CAND of cores, and leaves CAL_LIMIT. -/
theorem State.recordCol_keeps_calLimit {s : State} {n row : Nat} (hrow : row < 48) (col : Nat) :
    KeepsFld (CoreStatus.calLimit n) s (s.recordCol row col) := by
  have spare : ∀ (g : RegField), g.reg = .fabSpare row → ∀ u v, KeepsFld (CoreStatus.calLimit n) u (State.setFld u g v) :=
    fun g hg u v => State.setFld_keepsFld (.inl (by rw [hg]; simp only [CoreStatus.calLimit, Reg.offset]; omega)) u v
  have apart : ∀ k, (CoreStatus.calLimit n).apart (CoreStatus.spareCand k) := fun k => by
    by_cases hk : k = n
    · subst hk
      exact .inr (by simp [CoreStatus.calLimit, CoreStatus.spareCand])
    · exact .inl (by simp only [CoreStatus.calLimit, CoreStatus.spareCand, Reg.offset]; omega)
  have cand : ∀ u, KeepsFld (CoreStatus.calLimit n) u (State.showCand u row) := fun u =>
    KeepsFld.foldl (fun v k => KeepsFld.ite (State.setFld_keepsFld (apart k) v _) (KeepsFld.refl _ v)) _ u
  unfold State.recordCol
  refine KeepsFld.ite ?_ (KeepsFld.ite (spare _ rfl _ _) (KeepsFld.refl _ s))
  exact ((spare _ rfl _ _).trans (spare _ rfl _ _)).trans (cand _)

/-- R29: CAL_LIMIT reads 1 once the limit is reported. -/
theorem State.calLimit_flag {s : State} (hs : Sparse.sorted s.regs = true) {n : Nat} (hn : n < s.grade.cores) (inj : Bool) :
    (s.calLimit n inj).flag (CoreStatus.calLimit n) = true := by
  let u := s.setFld (CoreStatus.calLimit n) 1
  have hset : u.fld (CoreStatus.calLimit n) = 1 := State.fld_setFld hs (Nat.le_refl 10) (by simp [CoreStatus.calLimit]) 1
  have hev : Reg.offset (.coreStatus n) ≠ Reg.offset .telEvtStatus := by simp only [Reg.offset]; omega
  have hcount := State.count_keepsFld (f := CoreStatus.calLimit n) hev u 0x00F n 1
  have hgrade : (u.count 0x00F n 1).grade = s.grade := (State.count_reported u 0x00F n 1).grade
  have hrow : ((u.count 0x00F n 1).grade.dieRow n).1 < 48 := Grade.dieRow_lt (hgrade ▸ hn)
  have hrec := State.recordCol_keeps_calLimit (s := u.count 0x00F n 1) (n := n) hrow ((u.count 0x00F n 1).physCol n)
  have herr := State.fabricError_keepsFld (f := CoreStatus.calLimit n) hev (by simp only [CoreStatus.calLimit, Reg.offset]; omega)
    (by simp only [CoreStatus.calLimit, Reg.offset]; omega) ((u.count 0x00F n 1).recordCore n) St.uncorrectable 0x06 n 0 n inj
  have hall := ((hcount.trans hrec).trans herr) (State.sorted_setFld hs _ _)
  exact decide_eq_true (hall.2.trans hset)

/-! ### One measurement, and the tick -/

section Pair
variable {s : State} {n path margin : Nat}

/-- A measurement that reports no limit only adjusts the line. -/
theorem State.measure_adjusts (hi : s.injections = []) (h : ¬ (margin < 80 ∧ s.tapOf (n * 4 + path) = 63)) :
    s.measure n path margin = s.adjust (n * 4 + path) margin := by
  rw [State.measure_eq hi, if_neg h]

theorem State.measure_up (hs : Sparse.sorted s.taps = true) (hi : s.injections = []) (hm : margin < 80)
    (ht : s.tapOf (n * 4 + path) < 63) (hw : (s.delayLine (n * 4 + path)).wait = 0) :
    (s.measure n path margin).tapOf (n * 4 + path) = s.tapOf (n * 4 + path) + 1 ∧
      ((s.measure n path margin).delayLine (n * 4 + path)).wait = 10 := by
  rw [State.measure_adjusts hi (by omega), State.tapOf_eq, State.adjust_up hs hm ht hw]
  exact ⟨rfl, rfl⟩

theorem State.measure_down (hs : Sparse.sorted s.taps = true) (hi : s.injections = []) (hm : 200 < margin)
    (ht : 0 < s.tapOf (n * 4 + path)) (hw : (s.delayLine (n * 4 + path)).wait = 0) :
    (s.measure n path margin).tapOf (n * 4 + path) = s.tapOf (n * 4 + path) - 1 ∧
      ((s.measure n path margin).delayLine (n * 4 + path)).wait = 10 := by
  rw [State.measure_adjusts hi (by omega), State.tapOf_eq, State.adjust_down hs hm ht hw]
  exact ⟨rfl, rfl⟩

/-- R28: a line within its margins, or one that waits, stays, whether or not the limit is reported. -/
theorem State.measure_stays (hi : s.injections = [])
    (h : (80 ≤ margin ∧ margin ≤ 200) ∨ (s.delayLine (n * 4 + path)).wait ≠ 0) :
    (s.measure n path margin).tapOf (n * 4 + path) = s.tapOf (n * 4 + path) := by
  rw [State.measure_eq hi, State.adjust_stays (h.imp_right .inl)]
  split
  · have hk := s.calLimit_reported n false
    unfold State.tapOf
    rw [hk.taps, hk.calDraw]
  · rfl

/-- R29: below 8 % at tap 63 CAL_LIMIT is set. -/
theorem State.measure_limit (hs : Sparse.sorted s.regs = true) (hi : s.injections = []) (hn : n < s.grade.cores) (hm : margin < 80)
    (ht : s.tapOf (n * 4 + path) = 63) : (s.measure n path margin).flag (CoreStatus.calLimit n) = true := by
  rw [State.measure_eq hi, if_pos ⟨hm, ht⟩, State.adjust_stays (.inr (.inr ⟨hm, ht⟩))]
  exact State.calLimit_flag hs hn false

/-- R28: a microsecond lowers what a line waits. -/
theorem State.ageTaps_wait (hs : Sparse.sorted s.taps = true) (pair : Nat) :
    (s.ageTaps.delayLine pair).wait = (s.delayLine pair).wait - 1 := by
  have h := Sparse.get_update (d := ({} : Tap)) (f := fun _ x => { x with wait := x.wait - 1 }) hs (k := pair) rfl
  exact congrArg Tap.wait h

end Pair

/-- R28: the measurements that a tick takes are among those that it lists. -/
theorem mem_of_mem_onePerPair {margins : List (Nat × Nat × Nat)} {x : Nat × Nat × Nat} (h : x ∈ onePerPair margins) :
    x ∈ margins := by
  refine List.foldlRecOn (motive := fun l => ∀ x ∈ l, x ∈ margins) margins _ (by simp) (fun l hl y hy => ?_) x h
  split
  · exact hl
  · intro z hz
    rcases List.mem_append.mp hz with hz | hz
    · exact hl z hz
    · exact List.mem_singleton.mp hz ▸ hy

/-- R28: measurements of the cores of the grade are all taken. -/
theorem foldl_measure_of_cores {g : Grade} (l : List (Nat × Nat × Nat)) (hl : ∀ x ∈ l, x.1 < g.cores ∧ x.2.1 < 4) (u : State)
    (hu : u.grade = g) :
    l.foldl (fun s x => if x.1 < s.grade.cores && x.2.1 < 4 then s.measure x.1 x.2.1 x.2.2 else s) u =
      l.foldl (fun s x => s.measure x.1 x.2.1 x.2.2) u := by
  induction l generalizing u with
  | nil => rfl
  | cons x l ih =>
    have hx : (decide (x.1 < u.grade.cores) && decide (x.2.1 < 4)) = true := by
      simpa only [hu, Bool.and_eq_true, decide_eq_true_eq] using hl x (by simp)
    rw [List.foldl_cons, List.foldl_cons, if_pos hx]
    exact ih (fun y hy => hl y (List.mem_cons_of_mem _ hy)) _ ((State.measure_steady .rfl).grade.trans hu)

theorem exec_calibrationTick_eq {s : State} {margins : List (Nat × Nat × Nat)} (hr : s.railsUp = true) (hi : s.injections = [])
    (hm : ∀ x ∈ margins, x.1 < s.grade.cores ∧ x.2.1 < 4) :
    exec (.calibrationTick margins) s =
      .next ((onePerPair margins).foldl (fun u x => u.measure x.1 x.2.1 x.2.2) s.ageTaps) := by
  have hrails : (List.range s.grade.dies).foldl (fun s die => s.checkRail die) s = s :=
    List.foldl_fixed' (fun _ => State.checkRail_nil hi) _
  refine congrArg Host.Outcome.next ?_
  unfold State.doCalibration
  rw [if_pos hr, hrails]
  exact foldl_measure_of_cores _ (fun x hx => hm x (mem_of_mem_onePerPair hx)) _ rfl

end Sys2Proof.Machine
end

section
/-!
The slow loop (R34 to R36): the fraction that it sets, and the die that a hot junction trips.
-/
namespace Sys2Proof.Machine

/-- R34 to R36: the fraction that the slow loop needs, in 1/256: below the floor where a limit is exceeded, else a free value. -/
def State.neededFraction (s : State) : Nat :=
  if s.overEnvelope then 0
  else Config.slowLoop s.paceDraws (s.fld PwrInPower.p10usW) (s.fld PwrInPower.p1sW) (s.fld PaceEnvLimit.limitW) s.hotJunction
    (s.fld PaceEnvLimit.tjTargetC) % 257

theorem State.neededFraction_le (s : State) : s.neededFraction ≤ 256 := by
  unfold State.neededFraction
  split
  · omega
  · omega

/-- The state with the fraction and ENV_ACTIVE set, before ENV_UNHELD. -/
def State.fractionShown (s : State) : State :=
  (({ s with paceDraws := s.paceDraws + 1, envUnheld := decide (s.neededFraction < 160) } : State).setFld PaceStatus.gapFrac
    (max 160 s.neededFraction - 160)).setFld PaceStatus.envActive (b2n (max 160 s.neededFraction < 256))

/-- R35: a need below the floor sets ENV_UNHELD, with an event when it begins. -/
theorem State.setFraction_eq (s : State) :
    s.setFraction =
      if s.neededFraction < 160 then
        (if s.envUnheld then s.fractionShown.setFld PaceStatus.envUnheld 1
         else (s.fractionShown.setFld PaceStatus.envUnheld 1).event 0x05 0)
      else s.fractionShown := by
  unfold State.setFraction
  simp only [← State.neededFraction.eq_1]
  rfl

theorem State.setFraction_reported (s : State) : Reported s.fractionShown s.setFraction := by
  rw [State.setFraction_eq]
  have h := s.fractionShown.setFld_reported PaceStatus.envUnheld 1
  exact Reported.ite (Reported.ite h (h.trans (State.event_reported _ _ _))) (Reported.refl _)

/-- A field of PACE.STATUS other than ENV_UNHELD reads what was shown. -/
theorem State.setFraction_keeps {f : RegField} (s : State) (hf : f.apart PaceStatus.envUnheld)
    (he : Reg.offset f.reg ≠ Reg.offset .telEvtStatus) : KeepsFld f s.fractionShown s.setFraction := by
  rw [State.setFraction_eq]
  have h := State.setFld_keepsFld hf s.fractionShown 1
  have hev := State.event_keepsFld he (s.fractionShown.setFld PaceStatus.envUnheld 1) 0x05 0
  exact KeepsFld.ite (KeepsFld.ite h (h.trans hev)) (KeepsFld.refl f _)

/-- GAP_FRAC keeps what was written while ENV_ACTIVE, of the same register, is. -/
theorem State.fld_gapFrac_shown {s : State} (hs : Sparse.sorted s.regs = true) (v w : Nat) :
    ((s.setFld PaceStatus.gapFrac v).setFld PaceStatus.envActive w).fld PaceStatus.gapFrac = v % 2 ^ 8 :=
  (State.fld_setFld_other (f := PaceStatus.envActive) (x := PaceStatus.gapFrac) (State.sorted_setFld hs _ v) (by decide)
    (by decide) rfl (by decide) (.inl (by decide)) w).trans (State.fld_setFld hs (by decide) (by decide) v)

section Fraction
variable {s : State} (hs : Sparse.sorted s.regs = true)
include hs

theorem State.fractionShown_sorted : Sparse.sorted s.fractionShown.regs = true :=
  State.sorted_setFld (State.sorted_setFld hs _ _) _ _

/-- R34: GAP_FRAC shows the fraction above its floor. -/
theorem State.setFraction_gapFrac : s.setFraction.fld PaceStatus.gapFrac = max 160 s.neededFraction - 160 := by
  have hle := s.neededFraction_le
  have hshow : s.fractionShown.fld PaceStatus.gapFrac = (max 160 s.neededFraction - 160) % 2 ^ 8 :=
    State.fld_gapFrac_shown hs _ _
  have hkeep := s.setFraction_keeps (f := PaceStatus.gapFrac) (.inr (by decide)) (by decide)
  rw [(hkeep (State.fractionShown_sorted hs)).2, hshow]
  omega

/-- R34: ENV_ACTIVE tells a fraction below 16/16. -/
theorem State.setFraction_envActive : s.setFraction.fld PaceStatus.envActive = b2n (max 160 s.neededFraction < 256) := by
  have hshow : s.fractionShown.fld PaceStatus.envActive = b2n (max 160 s.neededFraction < 256) % 2 ^ 1 :=
    State.fld_setFld (State.sorted_setFld hs _ _) (by decide) (by decide) _
  rw [((s.setFraction_keeps (f := PaceStatus.envActive) (.inr (by decide)) (by decide)) (State.fractionShown_sorted hs)).2, hshow]
  unfold b2n
  split <;> rfl

/-- R35: a need below the floor shows in ENV_UNHELD. -/
theorem State.setFraction_envUnheld (h : s.neededFraction < 160) : s.setFraction.fld PaceStatus.envUnheld = 1 := by
  have hset : (s.fractionShown.setFld PaceStatus.envUnheld 1).fld PaceStatus.envUnheld = 1 :=
    State.fld_setFld (State.fractionShown_sorted hs) (by decide) (by decide) 1
  rw [State.setFraction_eq, if_pos h]
  split
  · exact hset
  · exact ((State.event_keepsFld (f := PaceStatus.envUnheld) (by decide) _ 0x05 0)
      (State.sorted_setFld (State.fractionShown_sorted hs) _ _)).2.trans hset

end Fraction

/-- R36: with nothing armed the die of a trip is that of the first hot junction: a compute die's, else a stack's. -/
theorem State.tripDie_nil {s : State} (h : s.injections = []) :
    s.tripDie =
      (((s.dieTemp.find? (105 ≤ ·.2)).map fun x => (x.1, false)).or
        ((s.stackTemp.find? (105 ≤ ·.2)).map fun x => (x.1 / 2, false)), s) := by
  have hfold : (List.range s.grade.dies).foldl (fun (acc : Option Nat × State) die =>
      let r := acc.2.fire 0x08 die fun _ => true
      (if r.1.isSome then acc.1.orElse (fun _ => some die) else acc.1, r.2)) (none, s) = (none, s) :=
    List.foldl_fixed' (fun die => by simp only [State.fire_nil h]; rfl) _
  unfold State.tripDie
  rw [hfold]
  cases hd : s.dieTemp.find? (105 ≤ ·.2) with
  | some x => rfl
  | none =>
    cases hk : s.stackTemp.find? (105 ≤ ·.2) with
    | some x => rfl
    | none => rfl

end Sys2Proof.Machine
end

section
/-!
The rows of the pace governor, of the health monitor (R427, R428) and of sampling (R518 to R520), and O52.
-/
namespace Sys2Proof.Machine

/-- R34 to R36: a tick of the slow loop with nothing armed. -/
theorem exec_slowLoopTick_eq {s : State} {dieC stackC : List Nat} (hr : s.railsUp = true) (hi : s.injections = []) :
    let s1 := { s with dieTemp := readings s.grade.dies dieC, stackTemp := readings s.grade.stackNum stackC }
    let u := (s1.setFld PaceStatus.tjHigh (b2n (decide (s.fld PaceEnvLimit.tjTargetC < s1.hotJunction)))).setFraction
    exec (.slowLoopTick dieC stackC) s = .next
      (match s1.dieTemp.find? (105 ≤ ·.2), s1.stackTemp.find? (105 ≤ ·.2) with
       | some x, _ => u.trip x.1 false
       | none, some x => u.trip (x.1 / 2) false
       | none, none => u) := by
  intro s1 u
  have hu : Reported (s1.setFld PaceStatus.tjHigh (b2n (decide (s.fld PaceEnvLimit.tjTargetC < s1.hotJunction)))).fractionShown u :=
    State.setFraction_reported _
  refine congrArg Host.Outcome.next ?_
  unfold State.doSlowLoop
  rw [if_pos hr]
  change (match u.tripDie.1 with
    | some (die, inj) => u.tripDie.2.trip die inj
    | none => u.tripDie.2) = _
  rw [State.tripDie_nil (hu.injections.trans hi), show u.dieTemp = s1.dieTemp from hu.dieTemp,
    show u.stackTemp = s1.stackTemp from hu.stackTemp]
  cases s1.dieTemp.find? (105 ≤ ·.2) with
  | some x => rfl
  | none =>
    cases s1.stackTemp.find? (105 ≤ ·.2) with
    | some x => rfl
    | none => rfl

/-- R427: the health monitor is updated once at the end of a period. -/
theorem State.doHealth_eq (s : State) :
    s.doHealth = if s.healthDone = true ∨ s.fld TelIntervalCnt.count % 100000 ≠ 0 then s else s.tickHealth := by
  unfold State.doHealth State.healthDue
  by_cases h : s.healthDone = true ∨ s.fld TelIntervalCnt.count % 100000 ≠ 0
  · rw [if_pos h, if_neg]
    simpa only [Bool.and_eq_true, Bool.not_eq_true', decide_eq_true_eq, not_and_or, Bool.not_eq_false] using h
  · rw [if_neg h, if_pos]
    rw [not_or, not_not] at h
    simp [h]

/-- R49: one upset in a line of the row that is read: none is left alone, one flip is corrected, more are reported. -/
theorem exec_scrubTick_upset {s : State} {n off b : Nat} (hr : s.railsUp = true) (hi : s.injections = []) (hw : s.badWords = [])
    (hn : n < s.grade.cores) (ho : off < 2097152) :
    let u : State := { s with scrubRow := (s.scrubRow + 1) % 256 }
    exec (.scrubTick [(n, off, b)]) s = .next
      (if b = 0 ∨ bankRow off ≠ s.scrubRow then u
       else if b = 1 then (u.count 0x001 n 1).corrected
       else (({ u with badWords := [(spBase + n * 2097152 + off / 4 * 4, 2)] } : State).setFld (CoreStatus.spUe n) 1).fabricError
         St.uncorrectable 0x01 n 0 n false) := by
  intro u
  have hu : ({ u with badWords := [] } : State) = u := by rw [← hw]
  rw [exec_scrubTick_one hr hi hw hn ho]
  refine congrArg Host.Outcome.next ?_
  split
  · rfl
  · next hb =>
    split
    · next h1 =>
      subst h1
      have hc := State.scrubCore_corrects (s := { u with badWords := [(spBase + n * 2097152 + off / 4 * 4, 1)] }) ho hi rfl
      exact hc.trans (congrArg (fun v : State => (v.count 0x001 n 1).corrected) hu)
    · next h1 =>
      rw [show min 2 b = 2 by omega]
      exact State.scrubCore_reports ho hi rfl

/-- R32: a critical droop of a die of the grade, its two events in the order that the free value gives. -/
theorem exec_criticalDroop_eq {s : State} {die : Nat} (hr : s.railsUp = true) (hd : die < s.grade.dies) :
    let u := ({ s with paceDraws := s.paceDraws + 1 } : State).setFld PaceStatus.critEvent 1
    exec (.criticalDroop die) s = .next (if Config.eventOrder s.paceDraws then
        (u.event 0x04 die).fabricError St.uncorrectable 0x07 die 0 die false
      else (u.fabricError St.uncorrectable 0x07 die 0 die false).event 0x04 die) := by
  intro u
  have hruns : s.dieRuns die = true := by simp [State.dieRuns, hr, hd]
  refine congrArg Host.Outcome.next ((if_pos hruns).trans ?_)
  by_cases h : Config.eventOrder s.paceDraws = true
  · simp only [State.crit, h, if_true, u]
  · simp only [State.crit, h, if_false, u, Bool.false_eq_true]

/-- R427, R428: the health monitor at the end of a period. -/
theorem State.tickHealth_eq (s : State) :
    let risk := s.nextRisk
    let armed := s.health.armed || decide (2 * risk < s.fld TelHealthCfg.thr)
    let u := ({ s with health := { armed }, healthDone := true } : State).setFld TelHealthStatus.risk risk
    let v := (({ u with health := { armed := false } } : State).setFld TelHealthStatus.tripped 1).event 0x08 0
    s.tickHealth =
      if s.fld TelHealthCfg.thr ≤ risk ∧ armed = true then
        (if v.flag TelHealthCfg.auto && v.fld TelHealthPreset.addr ≠ 0 && v.snapArm.isNone then v.armPreset else v)
      else u := by
  intro risk armed u v
  by_cases h : s.fld TelHealthCfg.thr ≤ risk ∧ armed = true
  · rw [if_pos h]
    exact if_pos (by rw [decide_eq_true h.1, Bool.true_and]; exact h.2)
  · rw [if_neg h]
    exact if_neg (by rwa [Bool.and_eq_true, decide_eq_true_eq])

/-- R518, R520: a sample that is due. -/
theorem State.doSample_due {s : State} (h : s.sampleDue = true) :
    s.doSample =
      if (BitVec.ofNat 32 (s.fld TelTeleIdx.tail) - BitVec.ofNat 32 (s.fld TelTeleIdx.head)).toNat = 64 then
        { s with teleSeq := (s.teleSeq + 1) % 2 ^ 32, teleLost := true, sampleDone := true }
      else
        (({ s.setRaw (areaBase 11 + 1024 * ((BitVec.ofNat 32 (s.fld TelTeleIdx.tail)).toNat % 64)) s.teleRecord with
            teleSeq := (s.teleSeq + 1) % 2 ^ 32, teleLost := false, sampleDone := true } : State)).setFld
          TelTeleIdx.tail (BitVec.ofNat 32 (s.fld TelTeleIdx.tail) + 1).toNat :=
  if_neg (by simp [h])

/-- R34, R35: the fraction stays within 10/16 and 16/16, and a limit exceeded holds it at its floor. -/
theorem State.setFraction_floor {s : State} (hs : Sparse.sorted s.regs = true) :
    s.setFraction.fld PaceStatus.gapFrac + 160 ≤ 256 ∧
      (s.overEnvelope = true → s.setFraction.fld PaceStatus.gapFrac = 0 ∧ s.setFraction.flag PaceStatus.envActive = true ∧
        s.setFraction.flag PaceStatus.envUnheld = true ∧ s.setFraction.envUnheld = true) := by
  have hle := s.neededFraction_le
  rw [State.setFraction_gapFrac hs]
  refine ⟨by omega, fun hover => ?_⟩
  have hzero : s.neededFraction = 0 := if_pos hover
  have hunheld : s.setFraction.envUnheld = decide (s.neededFraction < 160) := s.setFraction_reported.envUnheld
  refine ⟨by omega, ?_, ?_, hunheld.trans (by rw [hzero]; rfl)⟩
  · exact decide_eq_true (by rw [State.setFraction_envActive hs, hzero]; rfl)
  · exact decide_eq_true (State.setFraction_envUnheld hs (by omega))

/-- Settles O52: each row of pace and health, by the lemma that says what it does. -/
theorem paceAndHealthRowsRun : Obligations.PaceAndHealthRowsRun := by
  refine ⟨fun a ha => ⟨bankLine_bankOf_bankRow ha, fun b r hb hr => ⟨bankOf_bankLine hb hr, bankRow_bankLine hb hr⟩⟩,
    fun _ _ _ _ hk _ hb hi hj hij => bankOf_stride_ne hk hb hi hj hij,
    fun _ upsets => exec_scrubTick_eq upsets,
    fun s n off b hr hi hw hn ho _ => exec_scrubTick_upset hr hi hw hn ho,
    fun _ _ => exec_calibrationTick_eq,
    fun s n path margin hs hi hn => ?measure,
    fun s n hr hn => congrArg Host.Outcome.next (if_pos (by simp [hr, hn])),
    fun s die hr hd => ⟨exec_criticalDroop_eq hr hd, congrArg Host.Outcome.next (if_pos (by simp [hr, hd]))⟩,
    fun s hp => congrArg Host.Outcome.next (if_pos hp),
    fun s _ _ ha => congrArg Host.Outcome.next (if_pos ha),
    fun _ _ _ => exec_slowLoopTick_eq,
    fun s hs => State.setFraction_floor hs.regs.1,
    fun s => congrArg Host.Outcome.next (s.doHealth_eq.trans (by rw [s.tickHealth_eq]; rfl)),
    fun s hper hbm hdone hcnt => ?sample⟩
  case measure =>
    exact ⟨fun hm ht hw => State.measure_up hs.taps hi hm ht hw, fun hm ht hw => State.measure_down hs.taps hi hm ht hw,
      fun h => State.measure_stays hi h, fun hm ht => State.measure_limit hs.regs.1 hi hn hm ht, State.ageTaps_wait hs.taps _⟩
  case sample =>
    have hdue : s.sampleDue = true := by simp [State.sampleDue, hbm, hdone, hcnt, Nat.pos_of_ne_zero hper]
    exact congrArg Host.Outcome.next (State.doSample_due hdue)

end Sys2Proof.Machine
end

section
/-!
TOKEN_HEADER_ENTRY (R55, R108, R122, R123): what becomes of the oldest token under way on a route, and O29.
-/
namespace Sys2Proof.Machine

section Arrival
variable {s : State} {k : Nat} {r : RouteRec} {w : WaitTok} {rest : List WaitTok}
  (hr : s.im.route? k = some r) (hw : (s.route k).inflight = w :: rest)
include hr hw

/-- R55: it stays under way behind one sent before it. -/
theorem State.doHeaderEntry_overtaking (ho : s.overtakes k r w = true) : s.doHeaderEntry k = s := by
  simp only [State.doHeaderEntry, hr, hw, if_pos ho]

/-- R123: a token of another epoch is discarded. -/
theorem State.doHeaderEntry_stale (ho : ¬ s.overtakes k r w = true) (he : w.hdr.epoch ≠ s.epoch) :
    s.doHeaderEntry k =
      (((s.modRoute k fun x => { x with inflight := rest }).count 0x005 (if r.dstKind = 0 then r.dst else 0xFFFFF) 1).modRoute k
        fun x => { x with returning := x.returning + 1 }) := by
  simp only [State.doHeaderEntry, hr, hw, if_neg ho, if_pos he]

/-- R108: in a core the header enters the in queue of the route. -/
theorem State.doHeaderEntry_core (ho : ¬ s.overtakes k r w = true) (he : ¬ w.hdr.epoch ≠ s.epoch) (hd : r.dstKind = 0) :
    s.doHeaderEntry k = (s.modRoute k fun x => { x with inflight := rest }).enterQueue r.dst r.dstQ k w.hdr
      (if w.inPlace then w.parent else none) := by
  simp only [State.doHeaderEntry, hr, hw, if_neg ho, if_neg he, if_pos hd]

/-- R108: a front port or a collective engine empties its place at once. -/
theorem State.doHeaderEntry_taken (ho : ¬ s.overtakes k r w = true) (he : ¬ w.hdr.epoch ≠ s.epoch) (hd : ¬ r.dstKind = 0)
    (hu : unitKindOf r.dst = 2 ∨ unitKindOf r.dst = 3) :
    s.doHeaderEntry k =
      (s.modRoute k fun x => { x with inflight := rest }).modRoute k fun x => { x with returning := x.returning + 1 } := by
  simp only [State.doHeaderEntry, hr, hw, if_neg ho, if_neg he, if_neg hd, Bool.or_eq_true, decide_eq_true_eq, if_pos hu]

/-- R108, R383: any other unit keeps the token, and a Laulo port sends on what its stream has credits for. -/
theorem State.doHeaderEntry_kept (ho : ¬ s.overtakes k r w = true) (he : ¬ w.hdr.epoch ≠ s.epoch) (hd : ¬ r.dstKind = 0)
    (hu : ¬ (unitKindOf r.dst = 2 ∨ unitKindOf r.dst = 3)) :
    let unit := (s.modRoute k fun x => { x with inflight := rest }).modRoute k
      fun x => { x with unitIn := x.unitIn ++ [{ w with parent := none, inPlace := false }] }
    s.doHeaderEntry k = if unitKindOf r.dst = 1 then unit.flushStream k r else unit := by
  simp only [State.doHeaderEntry, hr, hw, if_neg ho, if_neg he, if_neg hd, Bool.or_eq_true, decide_eq_true_eq, if_neg hu]

end Arrival

/-- Settles O29, by the fate of the token: behind another, stale, at a core, at a unit that takes it at once, at another unit. -/
theorem headersEnterInOrder : Obligations.HeadersEnterInOrder := by
  intro s k r w rest hr hw s1 unit
  refine congrArg Host.Outcome.next ?_
  by_cases ho : s.overtakes k r w = true
  · exact (State.doHeaderEntry_overtaking hr hw ho).trans (if_pos ho).symm
  rw [if_neg ho]
  by_cases he : w.hdr.epoch ≠ s.epoch
  · exact (State.doHeaderEntry_stale hr hw ho he).trans (if_pos he).symm
  rw [if_neg he]
  by_cases hd : r.dstKind = 0
  · exact (State.doHeaderEntry_core hr hw ho he hd).trans (if_pos hd).symm
  rw [if_neg hd]
  by_cases hu : unitKindOf r.dst = 2 ∨ unitKindOf r.dst = 3
  · exact (State.doHeaderEntry_taken hr hw ho he hd hu).trans (if_pos hu).symm
  · exact (State.doHeaderEntry_kept hr hw ho he hd hu).trans (if_neg hu).symm

end Sys2Proof.Machine
end

section
/-!
CHECKPOINT_SAVE, CHECKPOINT_RESTORE (R214 to R220) and TENANT_FEED (R449) while the fabric runs, and O37.
-/
namespace Sys2Proof.Machine

/-- The units serve orders while an image is active and its run has not stopped. -/
theorem State.not_isNone_or_halted {s : State} (hi : s.image.isSome = true) (hh : s.halted = false) :
    ¬ (s.image.isNone || s.halted) = true := by
  simp [hh, Option.isSome_iff_ne_none.mp hi]

/-- R449: the condition under which a feed waits does not hold with a tile left, a credit and a free slot. -/
theorem State.feed_goes_on {s : State} {k left sent off : Nat} (hwork : s.working = true) (hcredit : s.canSend k = true)
    (hleft : sent < left) (hslot : s.slotFree k off = true) :
    ¬ (!s.working || decide (left ≤ sent) || !s.canSend k || !s.slotFree k off) = true := by
  simp [hwork, hcredit, hslot, hleft]

/-- Settles O37: a save and a restore go on from the order that their unit serves or takes, and a feed that goes on, with a tag that
hits a unit in range, queues the tile that it has read. -/
theorem checkpointsAndFeedsRun : Obligations.CheckpointsAndFeedsRun := by
  refine ⟨fun s u n hi hh => ⟨?save, ?restore⟩, fun s s2 k unit f r rt hwork hfeed hseg hroute hcredit => ?feed⟩
  case save => exact congrArg (fun t : State => Host.Outcome.next t.evalFlags) (if_neg (State.not_isNone_or_halted hi hh))
  case restore => exact congrArg (fun t : State => Host.Outcome.next t.evalFlags) (if_neg (State.not_isNone_or_halted hi hh))
  case feed =>
    intro sent t tag win off hleft hslot hlook hunit acc
    have hhit : (some unit).filter (fun u => decide (u < (s2.geom f.2.home).units true)) = some unit :=
      Option.filter_some_pos (decide_eq_true hunit)
    refine congrArg Host.Outcome.next ?_
    simp only [State.doFeed, hfeed, hseg, hroute]
    refine (if_neg (State.feed_goes_on hwork hcredit hleft hslot)).trans ?_
    simp only [tag, sent] at hlook
    simp only [hlook, hhit, Option.isSome_some, Bool.or_true, if_true, Option.getD_some]
    rfl

end Sys2Proof.Machine
end

section
/-!
The rows that run a command of a queue (R299, R312, R416): what each comes to when it accepts, rejects, or misses the memory of its
queue's next command; O20 and O26.
-/
namespace Sys2Proof.Machine

/-- `row` is what the command row `i` gives the shared operation: it makes the checks of `row` and ends a command whose memory fails as
`row` says; and where nothing makes it wait, it comes to the shared operation and what it does after any command. -/
structure RunsRow (i : Instr) (s : State) (q : Nat) (row : Row) : Prop where
  checks : s.checksOf i = some (q, row.checks)
  met : ∀ u c e, row.met u q c e = u.failRow i q c e
  exec_eq : queueOk q = true → s.rowFree i = true → exec i s = .next ((s.runRow q row).afterRow i)

namespace RunsRow
variable {i : Instr} {s t u : State} {q : Nat} {row : Row} {c : Cmd} {e : Err}

/-- A row that waits for nothing beside its queue's turn. -/
theorem of_queueOk (he : exec i s = .next (if queueOk q then (s.runRow q row).afterRow i else s))
    (hk : s.checksOf i = some (q, row.checks)) (hm : ∀ u c e, row.met u q c e = u.failRow i q c e) : RunsRow i s q row :=
  ⟨hk, hm, fun hq _ => he.trans (congrArg Host.Outcome.next (if_pos hq))⟩

/-- A row that waits for another command to be done (R306, R436, R437, R440, R481). -/
theorem of_rowFree (he : exec i s = .next (if queueOk q && s.rowFree i then (s.runRow q row).afterRow i else s))
    (hk : s.checksOf i = some (q, row.checks)) (hm : ∀ u c e, row.met u q c e = u.failRow i q c e) : RunsRow i s q row :=
  ⟨hk, hm, fun hq hf => he.trans (congrArg Host.Outcome.next (if_pos (Bool.and_eq_true_iff.mpr ⟨hq, hf⟩)))⟩

theorem accepted (h : RunsRow i s q row) (ha : s.accepts i = some (t, c)) :
    exec i s = .next ((row.body t c).evalFlags.afterRow i) := by
  obtain ⟨hq, hf, hr⟩ := State.accepts_row h.checks ha
  rw [h.exec_eq hq hf, hr]

/-- R312: a rejected command ends with the error that ranks first among its checks. -/
theorem rejected (h : RunsRow i s q row) (hr : s.rejects i = some (u, c, e)) :
    exec i s = .next ((u.endErr q c.idx e).afterRow i) := by
  obtain ⟨hq, hf, hrun⟩ := State.rejects_row h.checks hr
  rw [h.exec_eq hq hf, hrun]

/-- R416: a command whose memory fails ends with what ranks first among what it met. -/
theorem missed (h : RunsRow i s q row) (hm : s.misses i = some (u, c, e)) :
    exec i s = .next ((u.failRow i q c e).afterRow i) := by
  obtain ⟨hq, hf, hrun⟩ := State.misses_row h.checks hm
  rw [h.exec_eq hq hf, hrun, h.met]

end RunsRow

/-- Every instruction that has checks runs a row with them. STEP_BEGIN looks at one that waits before it takes the next (R319), and
SELFTEST looks for a drain window whether or not it takes one (R481); the others are guarded by their condition alone. -/
theorem State.exists_runsRow {s : State} {i : Instr} {q : Nat} {k : Checks} (h : s.checksOf i = some (q, k)) :
    ∃ row, RunsRow i s q row := by
  cases i with
  | stepBegin p =>
    obtain ⟨rfl, -⟩ := Prod.mk.inj (Option.some.inj h)
    refine ⟨?begin, ?beginChecks, ?beginMet, fun hq hf => congrArg Host.Outcome.next ((if_pos hq).trans ?noneWaits)⟩
    case noneWaits =>
      rw [Option.isNone_iff_eq_none.mp hf]
      rfl
    case beginChecks => exact rfl
    case beginMet => exact fun _ _ _ => rfl
  | selftest p =>
    obtain ⟨rfl, -⟩ := Prod.mk.inj (Option.some.inj h)
    refine ⟨?test, ?testChecks, ?testMet, fun hq hf =>
      congrArg Host.Outcome.next ((if_pos hq).trans (congrArg State.startSelftest ?noneRuns))⟩
    case noneRuns => exact if_neg (Option.not_isSome_iff_eq_none.mpr (Option.isNone_iff_eq_none.mp hf))
    case testChecks => exact rfl
    case testMet => exact fun _ _ _ => rfl
  | fence | forcedActivate | snapDisarm | snapRestore | lizardAdopt | newtScanSave | newtScanRestore =>
    obtain ⟨rfl, -⟩ := Prod.mk.inj (Option.some.inj h)
    exact ⟨_, .of_rowFree rfl rfl fun _ _ _ => rfl⟩
  | nop | flagSet | flagWait | stage | activate | stageAndActivate | segmentRun | stepCommit | stepAbandon | copy | copyTranspose
  | permuteCopy | gather | scatterAdd | inlineWrite | migrateHint | pin | unpin | cartMap | cartFree | reduce | allReduce | allGather
  | reduceScatter | permute | updateStream | gradSum | snapArm | inject =>
    obtain ⟨rfl, -⟩ := Prod.mk.inj (Option.some.inj h)
    exact ⟨_, .of_queueOk rfl rfl fun _ _ _ => rfl⟩
  | _ => cases h

/-- Settles O26: every instruction with checks runs a row, and a row only ends what it rejects or misses. -/
theorem rejectedCommandsOnlyEnd : Obligations.RejectedCommandsOnlyEnd := by
  intro i s u q k c e hk
  obtain ⟨row, hrow⟩ := State.exists_runsRow hk
  exact ⟨hrow.rejected, hrow.missed⟩

/-! ### The COACH_LOAD rows and SEGMENT_RUN -/

/-- Settles O20: each of the five rows runs its body, which is the effect stated; only a forced ACTIVATE waits for a SELFTEST. -/
theorem coachCommandsComplete : Obligations.CoachCommandsComplete := by
  intro s t q c
  refine ⟨fun h => ?stage, fun h => ?activate, fun h => ?forced, fun h => ?stageAndActivate, fun h => ?run⟩
  case stage => exact RunsRow.accepted (.of_queueOk rfl rfl fun _ _ _ => rfl) h
  case activate => exact RunsRow.accepted (.of_queueOk rfl rfl fun _ _ _ => rfl) h
  case forced => exact RunsRow.accepted (.of_rowFree rfl rfl fun _ _ _ => rfl) h
  case stageAndActivate => exact RunsRow.accepted (.of_queueOk rfl rfl fun _ _ _ => rfl) h
  case run => exact RunsRow.accepted (.of_queueOk rfl rfl fun _ _ _ => rfl) h

end Sys2Proof.Machine
end

section
/-!
TOKEN_SEND (R108, R112) of the token that a command gives a port-die unit, and O28.
-/
namespace Sys2Proof.Machine

/-- R108: with nothing waiting at its sender a unit of a port die that commands serve sends the token given, in the current epoch. -/
theorem State.doTokenSend_given {s : State} {k : Nat} {r : RouteRec} {h : TokHdr} {bs : Bytes} (hi : s.image.isSome = true)
    (hh : s.halted = false) (hr : s.im.route? k = some r) (hc : (s.route k).credits ≠ 0) (hw : (s.route k).waiting = [])
    (hs : r.srcKind = 1) (hu : unitKindOf r.src = 2 ∨ unitKindOf r.src = 3 ∨ unitKindOf r.src = 6) :
    s.doTokenSend k (some (h, bs)) =
      s.sendTok k r { hdr := { h with epoch := s.epoch }, values := bs.take h.valLen, scales := (bs.drop h.valLen).take h.scaleLen,
                      parent := none, inPlace := false } := by
  have hgo : ¬ (s.image.isNone || s.halted || decide ((s.route k).credits = 0)) = true := by
    simp [hh, hc, Option.isSome_iff_ne_none.mp hi]
  have hunit : (decide (r.srcKind = 1) && [2, 3, 6].contains (unitKindOf r.src)) = true := by
    simpa [hs] using hu
  simp only [State.doTokenSend, hr, hw, if_neg hgo, if_pos hunit]
  rfl

/-- Settles O28: the unit sends the token, and FLAG_WAITs are evaluated. -/
theorem unitTokensEnterTheFabric : Obligations.UnitTokensEnterTheFabric := by
  intro s k r h bs hi hh hr hc hw hs hu
  exact congrArg (fun t : State => Host.Outcome.next t.evalFlags) (State.doTokenSend_given hi hh hr hc hw hs hu)

end Sys2Proof.Machine
end

section
/-!
What becomes of the commands of the queues: a command stays in its queue, and one that has ended with OK stays ended with OK.
-/
namespace Sys2Proof.Machine

/-- Queue `q` has a command with index `idx`. -/
def State.HasCmd (s : State) (q : Nat) (idx : W32) : Prop := ∃ c ∈ (s.queue q).cmds, c.idx = idx

/-- What queue `q` has with index `idx` has ended with OK. -/
def State.EndedOk (s : State) (q : Nat) (idx : W32) : Prop :=
  ∀ c ∈ (s.queue q).cmds, c.idx = idx → c.phase = .ended ∧ c.status = St.ok

/-- The command that a queue has with an index has ended with OK. -/
theorem State.EndedOk.cmd? {s : State} {q : Nat} {idx : W32} (h : s.EndedOk q idx) (hc : s.HasCmd q idx) :
    ∃ c, s.cmd? q idx = some c ∧ c.phase = .ended ∧ c.status = St.ok := by
  obtain ⟨c, hmem, hidx⟩ := hc
  have hsome : (s.cmd? q idx).isSome = true := List.find?_isSome.mpr ⟨c, hmem, decide_eq_true hidx⟩
  obtain ⟨d, hd⟩ := Option.isSome_iff_exists.mp hsome
  have hdx : decide (d.idx = idx) = true := List.find?_some (p := fun c : Cmd => decide (c.idx = idx)) hd
  exact ⟨d, hd, h d (List.mem_of_find?_eq_some hd) (of_decide_eq_true hdx)⟩

/-- From `s` to `t` the queues keep rising keys, no command leaves its queue, and what has ended with OK stays so. -/
def CommandsStay (s t : State) : Prop :=
  Sparse.sorted s.queues = true → Sparse.sorted t.queues = true ∧
    ∀ q idx, (s.HasCmd q idx → t.HasCmd q idx) ∧ (s.EndedOk q idx → t.EndedOk q idx)

namespace CommandsStay
variable {s t u : State}

theorem trans (h : CommandsStay s t) (k : CommandsStay t u) : CommandsStay s u := fun hs => by
  obtain ⟨ht, hst⟩ := h hs
  obtain ⟨hu, htu⟩ := k ht
  exact ⟨hu, fun q idx => ⟨fun hc => (htu q idx).1 ((hst q idx).1 hc), fun he => (htu q idx).2 ((hst q idx).2 he)⟩⟩

/-- A change of other state than the queues. -/
theorem of_queues (h : t.queues = s.queues) : CommandsStay s t := fun hs => by
  have hq : ∀ q, t.queue q = s.queue q := fun q => by unfold State.queue; rw [h]
  refine ⟨h ▸ hs, fun q idx => ⟨fun hc => ?_, fun he => ?_⟩⟩
  · unfold State.HasCmd
    rwa [hq]
  · unfold State.EndedOk
    rwa [hq]

end CommandsStay

/-- The commands of a queue after a change of one command. -/
theorem State.cmds_modCmd {s : State} (h : Sparse.sorted s.queues = true) (q p : Nat) (idx : W32) (f : Cmd → Cmd) :
    ((s.modCmd q idx f).queue p).cmds =
      if p = q then (s.queue q).cmds.map (fun c => if c.idx = idx then f c else c) else (s.queue p).cmds := by
  unfold State.modCmd State.modQueue State.setQueue State.queue
  rw [Sparse.get_set h]
  split
  · rfl
  · rfl

section OneCommand
variable {s : State} {q : Nat} {idx : W32} {f : Cmd → Cmd}

/-- A change that keeps indices leaves every command in its queue. -/
theorem State.HasCmd.modCmd {p : Nat} {i : W32} (hc : s.HasCmd p i) (hs : Sparse.sorted s.queues = true)
    (hf : ∀ c, (f c).idx = c.idx) : (s.modCmd q idx f).HasCmd p i := by
  obtain ⟨c, hmem, hidx⟩ := hc
  unfold State.HasCmd
  rw [State.cmds_modCmd hs]
  by_cases hp : p = q
  · subst hp
    rw [if_pos rfl]
    refine ⟨_, List.mem_map_of_mem hmem, ?_⟩
    split
    · exact (hf c).trans hidx
    · exact hidx
  · rw [if_neg hp]
    exact ⟨c, hmem, hidx⟩

/-- After a change that ends a command with OK, it has. -/
theorem State.EndedOk.of_modCmd (hs : Sparse.sorted s.queues = true) (hok : ∀ c, (f c).phase = .ended ∧ (f c).status = St.ok) :
    (s.modCmd q idx f).EndedOk q idx := by
  unfold State.EndedOk
  rw [State.cmds_modCmd hs, if_pos rfl]
  intro c hc hidx
  obtain ⟨b, -, rfl⟩ := List.mem_map.mp hc
  by_cases hb : b.idx = idx
  · rw [if_pos hb]
    exact hok b
  · rw [if_neg hb] at hidx
    exact absurd hidx hb

/-- A change of another command, or one that ends with OK, undoes no end. -/
theorem State.EndedOk.modCmd {p : Nat} {i : W32} (he : s.EndedOk p i) (hs : Sparse.sorted s.queues = true)
    (hf : ∀ c, (f c).idx = c.idx) (hok : (∀ c, (f c).phase = .ended ∧ (f c).status = St.ok) ∨ ¬ s.EndedOk q idx) :
    (s.modCmd q idx f).EndedOk p i := by
  by_cases hpi : p = q ∧ i = idx
  · obtain ⟨rfl, rfl⟩ := hpi
    exact .of_modCmd hs (hok.resolve_right fun hn => hn he)
  · unfold State.EndedOk
    rw [State.cmds_modCmd hs]
    by_cases hp : p = q
    · subst hp
      rw [if_pos rfl]
      intro c hc hidx
      obtain ⟨b, hmem, rfl⟩ := List.mem_map.mp hc
      by_cases hb : b.idx = idx
      · rw [if_pos hb] at hidx
        exact absurd ⟨rfl, (hidx.symm.trans (hf b)).trans hb⟩ hpi
      · rw [if_neg hb] at hidx ⊢
        exact he b hmem hidx
    · rw [if_neg hp]
      exact he

theorem CommandsStay.modCmd (hf : ∀ c, (f c).idx = c.idx)
    (hok : (∀ c, (f c).phase = .ended ∧ (f c).status = St.ok) ∨ ¬ s.EndedOk q idx) : CommandsStay s (s.modCmd q idx f) :=
  fun hs => ⟨Sparse.sorted_set hs, fun _ _ => ⟨fun hc => hc.modCmd hs hf, fun he => he.modCmd hs hf hok⟩⟩

end OneCommand

end Sys2Proof.Machine
end

section
/-!
What leaves the active image alone (R97, R98): the same image stays active, under the same epoch and slot, and the commands stay.
-/
namespace Sys2Proof.Machine

/-- The image `im` of slot `k` is active, in epoch `e`. -/
structure State.Active (s : State) (im : Image) (e k : Nat) : Prop where
  sorted : Sparse.sorted s.regs = true
  image : s.image = some im
  epoch : s.fld FabCoachStatus.epoch = e
  slot : s.fld FabCoachStatus.activeSlot = k

/-- From `s` to `t` neither the image nor the fields of FAB.COACH_STATUS that name it change, and the commands stay. -/
structure CoachStays (s t : State) : Prop where
  image : t.image = s.image
  epoch : KeepsFld FabCoachStatus.epoch s t
  slot : KeepsFld FabCoachStatus.activeSlot s t
  commands : CommandsStay s t

theorem Reported.image {s t : State} (h : Reported s t) : t.image = s.image := by unfold Reported at h; rw [h]
theorem Reported.queues {s t : State} (h : Reported s t) : t.queues = s.queues := by unfold Reported at h; rw [h]

namespace CoachStays
variable {s t u : State}

theorem active {im : Image} {e k : Nat} (h : CoachStays s t) (a : s.Active im e k) : t.Active im e k :=
  ⟨(h.epoch a.sorted).1, h.image.trans a.image, (h.epoch a.sorted).2.trans a.epoch, (h.slot a.sorted).2.trans a.slot⟩

theorem trans (h : CoachStays s t) (k : CoachStays t u) : CoachStays s u :=
  ⟨k.image.trans h.image, h.epoch.trans k.epoch, h.slot.trans k.slot, h.commands.trans k.commands⟩

/-- A change of other state than the image, the registers and the queues. -/
theorem of_eq (hi : t.image = s.image) (hg : t.grade = s.grade) (hr : t.regs = s.regs) (hq : t.queues = s.queues) : CoachStays s t :=
  ⟨hi, .of_regs hg hr, .of_regs hg hr, .of_queues hq⟩

theorem refl (s : State) : CoachStays s s := of_eq rfl rfl rfl rfl

/-- A report that does not write FAB.COACH_STATUS. -/
theorem of_reported (h : Reported s t) (hk : ∀ f : RegField, f.reg = .fabCoachStatus → KeepsFld f s t) : CoachStays s t :=
  ⟨h.image, hk _ rfl, hk _ rfl, .of_queues h.queues⟩

theorem ite {c : Prop} [Decidable c] (h : CoachStays s t) (k : CoachStays s u) : CoachStays s (if c then t else u) := by
  split
  · exact h
  · exact k

theorem foldl {α : Type} {f : State → α → State} (hf : ∀ u x, CoachStays u (f u x)) (l : List α) (s : State) :
    CoachStays s (l.foldl f s) :=
  List.foldlRecOn l f (refl s) fun u hu x _ => hu.trans (hf u x)

end CoachStays

/-! ### Writes of registers and memory -/

section Writes
variable (s : State)

theorem State.setReg_coachStays {r : Reg} (h : Reg.offset .fabCoachStatus ≠ Reg.offset r) (v : Nat) : CoachStays s (s.setReg r v) :=
  .of_reported (s.setReg_reported r v) fun _ hf => State.setReg_keepsFld (hf ▸ h) s v

theorem State.setFld_coachStays {g : RegField} (h : Reg.offset .fabCoachStatus ≠ Reg.offset g.reg) (v : Nat) :
    CoachStays s (s.setFld g v) :=
  .of_reported (s.setFld_reported g v) fun _ hf => State.setFld_keepsFld (.inl (hf ▸ h)) s v

/-- R103: PENDING_SLOT and PHASE are fields of their own. -/
theorem State.setPendingSlot_coachStays (v : Nat) : CoachStays s (s.setFld FabCoachStatus.pendingSlot v) :=
  ⟨rfl, State.setFld_keepsFld (.inr (by decide)) s v, State.setFld_keepsFld (.inr (by decide)) s v, .of_queues rfl⟩
theorem State.setPhase_coachStays (v : Nat) : CoachStays s (s.setFld FabCoachStatus.phase v) :=
  ⟨rfl, State.setFld_keepsFld (.inr (by decide)) s v, State.setFld_keepsFld (.inr (by decide)) s v, .of_queues rfl⟩

theorem State.setRaw_coachStays (p : Nat) (bs : Bytes) : CoachStays s (s.setRaw p bs) :=
  .of_reported (s.setRaw_reported p bs) fun _ _ => s.setRaw_keepsFld p bs

theorem State.setRawNat_coachStays (p len v : Nat) : CoachStays s (s.setRawNat p len v) := s.setRaw_coachStays p _

theorem State.clearRaw_coachStays (p len : Nat) : CoachStays s (s.clearRaw p len) := .of_eq rfl rfl rfl rfl

theorem State.setStep_coachStays (x : StepSt) : CoachStays s { s with step := x } := .of_eq rfl rfl rfl rfl

theorem State.setQState_coachStays (q st cause : Nat) : CoachStays s (s.setQState q st cause) :=
  (s.setRawNat_coachStays _ _ _).trans (State.setRawNat_coachStays _ _ _ _)

theorem State.count_coachStays (num inst n : Nat) : CoachStays s (s.count num inst n) :=
  .of_reported (s.count_reported num inst n) fun f hf => State.count_keepsFld (by rw [hf]; decide) s num inst n

/-- The registers of cores stand apart from FAB.COACH_STATUS. -/
theorem State.setCoreState_coachStays (n v : Nat) : CoachStays s (s.setFld (CoreStatus.state n) v) :=
  s.setFld_coachStays (g := CoreStatus.state n) (show 0x100000 ≠ 0x200000 + 0x1000 * n by omega) v
theorem State.setScalarRun_coachStays (n v : Nat) : CoachStays s (s.setFld (CoreEngStatus.scalarRun n) v) :=
  s.setFld_coachStays (g := CoreEngStatus.scalarRun n) (show 0x100000 ≠ 0x200008 + 0x1000 * n by omega) v

end Writes

/-! ### Ends of commands -/

section Ends
variable (s : State) (q : Nat) (idx : W32)

/-- A command ends that does not stand ended with OK, or ends with OK. -/
theorem State.endCmd_coachStays {st : Nat} (h : st = St.ok ∨ ¬ s.EndedOk q idx) (k i d : Nat) :
    CoachStays s (s.endCmd q idx st k i d) := by
  have ended : CoachStays s (s.modCmd q idx fun c =>
      { c with phase := .ended, status := st, unitKind := k, unitInst := i, detail := d % 2 ^ 48, frozen := false,
               hold := holdsQueue st }) :=
    ⟨rfl, .of_regs rfl rfl, .of_regs rfl rfl, .modCmd (fun _ => rfl) (h.imp (fun hst _ => ⟨rfl, hst⟩) id)⟩
  unfold State.endCmd
  refine CoachStays.ite (CoachStays.trans ?_ (State.setQState_coachStays _ _ _ _)) ended
  exact CoachStays.ite ended (ended.trans (State.setFld_coachStays _ (by decide) _))

/-- A command that stands not ended with OK ends with a cause of DESC_INVALID that is no refused write to a home page (R227). -/
theorem State.endErr_coachStays {cause : Nat} (h : ¬ s.EndedOk q idx) (hc : cause ≠ 0x38) (d : Nat) :
    CoachStays s (s.endErr q idx (descErr cause d)) := by
  have e : s.endErr q idx (descErr cause d) = s.endCmd q idx St.descInvalid 6 (s.qCp q) (descErr cause d).detail := by
    simp [State.endErr, descErr, hc, St.descInvalid, St.engineAbsent]
  rw [e]
  exact s.endCmd_coachStays q idx (.inr h) _ _ _

theorem State.endOk_coachStays : CoachStays s (s.endOk q idx) := s.endCmd_coachStays q idx (.inl rfl) _ _ _

theorem State.endOk_endedOk (h : Sparse.sorted s.queues = true) : (s.endOk q idx).EndedOk q idx :=
  .of_modCmd h fun _ => ⟨rfl, rfl⟩

end Ends

/-- R316: FLAG_WAITs only end, with OK. -/
theorem State.evalFlags_coachStays (s : State) : CoachStays s s.evalFlags :=
  .foldl (fun u _ => .foldl (fun v _ => .ite (v.endOk_coachStays _ _) (.refl v)) _ u) _ s

/-! ### Starts of runs (R318) -/

theorem State.stopScalars_coachStays (s : State) : CoachStays s s.stopScalars :=
  .foldl (fun u _ => .ite (u.setScalarRun_coachStays _ _) (.refl u)) _ s

theorem State.setActive_coachStays (s : State) (v : Nat) : CoachStays s (s.setActive v) :=
  .foldl (fun u n => u.setCoreState_coachStays n v) _ s

theorem State.startSegment_coachStays (s : State) (r : SegRt) : CoachStays s (s.startSegment r) := by
  have started : CoachStays s { s.stopScalars with seg := some r, cores := Sparse.update {} (fun _ c => c.fresh) s.cores } :=
    s.stopScalars_coachStays.trans (.of_eq rfl rfl rfl rfl)
  exact (started.trans (State.setActive_coachStays _ 2)).trans (State.setPhase_coachStays _ 2)

/-- R318: a SEGMENT_RUN that has not ended starts, or ends. -/
theorem State.startRun_coachStays (s : State) (q : Nat) (idx : W32) (h : ¬ s.EndedOk q idx) : CoachStays s (s.startRun q idx) := by
  unfold State.startRun
  split
  · exact .refl s
  · refine .ite (s.endErr_coachStays q idx h (by decide) 0) (.ite (s.endErr_coachStays q idx h (by decide) 0) ?_)
    exact (s.setStep_coachStays _).trans (State.startSegment_coachStays _ _)

theorem lowestPlace_mem {l : List (Nat × Nat × W32)} {x : Nat × Nat × W32} (h : lowestPlace l = some x) : x ∈ l := by
  induction l with
  | nil => cases h
  | cons y l ih =>
    unfold lowestPlace at h
    split at h
    · rename_i z hz
      split at h
      · exact List.mem_cons_of_mem _ (ih (hz.trans h))
      · cases h
        exact List.mem_cons_self
    · cases h
      exact List.mem_cons_self

/-- R318: a run that waits has not ended. -/
theorem State.not_endedOk_of_waitingRuns {s : State} {p q : Nat} {idx : W32} (h : (p, q, idx) ∈ s.waitingRuns) :
    ¬ s.EndedOk q idx := by
  intro he
  obtain ⟨j, -, hj⟩ := List.mem_flatMap.mp h
  obtain ⟨c, hc, hx⟩ := List.mem_filterMap.mp hj
  split at hx
  · rename_i hruns
    simp only [Bool.and_eq_true, decide_eq_true_eq] at hruns
    obtain ⟨⟨-, hrun⟩, -⟩ := hruns
    cases hx
    rw [(he c hc rfl).1] at hrun
    cases hrun
  · cases hx

theorem State.startNext_coachStays (n : Nat) (s : State) : CoachStays s (s.startNext n) := by
  induction n generalizing s with
  | zero => exact .refl s
  | succ n ih =>
    unfold State.startNext
    split
    · rename_i p q idx _ hlow
      have hrun := State.not_endedOk_of_waitingRuns (lowestPlace_mem hlow)
      exact .ite (.refl s) ((s.startRun_coachStays q idx hrun).trans (ih _))
    · exact .refl s

theorem State.startRuns_coachStays (s : State) : CoachStays s s.startRuns := State.startNext_coachStays _ s

/-- R103: PENDING_SLOT and PHASE follow the ACTIVATEs that wait. -/
theorem State.showActs_coachStays (s : State) : CoachStays s s.showActs := by
  have pending := s.setPendingSlot_coachStays ((s.acts.head?.map (·.slot)).getD 15)
  unfold State.showActs
  dsimp only
  split
  · exact .ite (pending.trans (State.setPhase_coachStays _ _)) (.ite (pending.trans (State.setPhase_coachStays _ _)) pending)
  · exact pending

end Sys2Proof.Machine
end

section
/-!
COACH_CHANGE (R96 to R98, R102, R103): the image of a slot becomes active, and O38.
-/
namespace Sys2Proof.Machine

/-! ### What a change replaces (R97, R98) -/

theorem Reported.slots {s t : State} (h : Reported s t) : t.slots = s.slots := by unfold Reported at h; rw [h]

theorem State.stopScalars_reported (s : State) : Reported s s.stopScalars :=
  .foldl (fun u _ => .ite (u.setFld_reported _ _) (.refl u)) _ s

/-- R125: the tokens that are discarded are counted. -/
theorem State.discardStale_reported (s : State) : Reported s s.discardStale := by
  have counted : ∀ (u : State) (n i m : Nat), Reported u (if m = 0 then u else u.count n i m) := fun u n i m =>
    .ite (.refl u) (u.count_reported n i m)
  refine Reported.trans (.foldl (fun u _ => counted u _ _ _) _ s) (.foldl (fun u r => ?_) _ _)
  exact Reported.ite (counted u _ _ _) ((counted u _ _ _).trans (State.count_reported _ _ _ _))

/-- R97: the store, the commands and the armed injections are no part of what a change replaces. -/
theorem State.unload_keeps (s : State) :
    s.unload.slots = s.slots ∧ s.unload.queues = s.queues ∧ s.unload.injections = s.injections := by
  have before := s.discardStale_reported.trans (State.stopScalars_reported _)
  have after : Reported
      ({ s.discardStale.stopScalars with image := none, cores := [], routes := [], live := [], ckpt := [], segDead := false } : State)
      s.unload :=
    .foldl (fun u _ => ((u.setReg_reported _ _).trans (State.setFld_reported _ _ _)).trans (State.setReg_reported _ _ _)) _ _
  exact ⟨after.slots.trans before.slots, after.queues.trans before.queues, after.injections.trans before.injections⟩

/-! ### What an image brings (R97) -/

theorem State.loadCore_coachStays (s : State) (im : Image) (n : Nat) : CoachStays s (s.loadCore im n) := by
  have win : ∀ (u : State) (v : Nat), CoachStays u (u.setReg (.coreWinOpen n) v) := fun u =>
    u.setReg_coachStays (show 0x100000 ≠ 0x200020 + 0x1000 * n by omega)
  have gang : ∀ (u : State) (v : Nat), CoachStays u (u.setFld (CoreStatus.gang n) v) := fun u =>
    u.setFld_coachStays (g := CoreStatus.gang n) (show 0x100000 ≠ 0x200000 + 0x1000 * n by omega)
  have demand : ∀ (u : State) (v : Nat), CoachStays u (u.setFld (CoreLoopStatus.accDemand n) v) := fun u =>
    u.setFld_coachStays (g := CoreLoopStatus.accDemand n) (show 0x100000 ≠ 0x200010 + 0x1000 * n by omega)
  have spilling : ∀ (u : State) (v : Nat), CoachStays u (u.setFld (CoreLoopStatus.spilling n) v) := fun u =>
    u.setFld_coachStays (g := CoreLoopStatus.spilling n) (show 0x100000 ≠ 0x200010 + 0x1000 * n by omega)
  unfold State.loadCore
  refine CoachStays.trans ?_ (.ite ((demand _ _).trans (spilling _ _)) (.refl _))
  refine CoachStays.trans ?_ (.ite (gang _ _) (.refl _))
  exact .ite (.refl s) (win s _)

theorem State.setCores_coachStays (s : State) (v : Nat) : CoachStays s (s.setCores v) :=
  .foldl (fun u n => u.setCoreState_coachStays n v) _ s

/-- R379, R383: a packet to the peer leaves on its port, or is discarded and counted. -/
theorem State.sendPeer_coachStays (s : State) (k : Nat) (p : Packet) : CoachStays s (s.sendPeer k p).2 := by
  have dropped : CoachStays s (s.hopDrop k) := by
    refine .ite ((s.setFld_coachStays (g := LauPortStatus.hopDrop k) ?_ _).trans (State.count_coachStays _ _ _ _)) (.refl s)
    exact show 0x100000 ≠ 0x81008 + 0x100 * k by omega
  unfold State.sendPeer
  split
  · exact .of_eq rfl rfl rfl rfl
  · exact dropped

theorem State.grantStreams_coachStays (s : State) (im : Image) : CoachStays s (s.grantStreams im) :=
  .foldl (fun u _ => .ite (u.sendPeer_coachStays _ _) (.refl u)) _ s

/-- R97: the image is active in the slot, in the epoch that stood before, and the commands stay. -/
theorem State.load_active {s : State} {k : Nat} (hs : Sparse.sorted s.regs = true) (hk : k < 16) (im : Image) :
    (s.load im k).Active im s.epoch k ∧ CommandsStay s (s.load im k) := by
  let s1 : State := { s with image := some im, routes := im.freshRoutes }
  let s2 := ((List.range s1.grade.cores).foldl (fun s n => s.loadCore im n) s1).setCores 1
  let s3 := s2.setFld FabCoachStatus.activeSlot k
  have cores : CoachStays s1 s2 :=
    (CoachStays.foldl (fun u n => u.loadCore_coachStays im n) _ s1).trans (State.setCores_coachStays _ 1)
  have rest : CoachStays s3 (s.load im k) := (s3.setPhase_coachStays 1).trans (State.grantStreams_coachStays _ im)
  have before : s1.Active im s.epoch (s.fld FabCoachStatus.activeSlot) := ⟨hs, rfl, rfl, rfl⟩
  obtain ⟨hs2, hi2, he2, -⟩ := cores.active before
  have hepoch := State.setFld_keepsFld (f := FabCoachStatus.epoch) (g := FabCoachStatus.activeSlot) (.inr (by decide)) s2 k hs2
  have hslot : s3.fld FabCoachStatus.activeSlot = k :=
    (State.fld_setFld hs2 (by decide) (by decide) k).trans (Nat.mod_eq_of_lt hk)
  refine ⟨rest.active ⟨hepoch.1, hi2, hepoch.2.trans he2, hslot⟩, ?_⟩
  have named : CommandsStay s2 s3 := .of_queues rfl
  have imaged : CommandsStay s s1 := .of_queues rfl
  exact ((imaged.trans cores.commands).trans named).trans rest.commands

/-! ### The distribution (R96 steps 3 to 5, R102) -/

/-- R102: the store is read; one flipped bit of a word is corrected and counted. -/
def State.readStore (s : State) (k flips : Nat) : State := if flips = 1 then (s.count 0x003 k 1).corrected else s

theorem State.readStore_keeps (s : State) (k flips : Nat) :
    (s.readStore k flips).slots = s.slots ∧ CoachStays s (s.readStore k flips) := by
  unfold State.readStore
  split
  · exact ⟨(s.count_reported 0x003 k 1).slots, (s.count_coachStays 0x003 k 1).trans (.of_eq rfl rfl rfl rfl)⟩
  · exact ⟨rfl, .refl s⟩

/-- R96, R102: with nothing armed and at most one flipped bit the slot's image is loaded, in the next epoch. -/
theorem State.distribute_readable {s : State} {k flips q : Nat} (hi : s.injections = []) (hf : flips ≤ 1) :
    s.distribute k flips q =
      (true, ((s.unload.setFld FabCoachStatus.epoch (s.epoch + 1)).readStore k flips).load (parseImage (s.slotBytes k)) k) := by
  obtain ⟨hslots, -, hinj⟩ := s.unload_keeps
  have hfire := State.fire_nil (s := s.unload.setFld FabCoachStatus.epoch (s.epoch + 1)) (d := 0x09) (n := k) (p := fun _ => true)
    (hinj.trans hi)
  have hbytes : ((s.unload.setFld FabCoachStatus.epoch (s.epoch + 1)).readStore k flips).slotBytes k = s.slotBytes k := by
    unfold State.slotBytes
    rw [(State.readStore_keeps _ k flips).1, State.setFld_slots, hslots]
  rw [← hbytes]
  simp only [State.distribute, hfire, if_pos hf, State.readStore]

/-- R96, R98: then the image is active in the slot, the epoch has advanced by one modulo 4, and the commands stay. -/
theorem State.distribute_active {s : State} {k flips q : Nat} (hs : RegsOk s.grade s.regs) (hi : s.injections = []) (hf : flips ≤ 1)
    (hk : k < 16) :
    (s.distribute k flips q).1 = true ∧ (s.distribute k flips q).2.Active (parseImage (s.slotBytes k)) ((s.epoch + 1) % 4) k ∧
      CommandsStay s (s.distribute k flips q).2 := by
  rw [State.distribute_readable hi hf]
  obtain ⟨-, hqueues, -⟩ := s.unload_keeps
  obtain ⟨-, hread⟩ := (s.unload.setFld FabCoachStatus.epoch (s.epoch + 1)).readStore_keeps k flips
  have hu : Sparse.sorted s.unload.regs = true := ((State.unload_steady Steady.rfl).regs hs).1
  have hepoch : (s.unload.setFld FabCoachStatus.epoch (s.epoch + 1)).fld FabCoachStatus.epoch = (s.epoch + 1) % 4 :=
    State.fld_setFld hu (by decide) (by decide) _
  obtain ⟨hr, he⟩ := hread.epoch (State.sorted_setFld hu _ _)
  obtain ⟨hactive, hcmds⟩ := State.load_active hr hk (parseImage (s.slotBytes k))
  have unloaded : CommandsStay s (s.unload.setFld FabCoachStatus.epoch (s.epoch + 1)) := .of_queues hqueues
  exact ⟨rfl, he.trans hepoch ▸ hactive, (unloaded.trans hread.commands).trans hcmds⟩

/-! ### What follows an activation (R103, R175, R499) -/

/-- R175: the entries of the format governor stand in memory. -/
theorem State.govActivate_coachStays (s : State) (im : Image) : CoachStays s (s.govActivate im) := by
  have limits : ∀ (u : State) (p v p' : Nat) (bs : Bytes), CoachStays u ((u.setRawNat p 1 v).setRaw p' bs) := fun u p v p' bs =>
    (u.setRawNat_coachStays p 1 v).trans (State.setRaw_coachStays _ p' bs)
  refine .foldl (fun u r => ?_) _ s
  dsimp only
  split
  · exact limits _ _ _ _ _
  · split
    · exact u.setFld_coachStays (by decide) 1
    · have made : ∀ p p4 p1, CoachStays u (((u.clearRaw p 128).setRawNat p4 4 r.id).setRawNat p1 1 im.gov.start) := fun p p4 p1 =>
        ((u.clearRaw_coachStays p 128).trans (State.setRawNat_coachStays _ p4 4 r.id)).trans (State.setRawNat_coachStays _ p1 1 _)
      refine CoachStays.trans ?_ (State.setStep_coachStays _ _)
      exact (made _ _ _).trans (limits _ _ _ _ _)

/-- R94: a step in progress locks the slot that becomes active. -/
def State.lockActive (s : State) (k : Nat) : State :=
  if s.inStep then
    ({ s with activated := if s.activated.contains k then s.activated else s.activated ++ [k] } : State).setFld
      (FabCoachSlot.locked k) 1
  else s

theorem State.lockActive_coachStays (s : State) (k : Nat) : CoachStays s (s.lockActive k) := by
  have locked : ∀ u : State, CoachStays u (u.setFld (FabCoachSlot.locked k) 1) := fun u =>
    u.setFld_coachStays (g := FabCoachSlot.locked k) (show 0x100000 ≠ 0x100100 + 0x8 * k by omega) 1
  refine .ite (CoachStays.trans ?_ (locked _)) (.refl s)
  exact .of_eq rfl rfl rfl rfl

theorem State.logActivation_coachStays (s : State) (k : Nat) : CoachStays s (s.logActivation k) := .of_eq rfl rfl rfl rfl

/-- What COACH_CHANGE does once the image of slot `k` is active: its governed tensors get their entries (R175), a step locks the slot
(R94), and the activation is logged (R499). -/
def State.recordActive (s : State) (k : Nat) : State := ((s.govActivate s.im).lockActive k).logActivation k

theorem State.recordActive_coachStays (s : State) (k : Nat) : CoachStays s (s.recordActive k) :=
  ((s.govActivate_coachStays s.im).trans (State.lockActive_coachStays _ k)).trans (State.logActivation_coachStays _ k)

/-! ### COACH_CHANGE -/

/-- R96: without an ACTIVATE nothing changes. -/
theorem State.doCoachChange_of_nil {s : State} {flips : Nat} (h : s.acts = []) : s.doCoachChange flips = s := by
  simp only [State.doCoachChange, h]

/-- R95: an ACTIVATE that may not proceed waits. -/
theorem State.doCoachChange_of_waits {s : State} {flips : Nat} {a : Act} {rest : List Act} (h : s.acts = a :: rest)
    (hm : s.mayChange a = false) : s.doCoachChange flips = s := by
  simp [State.doCoachChange, h, hm]

/-- R96: the ACTIVATE at the head proceeds; an image that could be read is active, and its command ends with OK. -/
theorem State.doCoachChange_of_proceeds {s d : State} {flips : Nat} {a : Act} {rest : List Act} (h : s.acts = a :: rest)
    (hm : s.mayChange a = true) (hv : s.slotValid a.slot = true)
    (hd : ({ s with acts := rest } : State).distribute a.slot flips a.q = (true, d)) :
    s.doCoachChange flips = ((d.recordActive a.slot).endOk a.q a.idx).showActs.startRuns := by
  simp [State.doCoachChange, h, hm, hv, hd, State.recordActive, State.lockActive]

/-- Settles O38: the distribution makes the image active, and its command, which stays in its queue up to then, ends with OK; what the
row does after that leaves both. -/
theorem coachChangeActivatesASlot : Obligations.CoachChangeActivatesASlot := by
  intro s flips
  refine ⟨fun h => ?nothing, fun a rest h hm => ?waits, fun a rest c hinv h hm hk hv hi hf hc hidx => ?proceeds⟩
  case nothing => exact congrArg (fun t : State => Host.Outcome.next t.evalFlags) (State.doCoachChange_of_nil h)
  case waits => exact congrArg (fun t : State => Host.Outcome.next t.evalFlags) (State.doCoachChange_of_waits h hm)
  case proceeds =>
    let s0 : State := { s with acts := rest }
    have hregs : RegsOk s0.grade s0.regs := hinv.regs
    obtain ⟨hdone, hactive, hcmds⟩ := State.distribute_active (s := s0) (q := a.q) hregs hi hf (show a.slot < 16 by omega)
    let d := (s0.distribute a.slot flips a.q).2
    have hd : s0.distribute a.slot flips a.q = (true, d) := Prod.ext hdone rfl
    let ended := (d.recordActive a.slot).endOk a.q a.idx
    have recorded : CoachStays d (d.recordActive a.slot) := d.recordActive_coachStays a.slot
    have before : CoachStays d ended := recorded.trans (State.endOk_coachStays _ _ _)
    have after : CoachStays ended ended.showActs.startRuns.evalFlags :=
      (ended.showActs_coachStays.trans (State.startRuns_coachStays _)).trans (State.evalFlags_coachStays _)
    have hqueues : Sparse.sorted s0.queues = true := hinv.queues
    obtain ⟨hrecorded, -⟩ := hcmds.trans recorded.commands hqueues
    obtain ⟨hended, hstays⟩ := hcmds.trans before.commands hqueues
    obtain ⟨-, hafter⟩ := after.commands hended
    have hok : ended.EndedOk a.q a.idx := State.endOk_endedOk _ _ _ hrecorded
    have hhas : ended.HasCmd a.q a.idx := (hstays _ _).1 ⟨c, hc, hidx⟩
    obtain ⟨c', hc', hphase, hst⟩ := ((hafter _ _).2 hok).cmd? ((hafter _ _).1 hhas)
    obtain ⟨-, himage, hepoch, hslot⟩ := after.active (before.active hactive)
    refine ⟨_, c', ?_, hepoch, hslot, himage, hc', hphase, hst⟩
    exact congrArg (fun t : State => Host.Outcome.next t.evalFlags) (State.doCoachChange_of_proceeds h hm hv hd)

end Sys2Proof.Machine
end

section
/-!
STEER_PAIR_RETIRE (R115 to R119): the head pair of an input pair while the fabric runs, and O31.
-/
namespace Sys2Proof.Machine

/-- R408, R409, R411: with nothing armed the checks of a core's handshake meet nothing. -/
theorem State.coreCheck_nil {s : State} (h : s.injections = []) (n : Nat) : s.coreCheck n = s := by
  simp only [State.coreCheck, State.flipCheck, State.watchCheck, State.fire_nil h, Option.isSome_none, Bool.false_eq_true, if_false]

/-- A run that works has not stopped. -/
theorem State.not_halted_of_working {s : State} (h : s.working = true) : ¬ s.halted = true := by
  simp only [State.working, Bool.and_eq_true, Bool.not_eq_true'] at h
  exact Bool.not_eq_true _ ▸ h.2

/-- R112: the free credits of an out queue are those of its route in the active image. -/
theorem State.outFree_congr {s t : State} (hi : t.image = s.image) (hr : t.routes = s.routes) (n q : Nat) :
    t.outFree n q = s.outFree n q := by
  have hroute : t.outRoute n q = s.outRoute n q := by
    unfold State.outRoute State.im
    rw [hi]
  have hsend : ∀ k, t.canSend k = s.canSend k := fun k => by
    unfold State.canSend State.route
    rw [hr]
  unfold State.outFree
  rw [hroute]
  cases s.outRoute n q with
  | none => rfl
  | some k => exact hsend k

/-- R117: the head pair leaves its two in queues, and the control token `c` is consumed. -/
def State.takePair (s : State) (n ctrlQ dataQ c : Nat) (cs ds : List Nat) : State :=
  ((s.setCoreQ n ctrlQ cs).setCoreQ n dataQ ds).dropRef c

@[simp] theorem State.setCoreQ_image (s : State) (n q : Nat) (l : List Nat) : (s.setCoreQ n q l).image = s.image := rfl
@[simp] theorem State.setCoreQ_routes (s : State) (n q : Nat) (l : List Nat) : (s.setCoreQ n q l).routes = s.routes := rfl
@[simp] theorem State.dropRef_image (s : State) (id : Nat) : (s.dropRef id).image = s.image := rfl
@[simp] theorem State.dropRef_routes (s : State) (id : Nat) : (s.dropRef id).routes = s.routes := rfl

theorem State.takePair_image (s : State) (n ctrlQ dataQ c : Nat) (cs ds : List Nat) :
    (s.takePair n ctrlQ dataQ c cs ds).image = s.image := by simp [State.takePair]
theorem State.takePair_routes (s : State) (n ctrlQ dataQ c : Nat) (cs ds : List Nat) :
    (s.takePair n ctrlQ dataQ c cs ds).routes = s.routes := by simp [State.takePair]

section Pair
variable {s : State} {n ctrlQ c d : Nat} {cs ds : List Nat} {r0 e : SteerRec}

/-- R112: what leaves an in queue spends no credit of an out queue. -/
theorem State.takePair_outFree (dataQ q : Nat) : (s.takePair n ctrlQ dataQ c cs ds).outFree n q = s.outFree n q :=
  State.outFree_congr (s.takePair_image ..) (s.takePair_routes ..) n q

variable (hwork : s.working = true) (hi : s.injections = [])
  (hrec : (s.im.steerRecs.filter fun r => r.core = n && r.ctrlQ = ctrlQ).head? = some r0)
  (hctrl : s.coreQ n ctrlQ = c :: cs) (hdata : s.coreQ n r0.dataQ = d :: ds)
include hwork hi hrec hctrl hdata

/-- R119: a selector without an entry discards the pair. -/
theorem State.doSteer_noEntry
    (hsel : ((s.im.steerRecs.filter fun r => r.core = n && r.ctrlQ = ctrlQ).find? fun r => r.sel = (s.tokHdr c).selector) = none) :
    s.doSteer n ctrlQ = ((s.takePair n ctrlQ r0.dataQ c cs ds).dropRef d).count 0x004 n 1 := by
  simp only [State.doSteer, hrec, hctrl, hdata, hsel, hwork, State.coreCheck_nil hi, if_neg (State.not_halted_of_working hwork), Bool.not_true,
    Bool.false_eq_true, if_false]
  rfl

/-- R117: the entry of the selector acts on the pair, or the pair waits. -/
theorem State.doSteer_entry
    (hsel : ((s.im.steerRecs.filter fun r => r.core = n && r.ctrlQ = ctrlQ).find? fun r => r.sel = (s.tokHdr c).selector) = some e) :
    s.doSteer n ctrlQ = ((s.takePair n ctrlQ r0.dataQ c cs ds).steerAct n d e).getD
      (if e.action = 3 then s.count 0x008 n 1 else s) := by
  simp only [State.doSteer, hrec, hctrl, hdata, hsel, hwork, State.coreCheck_nil hi, if_neg (State.not_halted_of_working hwork), Bool.not_true,
    Bool.false_eq_true, if_false]
  change (match (s.takePair n ctrlQ r0.dataQ c cs ds).steerAct n d e with
    | some t => t
    | none => if e.action = 3 then s.count 0x008 n 1 else s) = _
  cases (s.takePair n ctrlQ r0.dataQ c cs ds).steerAct n d e with
  | some t => rfl
  | none => rfl

end Pair

section Actions
variable {u : State} {n d : Nat} {e : SteerRec}

/-- R117: ACTION 0 forwards the data token when its out queue has a credit. -/
theorem State.steerAct_forward (h : e.action = 0) (s : State) :
    (u.steerAct n d e).getD s = if u.outFree n e.outA then u.forwardTok n d e.outA else s := by
  rw [State.steerAct, if_pos h, apply_ite (Option.getD · s)]
  rfl

/-- R117: ACTION 1 forks it when both out queues have one. -/
theorem State.steerAct_fork (h : e.action = 1) (s : State) :
    (u.steerAct n d e).getD s =
      if u.outFree n e.outA && u.outFree n e.outB then ((u.addRef d 1).forwardTok n d e.outA).forwardTok n d e.outB else s := by
  rw [State.steerAct, if_neg (by omega), if_pos h, apply_ite (Option.getD · s)]
  rfl

/-- R117: ACTION 2 releases it. -/
theorem State.steerAct_release (h : e.action = 2) (s : State) : (u.steerAct n d e).getD s = u.dropRef d := by
  rw [State.steerAct, if_neg (by omega), if_neg (by omega), if_pos h]
  rfl

/-- R212: ACTION 3 puts it on the deferred list when the list holds fewer than 32. -/
theorem State.steerAct_defer (h : e.action = 3) (s : State) :
    let v := u.modCore n fun c => { c with deferred := c.deferred ++ [d] }
    (u.steerAct n d e).getD s = if (u.core n).deferred.length < 32 then
      v.setFld (CoreDeferStatus.highWater n) (max (u.fld (CoreDeferStatus.highWater n)) (v.core n).deferred.length) else s := by
  rw [State.steerAct, if_neg (by omega), if_neg (by omega), if_neg (by omega), apply_ite (Option.getD · s)]
  rfl

end Actions

/-- Settles O31, by the entry of the selector: none, or one of the four actions. -/
theorem steeringFollowsR117 : Obligations.SteeringFollowsR117 := by
  intro s n ctrlQ c d cs ds r0 hwork hi hrec hctrl hdata u
  split
  next hsel => exact congrArg Host.Outcome.next (State.doSteer_noEntry hwork hi hrec hctrl hdata hsel)
  next e hsel =>
    have hacts := State.doSteer_entry hwork hi hrec hctrl hdata hsel
    refine ⟨fun h => ?forward, fun h => ?fork, fun h => ?release, fun h => ?defer⟩
    case forward =>
      rw [State.steerAct_forward h, State.takePair_outFree, if_neg (by omega : ¬ e.action = 3)] at hacts
      exact congrArg Host.Outcome.next hacts
    case fork =>
      rw [State.steerAct_fork h, State.takePair_outFree, State.takePair_outFree, if_neg (by omega : ¬ e.action = 3)] at hacts
      exact congrArg Host.Outcome.next hacts
    case release =>
      rw [State.steerAct_release h] at hacts
      exact congrArg Host.Outcome.next hacts
    case defer =>
      rw [State.steerAct_defer h, if_pos h] at hacts
      exact congrArg Host.Outcome.next hacts

end Sys2Proof.Machine
end

section
/-!
The detectors of stuck segments (R129), idle FLAG_WAITs (R329, R330) and timeouts (R316), and O41.
-/
namespace Sys2Proof.Machine

/-- R330: a detection that covers the flag wait too when the free value that is drawn says so. -/
theorem State.deadlock_drawn {u : State} {k : Nat} (hk : u.draws = k) (x : Nat × Nat × W32 × Nat) (q : Option Nat) (inj : Bool) :
    let v : State := { u with draws := k + 1 }
    let d := u.draw Config.atOnce
    d.2.deadlock (x :: if d.1 && d.2.flagStuck then d.2.waitSet else []) q inj =
      v.deadlock (x :: if Config.atOnce k = true ∧ v.flagStuck = true then v.waitSet else []) q inj := by
  subst hk
  simp only [State.draw, Bool.and_eq_true]

/-- R129, R330: what a stuck segment leads to. -/
theorem State.setStuck_eq (s : State) (r : SegRt) (inj : Bool) :
    let s1 := ({ s with seg := some { r with stuck := true } } : State).setFld FabTokenStatus.stuck 1
    let s2 : State := { s1 with draws := s.draws + 1 }
    s.setStuck r inj = s2.deadlock ((r.q, 1, s.expectedSeq r.q r.idx, 0) ::
      if Config.atOnce s.draws = true ∧ s2.flagStuck = true then s2.waitSet else []) (some r.q) inj :=
  State.deadlock_drawn (State.setFld_draws _ _ _) _ _ _

/-- R129: SEGMENT_STUCK with nothing armed. -/
theorem State.doSegmentStuck_nil {s : State} {r : SegRt} (hi : s.injections = []) (hseg : s.seg = some r) :
    s.doSegmentStuck =
      if r.stuck = false ∧ s.halted = false ∧ s.segmentEnded = false ∧ s.quiescent = true ∧ s.allInside = true then
        s.setStuck r false else s := by
  simp only [State.doSegmentStuck, hseg, State.fire_nil hi, Option.isSome_none, Bool.false_eq_true, if_false]
  by_cases hgoes : (r.stuck || s.halted) = true
  · rw [if_pos hgoes, if_neg]
    rintro ⟨hstuck, hhalted, -⟩
    simp [hstuck, hhalted] at hgoes
  · rw [if_neg hgoes]
    refine if_congr ?_ rfl rfl
    obtain ⟨hstuck, hhalted⟩ : r.stuck = false ∧ s.halted = false := by simpa using hgoes
    simp [hstuck, hhalted, and_assoc]

/-- R329: the four conditions of the flag wait. -/
theorem State.flagStuck_iff {s : State} :
    s.flagStuck = true ↔ s.waitSet ≠ [] ∧ (∀ q ∈ s.queueNums, ∀ c ∈ (s.queue q).cmds, s.idleCmd q c = true) ∧
      (s.quiescent = true ∨ ∃ r, s.seg = some r ∧ r.stuck = true) ∧ s.flagArriving = false := by
  unfold State.flagStuck
  cases s.seg with
  | none =>
    simp only [Bool.and_eq_true, Bool.or_eq_true, Bool.not_eq_true', List.isEmpty_eq_false_iff, List.all_eq_true, and_assoc,
      Bool.false_eq_true, reduceCtorEq, false_and, exists_false]
  | some r =>
    simp only [Bool.and_eq_true, Bool.or_eq_true, Bool.not_eq_true', List.isEmpty_eq_false_iff, List.all_eq_true, and_assoc,
      Option.some.injEq, exists_eq_left']

/-- R329: FLAG_WAIT_QUIESCENCE with nothing armed. -/
theorem State.doQuiescence_nil {s : State} (hi : s.injections = []) :
    s.doQuiescence = if s.flagStuck then s.deadlock s.waitSet (s.waitSet.head?.map (·.1)) false else s := by
  simp only [State.doQuiescence, State.fire_nil hi, Option.isSome_none, Bool.false_eq_true, if_false]

/-- Settles O41: the segment's detector and the flag wait's report when their conditions hold, and the timeout ends the wait of the
queue that has one. -/
theorem detectorsFindDeadlock : Obligations.DetectorsFindDeadlock := by
  refine ⟨?stuck, ?quiescence, ?timeout⟩
  case stuck =>
    intro s r hi hseg s1 s2
    have h := State.doSegmentStuck_nil hi hseg
    rw [s.setStuck_eq r false] at h
    exact congrArg Host.Outcome.next h
  case quiescence =>
    intro s hi ws
    exact congrArg Host.Outcome.next ((State.doQuiescence_nil hi).trans (if_congr State.flagStuck_iff rfl rfl))
  case timeout =>
    intro s q c hq hc
    have hok : queueOk q = true := decide_eq_true hq
    refine congrArg Host.Outcome.next ?_
    simp only [State.doFlagWaitTimeout, hc]
    refine if_congr ?_ rfl rfl
    simp [hok, and_assoc]

end Sys2Proof.Machine
end

section
/-!
SEGMENT_END (R126, R127, R415, R419): the row, a run that has drained without an error, and O39.
-/
namespace Sys2Proof.Machine

/-- R126: a run that has drained and has not stopped ends; ACTIVATEs, the next run and FLAG_WAITs follow. -/
theorem State.doSegmentEnd_drained {s : State} {r : SegRt} (hseg : s.seg = some r) (hgo : ¬ s.halted = true) (he : s.segmentEnded = true) :
    s.doSegmentEnd = s.endDrained.showActs.startRuns.evalFlags := by
  simp only [State.doSegmentEnd, hseg, if_neg hgo, if_pos he]

/-- R415: a run that has stopped empties the fabric, and is replayed or ends. -/
theorem State.doSegmentEnd_halted {s : State} {r : SegRt} (hseg : s.seg = some r) (hgo : s.halted = true) :
    s.doSegmentEnd = (s.endHalted r).showActs.startRuns.evalFlags := by
  simp only [State.doSegmentEnd, hseg, if_pos hgo]

/-- R126: any other run goes on. -/
theorem State.doSegmentEnd_waits {s : State} {r : SegRt} (hseg : s.seg = some r) (hgo : ¬ s.halted = true)
    (he : ¬ s.segmentEnded = true) : s.doSegmentEnd = s := by
  simp only [State.doSegmentEnd, hseg, if_neg hgo, if_neg he]

/-- Settles O39: the run has stopped, has drained, or goes on. -/
theorem segmentEndFollowsR126 : Obligations.SegmentEndFollowsR126 := by
  intro s r hseg
  refine congrArg Host.Outcome.next ?_
  by_cases hgo : s.halted = true
  · exact (State.doSegmentEnd_halted hseg hgo).trans (if_pos hgo).symm
  rw [if_neg hgo]
  by_cases he : s.segmentEnded = true
  · exact (State.doSegmentEnd_drained hseg hgo he).trans (if_pos he).symm
  · exact (State.doSegmentEnd_waits hseg hgo he).trans (if_neg he).symm

end Sys2Proof.Machine
end

section
/-!
What becomes of a command that has ended with OK: the showing of ACTIVATEs, the start of runs and the evaluation of FLAG_WAITs leave
it as it stands in its queue.
-/
namespace Sys2Proof.Machine

/-- The commands that queue `q` has with index `idx`. -/
def State.cmdsAt (s : State) (q : Nat) (idx : W32) : List Cmd := (s.queue q).cmds.filter fun c => c.idx = idx

theorem State.cmd?_eq_head? (s : State) (q : Nat) (idx : W32) : s.cmd? q idx = (s.cmdsAt q idx).head? := List.head?_filter.symm

theorem State.mem_cmdsAt {s : State} {q : Nat} {idx : W32} {c : Cmd} : c ∈ s.cmdsAt q idx ↔ c ∈ (s.queue q).cmds ∧ c.idx = idx := by
  simp only [State.cmdsAt, List.mem_filter, decide_eq_true_eq]

theorem State.endedOk_iff {s : State} {q : Nat} {idx : W32} :
    s.EndedOk q idx ↔ ∀ c ∈ s.cmdsAt q idx, c.phase = .ended ∧ c.status = St.ok := by
  simp only [State.EndedOk, State.mem_cmdsAt, and_imp]

theorem State.cmdsAt_congr {s t : State} (h : t.queues = s.queues) (q : Nat) (idx : W32) : t.cmdsAt q idx = s.cmdsAt q idx := by
  simp only [State.cmdsAt, State.queue, h]

/-- A change that keeps indices reaches the commands of its index in its queue and no others. -/
theorem State.cmdsAt_modCmd {s : State} (hs : Sparse.sorted s.queues = true) {p q : Nat} {i idx : W32} {f : Cmd → Cmd}
    (hf : ∀ c, (f c).idx = c.idx) :
    (s.modCmd p i f).cmdsAt q idx = if p = q ∧ i = idx then (s.cmdsAt q idx).map f else s.cmdsAt q idx := by
  have hidx : ∀ c : Cmd, (if c.idx = i then f c else c).idx = c.idx := fun c => by
    split
    · exact hf c
    · rfl
  unfold State.cmdsAt
  rw [State.cmds_modCmd hs]
  by_cases hq : q = p
  · subst hq
    rw [if_pos rfl, List.filter_map]
    simp only [Function.comp_def, hidx, true_and]
    by_cases hi : i = idx
    · subst hi
      rw [if_pos rfl]
      exact List.map_congr_left fun c hc => if_pos (of_decide_eq_true (List.mem_filter.mp hc).2)
    · rw [if_neg hi]
      refine (List.map_congr_left fun c hc => if_neg ?_).trans (List.map_id' _)
      rw [of_decide_eq_true (List.mem_filter.mp hc).2]
      exact Ne.symm hi
  · rw [if_neg hq, if_neg fun h => hq h.1.symm]

/-- From `s` to `t` a command of queue `q` with index `idx` that has ended with OK stays as it stands. -/
def EndStands (q : Nat) (idx : W32) (s t : State) : Prop :=
  Sparse.sorted s.queues = true → s.EndedOk q idx → Sparse.sorted t.queues = true ∧ t.cmdsAt q idx = s.cmdsAt q idx

namespace EndStands
variable {q : Nat} {idx : W32} {s t u : State}

theorem endedOk (h : EndStands q idx s t) (hs : Sparse.sorted s.queues = true) (he : s.EndedOk q idx) : t.EndedOk q idx := by
  rw [State.endedOk_iff, (h hs he).2]
  exact State.endedOk_iff.mp he

theorem trans (h : EndStands q idx s t) (k : EndStands q idx t u) : EndStands q idx s u := fun hs he => by
  obtain ⟨ht, hst⟩ := h hs he
  obtain ⟨hu, htu⟩ := k ht (h.endedOk hs he)
  exact ⟨hu, htu.trans hst⟩

/-- A change of other state than the queues. -/
theorem of_queues (h : t.queues = s.queues) : EndStands q idx s t := fun hs _ => ⟨h ▸ hs, State.cmdsAt_congr h q idx⟩

theorem refl (s : State) : EndStands q idx s s := of_queues rfl

theorem ite {c : Prop} [Decidable c] (h : c → EndStands q idx s t) (k : EndStands q idx s u) :
    EndStands q idx s (if c then t else u) := by
  split
  next hc => exact h hc
  next => exact k

theorem foldl {α : Type} {f : State → α → State} (l : List α) (hf : ∀ u, ∀ x ∈ l, EndStands q idx u (f u x)) (s : State) :
    EndStands q idx s (l.foldl f s) :=
  List.foldlRecOn l f (refl s) fun u hu x hx => hu.trans (hf u x hx)

end EndStands

/-! ### Ends of other commands -/

/-- R297: a command once it has ended. -/
def Cmd.endedWith (st k i d : Nat) (c : Cmd) : Cmd :=
  { c with phase := .ended, status := st, unitKind := k, unitInst := i, detail := d % 2 ^ 48, frozen := false, hold := holdsQueue st }

theorem Cmd.endedWith_idx (st k i d : Nat) (c : Cmd) : (c.endedWith st k i d).idx = c.idx := rfl

/-- R297, R413: of the queues an end changes its own command. -/
theorem State.endCmd_queues (s : State) (q : Nat) (idx : W32) (st k i d : Nat) :
    (s.endCmd q idx st k i d).queues = (s.modCmd q idx (Cmd.endedWith st k i d)).queues := by
  unfold State.endCmd
  dsimp only
  split
  · rw [State.setQState, State.setCtx_queues, State.setCtx_queues]
    split
    · rfl
    · exact State.setFld_queues ..
  · rfl

section OtherCommand
variable {p q : Nat} {i idx : W32}

theorem State.endCmd_endStands (h : ¬ (p = q ∧ i = idx)) (s : State) (st k n d : Nat) : EndStands q idx s (s.endCmd p i st k n d) := by
  intro hs _
  rw [State.cmdsAt_congr (s.endCmd_queues ..), s.endCmd_queues, State.cmdsAt_modCmd hs (Cmd.endedWith_idx st k n d), if_neg h]
  exact ⟨Sparse.sorted_set hs, rfl⟩

/-- R312: an error of the descriptor that is no refused write to a home page (R227) only ends its command. -/
theorem State.endErr_descErr {cause : Nat} (hc : cause ≠ 0x38) (s : State) (q : Nat) (idx : W32) (d : Nat) :
    s.endErr q idx (descErr cause d) = s.endCmd q idx St.descInvalid 6 (s.qCp q) (descErr cause d).detail := by
  simp [State.endErr, descErr, hc, St.descInvalid, St.engineAbsent]

theorem State.endErr_endStands (h : ¬ (p = q ∧ i = idx)) {cause : Nat} (hc : cause ≠ 0x38) (s : State) (d : Nat) :
    EndStands q idx s (s.endErr p i (descErr cause d)) := by
  rw [State.endErr_descErr hc]
  exact State.endCmd_endStands h s _ _ _ _

end OtherCommand

/-! ### What follows the end of a run -/

section After
variable {q : Nat} {idx : W32}

/-- R103: showing the ACTIVATEs writes FAB.COACH_STATUS. -/
theorem State.showActs_endStands (s : State) : EndStands q idx s s.showActs := by
  have phase : ∀ v w, EndStands q idx s ((s.setFld FabCoachStatus.pendingSlot v).setFld FabCoachStatus.phase w) := fun _ _ => .of_queues rfl
  have pending : ∀ v, EndStands q idx s (s.setFld FabCoachStatus.pendingSlot v) := fun _ => .of_queues rfl
  unfold State.showActs
  dsimp only
  split
  · exact .ite (fun _ => phase _ _) (.ite (fun _ => phase _ _) (pending _))
  · exact pending _

theorem State.setActive_reported (s : State) (v : Nat) : Reported s (s.setActive v) := .foldl (fun u _ => u.setFld_reported _ _) _ s

/-- R318: the start of a segment changes no queue. -/
theorem State.startSegment_queues (s : State) (r : SegRt) : (s.startSegment r).queues = s.queues :=
  (State.setActive_reported _ 2).queues.trans s.stopScalars_reported.queues

/-- R318: the start of another run, or its end. -/
theorem State.startRun_endStands {p : Nat} {i : W32} (h : ¬ (p = q ∧ i = idx)) (s : State) : EndStands q idx s (s.startRun p i) := by
  unfold State.startRun
  split
  · exact .refl s
  · exact .ite (fun _ => s.endErr_endStands h (by decide) 0) (.ite (fun _ => s.endErr_endStands h (by decide) 0)
      (.of_queues (State.startSegment_queues _ _)))

/-- R318: the runs that start have not ended. -/
theorem State.startNext_endStands (n : Nat) (s : State) : EndStands q idx s (s.startNext n) := by
  induction n generalizing s with
  | zero => exact .refl s
  | succ n ih =>
    unfold State.startNext
    split
    · rename_i p q' i _ hlow
      refine .ite (fun _ => .refl s) fun hs he => ?_
      have hother : ¬ (q' = q ∧ i = idx) := by
        rintro ⟨rfl, rfl⟩
        exact State.not_endedOk_of_waitingRuns (lowestPlace_mem hlow) he
      exact ((s.startRun_endStands hother).trans (ih _)) hs he
    · exact .refl s

theorem State.startRuns_endStands (s : State) : EndStands q idx s s.startRuns := State.startNext_endStands _ s

/-- R316: the FLAG_WAITs that end have not ended before. -/
theorem State.evalQueueFlags_endStands (s : State) (p : Nat) : EndStands q idx s (s.evalQueueFlags p) := by
  intro hs he
  refine EndStands.foldl (s.queue p).cmds (fun u c hc => .ite (fun hwait => ?_) (.refl u)) s hs he
  refine u.endCmd_endStands ?_ _ _ _ _
  rintro ⟨rfl, hidx⟩
  have hrun : c.phase = .running := by
    simp only [Cmd.isWait, Bool.and_eq_true, decide_eq_true_eq] at hwait
    exact hwait.1.1.2
  rw [(he c hc hidx).1] at hrun
  cases hrun

theorem State.evalFlags_endStands (s : State) : EndStands q idx s s.evalFlags :=
  .foldl _ (fun u p _ => u.evalQueueFlags_endStands p) s

end After

end Sys2Proof.Machine
end

section
/-!
A run that has drained without an error (R126, R127): its command ends with OK and stays so, and O40.
-/
namespace Sys2Proof.Machine

/-- R127: with no token left the discarding of them only brings the credits that travel back to their senders. -/
def State.creditsBack (s : State) : State :=
  { s with routes := Sparse.update {} (fun _ r => { r with credits := r.credits + r.returning, returning := 0 }) s.routes }

theorem State.dropLeft_nothing {s : State} (hi : s.injections = []) (hl : s.leftTokens = []) :
    s.dropLeft = s.creditsBack.setFld FabTokenStatus.lastLeft 0 := by
  have hfire : s.activeCores.foldl (fun (x : List Nat × State) n =>
      let r := x.2.fire 0x13 n fun _ => true
      (if r.1.isSome then x.1 ++ [n] else x.1, r.2)) ([], s) = ([], s) :=
    List.foldl_fixed' (fun n => by simp only [State.fire_nil hi, Option.isSome_none, Bool.false_eq_true, if_false]) _
  simp only [State.dropLeft, hfire, hl, List.map_nil, List.append_nil, List.foldl_nil, if_true]
  rfl

/-- R126: a run without errors has not stopped. -/
theorem State.not_halted_of_noErrs {s : State} {r : SegRt} (hseg : s.seg = some r) (he : r.errs = []) : ¬ s.halted = true := by
  simp [State.halted, hseg, he]

/-- The state in which a run that has drained without an error ends its command: its cores stand in STATE 3 and the fabric is free. -/
def State.freed (s : State) : State :=
  ({ ((s.creditsBack.setFld FabTokenStatus.lastLeft 0).setActive 3).setFld FabCoachStatus.phase 1 with seg := none } : State).setFld
    GlbRecovStatus.replaying 0

theorem State.setActive_mem (s : State) (v : Nat) : (s.setActive v).mem = s.mem :=
  List.foldlRecOn (motive := fun u : State => u.mem = s.mem) s.activeCores _ rfl fun _ hu _ _ => hu

theorem State.freed_queues (s : State) : s.freed.queues = s.queues := (State.setActive_reported _ 3).queues
theorem State.freed_mem (s : State) : s.freed.mem = s.mem := State.setActive_mem _ 3

/-- The command processor of a queue is named in its context (R292). -/
theorem State.freed_qCp (s : State) (q : Nat) : s.freed.qCp q = s.qCp q := by
  simp only [State.qCp, State.ctx, State.rawNat, State.raw, State.rawByte, State.freed_mem]

/-- R126, R127: a run without an error, at its first attempt, ends its command with OK. -/
theorem State.endDrained_ok {s : State} {r : SegRt} (hseg : s.seg = some r) (he : r.errs = []) (ha : r.attempts = 0)
    (hi : s.injections = []) (hl : s.leftTokens = []) : s.endDrained = s.freed.endOk r.q r.idx := by
  have hsame : (s.creditsBack.setFld FabTokenStatus.lastLeft 0).seg = some r := hseg
  simp only [State.endDrained, State.dropLeft_nothing hi hl, hsame, if_neg (State.not_halted_of_noErrs hsame he), ha, he, if_true,
    List.isEmpty_nil, State.endRun, List.map_nil]
  rfl

/-- R297: what an end with OK makes of the command. -/
theorem State.cmdsAt_endOk {s : State} (hs : Sparse.sorted s.queues = true) (q : Nat) (idx : W32) :
    (s.endOk q idx).cmdsAt q idx = (s.cmdsAt q idx).map (Cmd.endedWith St.ok 6 (s.qCp q) 0) := by
  rw [State.endOk, State.cmdsAt_congr (s.endCmd_queues ..), State.cmdsAt_modCmd hs (Cmd.endedWith_idx St.ok 6 _ 0), if_pos ⟨rfl, rfl⟩]

/-- Settles O40: the run's command ends with OK in the freed fabric, and what follows leaves it so. -/
theorem drainedRunEndsWithOk : Obligations.DrainedRunEndsWithOk := by
  intro s r c hinv hseg he ha hended hl hi hc hidx
  let ended := s.freed.endOk r.q r.idx
  have hrow : s.doSegmentEnd = ended.showActs.startRuns.evalFlags := by
    rw [State.doSegmentEnd_drained hseg (State.not_halted_of_noErrs hseg he) hended, State.endDrained_ok hseg he ha hi hl]
  have after : EndStands r.q r.idx ended ended.showActs.startRuns.evalFlags :=
    (ended.showActs_endStands.trans (State.startRuns_endStands _)).trans (State.evalFlags_endStands _)
  have hqueues : Sparse.sorted s.freed.queues = true := s.freed_queues ▸ hinv.queues
  have hsorted : Sparse.sorted ended.queues = true := ((s.freed.endOk_coachStays r.q r.idx).commands hqueues).1
  obtain ⟨-, hsame⟩ := after hsorted (s.freed.endOk_endedOk r.q r.idx hqueues)
  have hat : s.freed.cmdsAt r.q r.idx = s.cmdsAt r.q r.idx := State.cmdsAt_congr s.freed_queues _ _
  have hmem : c ∈ s.cmdsAt r.q r.idx := State.mem_cmdsAt.mpr ⟨hc, hidx⟩
  obtain ⟨c0, cs, hcons⟩ := List.exists_cons_of_ne_nil (List.ne_nil_of_mem hmem)
  refine ⟨_, c0.endedWith St.ok 6 (s.freed.qCp r.q) 0, congrArg Host.Outcome.next hrow, ?_, rfl, rfl, rfl, rfl, s.freed_qCp r.q⟩
  rw [State.cmd?_eq_head?, hsame, State.cmdsAt_endOk hqueues, hat, hcons]
  rfl

end Sys2Proof.Machine
end

section
/-!
CARRIAGE_FORWARD (R150): what the head of a chain's in queue leads to, and O32.
-/
namespace Sys2Proof.Machine

/-- R443: the head member of a chain gives the tile that it makes available to a snapshot. -/
def State.tapHead (s : State) (n c t : Nat) : State :=
  let x := s.chain n c
  let h := s.tokHdr t
  let r := (s.im.chain c).headD { chain := c, pos := 0, core := n, tensor := 0, tiles := 0 }
  if ((s.im.chain c).head?).map (·.core) = some n then
    (s.setChain n c { x with tapped := x.tapped + 1 }).tapTile r.tensor r.tiles x.tapped
      ((s.spLines n h.offset h.valLen ++ s.spLines n h.scaleOff h.scaleLen).map fun y => (y.1 / 256 * 256, 256))
      (s.spBytes n h.offset h.valLen) (s.spBytes n h.scaleOff h.scaleLen)
  else s

/-- R150: a member with an out queue sends a copy of the tile on it; the last member has none. -/
def State.relayTile (s : State) (n t : Nat) : Option QueueRec → State
  | some o => (s.addRef t 1).forwardTok n t o.q
  | none => s

/-- R150: the tile becomes the newest of the chain, and those that every operand has finished with are released. -/
def State.addNewest (s : State) (n c t : Nat) : State :=
  (s.setChain n c { s.chain n c with tiles := (s.chain n c).tiles ++ [t] }).trimChain n c

/-- R150: with a credit on the out queue, where the member has one, the head of the in queue becomes available and is relayed. -/
theorem State.doCarriage_forwards {s : State} {n c t : Nat} {rest : List Nat} {qin : QueueRec} (hwork : s.working = true)
    (hi : s.injections = []) (hin : s.im.chainIn n c = some qin) (hq : s.coreQ n qin.q = t :: rest)
    (hfree : ∀ o, s.im.chainOut n c = some o → s.outFree n o.q = true) :
    s.doCarriage n c =
      (((s.tapHead n c t).setCoreQ n qin.q rest).relayTile n t (s.im.chainOut n c)).addNewest n c t := by
  simp only [State.doCarriage, hin, hq, hwork, State.coreCheck_nil hi, if_neg (State.not_halted_of_working hwork)]
  refine if_neg ?_
  cases hout : s.im.chainOut n c with
  | none => exact Bool.false_ne_true
  | some o => simp [hfree o hout]

/-- Settles O32: the member taps, relays and keeps the head of its in queue. -/
theorem carriageForwardsItsHead : Obligations.CarriageForwardsItsHead := by
  intro s n c t rest qin hwork hi hin hq hfree x h r s1 s2 s3
  have relays : s3 = s2.relayTile n t (s.im.chainOut n c) := rfl
  rw [relays]
  exact congrArg Host.Outcome.next (State.doCarriage_forwards hwork hi hin hq hfree)

end Sys2Proof.Machine
end

section
/-!
The rows of the engines (R184, R188, R199, R238): what each does when it can start, and O33.
-/
namespace Sys2Proof.Machine

/-- R411: with nothing armed an access of a word of a core's store meets nothing. -/
theorem State.flipCheck_nil {s : State} (h : s.injections = []) (det n counter : Nat) : s.flipCheck det n counter = s := by
  simp only [State.flipCheck, State.fire_nil h]

section Engines
variable {s : State} {n j : Nat} {t : LoopTable} (hwork : s.working = true) (hi : s.injections = [])
include hwork hi

/-- R184, R190: the table that the matrix engine picks starts a product. -/
theorem State.doTileProduct_picked (hpick : s.pickTable n = some (t, j)) : s.doTileProduct n = s.product n j t := by
  simp only [State.doTileProduct, hpick, hwork, State.coreCheck_nil hi, if_neg (State.not_halted_of_working hwork), Bool.not_true,
    Bool.false_eq_true, if_false]

/-- R188: the oldest complete tile of a table whose place is free drains. -/
theorem State.doDrain_complete {o : OperandRec} {a : AccTile} (ht : s.table? n j = some t) (ho : t.out? = some o)
    (ha : (s.core n).acc.find? (fun a => a.table = j && a.complete) = some a) (hready : s.outReady n o = true) :
    s.doDrain n j = ((s.putTile n o t.outShape (t.oneToOne o) a.out a.mb a.tenant a.first
      (if t.accFmt = 1 then a.vals.map fun v => toF32 (decodeNum 6 v) else a.vals)).modAcc n fun l => l.erase a).count 0x00B n 1 := by
  simp only [State.doDrain, ht, ha, ho, Option.getD_some, hready, hwork, State.coreCheck_nil hi, State.flipCheck_nil hi,
    if_neg (State.not_halted_of_working hwork), Bool.not_true, Bool.or_self, Bool.false_eq_true, if_false]

/-- R199: a vector table whose operands and output are ready runs an iteration. -/
theorem State.doVector_ready (ht : s.table? n j = some t) (hcan : s.canVector n j t = true) : s.doVector n j = s.vectorPass n j t := by
  simp only [State.doVector, ht, hcan, hwork, State.coreCheck_nil hi, if_neg (State.not_halted_of_working hwork), Bool.not_true,
    Bool.or_self, Bool.false_eq_true, if_false]

end Engines

/-- R238: the oldest gradient tile of a route leaves it, and its credit starts back. -/
def State.takeGrad (s : State) (k : Nat) (rest : List WaitTok) : State :=
  s.modRoute k fun x => { x with unitIn := rest, returning := x.returning + 1 }

section UpdateEngine
variable {s : State} {k : Nat} {r : RouteRec} {w : WaitTok} {rest : List WaitTok} {o : OperandRec} {p : ParamRec}
  (himage : s.image.isSome = true) (hgo : s.halted = false) (hroute : s.im.route? k = some r) (hkind : r.dstKind = 1)
  (hunit : unitKindOf r.dst = 5) (hhead : (s.route k).unitIn = w :: rest) (hout : s.im.gradOut r.src r.srcQ = some o)
  (hparam : s.im.param? o.tensor = some p) (hfmt : tileBytes w.hdr.fmt ≠ 0)
include himage hgo hroute hkind hunit hhead hout hparam hfmt

/-- R238: a whole tile updates its 64 rows. -/
theorem State.doEngineTile_whole (hlen : w.values.length = tileBytes w.hdr.fmt) :
    s.doEngineTile k = (s.takeGrad k rest).tileUpdate p (((w.hdr.offset : Int) - o.base) / (tileBytes w.hdr.fmt : Int)) 0 64
      w.hdr.tenant (unitInstOf r.dst) (decodeTile w.hdr.fmt w.values w.scales) := by
  have hwhole : ¬ w.values.length * 2 = tileBytes w.hdr.fmt := by omega
  have hsize : max 1 (tileBytes w.hdr.fmt) = tileBytes w.hdr.fmt := by omega
  have hnone : s.image.isNone = false := by simpa using himage
  simp only [State.doEngineTile, hroute, hhead, hkind, hunit, hnone, hgo, hout, hparam, hwhole, hsize, decide_true, decide_false,
    Bool.and_self, Bool.and_false, Bool.not_true, Bool.or_self, Bool.false_eq_true, if_false]
  rfl

/-- R238, log entry 33: a half tile updates its own 32 rows. -/
theorem State.doEngineTile_half (hlen : w.values.length * 2 = tileBytes w.hdr.fmt) :
    let t : Int := ((w.hdr.offset : Int) - o.base) / ((tileBytes w.hdr.fmt / 2 : Nat) : Int)
    s.doEngineTile k = (s.takeGrad k rest).tileUpdate p (t / 2) (32 * (t % 2).toNat) 32 w.hdr.tenant (unitInstOf r.dst)
      ((Array.range 4096).map fun e => (decodeTile w.hdr.fmt w.values w.scales).getD (e % 2048) .zero) := by
  have hsize : max 1 (tileBytes w.hdr.fmt / 2) = tileBytes w.hdr.fmt / 2 := by omega
  have hnone : s.image.isNone = false := by simpa using himage
  have hhalf : (decide (tileBytes w.hdr.fmt ≠ 0) && decide (w.values.length * 2 = tileBytes w.hdr.fmt)) = true := by
    simp only [hfmt, hlen, ne_eq, not_false_eq_true, decide_true, Bool.and_self]
  simp only [State.doEngineTile, hroute, hhead, hkind, hunit, hnone, hgo, hout, hparam, hhalf, hsize, decide_true,
    Bool.and_self, Bool.not_true, Bool.or_self, Bool.false_eq_true, if_false, if_true]
  rfl

end UpdateEngine

/-- Settles O33, row by row; a gradient tile is whole or half. -/
theorem enginesRunTheirTables : Obligations.EnginesRunTheirTables := by
  intro s hi
  refine ⟨?product, ?drain, ?vector, ?update⟩
  case product =>
    intro n t j hwork hpick
    exact congrArg Host.Outcome.next (State.doTileProduct_picked hwork hi hpick)
  case drain =>
    intro n j t o a hwork ht ho ha hready
    exact congrArg Host.Outcome.next (State.doDrain_complete hwork hi ht ho ha hready)
  case vector =>
    intro n j t hwork ht hcan
    exact congrArg Host.Outcome.next (State.doVector_ready hwork hi ht hcan)
  case update =>
    intro k r w rest o p himage hgo hroute hkind hunit hhead hout hparam hfmt s1 codes
    refine ⟨fun hlen => ?whole, fun hlen => ?half⟩
    case whole =>
      exact congrArg Host.Outcome.next (State.doEngineTile_whole himage hgo hroute hkind hunit hhead hout hparam hfmt hlen)
    case half =>
      exact congrArg Host.Outcome.next (State.doEngineTile_half himage hgo hroute hkind hunit hhead hout hparam hfmt hlen)

end Sys2Proof.Machine
end

section
/-!
The scalar rows (R200 to R204): what each does when a program starts or its next instruction runs, and O34.
-/
namespace Sys2Proof.Machine

section Rows
variable {s : State} {n : Nat} (hwork : s.working = true)
include hwork

/-- R201: the program of the next micro-batch starts. -/
theorem State.doScalarStart_starts (hn : n < s.grade.cores) (hlen : (s.im.core n).progLen ≠ 0) (hrun : (s.hart n).running = false)
    (hfault : (s.hart n).faulted = false) (hmb : (s.hart n).halted < s.batches.length) :
    s.doScalarStart n =
      (s.modHart n fun h => { h with running := true, pc := 0, x := [] }).setFld (CoreEngStatus.scalarRun n) 1 := by
  simp [State.doScalarStart, hwork, hn, hlen, hrun, hfault, hmb]

/-- R204: the row of the instructions other than SEND and TAKE finds the program counter past the program. -/
theorem State.doScalar_pastEnd (hrun : (s.hart n).running = true) (hpc : (s.im.core n).progLen ≤ (s.hart n).pc.toNat) :
    s.doScalar n .other = s.scalarFault n 5 false := by
  simp [State.doScalar, hwork, hrun, hpc]

/-- What a row does with an instruction of its kind. -/
def State.runKind (s : State) (n : Nat) (w : W32) : ScalarKind → State
  | .send => s.scalarSend n ((s.hart n).sendWord w)
  | .take => s.scalarTake n (insBits w 11 7) (insBits w 14 12) (((s.hart n).reg (insBits w 19 15) + immI w).toNat % 4)
  | .other => s.runScalar n w

/-- With no injection armed a row runs the next instruction of its kind. -/
theorem State.doScalar_runs {want : ScalarKind} {w : W32} (hi : s.injections = []) (hrun : (s.hart n).running = true)
    (hpc : (s.hart n).pc.toNat < (s.im.core n).progLen)
    (hw : BitVec.ofNat 32 (leField (s.im.prog n) (s.hart n).pc.toNat 4) = w) (hkind : (s.hart n).kind w = want) :
    s.doScalar n want = s.runKind n w want := by
  simp only [State.doScalar, hw, hkind, hwork, hrun, State.coreCheck_nil hi, State.fire_nil hi,
    if_neg (State.not_halted_of_working hwork), if_neg (Nat.not_le.mpr hpc), Option.isSome_none, ne_eq, not_true_eq_false,
    Bool.not_true, Bool.or_self, Bool.false_eq_true, if_false]
  cases want <;> rfl

end Rows

/-- Settles O34, row by row: a program starts, an instruction runs in the row of its kind, and a program counter past the end
faults. -/
theorem scalarRowsRunTheProgram : Obligations.ScalarRowsRunTheProgram := by
  intro s n hwork hi h w
  refine ⟨?start, fun hrun hpc => ?runs, ?pastEnd⟩
  case start =>
    intro hn hlen hrun hfault hmb
    exact congrArg Host.Outcome.next (State.doScalarStart_starts hwork hn hlen hrun hfault hmb)
  case runs =>
    have runs {want : ScalarKind} (hkind : h.kind w = want) : s.doScalar n want = s.runKind n w want :=
      State.doScalar_runs hwork hi hrun hpc rfl hkind
    exact ⟨fun hk => congrArg Host.Outcome.next (runs hk), fun hk => congrArg Host.Outcome.next (runs hk),
      fun hk => congrArg Host.Outcome.next (runs hk)⟩
  case pastEnd =>
    intro hrun hpc
    exact congrArg Host.Outcome.next (State.doScalar_pastEnd hwork hrun hpc)

end Sys2Proof.Machine
end

section
/-!
The results of the scalar core's arithmetic (R200; the encodings and results of RV32IM are log entry 34), as integers.
-/
namespace Sys2Proof.Machine

/-! ### Comparisons -/

theorem aluOp_slt (alt : Bool) (a b : W32) : aluOp 2 alt a b = if a.slt b then 1 else 0 := by
  simp [aluOp, BitVec.slt_eq_decide]

theorem aluOp_sltu (alt : Bool) (a b : W32) : aluOp 3 alt a b = if a.ult b then 1 else 0 := by
  simp [aluOp, BitVec.ult_eq_decide]

/-! ### High words of products -/

/-- The high word of 64 bits is the quotient by 2 ^ 32, rounded down. -/
theorem high_ofInt (z : Int) : ((BitVec.ofInt 64 z) >>> 32).truncate 32 = BitVec.ofInt 32 (z / 2 ^ 32) := by
  apply BitVec.eq_of_toNat_eq
  simp only [BitVec.truncate, BitVec.toNat_setWidth, BitVec.toNat_ushiftRight, BitVec.toNat_ofInt, Nat.shiftRight_eq_div_pow]
  omega

theorem zeroExtend_eq_ofInt (a : W32) : a.zeroExtend 64 = BitVec.ofInt 64 (a.toNat : Int) := by
  rw [BitVec.ofInt_natCast, BitVec.ofNat_toNat]

theorem mulOp_mulh (a b : W32) : mulOp 1 a b = BitVec.ofInt 32 (a.toInt * b.toInt / 2 ^ 32) := by
  rw [← high_ofInt, BitVec.ofInt_mul]
  rfl

theorem mulOp_mulhsu (a b : W32) : mulOp 2 a b = BitVec.ofInt 32 (a.toInt * (b.toNat : Int) / 2 ^ 32) := by
  rw [← high_ofInt, BitVec.ofInt_mul, ← zeroExtend_eq_ofInt]
  rfl

theorem mulOp_mulhu (a b : W32) : mulOp 3 a b = BitVec.ofNat 32 (a.toNat * b.toNat / 2 ^ 32) := by
  have asInt : BitVec.ofNat 32 (a.toNat * b.toNat / 2 ^ 32) = BitVec.ofInt 32 ((a.toNat : Int) * (b.toNat : Int) / 2 ^ 32) := by
    rw [← BitVec.ofInt_natCast]
    norm_cast
  rw [asInt, ← high_ofInt, BitVec.ofInt_mul, ← zeroExtend_eq_ofInt, ← zeroExtend_eq_ofInt]
  rfl

/-! ### Quotients and remainders -/

theorem sdiv_eq_ofInt (a b : W32) : a.sdiv b = BitVec.ofInt 32 (a.toInt.tdiv b.toInt) :=
  BitVec.eq_of_toInt_eq (by rw [BitVec.toInt_sdiv, BitVec.toInt_ofInt])

theorem srem_eq_ofInt (a b : W32) : a.srem b = BitVec.ofInt 32 (a.toInt.tmod b.toInt) := by
  rw [← BitVec.toInt_srem, BitVec.ofInt_toInt]

theorem mulOp_div (a b : W32) :
    mulOp 4 a b = if b = 0 then BitVec.ofNat 32 0xFFFFFFFF
      else if a = BitVec.ofNat 32 0x80000000 ∧ b = BitVec.ofNat 32 0xFFFFFFFF then a
      else BitVec.ofInt 32 (a.toInt.tdiv b.toInt) := by
  refine ite_congr rfl (fun _ => rfl) fun _ => ?_
  split
  case isTrue overflow =>
    obtain ⟨rfl, rfl⟩ := overflow
    decide
  case isFalse => exact sdiv_eq_ofInt a b

theorem mulOp_divu (a b : W32) :
    mulOp 5 a b = if b = 0 then BitVec.ofNat 32 0xFFFFFFFF else BitVec.ofNat 32 (a.toNat / b.toNat) :=
  ite_congr rfl (fun _ => rfl) fun _ => BitVec.udiv_def

theorem mulOp_rem (a b : W32) :
    mulOp 6 a b = if b = 0 then a
      else if a = BitVec.ofNat 32 0x80000000 ∧ b = BitVec.ofNat 32 0xFFFFFFFF then 0
      else BitVec.ofInt 32 (a.toInt.tmod b.toInt) := by
  refine ite_congr rfl (fun _ => rfl) fun _ => ?_
  split
  case isTrue overflow =>
    obtain ⟨rfl, rfl⟩ := overflow
    decide
  case isFalse => exact srem_eq_ofInt a b

theorem mulOp_remu (a b : W32) : mulOp 7 a b = if b = 0 then a else BitVec.ofNat 32 (a.toNat % b.toNat) :=
  ite_congr rfl (fun _ => rfl) fun _ => BitVec.umod_def

end Sys2Proof.Machine
end

section
/-!
The R-type and U-type instructions (R200, R205): their words, what one writes, and O35.
-/
namespace Sys2Proof.Machine

/-! ### Instruction words -/

/-- The word of an R-type instruction. -/
def rWord (f7 rs2 rs1 f3 rd op : Nat) : W32 :=
  BitVec.ofNat 32 (f7 * 2 ^ 25 + rs2 * 2 ^ 20 + rs1 * 2 ^ 15 + f3 * 2 ^ 12 + rd * 2 ^ 7 + op)

/-- The word of a U-type instruction with the upper 20 bits of `imm`. -/
def uWord (imm : W32) (rd op : Nat) : W32 := (imm &&& BitVec.ofNat 32 0xFFFFF000) + BitVec.ofNat 32 (rd * 2 ^ 7 + op)

theorem insBits_rWord {f7 rs2 rs1 f3 rd op : Nat} (h7 : f7 < 128) (h2 : rs2 < 32) (h1 : rs1 < 32) (h3 : f3 < 8) (hd : rd < 32)
    (ho : op < 128) :
    let w := rWord f7 rs2 rs1 f3 rd op
    insBits w 6 0 = op ∧ insBits w 11 7 = rd ∧ insBits w 14 12 = f3 ∧ insBits w 19 15 = rs1 ∧ insBits w 24 20 = rs2 ∧
      insBits w 31 25 = f7 := by
  simp only [insBits, bitsOf, rWord, BitVec.toNat_ofNat, Nat.shiftRight_eq_div_pow]
  omega

/-- The upper 20 bits of a word are its multiple of 4,096. -/
theorem toNat_upper (x : W32) : (x &&& BitVec.ofNat 32 0xFFFFF000).toNat = x.toNat / 4096 * 4096 := by
  have mask : BitVec.ofNat 32 0xFFFFF000 = BitVec.allOnes 32 <<< 12 := by decide
  rw [mask, ← BitVec.shiftLeft_ushiftRight, BitVec.toNat_shiftLeft, BitVec.toNat_ushiftRight, Nat.shiftLeft_eq,
    Nat.shiftRight_eq_div_pow]
  omega

theorem toNat_uWord (imm : W32) {rd op : Nat} (hd : rd < 32) (ho : op < 128) :
    (uWord imm rd op).toNat = imm.toNat / 4096 * 4096 + rd * 128 + op := by
  rw [uWord, BitVec.toNat_add, toNat_upper, BitVec.toNat_ofNat]
  omega

theorem insBits_uWord (imm : W32) {rd op : Nat} (hd : rd < 32) (ho : op < 128) :
    insBits (uWord imm rd op) 6 0 = op ∧ insBits (uWord imm rd op) 11 7 = rd := by
  simp only [insBits, bitsOf, toNat_uWord imm hd ho, Nat.shiftRight_eq_div_pow]
  omega

theorem immU_uWord (imm : W32) {rd op : Nat} (hd : rd < 32) (ho : op < 128) :
    immU (uWord imm rd op) = imm &&& BitVec.ofNat 32 0xFFFFF000 := by
  apply BitVec.eq_of_toNat_eq
  refine (toNat_upper _).trans ?_
  rw [toNat_upper, toNat_uWord imm hd ho]
  omega

/-! ### What one instruction writes -/

/-- The instruction `w` writes `v` to `rd`, goes on to the next instruction and is counted (R205); nothing else changes. -/
def State.Gives (s : State) (n rd : Nat) (w v : W32) : Prop :=
  s.runScalar n w = (s.modHart n fun h => { h.setReg rd v with pc := h.pc + 4 }).count 0x00C n 1

section Gives
variable {rd rs1 rs2 : Nat} (hd : rd < 32) (h1 : rs1 < 32) (h2 : rs2 < 32)
include hd h1 h2

/-- The operations of RV32I on two registers. -/
theorem State.gives_aluOp {f7 f3 : Nat} {v : W32} (s : State) (n : Nat) (h3 : f3 < 8)
    (h7 : f7 = 0 ∨ f7 = 0x20 ∧ (f3 = 0 ∨ f3 = 5))
    (hv : aluOp f3 (f7 = 0x20) ((s.hart n).reg rs1) ((s.hart n).reg rs2) = v) : s.Gives n rd (rWord f7 rs2 rs1 f3 rd 0x33) v := by
  obtain ⟨hop, hrd, hf3, hrs1, hrs2, hf7⟩ := insBits_rWord (op := 0x33) (by omega : f7 < 128) h2 h1 h3 hd (by decide)
  have notMul : ¬ f7 = 1 := by omega
  have known : (decide (f7 = 0) || decide (f7 = 0x20) && (decide (f3 = 0) || decide (f3 = 5))) = true := by simpa using h7
  simp only [State.Gives, State.runScalar, hop, hrd, hf3, hrs1, hrs2, hf7, if_neg notMul, if_pos known, hv]
  rfl

/-- The operations of the M extension. -/
theorem State.gives_mulOp {f3 : Nat} {v : W32} (s : State) (n : Nat) (h3 : f3 < 8)
    (hv : mulOp f3 ((s.hart n).reg rs1) ((s.hart n).reg rs2) = v) : s.Gives n rd (rWord 1 rs2 rs1 f3 rd 0x33) v := by
  obtain ⟨hop, hrd, hf3, hrs1, hrs2, hf7⟩ := insBits_rWord (op := 0x33) (by decide : 1 < 128) h2 h1 h3 hd (by decide)
  simp only [State.Gives, State.runScalar, hop, hrd, hf3, hrs1, hrs2, hf7, if_true, hv]
  rfl

end Gives

section Upper
variable {rd : Nat} (hd : rd < 32) (s : State) (n : Nat) (imm : W32)
include hd

theorem State.gives_lui : s.Gives n rd (uWord imm rd 0x37) (imm &&& BitVec.ofNat 32 0xFFFFF000) := by
  obtain ⟨hop, hrd⟩ := insBits_uWord imm (op := 0x37) hd (by decide)
  simp only [State.Gives, State.runScalar, hop, hrd, immU_uWord imm (op := 0x37) hd (by decide)]
  rfl

theorem State.gives_auipc :
    s.Gives n rd (uWord imm rd 0x17) ((s.hart n).pc + (imm &&& BitVec.ofNat 32 0xFFFFF000)) := by
  obtain ⟨hop, hrd⟩ := insBits_uWord imm (op := 0x17) hd (by decide)
  simp only [State.Gives, State.runScalar, hop, hrd, immU_uWord imm (op := 0x17) hd (by decide)]
  rfl

end Upper

/-- Settles O35: each R-type word gives the result of its operation, and LUI and AUIPC that of their immediate. -/
theorem scalarArithmeticIsRv32im : Obligations.ScalarArithmeticIsRv32im := by
  intro s n rd rs1 rs2 imm hd h1 h2 h a b word sh gives
  have base {f3 : Nat} {v : W32} (h3 : f3 < 8) (hv : aluOp f3 false a b = v) : gives (word 0x00 f3 0x33) v :=
    State.gives_aluOp hd h1 h2 s n h3 (.inl rfl) hv
  have alt {f3 : Nat} {v : W32} (h3 : f3 = 0 ∨ f3 = 5) (hv : aluOp f3 true a b = v) : gives (word 0x20 f3 0x33) v :=
    State.gives_aluOp hd h1 h2 s n (by omega) (.inr ⟨rfl, h3⟩) hv
  have mul {f3 : Nat} {v : W32} (h3 : f3 < 8) (hv : mulOp f3 a b = v) : gives (word 0x01 f3 0x33) v :=
    State.gives_mulOp hd h1 h2 s n h3 hv
  refine ⟨?add, ?sub, ?sll, ?slt, ?sltu, ?xor, ?srl, ?sra, ?or, ?and, ?mul, ?mulh, ?mulhsu, ?mulhu, ?div, ?divu, ?rem, ?remu,
    ?lui, ?auipc⟩
  case add => exact base (by decide) rfl
  case sub => exact alt (.inl rfl) rfl
  case sll => exact base (by decide) rfl
  case slt => exact base (by decide) (aluOp_slt false a b)
  case sltu => exact base (by decide) (aluOp_sltu false a b)
  case xor => exact base (by decide) rfl
  case srl => exact base (by decide) rfl
  case sra => exact alt (.inr rfl) rfl
  case or => exact base (by decide) rfl
  case and => exact base (by decide) rfl
  case mul => exact mul (by decide) rfl
  case mulh => exact mul (by decide) (mulOp_mulh a b)
  case mulhsu => exact mul (by decide) (mulOp_mulhsu a b)
  case mulhu => exact mul (by decide) (mulOp_mulhu a b)
  case div => exact mul (by decide) (mulOp_div a b)
  case divu => exact mul (by decide) (mulOp_divu a b)
  case rem => exact mul (by decide) (mulOp_rem a b)
  case remu => exact mul (by decide) (mulOp_remu a b)
  case lui => exact State.gives_lui hd s n imm
  case auipc => exact State.gives_auipc hd s n imm

end Sys2Proof.Machine
end

section
/-!
The commands of the collectives, of the update engine and of snapshots, LIZARD_ADOPT, SELFTEST and INJECT (R225, R239, R390, R411,
R429, R436 to R440, R481) run once accepted, and O23.
-/
namespace Sys2Proof.Machine

/-- A row that does nothing after the command answers what its body comes to, once FLAG_WAITs are evaluated. To use it where the
body has a name, leave the expected type out, `(… :)`: the row then gives the body, and nothing is unfolded to find it. -/
theorem RunsRow.accepted_body {i : Instr} {s t : State} {q : Nat} {c : Cmd} {want : Bytes → Bool}
    {ranges regions : State → Bytes → List Range} {errs : State → Cmd → List Err} {met : State → Nat → Cmd → Err → State}
    {body : State → Cmd → State} (h : RunsRow i s q { want, ranges, regions, errs, met, body })
    (hafter : ∀ u : State, u.afterRow i = u) (ha : s.accepts i = some (t, c)) : exec i s = .next (body t c).evalFlags :=
  (h.accepted ha).trans (congrArg Host.Outcome.next (hafter _))

/-- What SELFTEST gives the shared operation (R481). -/
def selftestRow (q : Nat) : Row where
  want := isOp 0xC0
  ranges := plainRanges
  errs s c := s.selftestErrs c.entry
  body s c := s.runSelftest q c

/-- R481: while no SELFTEST is in progress, the row takes the next one and then looks for its drain window. -/
theorem RunsRow.selftest (s : State) (q : Nat) : RunsRow (.selftest q) s q (selftestRow q) where
  checks := rfl
  met := fun _ _ _ => rfl
  exec_eq hq hf := by
    have hnone : ¬ s.selftest.isSome = true := Option.not_isSome_iff_eq_none.mpr (Option.isNone_iff_eq_none.mp hf)
    exact congrArg Host.Outcome.next ((if_pos hq).trans (congrArg State.startSelftest (if_neg hnone)))

/-- Settles O23: each row runs its body, which is the effect stated. SNAP_DISARM, SNAP_RESTORE, LIZARD_ADOPT and SELFTEST wait for
another of their kind, and SELFTEST looks for its drain window after the command. -/
theorem engineCommandsComplete : Obligations.EngineCommandsComplete := by
  intro s t q c
  refine ⟨fun h => ?reduce, fun h => ?allReduce, fun h => ?allGather, fun h => ?reduceScatter, fun h => ?permute,
    fun h => ?updateStream, fun h => ?gradSum, fun h => ?snapArm, fun h => ?snapDisarm, fun h => ?snapRestore,
    fun h => ?lizardAdopt, fun h => ?selftest, fun h => ?inject⟩
  case reduce | allReduce | allGather | reduceScatter | permute | updateStream | gradSum | snapArm | inject =>
    exact (RunsRow.accepted_body (.of_queueOk rfl rfl fun _ _ _ => rfl) (fun _ => rfl) h :)
  case snapDisarm | snapRestore | lizardAdopt =>
    exact (RunsRow.accepted_body (.of_rowFree rfl rfl fun _ _ _ => rfl) (fun _ => rfl) h :)
  case selftest => exact (RunsRow.selftest s q).accepted h

end Sys2Proof.Machine
end

section
/-!
The ends of the walks (R245, R246, R271), and O46.
-/
namespace Sys2Proof.Machine

/-- R245: the end of a walk that gives every page's version state `f`. -/
def State.walkEnded (s : State) (f : Version → Version) : State :=
  ({ s with ver := Sparse.update {} (fun _ v => f v) s.ver, walk := .none } : State).setFld HbmUpdStatus.walk 0

/-- R245: what the commit point has switched becomes the state of the page. -/
def Version.committed (v : Version) : Version := if v.p then { v with v := !v.v, p := false } else v

/-- R245: an abandon leaves the slot that was committed. -/
def Version.abandoned (v : Version) : Version := { v with p := false }

theorem State.doCommitWalkEnd_ends {s : State} (hw : s.walk = .commit) (hh : s.walkHeld = false) :
    s.doCommitWalkEnd = s.walkEnded Version.committed := by
  simp [State.doCommitWalkEnd, hw, hh, State.walkEnded, Version.committed]

theorem State.doCommitWalkEnd_waits {s : State} (h : s.walk ≠ .commit ∨ s.walkHeld = true) : s.doCommitWalkEnd = s := by
  simp only [State.doCommitWalkEnd]
  rw [if_neg]
  rcases h with h | h <;> simp [h]

theorem State.doAbandonWalkEnd_ends {s : State} (hw : s.walk = .abandon) : s.doAbandonWalkEnd = s.walkEnded Version.abandoned :=
  if_pos hw

theorem State.doAbandonWalkEnd_none {s : State} (hw : s.walk ≠ .abandon) : s.doAbandonWalkEnd = s := if_neg hw

/-- A one-bit field that is known. -/
theorem State.flag_of_fld {s : State} {f : RegField} {v : Nat} (h : s.fld f = v) : s.flag f = decide (v = 1) := by
  rw [State.flag, h]

section Ended
variable {s : State} (hs : s.Inv) {f : Version → Version}
include hs

theorem State.walkEnded_flag : (s.walkEnded f).flag HbmUpdStatus.walk = false :=
  have h0 : (s.walkEnded f).fld HbmUpdStatus.walk = 0 :=
    State.fld_setFld (f := HbmUpdStatus.walk) hs.regs.1 (by decide) (by decide) 0
  State.flag_of_fld h0

theorem State.walkEnded_reg {r : Reg} (hr : Reg.offset r ≠ Reg.offset .hbmUpdStatus) : (s.walkEnded f).reg r = s.reg r :=
  State.reg_setFld_ne (f := HbmUpdStatus.walk) hs.regs.1 hr 0

/-- A page that no entry names stands in the reset state, which the walk leaves. -/
theorem State.walkEnded_version (hf : f {} = {}) (k : Nat) : (s.walkEnded f).version k = f (s.version k) :=
  Sparse.get_update (f := fun _ => f) hs.ver hf

end Ended

/-- Settles O46: either walk ends with WALK clear and each page's version state brought up to date; a row that does not apply
changes nothing. -/
theorem walksFollowR245 : Obligations.WalksFollowR245 := by
  intro s hs
  refine ⟨fun hw hh => ?commit, fun hw => ?abandon, fun h => congrArg Host.Outcome.next (State.doCommitWalkEnd_waits h),
    fun h => congrArg Host.Outcome.next (State.doAbandonWalkEnd_none h)⟩
  case commit =>
    exact ⟨_, congrArg Host.Outcome.next (State.doCommitWalkEnd_ends hw hh), rfl, State.walkEnded_flag hs, rfl,
      fun _ => State.walkEnded_reg hs, State.walkEnded_version hs rfl⟩
  case abandon =>
    exact ⟨_, congrArg Host.Outcome.next (State.doAbandonWalkEnd_ends hw), rfl, State.walkEnded_flag hs, rfl,
      fun _ => State.walkEnded_reg hs, State.walkEnded_version hs rfl⟩

end Sys2Proof.Machine
end

section
/-!
What stands once a step has closed (R245, R320): the walk that runs, the next record, the registers that show the step, the walk and
the record, and the commands of the queues. The rest of a commit point, the governor's statistics and the sweep of a generation
(R173, R434), leaves all of it alone.
-/
namespace Sys2Proof.Machine

/-- The registers that the close of a step writes: QDIR.STEP_STATUS, HBM.UPD_STATUS and GLB.RECOV_STATUS. -/
def closeRegs : List Reg := [.qdirStepStatus, .hbmUpdStatus, .glbRecovStatus]

/-- From `s` to `t` nothing has changed of what the close of a step sets, and the commands stay. -/
structure CloseStands (s t : State) : Prop where
  walk : t.walk = s.walk
  recNext : t.recNext = s.recNext
  closer : t.step.closer = s.step.closer
  fields : ∀ f : RegField, f.reg ∈ closeRegs → KeepsFld f s t
  commands : CommandsStay s t

namespace CloseStands
variable {s t u : State}

theorem trans (h : CloseStands s t) (k : CloseStands t u) : CloseStands s u :=
  ⟨k.walk.trans h.walk, k.recNext.trans h.recNext, k.closer.trans h.closer, fun f hf => (h.fields f hf).trans (k.fields f hf),
    h.commands.trans k.commands⟩

/-- A change of other state. -/
theorem of_eq (hw : t.walk = s.walk) (hn : t.recNext = s.recNext) (hc : t.step.closer = s.step.closer) (hg : t.grade = s.grade)
    (hr : t.regs = s.regs) (hq : t.queues = s.queues) : CloseStands s t :=
  ⟨hw, hn, hc, fun _ _ => .of_regs hg hr, .of_queues hq⟩

theorem refl (s : State) : CloseStands s s := of_eq rfl rfl rfl rfl rfl rfl

theorem ite {c : Prop} [Decidable c] (h : CloseStands s t) (k : CloseStands s u) : CloseStands s (if c then t else u) := by
  split
  · exact h
  · exact k

theorem foldl {α : Type} {f : State → α → State} (hf : ∀ u x, CloseStands u (f u x)) (l : List α) (s : State) :
    CloseStands s (l.foldl f s) :=
  List.foldlRecOn l f (refl s) fun u hu x _ => hu.trans (hf u x)

/-- A pass that collects an answer beside the state. -/
theorem foldl_snd {α β : Type} {f : β × State → α → β × State} (hf : ∀ b x, CloseStands b.2 (f b x).2) (l : List α)
    (b : β) (s : State) : CloseStands s (l.foldl f (b, s)).2 :=
  List.foldlRecOn (motive := fun c : β × State => CloseStands s c.2) l f (refl s) fun c hc x _ => hc.trans (hf c x)

end CloseStands

/-! ### Registers, memory, events and counters -/

section Writes
variable (s : State)

theorem State.setReg_closeStands {r : Reg} (v : Nat) (h : ∀ x ∈ closeRegs, Reg.offset x ≠ Reg.offset r := by decide) :
    CloseStands s (s.setReg r v) :=
  ⟨rfl, rfl, rfl, fun f hf => State.setReg_keepsFld (h f.reg hf) s v, .of_queues rfl⟩

theorem State.setFld_closeStands {g : RegField} (v : Nat) (h : ∀ x ∈ closeRegs, Reg.offset x ≠ Reg.offset g.reg := by decide) :
    CloseStands s (s.setFld g v) := s.setReg_closeStands _ h

theorem State.setRaw_closeStands (p : Nat) (bs : Bytes) : CloseStands s (s.setRaw p bs) :=
  .of_eq (by simp) (by simp) (by simp) (by simp) (by simp) (by simp)

theorem State.raiseIbi_closeStands (code : Nat) : CloseStands s (s.raiseIbi code) := .ite (.of_eq rfl rfl rfl rfl rfl rfl) (.refl s)

theorem State.event_closeStands (code inst : Nat) : CloseStands s (s.event code inst) := by
  have full : CloseStands s ((s.setFld TelEvtStatus.lost 1).satFld TelEvtStatus.lostCount 1) :=
    (s.setFld_closeStands 1).trans (State.setFld_closeStands _ _)
  have written : ∀ p bs v, CloseStands s ((s.setRaw p bs).setFld TelEvtStatus.tail v) := fun p bs v =>
    (s.setRaw_closeStands p bs).trans (State.setFld_closeStands _ v)
  have disarmed : ∀ u i, CloseStands u { u with i3c := i } := fun _ _ => .of_eq rfl rfl rfl rfl rfl rfl
  unfold State.event
  exact .ite full (.ite (((written _ _ _).trans (disarmed _ _)).trans (State.raiseIbi_closeStands _ _)) (written _ _ _))

theorem State.count_closeStands (num inst n : Nat) : CloseStands s (s.count num inst n) := by
  have counted : ∀ x, CloseStands s { s with counters := x } := fun _ => .of_eq rfl rfl rfl rfl rfl rfl
  unfold State.count
  exact .ite (counted _) (.ite (counted _) ((counted _).trans (State.event_closeStands _ _ _)))

theorem State.detect_closeStands (det status : Nat) (q : Option Nat) (inst : Nat) (inj : Bool) :
    CloseStands s (s.detect det status q inst inj) := (s.setReg_closeStands _).trans (State.event_closeStands _ _ _)

/-- A command ends with OK, which holds no queue (R413). -/
theorem State.endOk_closeStands (q : Nat) (idx : W32) : CloseStands s (s.endOk q idx) :=
  ⟨rfl, rfl, rfl, fun _ _ => .of_regs rfl rfl, (s.endOk_coachStays q idx).commands⟩

theorem State.evalFlags_closeStands : CloseStands s s.evalFlags :=
  .foldl (fun u _ => .foldl (fun v _ => .ite (v.endOk_closeStands _ _) (.refl v)) _ u) _ s

end Writes

/-! ### What an access meets (R49, R273, R411, R414) -/

/-- The registers of cores stand apart from those of the close. -/
theorem coreStatus_apart (n : Nat) : ∀ x ∈ closeRegs, Reg.offset x ≠ Reg.offset (.coreStatus n) := by
  simp only [closeRegs, List.forall_mem_cons, Reg.offset, List.not_mem_nil, false_implies, implies_true, and_true]
  omega

section Meets
variable (s : State)

theorem State.fire_closeStands (det inst : Nat) (addrs : Nat → Bool) : CloseStands s (s.fire det inst addrs).2 := by
  have rest : ∀ x, CloseStands s { s with injections := x } := fun _ => .of_eq rfl rfl rfl rfl rfl rfl
  unfold State.fire
  dsimp only
  split
  · split
    · exact rest _
    · exact ((rest _).trans (State.setFld_closeStands (g := InjStatus.fired) _ _)).trans (State.setFld_closeStands _ _)
  · exact .refl s

theorem State.setFlips_closeStands (p n : Nat) : CloseStands s (s.setFlips p n) := .of_eq rfl rfl rfl rfl rfl rfl
theorem State.corrected_closeStands : CloseStands s s.corrected := .of_eq rfl rfl rfl rfl rfl rfl
theorem State.setCart_closeStands (c : Nat) (x : Cart) : CloseStands s (s.setCart c x) := .of_eq rfl rfl rfl rfl rfl rfl

theorem State.loseCart_closeStands (c : Nat) : CloseStands s (s.loseCart c) :=
  .ite (.refl s) (((s.setCart_closeStands _ _).trans (State.setFld_closeStands (g := CxlPoolStatus.lost) _ 1)).trans
    (.of_eq rfl rfl rfl rfl rfl rfl))

theorem State.tierStalled_closeStands (q : Option Nat) (port : Nat) (inj : Bool) : CloseStands s (s.tierStalled q port inj) :=
  have slower : ∀ (u : State) (h : Health), CloseStands u { u with health := h } := fun _ _ => .of_eq rfl rfl rfl rfl rfl rfl
  ((s.detect_closeStands _ _ _ _ _).trans (State.count_closeStands _ _ _ _)).trans (slower _ _)

theorem State.cartMeets_closeStands (o : Owner) (k a len : Nat) : CloseStands s (s.cartMeets o k a len).2 := by
  have aborted : ∀ u : State, CloseStands u (u.setFld CxlPoolStatus.aborted 1) := fun u => u.setFld_closeStands 1
  unfold State.cartMeets
  dsimp only
  split
  · exact .refl s
  split
  · exact aborted s
  split
  · have met := s.fire_closeStands 0x0A (frameStack (s.cart (s.headOf k)).frameA) fun x => a ≤ x && x < a + len
    split
    · split
      · exact met.trans (State.loseCart_closeStands _ k)
      · exact met.trans (State.corrected_closeStands _)
    · exact met
  · have met := s.fire_closeStands 0x0B (framePlace (s.cart (s.headOf k)).frameA - 1) fun _ => true
    split
    · exact met.trans (aborted _)
    · have late := met.trans (State.fire_closeStands _ 0x0C (framePlace (s.cart (s.headOf k)).frameA - 1) fun _ => true)
      split
      · exact late.trans (State.tierStalled_closeStands _ _ _ _)
      · exact late

theorem State.scratchMeets_closeStands (a len : Nat) : CloseStands s (s.scratchMeets a len).2 := by
  unfold State.scratchMeets
  dsimp only
  split
  · exact .refl s
  · refine CloseStands.trans ?flipped (.foldl_snd (fun acc w => ?word) _ _ _)
    case flipped =>
      split
      · exact s.fire_closeStands _ _ _
      · exact (s.fire_closeStands _ _ _).trans (State.setFlips_closeStands _ _ _)
    case word =>
      split
      · exact ((acc.2.setFlips_closeStands _ _).trans (State.count_closeStands _ _ _ _)).trans (State.corrected_closeStands _)
      · exact acc.2.setFld_closeStands 1 (coreStatus_apart _)

theorem State.reservedMeets_closeStands (o : Owner) (a len : Nat) : CloseStands s (s.reservedMeets o a len).2 := by
  unfold State.reservedMeets
  dsimp only
  split
  · exact .refl s
  · refine CloseStands.trans ?flipped (.foldl_snd (fun acc w => ?word) _ _ _)
    case flipped =>
      split
      · exact s.fire_closeStands _ _ _
      · exact (s.fire_closeStands _ _ _).trans (State.setFlips_closeStands _ _ _)
    case word =>
      split
      · exact (acc.2.setFlips_closeStands _ _).trans (State.corrected_closeStands _)
      · exact acc.2.detect_closeStands _ _ _ _ _

theorem State.copyAccess_closeStands (a len : Nat) : CloseStands s (s.copyAccess a len).2 := by
  unfold State.copyAccess
  dsimp only
  refine ((CloseStands.foldl_snd (fun acc k => ?cart) _ true s).trans (State.reservedMeets_closeStands _ _ _ _)).trans
    (.foldl_snd (fun acc part => ?scratch) _ _ _)
  case cart =>
    have met := acc.2.cartMeets_closeStands .nobody k a len
    split
    · exact met.trans (State.detect_closeStands _ _ _ _ _ _)
    · exact met
  case scratch =>
    exact (acc.2.scratchMeets_closeStands _ _).trans
      (.foldl_snd (fun found _ => found.2.detect_closeStands _ _ _ _ _) _ _ _)

end Meets

/-! ### Writes of memory and moves between the tiers (R227, R266, R270, R351) -/

section Memory
variable (s : State)

theorem State.setMem_closeStands (m : List Host.Cell) : CloseStands s { s with mem := m } := .of_eq rfl rfl rfl rfl rfl rfl
theorem State.clearRaw_closeStands (p len : Nat) : CloseStands s (s.clearRaw p len) := s.setMem_closeStands _
theorem State.setRawByte_closeStands (p : Nat) (b : Byte) : CloseStands s (s.setRawByte p b) := s.setMem_closeStands _

theorem State.writeByte_closeStands (a : Nat) (b : Byte) : CloseStands s (s.writeByte a b) :=
  .ite (.ite ((s.setRawByte_closeStands _ b).trans (State.setRawByte_closeStands _ _ b)) (.refl s))
    (.ite (.refl s) (s.setRawByte_closeStands a b))

theorem State.clearRange_closeStands (a len : Nat) : CloseStands s (s.clearRange a len) :=
  .foldl (fun u _ => .ite
    (.ite ((u.clearRaw_closeStands _ _).trans (State.clearRaw_closeStands _ _ _)) (.refl u)) (u.setMem_closeStands _)) _ s

theorem State.cleanWords_closeStands (a len : Nat) : CloseStands s (s.cleanWords a len) :=
  .ite (.of_eq rfl rfl rfl rfl rfl rfl) (.refl s)

theorem State.performRange_closeStands (w : RangeWrite) : CloseStands s (s.performRange w) :=
  ((s.clearRange_closeStands _ _).trans (.foldl (fun u _ => u.writeByte_closeStands _ _) _ _)).trans
    (State.cleanWords_closeStands _ _ _)

theorem State.setMigrations_closeStands (m : List (Nat × Migration)) : CloseStands s { s with migrations := m } :=
  .of_eq rfl rfl rfl rfl rfl rfl

theorem State.startMigration_closeStands (h : Nat) (dest : CartState) (targets : List Nat) :
    CloseStands s (s.startMigration h dest targets) := .of_eq rfl rfl rfl rfl rfl rfl

theorem State.moveToCxl_closeStands (h : Nat) : CloseStands s (s.moveToCxl h) := by
  unfold State.moveToCxl
  refine .ite ?_ (.refl s)
  split
  · exact s.startMigration_closeStands _ _ _
  · exact .refl s

theorem State.lowerRange_closeStands (a len : Nat) : CloseStands s (s.lowerRange a len) :=
  .foldl (fun u _ => u.moveToCxl_closeStands _) _ s

theorem State.switchHome_closeStands (h : Nat) : CloseStands s (s.switchHome h) := by
  have moved : ∀ (u : State) m o, CloseStands u { u with migrations := m, oldFrames := o } := fun _ _ _ =>
    .of_eq rfl rfl rfl rfl rfl rfl
  exact ((s.setCart_closeStands _ _).trans (.ite (State.setCart_closeStands _ _ _) (.refl _))).trans (moved _ _ _)

theorem State.dirty_closeStands (a len : Nat) : CloseStands s (s.dirty a len) :=
  .foldl (fun u _ => .ite (.ite (u.switchHome_closeStands _) (u.setMigrations_closeStands _)) (.refl u)) _ s

end Memory

/-! ### Packets that this device sends (R378, R379, R381) -/

section Packets
variable (s : State)

/-- The registers of Laulo ports stand apart from those of the close. -/
theorem lauPortStatus_apart (k : Nat) : ∀ x ∈ closeRegs, Reg.offset x ≠ Reg.offset (.lauPortStatus k) := by
  simp only [closeRegs, List.forall_mem_cons, Reg.offset, List.not_mem_nil, false_implies, implies_true, and_true]
  omega

theorem State.hopDrop_closeStands (k : Nat) : CloseStands s (s.hopDrop k) :=
  .ite ((s.setFld_closeStands 1 (lauPortStatus_apart k)).trans (State.count_closeStands _ _ _ _)) (.refl s)

theorem State.originate_closeStands (q : Option Nat) (p : Packet) : CloseStands s (s.originate q p).2 := by
  unfold State.originate
  dsimp only
  split
  · exact .of_eq rfl rfl rfl rfl rfl rfl
  have met := s.fire_closeStands 0x0E (s.egress p.dst) fun _ => true
  have lost : ∀ (u : State) d k inj, CloseStands u ((u.detect 0x0E St.linkLost q d inj).hopDrop k) := fun u _ _ _ =>
    (u.detect_closeStands _ _ _ _ _).trans (State.hopDrop_closeStands _ _)
  split
  · exact met.trans (lost _ _ _ _)
  · split
    · exact met.trans (.of_eq rfl rfl rfl rfl rfl rfl)
    · exact met.trans (lost _ _ _ _)

theorem State.request_closeStands (q : Option Nat) (p : Packet) (owner : ReqOwner) : CloseStands s (s.request q p owner).2 := by
  have sent := s.originate_closeStands q { p with reqId := s.nextReq }
  unfold State.request
  dsimp only
  split
  · exact sent.trans (.of_eq rfl rfl rfl rfl rfl rfl)
  · exact sent

end Packets

/-! ### The governor and the generation at the commit point (R173, R429 to R435) -/

section Generation
variable (s : State)

theorem State.govCommit_closeStands : CloseStands s s.govCommit :=
  .foldl (fun u _ => (u.setRaw_closeStands _ _).trans (State.clearRaw_closeStands _ _ _)) _ s

theorem State.setGen_closeStands (g : Nat) (x : SnapGen) : CloseStands s (s.setGen g x) := .of_eq rfl rfl rfl rfl rfl rfl

theorem State.setArms_closeStands (a b : Option SnapArm) (d : Option (Nat × W32)) :
    CloseStands s { s with snapArm := a, snapNext := b, snapDisarm := d } := .of_eq rfl rfl rfl rfl rfl rfl

theorem State.snapRefresh_closeStands : CloseStands s s.snapRefresh := by
  have set : ∀ (u : State) (f : RegField) (v : Nat), f.reg = .hbmSnapStatus → CloseStands u (u.setFld f v) := fun u f v hf =>
    u.setFld_closeStands v (by rw [hf]; decide)
  exact ((((set _ _ _ rfl).trans (set _ _ _ rfl)).trans (set _ _ _ rfl)).trans (set _ _ _ rfl)).trans (set _ _ _ rfl)

theorem State.genEnded_closeStands : CloseStands s s.genEnded := by
  unfold State.genEnded
  extract_lets s1 s2
  have h1 : CloseStands s s1 := by
    unfold s1
    split
    · exact s.setArms_closeStands _ _ _
    · exact .refl s
  have h2 : CloseStands s1 s2 := by
    unfold s2
    split
    · exact (s1.setArms_closeStands _ _ _).trans (State.endOk_closeStands _ _ _)
    · exact .refl s1
  exact ((h1.trans h2).trans (s2.setFld_closeStands 0)).trans (State.snapRefresh_closeStands _)

theorem State.snapFail_closeStands : CloseStands s s.snapFail := by
  unfold State.snapFail
  split
  · exact .refl s
  · exact (((s.setGen_closeStands _ _).trans (State.setArms_closeStands _ _ _ _)).trans
      (State.setFld_closeStands (g := HbmSnapStatus.fillFail) _ 1)).trans (State.genEnded_closeStands _)

theorem State.putLocal_closeStands (a : SnapArm) (t : SnapTarget) (adr : Nat) (bs : Bytes) :
    CloseStands s (s.putLocal a t adr bs) := by
  unfold State.putLocal
  refine .ite s.snapFail_closeStands ?_
  extract_lets s1 m
  have met : CloseStands s m.2 :=
    CloseStands.trans (.ite (s.lowerRange_closeStands _ _) (.refl s)) (s1.copyAccess_closeStands _ _)
  exact .ite ((met.trans (State.performRange_closeStands _ _)).trans (State.dirty_closeStands _ _ _))
    (met.trans (State.snapFail_closeStands _))

theorem State.snapPut_closeStands (g off : Nat) (bs : Bytes) : CloseStands s (s.snapPut g off bs) := by
  unfold State.snapPut
  split
  · exact .refl s
  · refine .ite (.refl s) (.ite (s.putLocal_closeStands _ _ _ _) (.foldl (fun u i => .ite (.refl u) ?_) _ s))
    dsimp only
    split
    · exact (u.request_closeStands _ _ _).trans (State.setGen_closeStands _ _ _)
    · exact (u.request_closeStands _ _ _).trans (State.snapFail_closeStands _)

theorem State.sweepPage_closeStands (g page off len : Nat) : CloseStands s (s.sweepPage g page off len) := by
  unfold State.sweepPage
  refine .ite (.refl s) ?_
  have met := s.copyAccess_closeStands (slotPlace page (s.committedSlot page) 0) len
  dsimp only
  split
  · exact met.trans (State.snapPut_closeStands _ _ _ _)
  · exact met.trans (State.snapFail_closeStands _)

/-- R434: what the commit point does to the open generation. -/
theorem State.snapCommit_closeStands (n : W32) : CloseStands s (s.snapCommit n) := by
  unfold State.snapCommit
  split
  · refine .ite s.snapFail_closeStands (.ite (.refl s) ?_)
    extract_lets used _ s0 s1 s2 x pages todo s3
    have headed : CloseStands s s2 :=
      ((s.setGen_closeStands _ _).trans (s0.snapPut_closeStands _ _ _)).trans (s1.snapPut_closeStands _ _ _)
    have swept : CloseStands s2 s3 := .foldl (fun u _ => u.sweepPage_closeStands _ _ _ _) todo s2
    exact .ite (((headed.trans swept).trans (s3.setGen_closeStands _ _)).trans (State.setFld_closeStands _ 1)) (headed.trans swept)
  · exact .refl s

end Generation

end Sys2Proof.Machine
end

section
/-!
The commit point of a step (R245, R320, R339, R406), and O44.
-/
namespace Sys2Proof.Machine

/-! ### Writes of several fields -/

/-- Writes of register fields, one after another. -/
def State.setFlds (s : State) (ws : List (RegField × Nat)) : State := ws.foldl (fun u w => u.setFld w.1 w.2) s

/-- The writes change the registers alone. -/
theorem State.setFlds_eq (s : State) (ws : List (RegField × Nat)) : s.setFlds ws = { s with regs := (s.setFlds ws).regs } :=
  List.foldlRecOn (motive := fun u : State => u = { s with regs := u.regs }) ws _ rfl fun u hu w _ => by
    rw [hu]
    rfl

theorem State.setFlds_grade (s : State) (ws : List (RegField × Nat)) : (s.setFlds ws).grade = s.grade := by rw [State.setFlds_eq]

theorem State.setFlds_append (s : State) (a b : List (RegField × Nat)) : s.setFlds (a ++ b) = (s.setFlds a).setFlds b :=
  List.foldl_append

/-- Writes of fields read no state but the registers. -/
theorem State.setFlds_regs_congr {s t : State} (hg : t.grade = s.grade) (hr : t.regs = s.regs) (ws : List (RegField × Nat)) :
    (t.setFlds ws).regs = (s.setFlds ws).regs := by
  induction ws generalizing s t with
  | nil => exact hr
  | cons w ws ih =>
    have hset : (t.setFld w.1 w.2).regs = (s.setFld w.1 w.2).regs := by
      simp only [State.setFld, State.setReg, State.reg, hg, hr]
    exact ih hg hset

/-- A field that none of the writes meets. -/
theorem State.setFlds_keepsFld {f : RegField} {ws : List (RegField × Nat)} (h : ∀ w ∈ ws, f.apart w.1) (s : State) :
    KeepsFld f s (s.setFlds ws) :=
  List.foldlRecOn ws _ (KeepsFld.refl f s) fun u hu w hw => hu.trans (State.setFld_keepsFld (h w hw) u w.2)

/-- Of writes to fields that share no bit each is what its field then reads. -/
theorem State.fld_setFlds {ws : List (RegField × Nat)} (hp : ws.Pairwise fun a b => a.1.apart b.1) {f : RegField} {v : Nat}
    (hw : (f, v) ∈ ws) (h1 : f.lo ≤ f.hi) (h2 : f.hi < 64) {s : State} (hs : Sparse.sorted s.regs = true) :
    (s.setFlds ws).fld f = v % 2 ^ (f.hi + 1 - f.lo) := by
  induction ws generalizing s with
  | nil => cases hw
  | cons w ws ih =>
    obtain ⟨hfirst, hrest⟩ := List.pairwise_cons.mp hp
    have hset := State.sorted_setFld hs w.1 w.2
    rcases List.mem_cons.mp hw with rfl | hw
    · exact (State.setFlds_keepsFld hfirst _ hset).2.trans (State.fld_setFld hs h1 h2 v)
    · exact ih hrest hw hset

/-! ### What comes before the close (R395, R406) -/

theorem State.logStep_frame (s : State) (k : Kept) (o : Nat) :
    (s.logStep k o).recNext = s.recNext ∧ (s.logStep k o).queues = s.queues := by
  unfold State.logStep
  dsimp only
  split <;> simp

theorem State.keptCommit_frame (s : State) (n : W32) :
    (s.keptCommit n).recNext = s.recNext ∧ (s.keptCommit n).queues = s.queues :=
  List.foldlRecOn (motive := fun u : State => u.recNext = s.recNext ∧ u.queues = s.queues) _ _ ⟨rfl, rfl⟩
    fun u hu k _ => ⟨(u.logStep_frame k 4).1.trans hu.1, (u.logStep_frame k 4).2.trans hu.2⟩

/-- R395, R406: the state once the record of a committed step stands in the ring. -/
def State.recorded (s : State) : State := (s.keptCommit s.stepNum).writeRecord 0

theorem State.writeRecord_frame (s : State) (o : Nat) :
    (s.writeRecord o).recNext = (s.recNext % 1024 + 1) % 1024 ∧ (s.writeRecord o).queues = s.queues := by
  simp [State.writeRecord]

/-- R406: LAST_REC names the record, of 1,024. -/
theorem State.writeRecord_lastRec {s : State} (hs : Sparse.sorted s.regs = true) (o : Nat) :
    (s.writeRecord o).fld GlbRecovStatus.lastRec = s.recNext % 1024 := by
  have hraw : ∀ p bs, Sparse.sorted ({ s.setRaw p bs with recNext := (s.recNext % 1024 + 1) % 1024 } : State).regs = true :=
    fun p bs => (s.setRaw_regs p bs).symm ▸ hs
  exact (State.fld_setFld (hraw _ _) (f := GlbRecovStatus.lastRec) (by decide) (by decide) _).trans (Nat.mod_mod _ _)

theorem State.recorded_frame (s : State) :
    s.recorded.recNext = (s.recNext % 1024 + 1) % 1024 ∧ s.recorded.queues = s.queues := by
  obtain ⟨hn, hq⟩ := s.keptCommit_frame s.stepNum
  obtain ⟨hn', hq'⟩ := (s.keptCommit s.stepNum).writeRecord_frame 0
  exact ⟨by rw [State.recorded, hn', hn], hq'.trans hq⟩

theorem State.recorded_sorted {s : State} (hs : s.Inv) : Sparse.sorted s.recorded.regs = true :=
  ((State.writeRecord_steady (State.keptCommit_steady .rfl)).regs hs.regs).1

theorem State.recorded_lastRec {s : State} (hs : s.Inv) : s.recorded.fld GlbRecovStatus.lastRec = s.recNext % 1024 := by
  have hk : Sparse.sorted (s.keptCommit s.stepNum).regs = true := ((State.keptCommit_steady .rfl).regs hs.regs).1
  rw [State.recorded, State.writeRecord_lastRec hk, (s.keptCommit_frame s.stepNum).1]

/-! ### The close (R94, R100, R245, R339) -/

/-- R94: the slots that the step has activated are unlocked. -/
def State.unlocked (s : State) : State := s.activated.foldl (fun u k => u.setFld (FabCoachSlot.locked k) 0) s

theorem State.unlocked_frame (s : State) : s.unlocked.recNext = s.recNext ∧ s.unlocked.queues = s.queues :=
  List.foldlRecOn (motive := fun u : State => u.recNext = s.recNext ∧ u.queues = s.queues) s.activated _ ⟨rfl, rfl⟩
    fun _ hu _ _ => hu

/-- The registers of coach slots stand apart from GLB.RECOV_STATUS. -/
theorem State.unlocked_keepsLastRec (s : State) : KeepsFld GlbRecovStatus.lastRec s s.unlocked :=
  .foldl (fun u k => State.setFld_keepsFld (f := GlbRecovStatus.lastRec) (g := FabCoachSlot.locked k)
    (.inl (show 0x108 ≠ 0x100100 + 0x8 * k by omega)) u 0) _ s

/-- What every close of a step writes. -/
def closeWrites : List (RegField × Nat) :=
  [(FabCoachStatus.doomed, 0), (QdirStepStatus.inProgress, 0), (QdirStepStatus.closing, 0), (HbmUpdStatus.walk, 1)]

/-- What follows them at the commit of step `n`. -/
def commitWrites (n : W32) : List (RegField × Nat) :=
  [(QdirStepStatus.noCommit, 0), (QdirStepStatus.committed, n.toNat), (QdirStepStatus.committedValid, 1)]

/-- The fields of both, in order. -/
def commitFields : List RegField :=
  [FabCoachStatus.doomed, QdirStepStatus.inProgress, QdirStepStatus.closing, HbmUpdStatus.walk, QdirStepStatus.noCommit,
    QdirStepStatus.committed, QdirStepStatus.committedValid]

theorem commitFields_eq (n : W32) : (closeWrites ++ commitWrites n).map Prod.fst = commitFields := rfl

theorem commitWrites_apart (n : W32) : (closeWrites ++ commitWrites n).Pairwise fun a b => a.1.apart b.1 := by
  have h : commitFields.Pairwise RegField.apart := by
    unfold RegField.apart
    decide
  exact List.pairwise_map.mp ((commitFields_eq n).symm ▸ h)

theorem lastRec_apart (n : W32) : ∀ w ∈ closeWrites ++ commitWrites n, GlbRecovStatus.lastRec.apart w.1 := by
  have h : ∀ g ∈ commitFields, GlbRecovStatus.lastRec.apart g := by
    unfold RegField.apart
    decide
  intro w hw
  exact h w.1 ((commitFields_eq n) ▸ List.mem_map_of_mem hw)

/-- R405: without a mark NO_COMMIT reads 0. -/
theorem State.refreshNoCommit_unmarked {s : State} (h : s.step.marks = []) :
    s.refreshNoCommit = s.setFld QdirStepStatus.noCommit 0 := by
  rw [State.refreshNoCommit, h, List.isEmpty_nil, Bool.not_true, Bool.and_false]
  rfl

/-- R94, R100, R321: a close writes its fields and NO_COMMIT, and no other register. -/
theorem State.closeStepOf_eq (s : State) (w : Walk) : ∃ ver step, step.closer = none ∧ s.closeStepOf w =
    ({ s.unlocked.setFlds closeWrites with activated := [], walk := w, ver, step } : State).setFld QdirStepStatus.noCommit 0 :=
  ⟨_, _, rfl, State.refreshNoCommit_unmarked rfl⟩

/-- R245, R320: the close of step `n` by its commit. -/
def State.closeCommitted (s : State) (n : W32) : State :=
  ((s.closeStepOf .commit).setFld QdirStepStatus.committed n.toNat).setFld QdirStepStatus.committedValid 1

section Closed
variable (s : State) (n : W32)

theorem State.closeCommitted_eq : ∃ ver step, step.closer = none ∧ s.closeCommitted n =
    ({ s.unlocked.setFlds closeWrites with activated := [], walk := .commit, ver, step } : State).setFlds (commitWrites n) := by
  obtain ⟨ver, step, hc, he⟩ := s.closeStepOf_eq .commit
  refine ⟨ver, step, hc, ?_⟩
  rw [State.closeCommitted, he]
  rfl

theorem State.closeCommitted_frame : (s.closeCommitted n).walk = .commit ∧ (s.closeCommitted n).step.closer = none ∧
    (s.closeCommitted n).recNext = s.recNext ∧ (s.closeCommitted n).queues = s.queues := by
  obtain ⟨ver, step, hc, he⟩ := s.closeCommitted_eq n
  obtain ⟨hn, hq⟩ := s.unlocked_frame
  rw [he, State.setFlds_eq, State.setFlds_eq s.unlocked]
  exact ⟨rfl, hc, hn, hq⟩

/-- R94, R100, R245, R339: the registers that the close writes. -/
theorem State.closeCommitted_keepsFld (f : RegField) :
    KeepsFld f (s.unlocked.setFlds (closeWrites ++ commitWrites n)) (s.closeCommitted n) := by
  obtain ⟨ver, step, -, he⟩ := s.closeCommitted_eq n
  rw [he, State.setFlds_append]
  generalize s.unlocked.setFlds closeWrites = u
  exact .of_regs ((State.setFlds_grade _ _).trans (State.setFlds_grade u _).symm) (State.setFlds_regs_congr (by rfl) (by rfl) _)

theorem State.closeCommitted_keepsLastRec : KeepsFld GlbRecovStatus.lastRec s (s.closeCommitted n) :=
  (s.unlocked_keepsLastRec.trans (State.setFlds_keepsFld (lastRec_apart n) _)).trans (s.closeCommitted_keepsFld n _)

theorem State.closeCommitted_fld {s : State} (hs : Sparse.sorted s.regs = true) {f : RegField} {v : Nat}
    (hw : (f, v) ∈ closeWrites ++ commitWrites n) (h1 : f.lo ≤ f.hi) (h2 : f.hi < 64) :
    (s.closeCommitted n).fld f = v % 2 ^ (f.hi + 1 - f.lo) := by
  have hu := (s.unlocked_keepsLastRec hs).1
  have hset := (State.setFlds_keepsFld (lastRec_apart n) _ hu).1
  exact (s.closeCommitted_keepsFld n f hset).2.trans (State.fld_setFlds (commitWrites_apart n) hw h1 h2 hu)

end Closed

/-! ### The commit point -/

/-- The state at the commit point of the step, before the governor and the generation follow (R173, R434). -/
def State.closed (s : State) : State := s.recorded.closeCommitted s.stepNum

theorem State.closed_frame (s : State) : s.closed.walk = .commit ∧ s.closed.step.closer = none ∧
    s.closed.recNext = (s.recNext % 1024 + 1) % 1024 ∧ s.closed.queues = s.queues := by
  obtain ⟨hw, hc, hn, hq⟩ := s.recorded.closeCommitted_frame s.stepNum
  obtain ⟨hn', hq'⟩ := s.recorded_frame
  exact ⟨hw, hc, hn.trans hn', hq.trans hq'⟩

theorem State.closed_queues_sorted {s : State} (hs : s.Inv) : Sparse.sorted s.closed.queues = true := by
  obtain ⟨-, -, -, hq⟩ := s.closed_frame
  rw [hq]
  exact hs.queues

section Registers
variable {s t : State} (hs : s.Inv)
include hs

theorem State.closed_sorted : Sparse.sorted s.closed.regs = true :=
  (s.recorded.closeCommitted_keepsLastRec _ (State.recorded_sorted hs)).1

theorem State.closed_lastRec : s.closed.fld GlbRecovStatus.lastRec = s.recNext % 1024 :=
  (s.recorded.closeCommitted_keepsLastRec _ (State.recorded_sorted hs)).2.trans (State.recorded_lastRec hs)

variable (h : CloseStands s.closed t)
include h

theorem CloseStands.lastRec : t.fld GlbRecovStatus.lastRec = s.recNext % 1024 :=
  (h.fields _ (by decide) (State.closed_sorted hs)).2.trans (State.closed_lastRec hs)

/-- What the close has written still reads so. -/
theorem CloseStands.fld_written {f : RegField} {v : Nat} (hf : f.reg ∈ closeRegs)
    (hw : (f, v) ∈ closeWrites ++ commitWrites s.stepNum) (h1 : f.lo ≤ f.hi) (h2 : f.hi < 64) :
    t.fld f = v % 2 ^ (f.hi + 1 - f.lo) :=
  (h.fields f hf (State.closed_sorted hs)).2.trans (State.closeCommitted_fld _ (State.recorded_sorted hs) hw h1 h2)

theorem CloseStands.flag_written {f : RegField} {v : Nat} (hf : f.reg ∈ closeRegs)
    (hw : (f, v) ∈ closeWrites ++ commitWrites s.stepNum) (h1 : f.lo = f.hi) (h2 : f.hi < 64) : t.flag f = decide (v % 2 = 1) := by
  have hfld := h.fld_written hs hf hw h1.le h2
  rw [h1, Nat.add_sub_cancel_left, pow_one] at hfld
  exact State.flag_of_fld hfld

theorem CloseStands.committed : t.committed = s.stepNum := by
  have hfld : t.fld QdirStepStatus.committed = s.stepNum.toNat % 2 ^ 32 :=
    h.fld_written hs (f := QdirStepStatus.committed) (by decide) (by simp [closeWrites, commitWrites]) (by decide) (by decide)
  rw [State.committed, hfld, Nat.mod_eq_of_lt s.stepNum.isLt, BitVec.ofNat_toNat, BitVec.setWidth_eq]

end Registers

/-- After the close come the governor, the generation and the end of the STEP_COMMIT. -/
theorem State.commitStep_eq (s : State) (q : Nat) (idx : W32) :
    ∃ u, CloseStands s.closed u ∧ s.commitStep q idx = u.endOk q idx := by
  have tries : ∀ u : State, CloseStands u { u with attempts := [] } := fun _ => .of_eq rfl rfl rfl rfl rfl rfl
  unfold State.commitStep
  extract_lets n s1 s2
  have governed : CloseStands s.closed s2 := s.closed.govCommit_closeStands
  exact ⟨_, (governed.trans (tries s2)).trans (State.snapCommit_closeStands _ n), rfl⟩

/-- A command that a lookup finds is one of its queue. -/
theorem State.HasCmd.of_cmd? {s : State} {q : Nat} {c : Cmd} (h : s.cmd? q c.idx = some c) : s.HasCmd q c.idx :=
  ⟨c, List.mem_of_find?_eq_some h, rfl⟩

/-- The evaluation of FLAG_WAITs after it leaves the STEP_COMMIT ended with OK. -/
theorem State.commitStep_ends {s : State} (hs : s.Inv) (q : Nat) (idx : W32) :
    CloseStands s.closed (s.commitStep q idx).evalFlags ∧ (s.commitStep q idx).evalFlags.EndedOk q idx := by
  obtain ⟨u, hu, hcommit⟩ := s.commitStep_eq q idx
  have husorted : Sparse.sorted u.queues = true := (hu.commands (State.closed_queues_sorted hs)).1
  have hend := u.endOk_closeStands q idx
  have hwaits := (u.endOk q idx).evalFlags_closeStands
  rw [hcommit]
  generalize hv : u.endOk q idx = v at hend hwaits
  have hvended : v.EndedOk q idx := hv ▸ u.endOk_endedOk q idx husorted
  have hvsorted : Sparse.sorted v.queues = true := (hend.commands husorted).1
  obtain ⟨-, hkeep⟩ := hwaits.commands hvsorted
  exact ⟨(hu.trans hend).trans hwaits, (hkeep q idx).2 hvended⟩

/-- R245 step 3: with every command bound before it complete, without a mark and without a sweep to wait for, the STEP_COMMIT that
decides the step commits it. -/
theorem State.doCommitPoint_commits {s : State} {q : Nat} {c : Cmd} (hcl : s.step.closer = some (q, c.idx))
    (hc : s.cmd? q c.idx = some c) (hop : opcodeOf c.entry = 0x23) (hb : s.boundBefore c.serial = false) (hm : s.step.marks = [])
    (hsw : s.sweepHolds = false) : s.doCommitPoint = (s.commitStep q c.idx).evalFlags := by
  have hplace : s.placeOf q c.idx = c.serial := by
    rw [State.placeOf, hc]
    rfl
  simp only [State.doCommitPoint, hcl, hplace, hc, Option.map_some, hop, hb, hm, hsw, decide_true, Bool.not_true, Bool.or_false,
    List.isEmpty_nil, Bool.false_eq_true, if_false]

/-- Settles O44: the close sets what the statement names; the governor, the generation and the FLAG_WAITs leave that alone, and the
STEP_COMMIT ends with OK. -/
theorem commitPointCommitsTheStep : Obligations.CommitPointCommitsTheStep := by
  intro s q c hs hcl hc hop hb hm hsw
  obtain ⟨hwalk, hcloser, hrec, hqueues⟩ := s.closed_frame
  obtain ⟨after, hended⟩ := State.commitStep_ends hs q c.idx
  have hrow : exec .commitPoint s = .next (s.commitStep q c.idx).evalFlags :=
    congrArg Host.Outcome.next (State.doCommitPoint_commits hcl hc hop hb hm hsw)
  generalize (s.commitStep q c.idx).evalFlags = t at after hended hrow
  have hthere : t.HasCmd q c.idx :=
    (((CommandsStay.of_queues hqueues).trans after.commands hs.queues).2 q c.idx).1 (.of_cmd? hc)
  obtain ⟨c', hfound, hphase, hstatus⟩ := hended.cmd? hthere
  have written {f : RegField} {v : Nat} := after.flag_written hs (f := f) (v := v)
  refine ⟨t, c', hrow, after.committed hs, ?valid, ?inStep, ?closing, after.walk.trans hwalk, ?walk, after.lastRec hs,
    after.recNext.trans hrec, after.closer.trans hcloser, hfound, hphase, hstatus⟩
  case valid => exact written (f := QdirStepStatus.committedValid) (v := 1) (by decide) (by simp [commitWrites]) rfl (by decide)
  case inStep => exact written (f := QdirStepStatus.inProgress) (v := 0) (by decide) (by simp [closeWrites]) rfl (by decide)
  case closing => exact written (f := QdirStepStatus.closing) (v := 0) (by decide) (by simp [closeWrites]) rfl (by decide)
  case walk => exact written (f := HbmUpdStatus.walk) (v := 1) (by decide) (by simp [closeWrites]) rfl (by decide)

end Sys2Proof.Machine
end

section
/-!
The commands of the data-movement engines and of carts (R259, R260, R267, R268, R281, R282, R324, R325) run once accepted; O21 and
O22.
-/
namespace Sys2Proof.Machine

/-- Settles O21: each row waits for nothing beside its queue's turn and runs its body, which is the effect stated. -/
theorem dataCommandsComplete : Obligations.DataCommandsComplete := by
  intro s t q c f
  refine ⟨fun h => ?copy, fun h => ?copyTranspose, fun h => ?permuteCopy, fun h => ?gather, fun h => ?scatterAdd,
    fun h => ?inlineWrite, fun h => ?migrateHint⟩
  case copy | copyTranspose | permuteCopy | gather | scatterAdd | inlineWrite | migrateHint =>
    exact (RunsRow.accepted_body (.of_queueOk rfl rfl fun _ _ _ => rfl) (fun _ => rfl) h :)

/-- Settles O22: each row waits for nothing beside its queue's turn and runs its body, which is the effect stated. -/
theorem cartCommandsComplete : Obligations.CartCommandsComplete := by
  intro s t q c f
  refine ⟨fun h => ?map, fun h => ?free, fun h => ?pin, fun h => ?unpin⟩
  case map | free | pin | unpin =>
    exact (RunsRow.accepted_body (.of_queueOk rfl rfl fun _ _ _ => rfl) (fun _ => rfl) h :)

end Sys2Proof.Machine
end

section
/-!
Shared operations of start-up and of the losses of the inputs (R256, R472 to R478, R496, R502): what each writes, and what it
leaves.
-/
namespace Sys2Proof.Machine

/-- A field that is its whole register. -/
theorem State.fld_whole (s : State) (r : Reg) : s.fld ⟨r, 63, 0⟩ = s.reg r := by
  simp only [State.fld, bitsOf]
  exact Nat.mod_eq_of_lt (s.reg_lt r)

/-- A map cut down by its keys reads a key that stays as before. -/
theorem Sparse.get_filter {β : Type} {d : β} {p : Nat → Bool} {k : Nat} (hk : p k = true) (m : List (Nat × β)) :
    Sparse.get d (m.filter fun e => p e.1) k = Sparse.get d m k := by
  induction m with
  | nil => rfl
  | cons e m ih =>
    obtain ⟨j, v⟩ := e
    by_cases hp : p j = true
    · rw [List.filter_cons_of_pos (by exact hp), Sparse.get, Sparse.get, ih]
    · have hj : k ≠ j := fun h => hp (h ▸ hk)
      rw [List.filter_cons_of_neg (by exact hp), ih, Sparse.get, if_neg hj]

/-! ### The state of the module (R473) -/

/-- A write of a field changes the registers alone. -/
theorem State.setFld_eq (s : State) (f : RegField) (v : Nat) : s.setFld f v = { s with regs := (s.setFld f v).regs } := rfl

/-- R547: an in-band interrupt stands in the I3C state and goes out. -/
theorem State.raiseIbi_eq (s : State) (code : Nat) : ∃ i3c wire, s.raiseIbi code = { s with i3c, wire } := by
  unfold State.raiseIbi
  split <;> exact ⟨_, _, rfl⟩

section Pwr
variable (s : State) (v : Nat)

/-- R473, R547: beside PWR.STATUS.STATE only the in-band interrupt that tells of the change. -/
theorem State.setPwr_eq : ∃ i3c wire, s.setPwr v = { s with regs := (s.setFld PwrStatus.state v).regs, i3c, wire } := by
  obtain ⟨i3c, wire, he⟩ := (s.setFld PwrStatus.state v).raiseIbi_eq 2
  unfold State.setPwr
  dsimp only
  rw [he, State.setFld_eq]
  split <;> exact ⟨_, _, rfl⟩

/-- The registers after the module has entered a state. -/
theorem State.setPwr_regs : (s.setPwr v).regs = (s.setFld PwrStatus.state v).regs := by
  obtain ⟨i3c, wire, he⟩ := s.setPwr_eq v
  rw [he]

theorem State.setPwr_grade : (s.setPwr v).grade = s.grade := by
  obtain ⟨i3c, wire, he⟩ := s.setPwr_eq v
  rw [he]

theorem State.setPwr_of_setFld (f : RegField) : KeepsFld f (s.setFld PwrStatus.state v) (s.setPwr v) :=
  .of_regs ((s.setPwr_grade v).trans (s.setFld_grade _ v).symm) (s.setPwr_regs v)

theorem State.setPwr_keepsFld {f : RegField} (h : f.apart PwrStatus.state) : KeepsFld f s (s.setPwr v) :=
  (State.setFld_keepsFld h s v).trans (s.setPwr_of_setFld v f)

theorem State.pwr_setPwr {s : State} {v : Nat} (hs : Sparse.sorted s.regs = true) (hv : v < 16) : (s.setPwr v).pwr = v :=
  calc (s.setPwr v).pwr = (s.setFld PwrStatus.state v).pwr := (s.setPwr_of_setFld v _ (State.sorted_setFld hs _ v)).2
    _ = v % 16 := State.fld_setFld hs (f := PwrStatus.state) (by decide) (by decide) v
    _ = v := Nat.mod_eq_of_lt hv

end Pwr

/-- A flag that is kept. -/
theorem KeepsFld.flag {f : RegField} {s t : State} (h : KeepsFld f s t) (hs : Sparse.sorted s.regs = true) : t.flag f = s.flag f := by
  rw [State.flag, State.flag, (h hs).2]

/-! ### The start of the rails (R472, R474 step 6, R488) -/

/-- R488: HOLD_OFF keeps down a module that one of the causes 0x05 to 0x08 has reset. -/
def State.holdsOff (s : State) : Bool :=
  s.flag PwrCtrl.holdOff && decide (5 ≤ s.fld PwrResetCause.cause) && decide (s.fld PwrResetCause.cause ≤ 8)

/-- A module without the main input does not start. -/
theorem State.tryStart_noMain {s : State} (h : s.mainOk = false) : s.tryStart = s.setFld PwrStatus.held 0 := by
  simp only [State.tryStart, h, Bool.and_false, Bool.false_and, Bool.false_eq_true, if_false]
  rfl

section Standby
variable {s : State} (haux : s.auxOk = true) (hmain : s.mainOk = true) (hclk : s.refclk = true) (hpwr : s.pwr = 1)
include haux hmain hclk hpwr

theorem State.tryStart_starts (h : s.holdsOff = false) :
    s.tryStart = ({ s.setFld PwrStatus.held 0 with railMv := 750, perstLow := false } : State).setPwr 2 := by
  unfold State.holdsOff at h
  simp only [State.tryStart, haux, hmain, hclk, hpwr, h, decide_true, Bool.and_self, Bool.and_false, Bool.not_false, if_true]
  rfl

theorem State.tryStart_held (h : s.holdsOff = true) : s.tryStart = s.setFld PwrStatus.held 1 := by
  unfold State.holdsOff at h
  simp only [State.tryStart, haux, hmain, hclk, hpwr, h, decide_true, Bool.and_self, Bool.not_true, Bool.and_false,
    Bool.false_eq_true, if_false]
  rfl

end Standby

/-! ### What a removal of the rails leaves (R476, R478) -/

section RailsOff
variable (s : State) (keep : Nat → Bool)

/-- R478: a register that stays, if it is no row of FAB.SPARE, of which only the flash records stay. -/
theorem State.lostRegs_keepsFld {f : RegField} (hk : keep (Reg.offset f.reg) = true)
    (hf : ∀ n, Reg.offset f.reg ≠ Reg.offset (.fabSpare n)) : KeepsFld f s (s.lostRegs keep) := by
  have cut : KeepsFld f s { s with regs := s.regs.filter fun e => keep e.1 } := fun hs => by
    refine ⟨Sparse.sorted_filter _ hs, ?_⟩
    simp only [State.fld, State.reg, Sparse.get_filter hk]
  exact cut.trans (.foldl (fun u n => u.setReg_keepsFld (hf n) _) _ _)

theorem State.lostRegs_eq : s.lostRegs keep = { s with regs := (s.lostRegs keep).regs } := by
  unfold State.lostRegs
  exact List.foldlRecOn (motive := fun u : State => u = { s with regs := u.regs }) _ _ rfl fun u hu n _ => by
    rw [hu]
    rfl

@[simp] theorem State.railsOff_fuses : (s.railsOff keep).fuses = s.fuses := (congrArg State.fuses (s.lostRegs_eq keep) :)
@[simp] theorem State.railsOff_flash : (s.railsOff keep).flash = s.flash := (congrArg State.flash (s.lostRegs_eq keep) :)

theorem State.railsOff_keepsFld {f : RegField} (hk : keep (Reg.offset f.reg) = true)
    (hf : ∀ n, Reg.offset f.reg ≠ Reg.offset (.fabSpare n)) : KeepsFld f s (s.railsOff keep) :=
  (s.lostRegs_keepsFld keep hk hf).trans (.of_regs rfl rfl)

end RailsOff

theorem State.setFlds_sorted {s : State} (hs : Sparse.sorted s.regs = true) (ws : List (RegField × Nat)) :
    Sparse.sorted (s.setFlds ws).regs = true :=
  List.foldlRecOn (motive := fun u : State => Sparse.sorted u.regs = true) ws _ hs fun _ hu w _ => State.sorted_setFld hu w.1 w.2

/-- Of several writes a field of another register meets none. -/
theorem State.setFlds_keepsFld_reg {f : RegField} {ws : List (RegField × Nat)}
    (h : ∀ w ∈ ws, Reg.offset f.reg ≠ Reg.offset w.1.reg) (s : State) : KeepsFld f s (s.setFlds ws) :=
  State.setFlds_keepsFld (fun w hw => .inl (h w hw)) s

/-! ### A module reset (R476, R478) -/

/-- R476, R490: what a module reset writes beside STATE. -/
def State.lossWrites (s : State) (cause die : Nat) : List (RegField × Nat) :=
  [(PwrResetCause.count, satAdd 16 (s.fld PwrResetCause.count) 1), (PwrResetCause.kind, 2), (PwrResetCause.cause, cause),
    (PwrResetCause.die, die), (PwrStatus.held, 0)]

/-- The fields of these writes. -/
def lossFields : List RegField :=
  [PwrResetCause.count, PwrResetCause.kind, PwrResetCause.cause, PwrResetCause.die, PwrStatus.held]

theorem State.lossWrites_fields (s : State) (cause die : Nat) : (s.lossWrites cause die).map Prod.fst = lossFields := rfl

theorem State.lossWrites_apart (s : State) (cause die : Nat) :
    (s.lossWrites cause die).Pairwise fun a b => a.1.apart b.1 := by
  have h : lossFields.Pairwise RegField.apart := by
    unfold RegField.apart
    decide
  exact List.pairwise_map.mp (s.lossWrites_fields cause die ▸ h)

/-- The state of a module reset once its rails are off. -/
def State.railsLost (s : State) : State := s.endUnlock.railsOff keptByModule

/-- The registers that a module reset writes. -/
def lossRegs : List Reg := [.secStatus, .injStatus, .pwrResetCause, .pwrStatus]

section Loss
variable (s : State) (cause die state : Nat)

theorem State.moduleLoss_eq :
    s.moduleLoss cause die state = (s.railsLost.setFlds (s.railsLost.lossWrites cause die)).setPwr state := rfl

theorem State.setInjections_keepsFld {f : RegField} (l : List Injection) (n d : Nat) :
    KeepsFld f s { s with injections := l, nonceDraw := n, draws := d } := .of_regs rfl rfl

@[simp] theorem State.endUnlock_fuses : s.endUnlock.fuses = s.fuses := by simp [State.endUnlock]
@[simp] theorem State.endUnlock_flash : s.endUnlock.flash = s.flash := by simp [State.endUnlock]

/-- R476, R478: once the rails are off a module reset touches only the registers, the interrupts and the wire. -/
theorem State.moduleLoss_written : ∃ regs i3c wire, s.moduleLoss cause die state = { s.railsLost with regs, i3c, wire } := by
  obtain ⟨i3c, wire, he⟩ := (s.railsLost.setFlds (s.railsLost.lossWrites cause die)).setPwr_eq state
  rw [State.moduleLoss_eq, he, State.setFlds_eq]
  exact ⟨_, _, _, rfl⟩

/-- R505: an unlock ends by writing SEC.STATUS and INJ.STATUS. -/
theorem State.endUnlock_keepsFld {f : RegField} (hsec : Reg.offset f.reg ≠ Reg.offset .secStatus)
    (hinj : Reg.offset f.reg ≠ Reg.offset .injStatus) : KeepsFld f s s.endUnlock := by
  have set : ∀ (u : State) (g : RegField), g.reg = .secStatus ∨ g.reg = .injStatus → KeepsFld f u (u.setFld g 0) := fun u g hg =>
    State.setFld_keepsFld (.inl (hg.elim (fun h => h ▸ hsec) fun h => h ▸ hinj)) u 0
  have cleared := ((set s SecStatus.scope (.inl rfl)).trans (set _ InjStatus.unlocked (.inr rfl))).trans
    (set _ InjStatus.armed (.inr rfl))
  exact cleared.trans (State.setInjections_keepsFld _ _ _ _)

/-- R478, R486, R490: what a module reset leaves of the registers. -/
theorem State.moduleLoss_keepsFld {f : RegField} (hk : keptByModule (Reg.offset f.reg) = true)
    (hspare : ∀ n, Reg.offset f.reg ≠ Reg.offset (.fabSpare n)) (hf : ∀ r ∈ lossRegs, Reg.offset f.reg ≠ Reg.offset r) :
    KeepsFld f s (s.moduleLoss cause die state) := by
  have hcause := hf .pwrResetCause (by decide)
  have hstatus := hf .pwrStatus (by decide)
  have off : KeepsFld f s s.railsLost := (s.endUnlock_keepsFld (hf .secStatus (by decide)) (hf .injStatus (by decide))).trans
    (State.railsOff_keepsFld _ _ hk hspare)
  have written : KeepsFld f s.railsLost (s.railsLost.setFlds (s.railsLost.lossWrites cause die)) :=
    State.setFlds_keepsFld_reg (by simp [State.lossWrites, PwrResetCause.count, PwrResetCause.kind, PwrResetCause.cause,
      PwrResetCause.die, PwrStatus.held, hcause, hstatus]) _
  exact (off.trans written).trans (State.setPwr_keepsFld _ _ (.inl hstatus))

end Loss

section Recorded
variable {s : State} (hs : s.Inv) {cause die state : Nat}
include hs

theorem State.railsLost_sorted : Sparse.sorted s.railsLost.regs = true :=
  ((State.railsOff_steady (State.endUnlock_steady .rfl)).regs hs.regs).1

theorem State.lossWritten_sorted : Sparse.sorted (s.railsLost.setFlds (s.railsLost.lossWrites cause die)).regs = true :=
  State.setFlds_sorted (State.railsLost_sorted hs) _

theorem State.pwr_moduleLoss (hv : state < 16) : (s.moduleLoss cause die state).pwr = state :=
  State.pwr_setPwr (State.lossWritten_sorted hs) hv

/-- R476: what a module reset records reads so. -/
theorem State.fld_moduleLoss {f : RegField} {v : Nat} (hw : (f, v) ∈ s.railsLost.lossWrites cause die) (h1 : f.lo ≤ f.hi)
    (h2 : f.hi < 64) (hf : f.apart PwrStatus.state) : (s.moduleLoss cause die state).fld f = v % 2 ^ (f.hi + 1 - f.lo) :=
  ((State.setPwr_keepsFld _ state hf (State.lossWritten_sorted hs)).2).trans
    (State.fld_setFlds (s.railsLost.lossWrites_apart cause die) hw h1 h2 (State.railsLost_sorted hs))

/-- R381, R478: every session is free after a module reset; its generation stays. -/
theorem State.session_moduleLoss (k : Nat) : ((s.moduleLoss cause die state).session k).state = .free ∧
    ((s.moduleLoss cause die state).session k).gen = (s.session k).gen := by
  obtain ⟨regs, i3c, wire, he⟩ := s.moduleLoss_written cause die state
  have hsess : (s.moduleLoss cause die state).sessions =
      Sparse.update {} (fun _ x => { gen := x.gen, port := x.port }) s.sessions := by
    rw [he]
    rfl
  have hget : (s.moduleLoss cause die state).session k = { gen := (s.session k).gen, port := (s.session k).port } := by
    rw [State.session, hsess]
    exact Sparse.get_update (d := {}) (f := fun _ (x : Session) => { gen := x.gen, port := x.port }) hs.sessions rfl
  rw [hget]
  exact ⟨rfl, rfl⟩

end Recorded

theorem State.railsLost_frame (s : State) : s.railsLost.fuses = s.fuses ∧ s.railsLost.flash = s.flash := by
  simp [State.railsLost]

/-- R478: what a module reset empties, and the fuses and the flash, which stay. -/
theorem State.moduleLoss_frame (s : State) (cause die state : Nat) :
    let t := s.moduleLoss cause die state
    t.mem = [] ∧ t.counters = [] ∧ t.carts = [] ∧ t.queues = [] ∧ t.image = none ∧ t.lports = [] ∧ t.railsUp = false ∧
      t.fuses = s.fuses ∧ t.flash = s.flash := by
  obtain ⟨regs, i3c, wire, he⟩ := s.moduleLoss_written cause die state
  rw [he]
  exact ⟨rfl, rfl, rfl, rfl, rfl, rfl, rfl, s.railsLost_frame.1, s.railsLost_frame.2⟩

/-- A module with firmware starts again after a module reset (R476). -/
theorem State.moduleReset_eq {s : State} (h : s.noFirmware = false) (cause : Nat) :
    s.moduleReset cause = (s.moduleLoss cause 0 (if s.pwr = 6 then 6 else 1)).tryStart :=
  if_neg (by simp [h])

/-- A change of other registers leaves it open whether a bank verified. -/
theorem State.noFirmware_congr {s t : State} (hp : t.pwr = s.pwr) (hc : t.fld PwrResetCause.cause = s.fld PwrResetCause.cause) :
    t.noFirmware = s.noFirmware := by
  unfold State.noFirmware
  rw [hp, hc]

/-! ### The boot (R474 step 3, R496, R502) -/

/-- R502: the flash with the leaf that the boot check gives it. -/
def State.checkedFlash (s : State) : Flash := { s.flash with q := (lmsBoot s.flash.q s.fuses.lmsBlocks).1 }

/-- R502, R503: what the boot writes before it picks a bank. -/
def State.bootWrites (s : State) : List (RegField × Nat) :=
  let l := lmsBoot s.flash.q s.fuses.lmsBlocks
  [(SecStatus.lmsRollback, b2n l.2), (SecStatus.lmsExhausted, b2n (l.1 = 1048576)),
    (SecStatus.ownerAuth, b2n (authOk s.flash.ownerKeys s.fuses.ownerHash)),
    (SecStatus.vendorAuth, b2n (authOk s.flash.vendorKeys s.fuses.vendorHash)), (SecStatus.svnFuse, s.fuses.svn),
    (SecLmsState.blocks, s.fuses.lmsBlocks), (SecLmsState.nextLeaf, l.1)]

/-- R475, R496: what the bank that boots writes, or the fault without one. -/
def State.bankWrites (s : State) : Option (Nat × Bool) → List (RegField × Nat)
  | some (k, other) => [(SecStatus.bank, k), (SecStatus.svnRun, (if k = 0 then s.flash.bank0 else s.flash.bank1).svn),
      (SecStatus.fallback, b2n other)]
  | none => [(PwrResetCause.cause, 0x0A)]

/-- The fields that a boot writes. -/
def bootFields (verified : Bool) : List RegField :=
  [SecStatus.lmsRollback, SecStatus.lmsExhausted, SecStatus.ownerAuth, SecStatus.vendorAuth, SecStatus.svnFuse, SecLmsState.blocks,
    SecLmsState.nextLeaf] ++ if verified then [SecStatus.bank, SecStatus.svnRun, SecStatus.fallback] else [PwrResetCause.cause]

section Boot
variable (s : State)

theorem State.bootWrites_fields (o : Option (Nat × Bool)) :
    (s.bootWrites ++ s.bankWrites o).map Prod.fst = bootFields o.isSome := by
  cases o <;> rfl

theorem State.bootWrites_apart (o : Option (Nat × Bool)) :
    (s.bootWrites ++ s.bankWrites o).Pairwise fun a b => a.1.apart b.1 := by
  have h : ∀ b, (bootFields b).Pairwise RegField.apart := by
    unfold RegField.apart
    decide
  exact List.pairwise_map.mp (s.bootWrites_fields o ▸ h o.isSome)

/-- R474 step 3: the boot sets the leaf in flash, writes its fields and enters STANDBY or FAULT. -/
theorem State.boot_eq : s.boot =
    (({ s with flash := s.checkedFlash } : State).setFlds (s.bootWrites ++ s.bankWrites s.bootBank)).setPwr
      (if s.bootBank.isSome then 1 else 5) := by
  unfold State.boot
  cases s.bootBank <;> rfl

/-- What the boot has written reads so. -/
theorem State.fld_boot {s : State} (hs : Sparse.sorted s.regs = true) {f : RegField} {v : Nat}
    (hw : (f, v) ∈ s.bootWrites ++ s.bankWrites s.bootBank) (h1 : f.lo ≤ f.hi) (h2 : f.hi < 64) (hf : f.apart PwrStatus.state) :
    s.boot.fld f = v % 2 ^ (f.hi + 1 - f.lo) := by
  rw [State.boot_eq, (State.setPwr_keepsFld _ _ hf (State.setFlds_sorted (by exact hs) _)).2]
  exact State.fld_setFlds (s.bootWrites_apart _) hw h1 h2 (by exact hs)

theorem State.pwr_boot {s : State} (hs : Sparse.sorted s.regs = true) : s.boot.pwr = if s.bootBank.isSome then 1 else 5 := by
  rw [State.boot_eq]
  exact State.pwr_setPwr (State.setFlds_sorted (by exact hs) _) (by split <;> decide)

theorem State.boot_sorted {s : State} (hs : Sparse.sorted s.regs = true) : Sparse.sorted s.boot.regs = true := by
  rw [State.boot_eq]
  exact (State.setPwr_keepsFld (f := PwrResetCause.cause) _ _ (.inl (by decide)) (State.setFlds_sorted (by exact hs) _)).1

/-- The boot leaves all but registers, flash, the interrupts and the wire. -/
theorem State.boot_frame : ∃ regs i3c wire, s.boot = { s with regs, i3c, wire, flash := s.checkedFlash } := by
  obtain ⟨i3c, wire, he⟩ := (({ s with flash := s.checkedFlash } : State).setFlds
    (s.bootWrites ++ s.bankWrites s.bootBank)).setPwr_eq (if s.bootBank.isSome then 1 else 5)
  rw [State.boot_eq, he, State.setFlds_eq]
  exact ⟨_, _, _, rfl⟩

end Boot

/-! ### Power-on and the loss of the auxiliary input (R472, R476) -/

/-- R478: without the auxiliary input fuses and flash stay. -/
theorem State.powerOff_frame (s : State) : s.powerOff.fuses = s.fuses ∧ s.powerOff.flash = s.flash := by
  simp [State.powerOff]

/-- R474 step 1: the module as the boot finds it. -/
def State.powered (s : State) (slot : Nat) : State := { s.powerOff with auxOk := true, slotId := slot % 8 }

/-- R496: which bank boots depends on fuses and flash. -/
theorem State.bootBank_congr {s t : State} (hf : t.fuses = s.fuses) (hl : t.flash = s.flash) : t.bootBank = s.bootBank := by
  unfold State.bootBank State.bankOk
  rw [hf, hl]

section PowerOn
variable (s : State) (slot : Nat)

theorem State.powered_frame : (s.powered slot).fuses = s.fuses ∧ (s.powered slot).flash = s.flash := s.powerOff_frame

theorem State.powered_bootBank : (s.powered slot).bootBank = s.bootBank :=
  State.bootBank_congr (s.powered_frame slot).1 (s.powered_frame slot).2

theorem State.powered_checkedFlash : (s.powered slot).checkedFlash = s.checkedFlash := by
  obtain ⟨hf, hl⟩ := s.powered_frame slot
  rw [State.checkedFlash, hf, hl]
  rfl

theorem State.powered_sorted {s : State} (hs : s.Inv) (slot : Nat) : Sparse.sorted (s.powered slot).regs = true :=
  ((State.powerOff_steady .rfl).regs hs.regs).1

variable {s} (haux : s.auxOk = false)
include haux

/-- Without the main input nothing follows the boot but HELD, which is clear. -/
theorem State.doPowerOn_boots : s.doPowerOn slot = (s.powered slot).boot.setFld PwrStatus.held 0 := by
  obtain ⟨regs, i3c, wire, he⟩ := (s.powered slot).boot_frame
  have hboot : s.doPowerOn slot = (s.powered slot).boot.tryStart := if_neg (by simp [haux])
  have hmain : (s.powered slot).boot.mainOk = false := by
    rw [he]
    rfl
  rw [hboot, State.tryStart_noMain hmain]

theorem State.doPowerOn_frame : ∃ regs i3c wire, s.doPowerOn slot =
    { s.powered slot with regs, i3c, wire, flash := s.checkedFlash } := by
  obtain ⟨regs, i3c, wire, he⟩ := (s.powered slot).boot_frame
  rw [State.doPowerOn_boots slot haux, he, ← s.powered_checkedFlash slot]
  exact ⟨_, _, _, rfl⟩

theorem State.doPowerOn_keepsFld {f : RegField} (h : f.apart PwrStatus.held) :
    KeepsFld f (s.powered slot).boot (s.doPowerOn slot) := by
  rw [State.doPowerOn_boots slot haux]
  exact State.setFld_keepsFld h _ 0

variable (hs : s.Inv)
include hs

/-- What the boot has written still reads so. -/
theorem State.fld_doPowerOn {f : RegField} {v : Nat}
    (hw : (f, v) ∈ (s.powered slot).bootWrites ++ (s.powered slot).bankWrites s.bootBank) (h1 : f.lo ≤ f.hi) (h2 : f.hi < 64)
    (hf : f.apart PwrStatus.state) (hh : f.apart PwrStatus.held) : (s.doPowerOn slot).fld f = v % 2 ^ (f.hi + 1 - f.lo) := by
  have hp := State.powered_sorted hs slot
  rw [← s.powered_bootBank slot] at hw
  exact (State.doPowerOn_keepsFld slot haux hh (State.boot_sorted hp)).2.trans (State.fld_boot hp hw h1 h2 hf)

/-- R474 step 3, R475: STANDBY with a bank that verifies, FAULT without one. -/
theorem State.pwr_doPowerOn : (s.doPowerOn slot).pwr = if s.bootBank.isSome then 1 else 5 := by
  have hp := State.powered_sorted hs slot
  have kept := State.doPowerOn_keepsFld slot haux (f := PwrStatus.state) (by unfold RegField.apart; decide) (State.boot_sorted hp)
  rw [← s.powered_bootBank slot, ← State.pwr_boot hp]
  exact kept.2

end PowerOn

/-! ### The training of the memories (R256, R474 steps 7 and 8) -/

/-- With both memories there start-up goes on to INIT. -/
theorem State.tryInit_eq {s : State} (h : s.pwr = 2) : s.tryInit = if s.hbmReady && s.cxlDone then s.setPwr 3 else s := by
  simp only [State.tryInit, h, decide_true, Bool.true_and]

theorem State.tryInit_frame (s : State) : ∃ regs i3c wire, s.tryInit = { s with regs, i3c, wire } := by
  unfold State.tryInit
  split
  · exact ⟨_, s.setPwr_eq 3⟩
  · exact ⟨s.regs, s.i3c, s.wire, rfl⟩

theorem State.tryInit_cxl (s : State) : s.tryInit.cxlDone = s.cxlDone ∧ ∀ k, s.tryInit.cxlFramesOf k = s.cxlFramesOf k := by
  obtain ⟨regs, i3c, wire, he⟩ := s.tryInit_frame
  rw [he]
  exact ⟨rfl, fun _ => rfl⟩

theorem State.tryInit_keepsFld {f : RegField} (h : f.apart PwrStatus.state) (s : State) : KeepsFld f s s.tryInit :=
  .ite (s.setPwr_keepsFld 3 h) (.refl f s)

theorem State.pwr_tryInit {s : State} (hs : Sparse.sorted s.regs = true) (h : s.pwr = 2) :
    s.tryInit.pwr = if s.hbmReady && s.cxlDone then 3 else 2 := by
  rw [State.tryInit_eq h]
  split
  · exact State.pwr_setPwr hs (by decide)
  · exact h

/-- R256: what a port with a device shows. -/
def cxlWrites (p frames : Nat) : List (RegField × Nat) :=
  [(CxlPortStatus.up p, 1), (CxlPortStatus.width p, 16), (CxlPortStatus.capGib p, frames / 16384)]

theorem cxlWrites_apart (p frames : Nat) : (cxlWrites p frames).Pairwise fun a b => a.1.apart b.1 := by
  simp [cxlWrites, RegField.apart, CxlPortStatus.up, CxlPortStatus.width, CxlPortStatus.capGib]

section Cxl
variable (s : State) (p gib frames : Nat)

theorem State.setCxl_none : s.setCxl p 0 frames = s := rfl

theorem State.setCxl_eq {gib : Nat} (hg : gib ≠ 0) : s.setCxl p gib frames =
    ({ s with cxlPorts := Sparse.set {} s.cxlPorts p { frames, present := true } } : State).setFlds (cxlWrites p frames) :=
  if_neg hg

theorem State.setCxl_frame : (s.setCxl p gib frames).cxlDone = s.cxlDone ∧ (s.setCxl p gib frames).hbmReady = s.hbmReady := by
  by_cases hg : gib = 0
  · rw [hg]
    exact ⟨rfl, rfl⟩
  · rw [s.setCxl_eq p frames hg, State.setFlds_eq]
    exact ⟨rfl, rfl⟩

theorem State.setCxl_keepsFld {f : RegField} (h : Reg.offset f.reg ≠ Reg.offset (.cxlPortStatus p)) :
    KeepsFld f s (s.setCxl p gib frames) := by
  by_cases hg : gib = 0
  · rw [hg]
    exact .refl f s
  · rw [s.setCxl_eq p frames hg]
    have port : KeepsFld f s { s with cxlPorts := Sparse.set {} s.cxlPorts p { frames, present := true } } := .of_regs rfl rfl
    exact port.trans (State.setFlds_keepsFld_reg
      (by simp [cxlWrites, CxlPortStatus.up, CxlPortStatus.width, CxlPortStatus.capGib, h]) _)

variable {s gib} (hc : Sparse.sorted s.cxlPorts = true)

theorem State.flag_setCxl (hs : Sparse.sorted s.regs = true) (hg : gib ≠ 0) :
    (s.setCxl p gib frames).flag (CxlPortStatus.up p) = true := by
  rw [s.setCxl_eq p frames hg]
  exact State.flag_of_fld (State.fld_setFlds (cxlWrites_apart p frames) (f := CxlPortStatus.up p) (v := 1) (by simp [cxlWrites])
    (by exact le_rfl) (by exact (by decide : 31 < 64)) (by exact hs))

include hc

theorem State.cxlFramesOf_setCxl (hg : gib ≠ 0) : (s.setCxl p gib frames).cxlFramesOf p = frames := by
  rw [s.setCxl_eq p frames hg, State.setFlds_eq]
  exact congrArg CxlPort.frames ((Sparse.get_set hc).trans (if_pos rfl))

theorem State.cxlFramesOf_setCxl_ne {k : Nat} (hk : k ≠ p) : (s.setCxl p gib frames).cxlFramesOf k = s.cxlFramesOf k := by
  by_cases hg : gib = 0
  · rw [hg]
    rfl
  · rw [s.setCxl_eq p frames hg, State.setFlds_eq]
    exact congrArg CxlPort.frames (Sparse.get_set_ne hc hk)

end Cxl

end Sys2Proof.Machine
end

section
/-!
Start-up and the losses of the inputs, row by row (R256, R472 to R478), and O59.
-/
namespace Sys2Proof.Machine

/-! ### Start-up -/

section Start
variable {s : State} (hs : s.Inv)
include hs

/-- R502: LMS_ROLLBACK tells whether flash was behind the fuses. -/
theorem State.doPowerOn_lmsRollback (haux : s.auxOk = false) (slot : Nat) :
    (s.doPowerOn slot).flag SecStatus.lmsRollback = (lmsBoot s.flash.q s.fuses.lmsBlocks).2 := by
  obtain ⟨hf, hl⟩ := s.powered_frame slot
  have hread := State.fld_doPowerOn slot haux hs (f := SecStatus.lmsRollback) (v := b2n (lmsBoot s.flash.q s.fuses.lmsBlocks).2)
    (by simp [State.bootWrites, hf, hl]) (by decide) (by decide) (.inl (by decide)) (.inl (by decide))
  rw [State.flag_of_fld hread]
  cases (lmsBoot s.flash.q s.fuses.lmsBlocks).2 <;> rfl

/-- R475: without a bank that verifies the cause is 0x0A. -/
theorem State.doPowerOn_noBank (haux : s.auxOk = false) (slot : Nat) (hb : s.bootBank = none) :
    (s.doPowerOn slot).fld PwrResetCause.cause = 0x0A :=
  State.fld_doPowerOn slot haux hs (f := PwrResetCause.cause) (v := 0x0A) (by simp [hb, State.bankWrites]) (by decide) (by decide)
    (.inl (by decide)) (.inl (by decide))

/-- R472, R474 step 6: the rails of a module that has all it needs come up. -/
theorem State.tryStart_started (haux : s.auxOk = true) (hmain : s.mainOk = true) (hclk : s.refclk = true) (hpwr : s.pwr = 1)
    (h : s.holdsOff = false) : s.tryStart.pwr = 2 ∧ s.tryStart.railsUp = true ∧ s.tryStart.perstLow = false ∧
      s.tryStart.flag PwrStatus.held = false := by
  rw [State.tryStart_starts haux hmain hclk hpwr h]
  have hsorted : Sparse.sorted (s.setFld PwrStatus.held 0).regs = true := State.sorted_setFld hs.regs.1 _ 0
  have hheld : (s.setFld PwrStatus.held 0).fld PwrStatus.held = 0 :=
    State.fld_setFld hs.regs.1 (f := PwrStatus.held) (by decide) (by decide) 0
  generalize s.setFld PwrStatus.held 0 = u at hsorted hheld
  have kept := State.setPwr_keepsFld (f := PwrStatus.held) { u with railMv := 750, perstLow := false } 2
    (by unfold RegField.apart; decide)
  obtain ⟨i3c, wire, he⟩ := State.setPwr_eq { u with railMv := 750, perstLow := false } 2
  refine ⟨State.pwr_setPwr hsorted (by decide), ?rails, ?perst, State.flag_of_fld ((kept hsorted).2.trans hheld)⟩
  case rails =>
    rw [he]
    rfl
  case perst => rw [he]

end Start

/-- R474 step 5: the main input is there. -/
theorem State.doMainStart_starts {s : State} {vin : Nat} (haux : s.auxOk = true) (hmain : s.mainOk = false) (hvin : 3950 ≤ vin) :
    s.doMainStart vin =
      ((({ s with mainOk := true } : State).setFld PwrStatus.mainOk 1).setFld PwrStatus.vin10mv (min 65535 vin)).tryStart :=
  if_pos (by simp [haux, hmain, hvin])

section Training
variable {s : State} (hpwr : s.pwr = 2)
include hpwr

/-- R475: a stack whose training has failed three times. -/
theorem State.doHbmTrained_fault (hh : s.hbmReady = false) {failures : Nat} (hf : 3 ≤ failures) :
    s.doHbmTrained failures = (s.setFld PwrResetCause.cause 0x09).setPwr 5 := by
  simp [State.doHbmTrained, hpwr, hh, hf]

/-- R474 step 7: every frame of the trained memory is zero. -/
theorem State.doHbmTrained_ready (hh : s.hbmReady = false) {failures : Nat} (hf : failures < 3) :
    s.doHbmTrained failures = if s.cxlDone then ({ s with hbmReady := true, mem := [] } : State).setPwr 3
      else { s with hbmReady := true, mem := [] } := by
  have trained : s.doHbmTrained failures = ({ s with hbmReady := true, mem := [] } : State).tryInit := by
    simp [State.doHbmTrained, hpwr, hh, hf]
  rw [trained]
  exact State.tryInit_eq hpwr

end Training

/-- R256: port 0 with what its device brings of the allowance of 4 TiB. -/
def State.cxlTrained0 (s : State) (gib0 : Nat) : State :=
  ({ s with cxlDone := true } : State).setCxl 0 gib0 (min (gib0 * 16384) 67108864)

/-- R256: then port 1, with what port 0 leaves of it. -/
def State.cxlTrained (s : State) (gib0 gib1 : Nat) : State :=
  (s.cxlTrained0 gib0).setCxl 1 gib1 (min (gib1 * 16384) (67108864 - min (gib0 * 16384) 67108864))

section CxlTraining
variable {s : State} (gib0 gib1 : Nat)

theorem State.doCxlTrained_eq (hpwr : s.pwr = 2) (hdone : s.cxlDone = false) :
    s.doCxlTrained gib0 gib1 = (s.cxlTrained gib0 gib1).tryInit :=
  if_pos (by simp [hpwr, hdone])

theorem State.cxlTrained_frame : (s.cxlTrained gib0 gib1).cxlDone = true ∧ (s.cxlTrained gib0 gib1).hbmReady = s.hbmReady := by
  obtain ⟨hdone, hready⟩ := State.setCxl_frame { s with cxlDone := true } 0 gib0 (min (gib0 * 16384) 67108864)
  obtain ⟨hdone', hready'⟩ := State.setCxl_frame (s.cxlTrained0 gib0) 1 gib1 _
  exact ⟨hdone'.trans hdone, hready'.trans hready⟩

theorem State.cxlTrained0_keepsFld {f : RegField} (h : Reg.offset f.reg ≠ Reg.offset (.cxlPortStatus 0)) :
    KeepsFld f s (s.cxlTrained0 gib0) :=
  have done : KeepsFld f s { s with cxlDone := true } := .of_regs rfl rfl
  done.trans (State.setCxl_keepsFld _ _ _ _ h)

theorem State.cxlTrained_keepsFld {f : RegField} (h : Reg.offset f.reg ≠ Reg.offset (.cxlPortStatus 1)) :
    KeepsFld f (s.cxlTrained0 gib0) (s.cxlTrained gib0 gib1) :=
  State.setCxl_keepsFld _ _ _ _ h

section Ports
variable (hs : s.Inv)
include hs

theorem State.cxlTrained0_sorted :
    Sparse.sorted (s.cxlTrained0 gib0).regs = true ∧ Sparse.sorted (s.cxlTrained0 gib0).cxlPorts = true :=
  ⟨(State.cxlTrained0_keepsFld gib0 (f := PwrStatus.state) (by decide) hs.regs.1).1,
    (State.setCxl_steady (s₀ := { s with cxlDone := true }) .rfl).cxlPorts hs.cxlPorts⟩

theorem State.cxlTrained_frames0 (h : gib0 ≠ 0) : (s.cxlTrained gib0 gib1).cxlFramesOf 0 = min (gib0 * 16384) 67108864 :=
  (State.cxlFramesOf_setCxl_ne 1 _ (State.cxlTrained0_sorted gib0 hs).2 (by decide)).trans
    (State.cxlFramesOf_setCxl 0 _ (by exact hs.cxlPorts) h)

theorem State.cxlTrained_frames1 (h : gib1 ≠ 0) :
    (s.cxlTrained gib0 gib1).cxlFramesOf 1 = min (gib1 * 16384) (67108864 - min (gib0 * 16384) 67108864) :=
  State.cxlFramesOf_setCxl 1 _ (State.cxlTrained0_sorted gib0 hs).2 h

/-- R475: a port without a device keeps what it showed. -/
theorem State.cxlTrained_noPort0 : (s.cxlTrained 0 gib1).cxlFramesOf 0 = s.cxlFramesOf 0 :=
  State.cxlFramesOf_setCxl_ne 1 _ (State.cxlTrained0_sorted 0 hs).2 (by decide)

theorem State.cxlTrained_noPort1 : (s.cxlTrained gib0 0).cxlFramesOf 1 = s.cxlFramesOf 1 := by
  rw [State.cxlTrained, State.setCxl_none]
  exact State.cxlFramesOf_setCxl_ne 0 _ (by exact hs.cxlPorts) (by decide)

theorem State.cxlTrained_up0 (h : gib0 ≠ 0) : (s.cxlTrained gib0 gib1).flag (CxlPortStatus.up 0) = true :=
  ((State.cxlTrained_keepsFld gib0 gib1 (by decide)).flag (State.cxlTrained0_sorted gib0 hs).1).trans
    (State.flag_setCxl 0 _ hs.regs.1 h)

theorem State.cxlTrained_up1 (h : gib1 ≠ 0) : (s.cxlTrained gib0 gib1).flag (CxlPortStatus.up 1) = true :=
  State.flag_setCxl 1 _ (State.cxlTrained0_sorted gib0 hs).1 h

theorem State.cxlTrained_sorted : Sparse.sorted (s.cxlTrained gib0 gib1).regs = true :=
  (State.cxlTrained_keepsFld gib0 gib1 (f := PwrStatus.state) (by decide) (State.cxlTrained0_sorted gib0 hs).1).1

/-- R474 step 8: with HBM ready as well the module is in INIT. -/
theorem State.pwr_cxlTrained (hpwr : s.pwr = 2) : (s.cxlTrained gib0 gib1).tryInit.pwr = if s.hbmReady then 3 else 2 := by
  obtain ⟨hsorted, hkept⟩ := ((State.cxlTrained0_keepsFld (s := s) gib0 (f := PwrStatus.state) (by decide)).trans
    (State.cxlTrained_keepsFld gib0 gib1 (by decide))) hs.regs.1
  obtain ⟨hdone, hready⟩ := State.cxlTrained_frame (s := s) gib0 gib1
  rw [State.pwr_tryInit hsorted (hkept.trans hpwr), hdone, hready, Bool.and_true]

end Ports

end CxlTraining

/-! ### Losses -/

section Losses
variable {s : State} (haux : s.auxOk = true) (hrails : s.railsUp = true) (hfw : s.noFirmware = false)
include haux hrails hfw

/-- R472: a module with rails that loses its main input is reset with cause 0x05. -/
theorem State.doUndervoltage_resets (hs : Sparse.sorted s.regs = true) (hmain : s.mainOk = true) : s.doUndervoltage =
    ((({ s with mainOk := false } : State).setFld PwrStatus.mainOk 0).moduleLoss 0x05 0 (if s.pwr = 6 then 6 else 1)).tryStart := by
  have kept : ∀ f : RegField, f.apart PwrStatus.mainOk →
      (({ s with mainOk := false } : State).setFld PwrStatus.mainOk 0).fld f = s.fld f := fun f hf =>
    (State.setFld_keepsFld hf { s with mainOk := false } 0 hs).2
  generalize hu : ({ s with mainOk := false } : State).setFld PwrStatus.mainOk 0 = u at kept
  have hpwr : u.pwr = s.pwr := kept PwrStatus.state (by unfold RegField.apart; decide)
  have hcause := kept PwrResetCause.cause (.inl (by decide))
  have row : s.doUndervoltage = u.moduleReset 0x05 := by
    subst hu
    exact (if_pos (by simp [haux, hmain])).trans (if_pos hrails)
  rw [row, State.moduleReset_eq ((State.noFirmware_congr hpwr hcause).trans hfw), hpwr]

theorem State.doOvervoltage_resets : s.doOvervoltage = (s.moduleLoss 0x06 0 (if s.pwr = 6 then 6 else 1)).tryStart := by
  rw [← State.moduleReset_eq hfw]
  exact if_pos (by simp [haux, hrails])

theorem State.doRegulator_resets : s.doRegulator = (s.moduleLoss 0x08 0 (if s.pwr = 6 then 6 else 1)).tryStart := by
  rw [← State.moduleReset_eq hfw]
  exact if_pos (by simp [haux, hrails])

theorem State.doRefclkLoss_resets (hclk : s.refclk = true) : s.doRefclkLoss =
    (({ s with refclk := false, mgmtLink := false } : State).moduleLoss 0x0B 0 (if s.pwr = 6 then 6 else 1)).tryStart := by
  have hreset := State.moduleReset_eq (s := { s with refclk := false, mgmtLink := false }) hfw 0x0B
  have row : s.doRefclkLoss = ({ s with refclk := false, mgmtLink := false } : State).moduleReset 0x0B :=
    (if_pos (by simp [haux, hclk])).trans (if_pos hrails)
  exact row.trans hreset

end Losses

/-- R478, R486: of the registers a module reset keeps GLB.ERR_LAST, GLB.ACC_STATUS and TEL.INTERVAL_CNT, among others. -/
theorem State.moduleLoss_keepsReg {s : State} (hs : s.Inv) (cause die state : Nat) {r : Reg}
    (hr : r ∈ [Reg.glbErrLast, .glbAccStatus, .telIntervalCnt]) : (s.moduleLoss cause die state).reg r = s.reg r := by
  have spare : ∀ n, Reg.offset r ≠ Reg.offset (.fabSpare n) := by
    simp only [List.mem_cons, List.not_mem_nil, or_false] at hr
    intro n
    rcases hr with rfl | rfl | rfl <;> simp only [Reg.offset] <;> omega
  have away : ∀ x ∈ [Reg.glbErrLast, .glbAccStatus, .telIntervalCnt],
      keptByModule (Reg.offset x) = true ∧ ∀ y ∈ lossRegs, Reg.offset x ≠ Reg.offset y := by decide
  obtain ⟨hkept, hloss⟩ := away r hr
  have kept := s.moduleLoss_keepsFld cause die state (f := ⟨r, 63, 0⟩) hkept spare hloss
  rw [← State.fld_whole, (kept hs.regs.1).2, State.fld_whole]

/-- Settles O59, row by row: power-on is the boot of a module without the main input, a loss is a module reset, and what a module
reset leaves is what its writes and the removal of the rails leave. -/
theorem startUpAndLossesFollowR472ToR478 : Obligations.StartUpAndLossesFollowR472ToR478 := by
  intro s hs
  refine ⟨?powerOn, ?standby, ?mainStart, ?refclk, ?hbm, ?cxl, ?ready, ?auxLost, ?undervoltage, ?losses, ?moduleLoss⟩
  case powerOn =>
    intro slot haux
    obtain ⟨regs, i3c, wire, he⟩ := State.doPowerOn_frame slot haux
    have hpwr := State.pwr_doPowerOn slot haux hs
    have hrollback := State.doPowerOn_lmsRollback hs haux slot
    have hcause := State.doPowerOn_noBank hs haux slot
    refine ⟨s.doPowerOn slot, rfl, ?aux, ?slot, ?mem, ?counters, ?fuses, ?flash, hrollback, ?rails, fun h => ?bank, fun h =>
      ⟨?noBank, hcause h⟩⟩
    case bank => rw [hpwr, if_pos h]
    case noBank =>
      rw [hpwr, h]
      rfl
    case fuses =>
      rw [he]
      exact (s.powered_frame slot).1
    case aux | slot | mem | counters | flash | rails =>
      rw [he]
      rfl
  case standby =>
    intro haux hmain hclk hpwr cause held
    exact ⟨State.tryStart_started hs haux hmain hclk hpwr, State.tryStart_held haux hmain hclk hpwr⟩
  case mainStart =>
    intro vin haux hmain hvin
    exact congrArg Host.Outcome.next (State.doMainStart_starts haux hmain hvin)
  case refclk => exact fun haux => congrArg Host.Outcome.next (if_pos haux)
  case hbm =>
    intro failures hpwr hready
    exact ⟨fun hf => congrArg Host.Outcome.next (State.doHbmTrained_fault hpwr hready hf),
      fun hf => congrArg Host.Outcome.next (State.doHbmTrained_ready hpwr hready hf)⟩
  case cxl =>
    intro gib0 gib1 hpwr hdone
    have row : exec (.cxlTrainingComplete gib0 gib1) s = .next (s.cxlTrained gib0 gib1).tryInit :=
      congrArg Host.Outcome.next (State.doCxlTrained_eq gib0 gib1 hpwr hdone)
    obtain ⟨done, frames⟩ := (s.cxlTrained gib0 gib1).tryInit_cxl
    have up {k : Nat} (hk : Reg.offset (.cxlPortStatus k) ≠ Reg.offset .pwrStatus) :=
      (State.tryInit_keepsFld (f := CxlPortStatus.up k) (.inl hk) _).flag (State.cxlTrained_sorted gib0 gib1 hs)
    refine ⟨_, row, done.trans (State.cxlTrained_frame gib0 gib1).1, State.pwr_cxlTrained gib0 gib1 hs hpwr,
      fun h => ⟨?frames0, ?up0⟩, fun h => ⟨?frames1, ?up1⟩, fun h => ?none0, fun h => ?none1⟩
    case frames0 => rw [frames, State.cxlTrained_frames0 gib0 gib1 hs h]
    case up0 => rw [up (k := 0) (by decide), State.cxlTrained_up0 gib0 gib1 hs h]
    case frames1 => rw [frames, State.cxlTrained_frames1 gib0 gib1 hs h]
    case up1 => rw [up (k := 1) (by decide), State.cxlTrained_up1 gib0 gib1 hs h]
    case none0 => rw [frames, h, State.cxlTrained_noPort0 gib1 hs]
    case none1 => rw [frames, h, State.cxlTrained_noPort1 gib0 hs]
  case ready =>
    intro fails hpwr
    exact congrArg Host.Outcome.next (if_pos hpwr)
  case auxLost =>
    intro haux
    obtain ⟨hfuses, hflash⟩ := s.powerOff_frame
    exact ⟨s.powerOff, congrArg Host.Outcome.next (if_pos haux), rfl, rfl, rfl, rfl, rfl, rfl, hfuses, hflash⟩
  case undervoltage =>
    intro haux hmain hrails hfw u
    exact congrArg Host.Outcome.next (State.doUndervoltage_resets haux hrails hfw hs.regs.1 hmain)
  case losses =>
    intro haux hrails hfw
    exact ⟨congrArg Host.Outcome.next (State.doOvervoltage_resets haux hrails hfw),
      congrArg Host.Outcome.next (State.doRegulator_resets haux hrails hfw),
      fun hclk => congrArg Host.Outcome.next (State.doRefclkLoss_resets haux hrails hfw hclk)⟩
  case moduleLoss =>
    intro cause die state hcause hstate
    obtain ⟨hmem, hcounters, hcarts, hqueues, himage, hlports, hrails, hfuses, hflash⟩ := s.moduleLoss_frame cause die state
    have recorded {f : RegField} {v : Nat} := State.fld_moduleLoss hs (cause := cause) (die := die) (state := state) (f := f) (v := v)
    have keeps {r : Reg} := State.moduleLoss_keepsReg hs cause die state (r := r)
    refine ⟨hmem, hcounters, hcarts, hqueues, himage, hlports, hrails, hfuses, hflash, keeps (by simp), keeps (by simp), ?interval,
      State.pwr_moduleLoss hs hstate, ?kind, ?cause, State.session_moduleLoss hs⟩
    case interval =>
      have whole := State.fld_whole (r := .telIntervalCnt)
      exact (whole _).trans ((keeps (by simp)).trans (whole s).symm)
    case kind =>
      exact recorded (f := PwrResetCause.kind) (v := 2) (by simp [State.lossWrites]) (by decide) (by decide) (.inl (by decide))
    case cause =>
      have hread := recorded (f := PwrResetCause.cause) (v := cause) (by simp [State.lossWrites]) (by decide) (by decide)
        (.inl (by decide))
      exact hread.trans (Nat.mod_eq_of_lt hcause)

end Sys2Proof.Machine
end

section
/-!
The rules of the operations on queues (R292): what the fields of a queue's context and the record kept beside it read after each, and
that nothing but memory and the records changes.
-/
namespace Sys2Proof.Machine

/-! ### Contexts -/

/-- The context of a queue depends on memory alone. -/
theorem State.ctx_congr {s t : State} (h : t.mem = s.mem) (q off len : Nat) : t.ctx q off len = s.ctx q off len := by
  simp only [State.ctx, State.rawNat, State.raw, State.rawByte, h]

/-- A field reads the same where its bytes do. -/
theorem State.ctx_of_rawByte {s t : State} {q off len : Nat}
    (h : ∀ x, ctxBase + 64 * q + off ≤ x → x < ctxBase + 64 * q + off + len → t.rawByte x = s.rawByte x) :
    t.ctx q off len = s.ctx q off len :=
  congrArg leNat (List.map_congr_left fun _ hi => h _ (by omega) (by have := List.mem_range.mp hi; omega))

section Contexts
variable {s : State} (h : Sparse.sorted s.mem = true)
include h

/-- A field of four bytes reads the number written. -/
theorem State.index_setCtx (q off : Nat) (v : W32) : BitVec.ofNat 32 ((s.setCtx q off 4 v.toNat).ctx q off 4) = v := by
  rw [State.ctx_setCtx h]
  exact BitVec.eq_of_toNat_eq (by simpa using v.isLt)

theorem State.qHead_setHead (q : Nat) (v : W32) : (s.setHead q v).qHead q = v := State.index_setCtx h q 32 v
theorem State.qTail_setTail (q : Nat) (v : W32) : (s.setTail q v).qTail q = v := State.index_setCtx h q 36 v
theorem State.qCqHead_setCqHead (q : Nat) (v : W32) : (s.setCqHead q v).qCqHead q = v := State.index_setCtx h q 44 v

theorem State.qState_setQState (q st cause : Nat) : (s.setQState q st cause).qState q = st % 256 :=
  (State.ctx_setCtx_ne (State.sorted_setCtx h ..) (by omega)).trans (State.ctx_setCtx h ..)
theorem State.qHoldCause_setQState (q st cause : Nat) : (s.setQState q st cause).qHoldCause q = cause % 256 :=
  State.ctx_setCtx (State.sorted_setCtx h ..) ..

/-- A write of a field leaves every byte outside it. -/
theorem State.rawByte_setCtx_ne {q off len v x : Nat} (hx : x < ctxBase + 64 * q + off ∨ ctxBase + 64 * q + off + len ≤ x) :
    (s.setCtx q off len v).rawByte x = s.rawByte x :=
  (State.rawByte_setRaw h ..).trans (if_neg (by rw [leBytes_length]; omega))

theorem State.rawByte_setQState_ne {q st cause x : Nat} (hx : x < ctxBase + 64 * q + 56 ∨ ctxBase + 64 * q + 58 ≤ x) :
    (s.setQState q st cause).rawByte x = s.rawByte x :=
  (State.rawByte_setCtx_ne (State.sorted_setCtx h ..) (by omega)).trans (State.rawByte_setCtx_ne h (by omega))

theorem State.sorted_setQState (q st cause : Nat) : Sparse.sorted (s.setQState q st cause).mem = true :=
  State.sorted_setCtx (State.sorted_setCtx h ..) ..

end Contexts

/-! ### Records -/

/-- The record of a queue after a change of one. -/
theorem State.queue_modQueue {s : State} (h : Sparse.sorted s.queues = true) (q p : Nat) (f : QueueRt → QueueRt) :
    (s.modQueue q f).queue p = if p = q then f (s.queue q) else s.queue p := Sparse.get_set h

/-- A change of the record of one queue alone. -/
theorem State.queue_modQueue_ne {s : State} (h : Sparse.sorted s.queues = true) {p q : Nat} (hp : p ≠ q) (f : QueueRt → QueueRt) :
    (s.modQueue q f).queue p = s.queue p := (State.queue_modQueue h q p f).trans (if_neg hp)

theorem State.queue_modQueue_same {s : State} (h : Sparse.sorted s.queues = true) (q : Nat) (f : QueueRt → QueueRt) :
    (s.modQueue q f).queue q = f (s.queue q) := (State.queue_modQueue h q q f).trans (if_pos rfl)

theorem State.queue_congr {s t : State} (h : t.queues = s.queues) (q : Nat) : t.queue q = s.queue q := by
  simp only [State.queue, h]

theorem State.sorted_modQueue {s : State} (h : Sparse.sorted s.queues = true) (q : Nat) (f : QueueRt → QueueRt) :
    Sparse.sorted (s.modQueue q f).queues = true := Sparse.sorted_set h

@[simp] theorem State.queue_setCtx (s : State) (q off len v p : Nat) : (s.setCtx q off len v).queue p = s.queue p :=
  State.queue_congr (s.setCtx_queues ..) p

theorem State.setQState_queues (s : State) (q st cause : Nat) : (s.setQState q st cause).queues = s.queues :=
  (State.setCtx_queues ..).trans (State.setCtx_queues ..)

@[simp] theorem State.queue_setQState (s : State) (q st cause p : Nat) : (s.setQState q st cause).queue p = s.queue p :=
  State.queue_congr (s.setQState_queues ..) p

/-! ### The rest of the state -/

/-- From `s` to `t` nothing has changed but memory and the records of queues. -/
def QueuesOnly (s t : State) : Prop := t = { s with mem := t.mem, queues := t.queues }

namespace QueuesOnly
variable {s t u : State}

theorem refl (s : State) : QueuesOnly s s := rfl

theorem trans (h : QueuesOnly s t) (k : QueuesOnly t u) : QueuesOnly s u := by
  unfold QueuesOnly at *
  rw [k, h]

theorem ite {c : Prop} [Decidable c] (h : QueuesOnly s t) (k : QueuesOnly s u) : QueuesOnly s (if c then t else u) := by
  split
  · exact h
  · exact k

end QueuesOnly

theorem State.modQueue_queuesOnly (s : State) (q : Nat) (f : QueueRt → QueueRt) : QueuesOnly s (s.modQueue q f) := rfl

theorem State.setCtx_queuesOnly (s : State) (q off len v : Nat) : QueuesOnly s (s.setCtx q off len v) := by
  unfold QueuesOnly State.setCtx State.setRawNat
  rw [State.setRaw_eq]

theorem State.setQState_queuesOnly (s : State) (q st cause : Nat) : QueuesOnly s (s.setQState q st cause) :=
  (s.setCtx_queuesOnly ..).trans (State.setCtx_queuesOnly ..)

end Sys2Proof.Machine
end

section
/-!
The doorbells (R300), and O11.
-/
namespace Sys2Proof.Machine

/-! ### DOORBELL -/

/-- R300: the announcement of a doorbell of an open queue: TAIL becomes the value, or DB_BAD is set. -/
def State.announce (s : State) (q : Nat) (v : W32) : State :=
  if (v - s.qHead q).toNat ≤ 2 ^ s.ringLog2 q then s.setTail q v else s.modQueue q fun r => { r with dbBad := true }

/-- R300: a doorbell of an open queue restarts a fetch that waits. -/
def State.restartFetch (s : State) (q : Nat) : State := s.modQueue q fun r => { r with rereads := 0, stale := false }

theorem State.ringDoorbell_open {s : State} {q : Nat} (h : s.qState q ≠ 0) (v : W32) :
    s.ringDoorbell q v =
      if s.qState q = 4 then ((s.announce q v).restartFetch q).setQState q 1 0 else (s.announce q v).restartFetch q :=
  if_pos (decide_eq_true h)

theorem State.ringDoorbell_closed {s : State} {q : Nat} (h : s.qState q = 0) (v : W32) :
    s.ringDoorbell q v = s.modQueue q fun r => { r with dbBad := true } :=
  if_neg (by simp [State.qOpen, h])

theorem State.ringDoorbell_queuesOnly (s : State) (q : Nat) (v : W32) : QueuesOnly s (s.ringDoorbell q v) := by
  have announced : QueuesOnly s ((s.announce q v).restartFetch q) :=
    (QueuesOnly.ite (s.setCtx_queuesOnly ..) (s.modQueue_queuesOnly ..)).trans (State.modQueue_queuesOnly ..)
  by_cases h : s.qState q = 0
  · rw [State.ringDoorbell_closed h]
    exact s.modQueue_queuesOnly ..
  · rw [State.ringDoorbell_open h]
    exact .ite (announced.trans (State.setQState_queuesOnly ..)) announced

section Announce
variable {s : State} (q : Nat) (v : W32)

/-- The record of each queue after an announcement and the restart. -/
theorem State.queue_announce (hq : Sparse.sorted s.queues = true) (p : Nat) :
    (s.announce q v).queue p =
      if p = q then { s.queue q with dbBad := (s.queue q).dbBad || !decide ((v - s.qHead q).toNat ≤ 2 ^ s.ringLog2 q) }
      else s.queue p := by
  unfold State.announce
  by_cases hfits : (v - s.qHead q).toNat ≤ 2 ^ s.ringLog2 q
  · rw [if_pos hfits, decide_eq_true hfits, Bool.not_true, Bool.or_false]
    refine (s.queue_setCtx ..).trans ?_
    split
    next hp => rw [hp]
    next => rfl
  · rw [if_neg hfits, decide_eq_false hfits, Bool.not_false, Bool.or_true]
    exact State.queue_modQueue hq ..

theorem State.sorted_queues_announce (hq : Sparse.sorted s.queues = true) : Sparse.sorted (s.announce q v).queues = true := by
  unfold State.announce
  split
  · rw [State.setTail, State.setCtx_queues]
    exact hq
  · exact State.sorted_modQueue hq ..

theorem State.queue_restarted (hq : Sparse.sorted s.queues = true) (p : Nat) :
    ((s.announce q v).restartFetch q).queue p =
      if p = q then { s.queue q with dbBad := (s.queue q).dbBad || !decide ((v - s.qHead q).toNat ≤ 2 ^ s.ringLog2 q),
                                     rereads := 0, stale := false }
      else s.queue p := by
  unfold State.restartFetch
  rw [State.queue_modQueue (State.sorted_queues_announce q v hq), State.queue_announce q v hq, State.queue_announce q v hq, if_pos rfl]
  split
  · rfl
  · rfl

theorem State.sorted_announce (h : Sparse.sorted s.mem = true) : Sparse.sorted ((s.announce q v).restartFetch q).mem = true := by
  show Sparse.sorted (s.announce q v).mem = true
  unfold State.announce
  split
  · exact State.sorted_setCtx h ..
  · exact h

theorem State.rawByte_announce (h : Sparse.sorted s.mem = true) {x : Nat}
    (hx : x < ctxBase + 64 * q + 36 ∨ ctxBase + 64 * q + 40 ≤ x) : ((s.announce q v).restartFetch q).rawByte x = s.rawByte x := by
  show (s.announce q v).rawByte x = s.rawByte x
  unfold State.announce
  split
  · exact State.rawByte_setCtx_ne h (by omega)
  · rfl

theorem State.qTail_announce (h : Sparse.sorted s.mem = true) : ((s.announce q v).restartFetch q).qTail q =
    if (v - s.qHead q).toNat ≤ 2 ^ s.ringLog2 q then v else s.qTail q := by
  show (s.announce q v).qTail q = _
  unfold State.announce
  split
  · exact State.qTail_setTail h q v
  · rfl

end Announce

section Open
variable {s : State} {q : Nat} (hopen : s.qState q ≠ 0) (v : W32)
include hopen

theorem State.queue_ringDoorbell (hq : Sparse.sorted s.queues = true) (p : Nat) :
    (s.ringDoorbell q v).queue p =
      if p = q then { s.queue q with dbBad := (s.queue q).dbBad || !decide ((v - s.qHead q).toNat ≤ 2 ^ s.ringLog2 q),
                                     rereads := 0, stale := false }
      else s.queue p := by
  rw [State.ringDoorbell_open hopen]
  split
  · rw [State.queue_setQState]
    exact State.queue_restarted q v hq p
  · exact State.queue_restarted q v hq p

theorem State.rawByte_ringDoorbell (h : Sparse.sorted s.mem = true) {x : Nat}
    (hx : x < ctxBase + 64 * q + 36 ∨ (ctxBase + 64 * q + 40 ≤ x ∧ x < ctxBase + 64 * q + 56) ∨ ctxBase + 64 * q + 58 ≤ x) :
    (s.ringDoorbell q v).rawByte x = s.rawByte x := by
  rw [State.ringDoorbell_open hopen]
  split
  · exact (State.rawByte_setQState_ne (State.sorted_announce q v h) (by omega)).trans (State.rawByte_announce q v h (by omega))
  · exact State.rawByte_announce q v h (by omega)

theorem State.qTail_ringDoorbell (h : Sparse.sorted s.mem = true) :
    (s.ringDoorbell q v).qTail q = if (v - s.qHead q).toNat ≤ 2 ^ s.ringLog2 q then v else s.qTail q := by
  rw [State.ringDoorbell_open hopen, ← State.qTail_announce q v h]
  split
  · exact congrArg (BitVec.ofNat 32) (State.ctx_of_rawByte fun x _ _ =>
      State.rawByte_setQState_ne (State.sorted_announce q v h) (by omega))
  · rfl

/-- R300: STATE 4 becomes 1. -/
theorem State.qState_ringDoorbell (h : Sparse.sorted s.mem = true) :
    (s.ringDoorbell q v).qState q = (if s.qState q = 4 then 1 else s.qState q) ∧
      (s.ringDoorbell q v).qHoldCause q = if s.qState q = 4 then 0 else s.qHoldCause q := by
  rw [State.ringDoorbell_open hopen]
  split
  · exact ⟨State.qState_setQState (State.sorted_announce q v h) .., State.qHoldCause_setQState (State.sorted_announce q v h) ..⟩
  · exact ⟨State.ctx_of_rawByte fun x _ _ => State.rawByte_announce q v h (by omega),
      State.ctx_of_rawByte fun x _ _ => State.rawByte_announce q v h (by omega)⟩

end Open

/-! ### CQ_DOORBELL -/

theorem State.cqRing_closed {s : State} {q : Nat} (h : s.qState q = 0) (v : W32) :
    s.cqRing q v = s.modQueue q fun r => { r with dbBad := true } :=
  if_neg (by simp [State.qOpen, h])

theorem State.cqRing_open {s : State} {q : Nat} (h : s.qState q ≠ 0) (v : W32) :
    s.cqRing q v = if (v - s.qCqHead q).toNat ≤ (s.qCqTail q - s.qCqHead q).toNat then s.setCqHead q v
      else s.modQueue q fun r => { r with dbBad := true } :=
  if_pos (decide_eq_true h)

theorem State.cqRing_queuesOnly (s : State) (q : Nat) (v : W32) : QueuesOnly s (s.cqRing q v) := by
  unfold State.cqRing
  exact .ite (.ite (s.setCtx_queuesOnly ..) (s.modQueue_queuesOnly ..)) (s.modQueue_queuesOnly ..)

/-! ### The statement -/

section Rows
variable {s : State} {a : Agent} {q : Nat} (v : W32) (hq : q < 1048576)
include hq

theorem exec_doorbell_granted (h : s.grants a (.qdirDoorbell q) = true) :
    exec (.doorbell a q v) s = .next (s.answered a (s.ringDoorbell q v)) :=
  congrArg Host.Outcome.next ((if_pos (decide_eq_true hq)).trans (State.onReg_granted h))

theorem exec_cqDoorbell_granted (h : s.grants a (.qdirCqDoorbell q) = true) :
    exec (.cqDoorbell a q v) s = .next (s.answered a (s.cqRing q v)) :=
  congrArg Host.Outcome.next ((if_pos (decide_eq_true hq)).trans (State.onReg_granted h))

end Rows

/-- The record of a queue other than the one whose doorbell rings. -/
theorem State.queue_ringDoorbell_ne {s : State} (hq : Sparse.sorted s.queues = true) {p q : Nat} (hp : p ≠ q) (v : W32) :
    (s.ringDoorbell q v).queue p = s.queue p := by
  by_cases h : s.qState q = 0
  · rw [State.ringDoorbell_closed h]
    exact State.queue_modQueue_ne hq hp _
  · rw [State.queue_ringDoorbell h v hq, if_neg hp]

/-- Settles O11: on a closed queue a doorbell sets DB_BAD; on an open one it announces or frees what its value allows. -/
theorem doorbellsFollowR300 : Obligations.DoorbellsFollowR300 := by
  intro s a q v hq hmem hqueues
  refine ⟨fun hg => ⟨_, exec_doorbell_granted v hq hg, s.ringDoorbell_queuesOnly q v,
    fun p hp => State.queue_ringDoorbell_ne hqueues hp v,
    fun hclosed => ?closed, fun hopen => ?opened⟩, fun hg => ⟨_, exec_cqDoorbell_granted v hq hg, s.cqRing_queuesOnly q v,
    fun p hp => ?cqOthers, fun hclosed => ?cqClosed, fun hopen => ?cqOpened⟩⟩
  case closed =>
    rw [State.ringDoorbell_closed hclosed]
    exact ⟨rfl, State.queue_modQueue_same hqueues q _⟩
  case opened =>
    obtain ⟨hstate, hcause⟩ := State.qState_ringDoorbell hopen v hmem
    exact ⟨State.qTail_ringDoorbell hopen v hmem, (State.queue_ringDoorbell hopen v hqueues q).trans (if_pos rfl), hstate, hcause,
      fun x hx => State.rawByte_ringDoorbell hopen v hmem hx⟩
  case cqOthers =>
    unfold State.cqRing
    split
    · split
      · exact s.queue_setCtx ..
      · exact State.queue_modQueue_ne hqueues hp _
    · exact State.queue_modQueue_ne hqueues hp _
  case cqClosed =>
    rw [State.cqRing_closed hclosed]
    exact ⟨rfl, State.queue_modQueue_same hqueues q _⟩
  case cqOpened =>
    rw [State.cqRing_open hopen]
    by_cases hfits : (v - s.qCqHead q).toNat ≤ (s.qCqTail q - s.qCqHead q).toNat
    · simp only [if_pos hfits, decide_eq_true hfits, Bool.not_true, Bool.or_false]
      exact ⟨s.queue_setCtx .., State.qCqHead_setCqHead hmem q v, fun x hx => State.rawByte_setCtx_ne hmem (by omega)⟩
    · simp only [if_neg hfits, decide_eq_false hfits, Bool.not_false, Bool.or_true]
      exact ⟨State.queue_modQueue_same hqueues q _, rfl, fun x _ => rfl⟩

end Sys2Proof.Machine
end

section
/-!
The actions of QDIR.QCTRL (R293, R328, R335), O12 and O13.
-/
namespace Sys2Proof.Machine

theorem State.qctrl_granted {s : State} {a : Agent} {q : Nat} {f : State → State} (hq : q < 1048576)
    (h : s.grants a .qdirQctrl = true) : s.qctrl a q f = s.answered a (f (s.selectQueue a q)) :=
  (if_pos (decide_eq_true hq)).trans (State.onReg_granted h)

/-- R335, R528: a write of QDIR.QCTRL selects its queue. -/
theorem State.selOf_selectQueue {s : State} (h : Sparse.sorted s.sel = true) (a : Agent) (q : Nat) :
    (s.selectQueue a q).selOf a = { s.selOf a with queue := q } := (Sparse.get_set h).trans (if_pos rfl)

theorem QueuesOnly.sel {s t : State} (h : QueuesOnly s t) : t.sel = s.sel := by
  unfold QueuesOnly at h
  rw [h]

/-- An action of QDIR.QCTRL that changes nothing but memory and the records of queues. -/
theorem QueuesOnly.selectQueue {s t : State} {a : Agent} {q : Nat} (h : QueuesOnly (s.selectQueue a q) t) :
    t = { s with mem := t.mem, queues := t.queues, sel := t.sel } := by
  rw [h.sel]
  exact h

/-- R293: OPEN of an undamaged part. -/
theorem State.openQ_eq {s : State} (h : s.Undamaged) (q : Nat) :
    s.openQ q = if s.mayOpen q then s.setQState q 1 0 else s.modQueue q fun r => { r with actRej := true } := by
  simp only [State.openQ, State.ctxMeets, h.reservedMeets, Bool.not_false, Bool.true_and]

theorem State.openQ_queuesOnly {s : State} (h : s.Undamaged) (q : Nat) : QueuesOnly s (s.openQ q) := by
  rw [State.openQ_eq h]
  exact .ite (s.setQState_queuesOnly ..) (s.modQueue_queuesOnly ..)

/-- Settles O12: OPEN selects the queue and then writes STATE and HOLD_CAUSE or sets ACT_REJ; QCTRL_SELECT stops at the selection. -/
theorem openFollowsR293 : Obligations.OpenFollowsR293 := by
  intro s a q hq hmem hqueues hsel hg hi hb
  have hu : (s.selectQueue a q).Undamaged := ⟨hi, hb⟩
  have hmay : (s.selectQueue a q).mayOpen q = s.mayOpen q := rfl
  have only := State.openQ_queuesOnly hu q
  refine ⟨⟨(s.selectQueue a q).openQ q, congrArg Host.Outcome.next (State.qctrl_granted hq hg), only.selectQueue,
    ?selected, fun p hp => ?others,
    fun h => ?opens, fun h => ?rejects⟩, congrArg Host.Outcome.next (State.qctrl_granted hq hg)⟩
  case selected =>
    rw [State.selOf, only.sel]
    exact State.selOf_selectQueue hsel a q
  case others =>
    rw [State.openQ_eq hu]
    split
    · exact State.queue_setQState ..
    · exact State.queue_modQueue_ne (s := s.selectQueue a q) hqueues hp _
  case opens =>
    rw [State.openQ_eq hu, if_pos (hmay.trans h)]
    exact ⟨State.qState_setQState hmem .., State.qHoldCause_setQState hmem .., State.queue_setQState ..,
      fun x hx => State.rawByte_setQState_ne hmem hx⟩
  case rejects =>
    rw [State.openQ_eq hu, if_neg (by rw [hmay, h]; decide)]
    exact ⟨rfl, State.queue_modQueue_same (s := s.selectQueue a q) hqueues q _⟩

theorem State.qOpen_iff {s : State} {q : Nat} : s.qOpen q = true ↔ s.qState q ≠ 0 := decide_eq_true_iff

/-- Settles O13: each action selects its queue and then acts as its STATE says. -/
theorem queueActionsFollowR328 : Obligations.QueueActionsFollowR328 := by
  intro s a q hq h u rejected
  have acts : ∀ f, s.qctrl a q f = s.answered a (f u) := fun f => State.qctrl_granted hq h
  refine ⟨?close, ?release, ?discard, ?abort⟩
  case close =>
    refine congrArg Host.Outcome.next ((acts _).trans (congrArg (s.answered a) ?_))
    by_cases hopen : s.qState q = 0
    · have hclosed : ¬ u.qOpen q = true := fun ho => State.qOpen_iff.mp ho hopen
      rw [if_pos hopen]
      exact if_neg hclosed
    · rw [if_neg hopen]
      refine (if_pos (State.qOpen_iff.mpr hopen)).trans ?_
      dsimp only
      exact apply_ite (fun v : State => v.closeStep q) _ _ _
  case release => exact congrArg Host.Outcome.next (acts _)
  case discard => exact congrArg Host.Outcome.next (acts _)
  case abort => exact congrArg Host.Outcome.next (acts _)

end Sys2Proof.Machine
end

section
/-!
DISCARD (R328), and O14.
-/
namespace Sys2Proof.Machine

/-- R328: a command that DISCARD completes with QUEUE_HELD. -/
def State.discarded (s : State) (q : Nat) (c : Cmd) : Cmd :=
  { c with phase := .ended, status := St.queueHeld, unitKind := 6, unitInst := s.qCp q, detail := 0, frozen := false, hold := false }

/-- R328: what DISCARD makes of a command that was fetched. -/
def State.discardCmd (s : State) (q : Nat) (c : Cmd) : Cmd :=
  if c.phase = .waiting then s.discarded q c
  else if c.hold then { c with hold := false, regions := [] }
  else if c.isWait && c.frozen then s.discarded q c
  else c

/-- R328: how many announced entries were not fetched. -/
def State.unfetched (s : State) (q : Nat) : Nat := (s.qTail q - s.qHead q).toNat

/-- R328: the announced entries that were not fetched complete as commands without a copy of an entry. -/
def State.discardedEntries (s : State) (q : Nat) : List Cmd :=
  (List.range (s.unfetched q)).map fun i => s.discarded q { idx := s.qHead q + BitVec.ofNat 32 i, entry := [] }

theorem State.discardEffects_eq (s : State) (q : Nat) :
    s.discardEffects q =
      (s.modQueue q fun r => { r with stale := false, rereads := 0, cmds := r.cmds.map (s.discardCmd q) ++ s.discardedEntries q }).setHead
        q (s.qTail q) := rfl

theorem State.discardCmd_phase (s : State) (q : Nat) (c : Cmd) : (s.discardCmd q c).phase ≠ .waiting := by
  unfold State.discardCmd
  split
  · exact Phase.noConfusion
  next h =>
    split
    · exact h
    · split
      · exact Phase.noConfusion
      · exact h

theorem State.discardedEntries_length (s : State) (q : Nat) : (s.discardedEntries q).length = s.unfetched q := by
  simp [State.discardedEntries]

theorem State.getElem?_discardedEntries {s : State} {q n : Nat} (h : n < s.unfetched q) :
    (s.discardedEntries q)[n]? = some (s.discarded q { idx := s.qHead q + BitVec.ofNat 32 n, entry := [] }) := by
  simp [State.discardedEntries, h]

section Effects
variable {s : State} {q : Nat}

theorem State.queue_discardEffects (h : Sparse.sorted s.queues = true) :
    (s.discardEffects q).queue q = { s.queue q with
      stale := false, rereads := 0, cmds := (s.queue q).cmds.map (s.discardCmd q) ++ s.discardedEntries q } := by
  rw [State.discardEffects_eq]
  exact (State.queue_setCtx ..).trans (State.queue_modQueue_same h q _)

theorem State.ctx_discardEffects (h : Sparse.sorted s.mem = true) {off len : Nat} (ho : off + len ≤ 32 ∨ 36 ≤ off) :
    (s.discardEffects q).ctx q off len = s.ctx q off len :=
  State.ctx_setCtx_ne (s := s.modQueue ..) h (by omega)

theorem State.qHead_discardEffects (h : Sparse.sorted s.mem = true) : (s.discardEffects q).qHead q = s.qTail q :=
  State.qHead_setHead (s := s.modQueue ..) h q _

end Effects

/-- R293: a queue that is not closing. -/
theorem State.closeStep_open {s : State} {q : Nat} (h : (s.queue q).closing = false) : s.closeStep q = s :=
  if_neg (by simp [h])

/-- Settles O14: DISCARD completes what was fetched and not dispatched in place, and what was not fetched behind it. -/
theorem heldEntriesEndWithQueueHeld : Obligations.HeldEntriesEndWithQueueHeld := by
  intro s a q hq hmem hqueues hg hst hopen
  let u := s.selectQueue a q
  have hrecord : (u.discardEffects q).queue q = { s.queue q with
      stale := false, rereads := 0, cmds := (s.queue q).cmds.map (s.discardCmd q) ++ s.discardedEntries q } :=
    State.queue_discardEffects (s := u) hqueues
  have hkeeps : ∀ off len, 36 ≤ off → (u.discardEffects q).ctx q off len = s.ctx q off len := fun off len ho =>
    State.ctx_discardEffects (s := u) hmem (.inr ho)
  have hrow : u.discardQ q = u.discardEffects q := (if_pos hst).trans (State.closeStep_open (by rw [hrecord]; exact hopen))
  refine ⟨u.discardEffects q, congrArg Host.Outcome.next ((State.qctrl_granted hq hg).trans (congrArg (s.answered a) hrow)),
    State.qHead_discardEffects (s := u) hmem, congrArg (BitVec.ofNat 32) (hkeeps 36 4 le_rfl),
    hkeeps 56 1 (by decide), hkeeps 57 1 (by decide),
    ?phases, ?length, fun n hn => ?entries⟩
  case phases =>
    rw [hrecord]
    intro c hc
    rcases List.mem_append.mp hc with hc | hc
    · obtain ⟨b, -, rfl⟩ := List.mem_map.mp hc
      exact s.discardCmd_phase q b
    · obtain ⟨i, -, rfl⟩ := List.mem_map.mp hc
      exact Phase.noConfusion
  case length => rw [hrecord, List.length_append, List.length_map, State.discardedEntries_length, State.unfetched]
  case entries =>
    have hentry := State.getElem?_discardedEntries (s := s) (q := q) hn
    rw [hrecord, List.getElem?_append_right (by simp), List.length_map, Nat.add_sub_cancel_left]
    exact ⟨_, hentry, rfl, rfl, rfl, rfl, rfl⟩

end Sys2Proof.Machine
end

section
/-!
The fetch of an entry (R301 to R305), the posting of a completion (R308), O15 and O17.
-/
namespace Sys2Proof.Machine

/-- R301: a queue that may fetch runs. -/
theorem State.qState_of_mayFetch {s : State} {q : Nat} (h : s.mayFetch q = true) : s.qState q = 1 := by
  simp only [State.mayFetch, Bool.and_eq_true, decide_eq_true_eq] at h
  obtain ⟨⟨⟨⟨hst, -⟩, -⟩, -⟩, -⟩ := h
  exact hst

section Rows
variable {s : State} {q : Nat} (hq : q < 1048576) (h : s.mayFetch q = true)
include hq h

theorem exec_entryFetch_eq (hfresh : (s.queue q).stale = false) :
    exec (.entryFetch q) s = .next (s.readEntry q fun u => u.modQueue q fun r => { r with stale := true, rereads := 0 }) :=
  congrArg Host.Outcome.next (if_pos (by simp [queueOk, hq, h, hfresh]))

theorem exec_entryReread_eq (hstale : (s.queue q).stale = true) :
    exec (.entryReread q) s = .next (s.readEntry q fun u =>
      if (u.queue q).rereads + 1 < 8 then u.modQueue q fun r => { r with rereads := (u.queue q).rereads + 1 }
      else (((u.modQueue q fun r => { r with stale := false, rereads := 0, enr := true }).event 0x02 q).count 0x010 q 1).setQState
        q 4 0) :=
  congrArg Host.Outcome.next (if_pos (by simp [queueOk, hq, h, hstale]))
end Rows

section Reads
variable {s s1 : State} {q : Nat} (h : s.qState q = 1)  {onStale : State → State}

theorem State.readEntry_reads (h : s.qState q = 1) (hctx : s.ctxMeets q = (false, s))
    (hr : s.ringAccess q (s.ringSlot q (s.qHead q)) 128 = (true, s1)) :
    s.readEntry q onStale =
      let s2 := (s1.settleFree (s.ringSlot q (s.qHead q)) 128).touchRange (s.ringSlot q (s.qHead q)) 128
      let e := s2.bytes (s.ringSlot q (s.qHead q)) 128
      if s2.entryCurrent q (s.qHead q) e then s2.serveEntry q (s.qHead q) e else onStale s2 := by
  have hcheck : s.ctxCheck q = s := by simp only [State.ctxCheck, hctx, Bool.false_eq_true, if_false]
  simp only [State.readEntry, hcheck, h, ne_eq, not_true_eq_false, if_false, hr]

theorem State.readEntry_fails (h : s.qState q = 1) (hctx : s.ctxMeets q = (false, s))
    (hr : s.ringAccess q (s.ringSlot q (s.qHead q)) 128 = (false, s1)) :
    s.readEntry q onStale = if s1.qState q = 1 then s1.setQState q 2 St.tierFault else s1 := by
  have hcheck : s.ctxCheck q = s := by simp only [State.ctxCheck, hctx, Bool.false_eq_true, if_false]
  simp only [State.readEntry, hcheck, h, ne_eq, not_true_eq_false, if_false, hr]

theorem State.readEntry_held (hctx : s.ctxMeets q = (true, s1)) (hm : Sparse.sorted s1.mem = true) :
    s.readEntry q onStale = s1.setQState q 2 St.uncorrectable := by
  have hcheck : s.ctxCheck q = s1.setQState q 2 St.uncorrectable := by simp only [State.ctxCheck, hctx, if_true]
  have hst := State.qState_setQState hm q 2 St.uncorrectable
  simp only [State.readEntry, hcheck]
  exact if_pos (by rw [hst]; decide)

end Reads

/-- Settles O15: both rows read the entry at HEAD, and each says what follows a stale one. -/
theorem fetchReadsTheEntryAtHead : Obligations.FetchReadsTheEntryAtHead := by
  intro s s1 q hq hmay i a run
  have hst := State.qState_of_mayFetch hmay
  have fetch := exec_entryFetch_eq hq hmay
  have reread := exec_entryReread_eq hq hmay
  refine ⟨fun hctx hr => ?reads, fun hctx hr => ?fails, fun hctx hm => ?held⟩
  case reads =>
    exact ⟨fun hf => (fetch hf).trans (congrArg Host.Outcome.next (State.readEntry_reads hst hctx hr)),
      fun hf => (reread hf).trans (congrArg Host.Outcome.next (State.readEntry_reads hst hctx hr))⟩
  case fails =>
    exact ⟨fun hf => (fetch hf).trans (congrArg Host.Outcome.next (State.readEntry_fails hst hctx hr)),
      fun hf => (reread hf).trans (congrArg Host.Outcome.next (State.readEntry_fails hst hctx hr))⟩
  case held =>
    exact ⟨fun hf => (fetch hf).trans (congrArg Host.Outcome.next (State.readEntry_held hctx hm)),
      fun hf => (reread hf).trans (congrArg Host.Outcome.next (State.readEntry_held hctx hm))⟩

/-! ### Completions -/

/-- R308: the command may post. -/
theorem State.mayPost_iff {s : State} {q : Nat} {c : Cmd} :
    s.mayPost q c = true ↔ c.phase = .ended ∧ c.hold = false ∧ c.frozen = false ∧ (c.idx - s.qCqHead q).toNat < 2 ^ s.cqLog2 q := by
  simp only [State.mayPost, Bool.and_eq_true, Bool.not_eq_true', decide_eq_true_eq, and_assoc]
  exact Iff.rfl

/-- Settles O17: a post is what the row does under its condition. -/
theorem postWritesTheRecord : Obligations.PostWritesTheRecord := by
  intro s q c rest hq hc
  have hok : queueOk q = true := decide_eq_true hq
  refine congrArg Host.Outcome.next ?_
  simp only [State.post, hc]
  refine if_congr ?_ rfl rfl
  simp only [hok, Bool.true_and, Bool.and_eq_true, State.qOpen_iff, State.mayPost_iff]

end Sys2Proof.Machine
end

section
/-!
NOP, FENCE, FLAG_SET and FLAG_WAIT (R306, R311 to R316) run once accepted, and O19.
-/
namespace Sys2Proof.Machine

/-- Settles O19: each row runs its body, which is the effect stated; FENCE waits for the acknowledgements of its queue's FLAG_SETs, and
a FLAG_WAIT is looked at again on a closing queue. -/
theorem flowCommandsComplete : Obligations.FlowCommandsComplete := by
  intro s t q c
  refine ⟨fun h => ?nop, fun h => ?fence, fun h => ⟨fun hl => ?here, fun hl => ?elsewhere⟩, fun h => ?wait⟩
  case nop => exact (RunsRow.accepted_body (.of_queueOk rfl rfl fun _ _ _ => rfl) (fun _ => rfl) h :)
  case fence => exact (RunsRow.accepted_body (.of_rowFree rfl rfl fun _ _ _ => rfl) (fun _ => rfl) h :)
  case here =>
    have hrun : t.runFlagSet q c = (t.setFlagWord (leField c.entry 16 8) (leField c.entry 32 1)
        (BitVec.ofNat 64 (leField c.entry 24 8))).endOk q c.idx := if_pos hl
    rw [← hrun]
    exact (RunsRow.accepted_body (.of_queueOk rfl rfl fun _ _ _ => rfl) (fun _ => rfl) h :)
  case elsewhere => exact (RunsRow.accepted_body (.of_queueOk rfl rfl fun _ _ _ => rfl) (fun _ => rfl) h :)
  case wait => exact (RunsRow.accepted (.of_queueOk rfl rfl fun _ _ _ => rfl) h :)

end Sys2Proof.Machine
end

section
/-!
What leaves the context of a queue alone (R292): the writes of registers, the event ring, the contexts of other queues, and, but for
STATE and HOLD_CAUSE, the end of a command.
-/
namespace Sys2Proof.Machine

/-- From `s` to `t` memory keeps rising keys, and the first `n` bytes of the context of queue `p` read as before. -/
def CtxStands (p n : Nat) (s t : State) : Prop :=
  Sparse.sorted s.mem = true →
    Sparse.sorted t.mem = true ∧ ∀ off len, off + len ≤ n → t.ctx p off len = s.ctx p off len

namespace CtxStands
variable {p n : Nat} {s t u : State}

theorem trans (h : CtxStands p n s t) (k : CtxStands p n t u) : CtxStands p n s u := fun hs => by
  obtain ⟨ht, hst⟩ := h hs
  obtain ⟨hu, htu⟩ := k ht
  exact ⟨hu, fun off len hl => (htu off len hl).trans (hst off len hl)⟩

/-- A change of other state than memory. -/
theorem of_mem (h : t.mem = s.mem) : CtxStands p n s t := fun hs => ⟨h ▸ hs, fun off len _ => State.ctx_congr h p off len⟩

theorem refl (s : State) : CtxStands p n s s := of_mem rfl

theorem mono {m : Nat} (h : CtxStands p n s t) (hm : m ≤ n) : CtxStands p m s t := fun hs =>
  ⟨(h hs).1, fun off len hl => (h hs).2 off len (hl.trans hm)⟩

theorem ite {c : Prop} [Decidable c] (h : CtxStands p n s t) (k : CtxStands p n s u) : CtxStands p n s (if c then t else u) := by
  split
  · exact h
  · exact k

theorem foldl {α : Type} {f : State → α → State} (l : List α) (hf : ∀ u, ∀ x ∈ l, CtxStands p n u (f u x)) (s : State) :
    CtxStands p n s (l.foldl f s) :=
  List.foldlRecOn l f (refl s) fun u hu x hx => hu.trans (hf u x hx)

/-- A change of bytes outside the context. -/
theorem of_rawByte (hm : Sparse.sorted s.mem = true → Sparse.sorted t.mem = true)
    (hb : ∀ x, ctxBase + 64 * p ≤ x → x < ctxBase + 64 * p + n → Sparse.sorted s.mem = true → t.rawByte x = s.rawByte x) :
    CtxStands p n s t := fun hs =>
  ⟨hm hs, fun _ _ _ => State.ctx_of_rawByte fun x _ _ => hb x (by omega) (by omega) hs⟩

end CtxStands

section Writes
variable {p n : Nat} (s : State)

theorem State.setRaw_ctxStands {a : Nat} {bs : Bytes} (h : ctxBase + 64 * p + n ≤ a ∨ a + bs.length ≤ ctxBase + 64 * p) :
    CtxStands p n s (s.setRaw a bs) :=
  .of_rawByte (fun hs => State.sorted_setRaw hs a bs) fun _ _ _ hs => (State.rawByte_setRaw hs ..).trans (if_neg (by omega))

theorem State.setFld_ctxStands (f : RegField) (v : Nat) : CtxStands p n s (s.setFld f v) := .of_mem rfl
theorem State.setI3c_ctxStands (x : I3c) : CtxStands p n s { s with i3c := x } := .of_mem rfl
theorem State.setCounters_ctxStands (x : List (Nat × Counter)) : CtxStands p n s { s with counters := x } := .of_mem rfl
theorem State.raiseIbi_ctxStands (code : Nat) : CtxStands p n s (s.raiseIbi code) := .ite (.of_mem rfl) (.refl s)

/-- R516, R535: the event ring lies in an area of its own. -/
theorem State.event_ctxStands (hp : p < 1048576) (hn : n ≤ 64) (code inst : Nat) : CtxStands p n s (s.event code inst) := by
  have ring : areaBase 10 = ctxBase + 0x85C0000 := rfl
  have written : ∀ k a b c v, CtxStands p n s
      ((s.setRaw (areaBase 10 + k) (leBytes 4 a ++ leBytes 4 b ++ leBytes 8 c)).setFld TelEvtStatus.tail v) := fun k _ _ _ v =>
    (s.setRaw_ctxStands (.inl (by omega))).trans (State.setFld_ctxStands _ _ v)
  unfold State.event
  refine .ite ((s.setFld_ctxStands _ _).trans (State.setFld_ctxStands _ _ _)) (.ite ?_ (written _ _ _ _ _))
  exact ((written _ _ _ _ _).trans (State.setI3c_ctxStands _ _)).trans (State.raiseIbi_ctxStands _ _)

theorem State.count_ctxStands (hp : p < 1048576) (hn : n ≤ 64) (num inst k : Nat) : CtxStands p n s (s.count num inst k) := by
  unfold State.count
  exact .ite (s.setCounters_ctxStands _)
    (.ite (s.setCounters_ctxStands _) ((s.setCounters_ctxStands _).trans (State.event_ctxStands _ hp hn _ _)))

theorem State.detect_ctxStands (hp : p < 1048576) (hn : n ≤ 64) (det status : Nat) (q : Option Nat) (inst : Nat) (inj : Bool) :
    CtxStands p n s (s.detect det status q inst inj) :=
  (CtxStands.of_mem (State.setReg_mem s _ _)).trans (State.event_ctxStands _ hp hn _ _)

theorem State.homeWrite_ctxStands (hp : p < 1048576) (hn : n ≤ 64) : CtxStands p n s s.homeWrite :=
  (s.setFld_ctxStands _ _).trans (State.count_ctxStands _ hp hn _ _ _)

/-- STATE and HOLD_CAUSE are bytes 56 and 57. -/
theorem State.setQState_ctxStands (q st cause : Nat) : CtxStands q 56 s (s.setQState q st cause) :=
  .of_rawByte (fun hs => State.sorted_setQState hs q st cause) fun _ _ _ hs => State.rawByte_setQState_ne hs (by omega)

theorem State.setQState_ctxStands_ne {q : Nat} (hq : p ≠ q) (hn : n ≤ 64) (st cause : Nat) :
    CtxStands p n s (s.setQState q st cause) :=
  .of_rawByte (fun hs => State.sorted_setQState hs q st cause) fun _ _ _ hs => State.rawByte_setQState_ne hs (by omega)

end Writes

section Ends
variable (s : State) (q : Nat) (idx : W32)

/-- R413: the end of a command holds its queue at most. -/
theorem State.endCmd_ctxStands (st k i d : Nat) : CtxStands q 56 s (s.endCmd q idx st k i d) := by
  have ended : CtxStands q 56 s (s.modCmd q idx (Cmd.endedWith st k i d)) := .of_mem rfl
  unfold State.endCmd
  refine CtxStands.ite (CtxStands.trans ?_ (State.setQState_ctxStands _ q 2 st)) ended
  exact CtxStands.ite ended (ended.trans (State.setFld_ctxStands _ _ _))

theorem State.endErr_ctxStands (hq : q < 1048576) (e : Err) : CtxStands q 56 s (s.endErr q idx e) := by
  have detected : CtxStands q 56 s (if e.det = 0 then s else s.detect e.det e.status (some q) e.key false) :=
    .ite (.refl s) (s.detect_ctxStands hq (by decide) e.det e.status (some q) e.key false)
  have refused : ∀ u : State, CtxStands q 56 u (if e.status = St.descInvalid ∧ e.cause = 0x38 then u.homeWrite else u) := fun u =>
    .ite (u.homeWrite_ctxStands hq (by decide)) (.refl u)
  have ended := (detected.trans (refused _)).trans (State.endCmd_ctxStands _ q idx e.status 6 (s.qCp q) e.detail)
  exact .ite (ended.trans (State.setQState_ctxStands _ q 2 St.engineAbsent)) ended

end Ends

theorem State.homeWrite_reported (s : State) : Reported s s.homeWrite := (s.setFld_reported ..).trans (State.count_reported ..)

/-- R312: of the queues an error at the checks changes its own command. -/
theorem State.endErr_queues (s : State) (q : Nat) (idx : W32) (e : Err) :
    (s.endErr q idx e).queues = (s.modCmd q idx (Cmd.endedWith e.status 6 (s.qCp q) e.detail)).queues := by
  unfold State.endErr
  extract_lets s0 s1 s2
  have reported : Reported s s1 :=
    (Reported.ite (.refl s) (s.detect_reported ..)).trans (.ite (State.homeWrite_reported _) (.refl _))
  have ended : s2.queues = (s.modCmd q idx (Cmd.endedWith e.status 6 (s.qCp q) e.detail)).queues := by
    rw [State.endCmd_queues, State.modCmd, State.modCmd, State.modQueue, State.modQueue, State.setQueue, State.setQueue,
      State.queue_congr reported.queues, reported.queues]
  split
  · rw [State.setQState_queues, ended]
  · exact ended

end Sys2Proof.Machine
end

section
/-!
The taking of an entry (R301, R303, R304), and O16.
-/
namespace Sys2Proof.Machine

/-- The index of a command and its copy of an entry (R304), which nothing changes once it is fetched. -/
def Cmd.key (c : Cmd) : W32 × Bytes := (c.idx, c.entry)

/-- A change of one command that keeps its index and copy. -/
theorem State.keys_modCmd {s : State} (hs : Sparse.sorted s.queues = true) (q : Nat) (idx : W32) {f : Cmd → Cmd}
    (hf : ∀ c, (f c).key = c.key) : ((s.modCmd q idx f).queue q).cmds.map Cmd.key = (s.queue q).cmds.map Cmd.key := by
  rw [State.cmds_modCmd hs, if_pos rfl, List.map_map]
  refine List.map_congr_left fun c _ => ?_
  show (if c.idx = idx then f c else c).key = c.key
  split
  · exact hf c
  · rfl

/-- R299: an entry whose opcode no rule assigns ends its command and leaves the copies. -/
theorem State.keys_judgeFetched {s : State} (hs : Sparse.sorted s.queues = true) (q : Nat) (i : W32) (e : Bytes) :
    ((s.judgeFetched q i e).queue q).cmds.map Cmd.key = (s.queue q).cmds.map Cmd.key := by
  unfold State.judgeFetched
  split
  · rfl
  · split
    · rw [State.queue_congr (s.endErr_queues ..)]
      exact State.keys_modCmd hs q i fun _ => rfl
    · rfl

theorem State.judgeFetched_ctxStands (s : State) {q : Nat} (hq : q < 1048576) (i : W32) (e : Bytes) :
    CtxStands q 56 s (s.judgeFetched q i e) := by
  unfold State.judgeFetched
  split
  · exact .refl s
  · split
    · exact s.endErr_ctxStands q i hq _
    · exact .refl s

/-- R301, R304, R305: the copy of an entry, HEAD past it, and, without EXPRESS, the queue as the one served last. -/
def State.fetched (s : State) (q : Nat) (i : W32) (e : Bytes) : State :=
  let s1 := (s.setHead q (i + 1)).modQueue q fun r =>
    { r with cmds := r.cmds ++ [{ idx := i, entry := e }], stale := false, rereads := 0 }
  if expressOf e then s1 else { s1 with served := Sparse.set 1048575 s1.served (s1.qCp q) q }

theorem State.takeEntry_eq (s : State) (q : Nat) (i : W32) (e : Bytes) : s.takeEntry q i e = (s.fetched q i e).judgeFetched q i e := rfl

section Fetched
variable (s : State) (q : Nat) (i : W32) (e : Bytes)

theorem State.fetched_mem : (s.fetched q i e).mem = (s.setHead q (i + 1)).mem := by
  unfold State.fetched
  dsimp only
  split
  · rfl
  · rfl

theorem State.fetched_queues : (s.fetched q i e).queues = ((s.setHead q (i + 1)).modQueue q fun r =>
    { r with cmds := r.cmds ++ [{ idx := i, entry := e }], stale := false, rereads := 0 }).queues := by
  unfold State.fetched
  dsimp only
  split
  · rfl
  · rfl

theorem State.setHead_queues (v : W32) : (s.setHead q v).queues = s.queues := State.setCtx_queues ..

theorem State.fetched_sorted (hq : Sparse.sorted s.queues = true) : Sparse.sorted (s.fetched q i e).queues = true := by
  rw [State.fetched_queues]
  exact State.sorted_modQueue (by rwa [State.setHead_queues]) ..

theorem State.keys_fetched (hq : Sparse.sorted s.queues = true) :
    ((s.fetched q i e).queue q).cmds.map Cmd.key = (s.queue q).cmds.map Cmd.key ++ [(i, e)] := by
  rw [State.queue_congr (s.fetched_queues q i e), State.queue_modQueue_same (by rwa [State.setHead_queues]),
    State.queue_congr (s.setHead_queues q (i + 1)), List.map_append]
  rfl

end Fetched

/-- Settles O16: HEAD is written with the index before the entry is judged, and judging it ends the command at most, which leaves the
indices of the queue and the index and the entry of each of its commands. -/
theorem takenEntryAdvancesHead : Obligations.TakenEntryAdvancesHead := by
  intro s q i e hq hmem hqueues
  have hsorted : Sparse.sorted (s.fetched q i e).mem = true := by
    rw [State.fetched_mem]
    exact State.sorted_setCtx hmem ..
  obtain ⟨-, judged⟩ := State.judgeFetched_ctxStands (s.fetched q i e) hq i e hsorted
  have keeps : ∀ off len, 36 ≤ off → off + len ≤ 56 → (s.takeEntry q i e).ctx q off len = s.ctx q off len :=
    fun off len ho hl =>
    ((judged off len hl).trans (State.ctx_congr (s.fetched_mem q i e) ..)).trans (State.ctx_setCtx_ne hmem (by omega))
  have head : (s.takeEntry q i e).qHead q = i + 1 :=
    (congrArg (BitVec.ofNat 32) ((judged 32 4 (by decide)).trans (State.ctx_congr (s.fetched_mem q i e) ..))).trans
      (State.qHead_setHead hmem q (i + 1))
  refine ⟨head, congrArg (BitVec.ofNat 32) (keeps 36 4 (by decide) (by decide)),
    congrArg (BitVec.ofNat 32) (keeps 40 4 (by decide) (by decide)), congrArg (BitVec.ofNat 32) (keeps 44 4 (by decide) (by decide)),
    ?keys⟩
  case keys => exact (State.keys_judgeFetched (s.fetched_sorted q i e hqueues) q i e).trans (s.keys_fetched q i e hqueues)

end Sys2Proof.Machine
end

section
/-!
The wait set of a deadlock (R330, R331): its members in the order of their queues, and the queues that it freezes.
-/
namespace Sys2Proof.Machine

/-- R330: a member of a wait set: its queue, its kind, the sequence number of its command and the address of its flag. -/
abbrev Waiter := Nat × Nat × W32 × Nat

/-! ### The order of the members -/

/-- R331: the members of a wait set in ascending order of queue. -/
def waitsByQueue (wait : List (Waiter)) : List (Waiter) := wait.foldl (fun l x => insertByQueue x l) []

theorem insertByQueue_perm {x : Waiter} {l : List (Waiter)} (h : x.1 ∉ l.map (·.1)) :
    (insertByQueue x l).Perm (x :: l) := by
  induction l with
  | nil => exact .refl _
  | cons y ys ih =>
    rw [List.map_cons, List.mem_cons, not_or] at h
    obtain ⟨hy, hys⟩ := h
    unfold insertByQueue
    rw [if_neg hy]
    split
    · exact .refl _
    · exact ((ih hys).cons y).trans (.swap x y ys)

/-- Members of different queues are ordered, and none is lost. -/
theorem waitsByQueue_perm {wait : List (Waiter)} (h : (wait.map (·.1)).Nodup) : (waitsByQueue wait).Perm wait := by
  suffices ∀ l : List (Waiter), ((l ++ wait).map (·.1)).Nodup →
      (wait.foldl (fun l x => insertByQueue x l) l).Perm (l ++ wait) from this [] h
  clear h
  induction wait with
  | nil => exact fun l _ => (List.append_nil l).symm ▸ .refl l
  | cons x wait ih =>
    intro l h
    have moved : (l ++ x :: wait).Perm (x :: l ++ wait) := List.perm_middle
    have hnodup : ((x :: l ++ wait).map (·.1)).Nodup := (moved.map _).nodup_iff.mp h
    have hx : x.1 ∉ l.map (·.1) := fun hm => (List.nodup_cons.mp hnodup).1 (List.map_append ▸ List.mem_append_left _ hm)
    have placed : (insertByQueue x l ++ wait).Perm (x :: l ++ wait) := (insertByQueue_perm hx).append_right wait
    exact ((ih _ ((placed.map _).nodup_iff.mpr hnodup)).trans placed).trans moved.symm

/-! ### The members -/

theorem Sparse.keys_pairwise {β : Type} {m : List (Nat × β)} (h : Sparse.sorted m = true) : (m.map (·.1)).Pairwise (· < ·) := by
  induction m with
  | nil => exact .nil
  | cons e m ih =>
    obtain ⟨hlt, hs⟩ := Sparse.sorted_cons.mp h
    refine List.pairwise_cons.mpr ⟨fun k hk => ?_, ih hs⟩
    obtain ⟨x, hx, rfl⟩ := List.mem_map.mp hk
    exact hlt x hx

/-- The queues of a wait set. -/
theorem State.waitSet_queues (s : State) : s.waitSet.map (·.1) = s.queueNums.filter fun q => (s.stuckWait q).isSome := by
  unfold State.waitSet
  rw [List.map_filterMap, ← List.filterMap_eq_filter]
  refine List.filterMap_congr fun q _ => ?_
  cases h : s.stuckWait q with
  | none => simp [Option.guard, h]
  | some c => simp [Option.guard, h]

theorem State.waitSet_nodup {s : State} (h : Sparse.sorted s.queues = true) : (s.waitSet.map (·.1)).Nodup := by
  rw [State.waitSet_queues]
  exact ((Sparse.keys_pairwise h).imp ne_of_lt).filter _

/-- A queue without a record has no command. -/
theorem State.mem_queueNums {s : State} {q : Nat} {c : Cmd} (h : c ∈ (s.queue q).cmds) : q ∈ s.queueNums := by
  by_contra hq
  have hnone : s.queue q = {} := Sparse.get_of_notMem fun x hx hk => hq (List.mem_map.mpr ⟨x, hx, hk⟩)
  rw [hnone] at h
  cases h

/-- R329: a stuck FLAG_WAIT is the oldest command of its queue. -/
theorem State.head_of_stuckWait {s : State} {q : Nat} {c : Cmd} (h : s.stuckWait q = some c) : (s.queue q).cmds.head? = some c := by
  unfold State.stuckWait at h
  split at h
  next d hd =>
    split at h
    · rw [hd, h]
    · cases h
  next => cases h

theorem State.mem_waitSet {s : State} {q : Nat} {c : Cmd} (h : s.stuckWait q = some c) :
    (q, 0, s.expectedSeq q c.idx, leField c.entry 16 8) ∈ s.waitSet :=
  List.mem_filterMap.mpr ⟨q, State.mem_queueNums (List.mem_of_head? (State.head_of_stuckWait h)), by rw [h]; rfl⟩

/-- R331: the wait set of the flag wait in the order of its record. -/
def State.members (s : State) : List Waiter := waitsByQueue s.waitSet

section Members
variable {s : State} (hs : Sparse.sorted s.queues = true)
include hs

theorem State.members_perm : s.members.Perm s.waitSet := waitsByQueue_perm (State.waitSet_nodup hs)

theorem State.members_nodup : (s.members.map (·.1)).Nodup := ((State.members_perm hs).map _).nodup_iff.mpr (State.waitSet_nodup hs)

theorem State.members_length : s.members.length = (s.queueNums.filter fun q => (s.stuckWait q).isSome).length := by
  rw [(State.members_perm hs).length_eq, ← s.waitSet_queues, List.length_map]

/-- A queue without a stuck FLAG_WAIT has no member. -/
theorem State.notMem_members {q : Nat} (h : s.stuckWait q = none) : q ∉ s.members.map (·.1) := fun hm => by
  have hstuck := ((State.members_perm hs).map (·.1)).mem_iff.mp hm
  rw [State.waitSet_queues, List.mem_filter, h] at hstuck
  exact Bool.false_ne_true hstuck.2

end Members

/-! ### Freezing -/

/-- R330: what a member of a wait set makes of a command of its queue: the one of its sequence number freezes. -/
def State.freezeCmd (s : State) (w : Waiter) (c : Cmd) : Cmd :=
  if s.expectedSeq w.1 c.idx = w.2.2.1 then { c with frozen := true } else c

theorem State.freezeCmd_phase (s : State) (w : Waiter) (c : Cmd) : (s.freezeCmd w c).phase = c.phase := by
  unfold State.freezeCmd
  split
  · rfl
  · rfl

/-- R330: the queue of a member is held, and its command freezes. -/
def State.freeze (s : State) (w : Waiter) : State :=
  (s.modQueue w.1 fun r => { r with cmds := r.cmds.map (s.freezeCmd w) }).setQState w.1 3 St.deadlock

section Freeze
variable {s : State} (w : Waiter)

theorem State.freeze_queues : (s.freeze w).queues = (s.modQueue w.1 fun r => { r with cmds := r.cmds.map (s.freezeCmd w) }).queues :=
  State.setQState_queues ..

theorem State.freeze_regs : (s.freeze w).regs = s.regs := (State.setCtx_regs ..).trans (State.setCtx_regs ..)
theorem State.freeze_grade : (s.freeze w).grade = s.grade := (State.setCtx_grade ..).trans (State.setCtx_grade ..)

theorem State.freeze_keepsFld (f : RegField) : KeepsFld f s (s.freeze w) := .of_regs (State.freeze_grade w) (State.freeze_regs w)

theorem State.freeze_ctxStands {p : Nat} (h : p ≠ w.1) : CtxStands p 64 s (s.freeze w) :=
  (CtxStands.of_mem rfl).trans (State.setQState_ctxStands_ne _ h le_rfl 3 St.deadlock)

end Freeze

/-- From `s` to `t` the records of the queues keep rising keys, and the commands of each their phases. -/
def PhasesStand (s t : State) : Prop :=
  Sparse.sorted s.queues = true →
    Sparse.sorted t.queues = true ∧ ∀ q, (t.queue q).cmds.map (·.phase) = (s.queue q).cmds.map (·.phase)

theorem PhasesStand.trans {s t u : State} (h : PhasesStand s t) (k : PhasesStand t u) : PhasesStand s u := fun hs =>
  ⟨(k (h hs).1).1, fun q => ((k (h hs).1).2 q).trans ((h hs).2 q)⟩

theorem PhasesStand.of_queues {s t : State} (h : t.queues = s.queues) : PhasesStand s t := fun hs =>
  ⟨h ▸ hs, fun q => by rw [State.queue_congr h]⟩

/-- From `s` to `t` queue `p` stays: its record and its context. -/
structure QueueStands (p : Nat) (s t : State) : Prop where
  record : Sparse.sorted s.queues = true → Sparse.sorted t.queues = true ∧ t.queue p = s.queue p
  context : CtxStands p 64 s t

theorem QueueStands.refl (p : Nat) (s : State) : QueueStands p s s := ⟨fun hs => ⟨hs, rfl⟩, .refl s⟩

theorem QueueStands.trans {p : Nat} {s t u : State} (h : QueueStands p s t) (k : QueueStands p t u) : QueueStands p s u :=
  ⟨fun hs => ⟨(k.record (h.record hs).1).1, (k.record (h.record hs).1).2.trans (h.record hs).2⟩, h.context.trans k.context⟩

theorem QueueStands.of_queues {p : Nat} {s t : State} (h : t.queues = s.queues) (hc : CtxStands p 64 s t) : QueueStands p s t :=
  ⟨fun hs => ⟨h ▸ hs, State.queue_congr h p⟩, hc⟩

theorem State.freeze_phasesStand (s : State) (w : Waiter) : PhasesStand s (s.freeze w) := fun hs => by
  refine ⟨?_, fun q => ?_⟩
  · rw [State.freeze_queues]
    exact State.sorted_modQueue hs ..
  · rw [State.queue_congr (State.freeze_queues w), State.queue_modQueue hs]
    split
    next hq =>
      subst hq
      rw [List.map_map]
      exact List.map_congr_left fun c _ => s.freezeCmd_phase w c
    next => rfl

theorem State.freeze_queueStands (s : State) (w : Waiter) {p : Nat} (h : p ≠ w.1) : QueueStands p s (s.freeze w) where
  record hs := ⟨(s.freeze_phasesStand w hs).1,
    (State.queue_congr (State.freeze_queues w) p).trans (State.queue_modQueue_ne hs h _)⟩
  context := State.freeze_ctxStands w h

/-- R330: the queues of a wait set freeze. -/
def State.freezeAll (s : State) (ws : List (Waiter)) : State := ws.foldl State.freeze s

theorem State.freezeAll_phasesStand (s : State) (ws : List (Waiter)) : PhasesStand s (s.freezeAll ws) :=
  List.foldlRecOn ws State.freeze (PhasesStand.of_queues rfl) fun u hu w _ => hu.trans (u.freeze_phasesStand w)

theorem State.freezeAll_sorted_mem {s : State} (h : Sparse.sorted s.mem = true) (ws : List (Waiter)) :
    Sparse.sorted (s.freezeAll ws).mem = true :=
  List.foldlRecOn (motive := fun u : State => Sparse.sorted u.mem = true) ws State.freeze h fun _ hu _ _ =>
    State.sorted_setQState (s := State.modQueue ..) hu ..

theorem State.freezeAll_keepsFld (f : RegField) (s : State) (ws : List (Waiter)) : KeepsFld f s (s.freezeAll ws) :=
  .foldl (fun _ w => State.freeze_keepsFld w f) ws s

theorem State.freezeAll_queueStands (s : State) {ws : List (Waiter)} {p : Nat} (h : p ∉ ws.map (·.1)) :
    QueueStands p s (s.freezeAll ws) :=
  List.foldlRecOn ws State.freeze (QueueStands.refl p s) fun u hu w hw =>
    hu.trans (u.freeze_queueStands w fun hp => h (List.mem_map.mpr ⟨w, hw, hp.symm⟩))

/-- R330: queue `q` is held in STATE 3 with HOLD_CAUSE DEADLOCK, and its oldest command, that of index `idx`, is frozen. -/
structure State.Frozen (s : State) (q : Nat) (idx : W32) : Prop where
  state : s.qState q = 3
  cause : s.qHoldCause q = St.deadlock
  head : ∃ c, (s.queue q).cmds.head? = some c ∧ c.idx = idx ∧ c.frozen = true

theorem State.Frozen.stands {s t : State} {q : Nat} {idx : W32} (h : s.Frozen q idx) (hm : Sparse.sorted s.mem = true)
    (hq : Sparse.sorted s.queues = true) (k : QueueStands q s t) : t.Frozen q idx where
  state := ((k.context hm).2 56 1 (by decide)).trans h.state
  cause := ((k.context hm).2 57 1 (by decide)).trans h.cause
  head := by
    rw [(k.record hq).2]
    exact h.head

/-- R330: the member of a queue freezes it with its oldest command. -/
theorem State.freeze_frozen {s : State} (hm : Sparse.sorted s.mem = true) (hq : Sparse.sorted s.queues = true) {c : Cmd}
    {w : Waiter} (hc : (s.queue w.1).cmds.head? = some c) (hw : w.2.2.1 = s.expectedSeq w.1 c.idx) :
    (s.freeze w).Frozen w.1 c.idx where
  state := State.qState_setQState (s := s.modQueue ..) hm ..
  cause := State.qHoldCause_setQState (s := s.modQueue ..) hm ..
  head := by
    rw [State.queue_congr (State.freeze_queues w), State.queue_modQueue_same hq, List.head?_map, hc]
    have hfrozen : s.freezeCmd w c = { c with frozen := true } := if_pos hw.symm
    exact ⟨_, congrArg some hfrozen, rfl, rfl⟩

/-- R330: every member of a wait set, of queues that differ, freezes its queue. -/
theorem State.freezeAll_frozen {s : State} (hm : Sparse.sorted s.mem = true) (hq : Sparse.sorted s.queues = true)
    {ws : List (Waiter)} (hnodup : (ws.map (·.1)).Nodup) {c : Cmd} {w : Waiter} (hmem : w ∈ ws)
    (hc : (s.queue w.1).cmds.head? = some c) (hw : w.2.2.1 = s.expectedSeq w.1 c.idx) : (s.freezeAll ws).Frozen w.1 c.idx := by
  obtain ⟨before, after, rfl⟩ := List.append_of_mem hmem
  rw [List.map_append, List.map_cons, List.nodup_middle, List.nodup_cons, List.mem_append, not_or] at hnodup
  obtain ⟨⟨hbefore, hafter⟩, -⟩ := hnodup
  have hsplit : s.freezeAll (before ++ w :: after) = ((s.freezeAll before).freeze w).freezeAll after := List.foldl_append
  have first := s.freezeAll_queueStands hbefore
  obtain ⟨hm1, hctx⟩ := first.context hm
  obtain ⟨hq1, hrecord⟩ := first.record hq
  have hseq : (s.freezeAll before).expectedSeq w.1 c.idx = s.expectedSeq w.1 c.idx :=
    congrArg (BitVec.ofNat 32 · + c.idx) (hctx 48 4 (by decide))
  have frozen := State.freeze_frozen hm1 hq1 (by rwa [hrecord]) (hw.trans hseq.symm)
  rw [hsplit]
  exact frozen.stands (State.freezeAll_sorted_mem hm1 [w]) (State.freeze_phasesStand _ w hq1).1
    (State.freezeAll_queueStands _ hafter)

end Sys2Proof.Machine
end

section
/-!
What a deadlock leaves (R329 to R331), and O42.
-/
namespace Sys2Proof.Machine

/-! ### The record and the detection -/

/-- R331: the bytes of a deadlock record. -/
def State.deadlockRecord (s : State) (ws : List (Waiter)) : Bytes :=
  leBytes 4 (min 255 ws.length) ++ leBytes 4 0 ++ leBytes 8 (s.fld TelIntervalCnt.count) ++
    (ws.take 255).flatMap fun w => deadlockEntry w.1 w.2.1 w.2.2.1 w.2.2.2

theorem State.deadlockRecord_length (s : State) (ws : List (Waiter)) : (s.deadlockRecord ws).length ≤ 4096 := by
  have entries : ((ws.take 255).flatMap fun w => deadlockEntry w.1 w.2.1 w.2.2.1 w.2.2.2).length = (ws.take 255).length * 16 := by
    rw [List.length_flatMap]
    simp [deadlockEntry, leBytes_length]
  unfold State.deadlockRecord
  rw [List.length_append, entries, List.length_take]
  simp only [List.length_append, leBytes_length]
  omega

/-- R331: the record is written in its area. -/
def State.recordDeadlock (s : State) (bs : Bytes) : State := (s.clearRaw (areaBase 9) 4096).setRaw (areaBase 9) bs

/-- R330, R331: the wait set freezes; the record, QDIR.DL_STATUS and the detection follow. -/
theorem State.deadlock_eq (s : State) (wait : List (Waiter)) (q : Option Nat) (inj : Bool) :
    let ws := waitsByQueue wait
    s.deadlock wait q inj = ((((s.freezeAll ws).recordDeadlock (s.deadlockRecord ws)).setFld QdirDlStatus.detected 1).setFld
      QdirDlStatus.count (min 255 ws.length)).detectWith 0x10 St.deadlock q 0 inj 0x07 (min 255 ws.length) := rfl

theorem State.clearRaw_ctxStands {p n : Nat} (s : State) {a len : Nat} (h : ctxBase + 64 * p + n ≤ a ∨ a + len ≤ ctxBase + 64 * p) :
    CtxStands p n s (s.clearRaw a len) :=
  .of_rawByte (fun hs => Sparse.sorted_filter _ hs) fun x _ _ _ =>
    Sparse.get_filter (p := fun k => !(a ≤ k && k < a + len)) (by simp; omega) s.mem

section Report
variable {s : State} {f : RegField}

theorem State.recordDeadlock_queueStands {p : Nat} (hp : p < 1048576) {bs : Bytes} (hb : bs.length ≤ 4096) :
    QueueStands p s (s.recordDeadlock bs) := by
  have area : areaBase 9 = ctxBase + 0x85B0000 := rfl
  refine .of_queues (State.setRaw_queues ..) ((s.clearRaw_ctxStands ?_).trans (State.setRaw_ctxStands _ ?_))
  · omega
  · omega

theorem State.recordDeadlock_queues (bs : Bytes) : (s.recordDeadlock bs).queues = s.queues := by
  rw [State.recordDeadlock, State.setRaw_queues]
  rfl

theorem State.recordDeadlock_keepsFld (bs : Bytes) : KeepsFld f s (s.recordDeadlock bs) :=
  .of_regs (State.setRaw_grade ..) (State.setRaw_regs ..)

theorem State.setReg_queueStands (p : Nat) (r : Reg) (v : Nat) : QueueStands p s (s.setReg r v) := .of_queues rfl (.of_mem rfl)

theorem State.event_queueStands {p : Nat} (hp : p < 1048576) (code inst : Nat) : QueueStands p s (s.event code inst) :=
  .of_queues (s.event_reported code inst).queues (s.event_ctxStands hp le_rfl code inst)

/-- R517: the two events of one instant come in the order that is drawn. -/
theorem State.eventPair_eq (s : State) (c1 i1 c2 i2 : Nat) :
    let u : State := { s with draws := s.draws + 1 }
    s.eventPair c1 i1 c2 i2 = (u.event c1 i1).event c2 i2 ∨ s.eventPair c1 i1 c2 i2 = (u.event c2 i2).event c1 i1 := by
  unfold State.eventPair
  dsimp only
  split
  · exact .inl rfl
  · exact .inr rfl

theorem State.eventPair_queueStands {p : Nat} (hp : p < 1048576) (c1 i1 c2 i2 : Nat) : QueueStands p s (s.eventPair c1 i1 c2 i2) := by
  have drawn : QueueStands p s { s with draws := s.draws + 1 } := .of_queues rfl (.of_mem rfl)
  have pair : ∀ a i b j, QueueStands p s ((State.event { s with draws := s.draws + 1 } a i).event b j) := fun _ _ _ _ =>
    (drawn.trans (State.event_queueStands hp _ _)).trans (State.event_queueStands hp _ _)
  rcases s.eventPair_eq c1 i1 c2 i2 with h | h
  · exact h ▸ pair c1 i1 c2 i2
  · exact h ▸ pair c2 i2 c1 i1

theorem State.eventPair_queues (c1 i1 c2 i2 : Nat) : (s.eventPair c1 i1 c2 i2).queues = s.queues := by
  have pair : ∀ a i b j, ((State.event { s with draws := s.draws + 1 } a i).event b j).queues = s.queues := fun _ _ _ _ =>
    (State.event_reported ..).queues.trans (State.event_reported ..).queues
  rcases s.eventPair_eq c1 i1 c2 i2 with h | h
  · exact h ▸ pair c1 i1 c2 i2
  · exact h ▸ pair c2 i2 c1 i1

theorem State.eventPair_keepsFld (h : Reg.offset f.reg ≠ Reg.offset .telEvtStatus) (c1 i1 c2 i2 : Nat) :
    KeepsFld f s (s.eventPair c1 i1 c2 i2) := by
  have drawn : KeepsFld f s { s with draws := s.draws + 1 } := .of_regs rfl rfl
  have pair : ∀ a i b j, KeepsFld f s ((State.event { s with draws := s.draws + 1 } a i).event b j) := fun _ _ _ _ =>
    (drawn.trans (State.event_keepsFld h _ _ _)).trans (State.event_keepsFld h _ _ _)
  rcases s.eventPair_eq c1 i1 c2 i2 with e | e
  · exact e ▸ pair c1 i1 c2 i2
  · exact e ▸ pair c2 i2 c1 i1

/-- R412: what a detection with a further event writes beside the events. -/
theorem State.detectWith_eq (s : State) (det status : Nat) (q : Option Nat) (inst : Nat) (inj : Bool) (code cinst : Nat) :
    ∃ v e, s.detectWith det status q inst inj code cinst = (s.setReg .glbErrLast v).eventPair 0x03 e code cinst := ⟨_, _, rfl⟩

theorem State.detectWith_queues (s : State) (det status : Nat) (q : Option Nat) (inst : Nat) (inj : Bool) (code cinst : Nat) :
    (s.detectWith det status q inst inj code cinst).queues = s.queues := by
  obtain ⟨v, e, h⟩ := s.detectWith_eq det status q inst inj code cinst
  rw [h, State.eventPair_queues, State.setReg_queues]

theorem State.detectWith_queueStands {s : State} {p : Nat} (hp : p < 1048576) (det status : Nat) (q : Option Nat) (inst : Nat)
    (inj : Bool) (code cinst : Nat) : QueueStands p s (s.detectWith det status q inst inj code cinst) := by
  obtain ⟨v, e, h⟩ := s.detectWith_eq det status q inst inj code cinst
  rw [h]
  exact (State.setReg_queueStands p _ v).trans (State.eventPair_queueStands hp _ _ _ _)

theorem State.detectWith_keepsFld {f : RegField} (hl : Reg.offset f.reg ≠ Reg.offset .glbErrLast)
    (he : Reg.offset f.reg ≠ Reg.offset .telEvtStatus) (s : State) (det status : Nat) (q : Option Nat) (inst : Nat) (inj : Bool)
    (code cinst : Nat) : KeepsFld f s (s.detectWith det status q inst inj code cinst) := by
  obtain ⟨v, e, h⟩ := s.detectWith_eq det status q inst inj code cinst
  rw [h]
  exact (State.setReg_keepsFld hl s v).trans (State.eventPair_keepsFld he _ _ _ _)

end Report

/-- R331: what follows the freezing: the record, QDIR.DL_STATUS and the detection. -/
def State.reportDeadlock (s : State) (bs : Bytes) (q : Option Nat) (inj : Bool) (n : Nat) : State :=
  (((s.recordDeadlock bs).setFld QdirDlStatus.detected 1).setFld QdirDlStatus.count n).detectWith 0x10 St.deadlock q 0 inj 0x07 n

section Report
variable {s : State} (bs : Bytes) (q : Option Nat) (inj : Bool) (n : Nat)

theorem State.reportDeadlock_queueStands {p : Nat} (hp : p < 1048576) (hb : bs.length ≤ 4096) :
    QueueStands p s (s.reportDeadlock bs q inj n) :=
  (((State.recordDeadlock_queueStands hp hb).trans (State.setReg_queueStands p _ _)).trans (State.setReg_queueStands p _ _)).trans
    (State.detectWith_queueStands hp _ _ _ _ _ _ _)

theorem State.reportDeadlock_queues : (s.reportDeadlock bs q inj n).queues = s.queues := by
  unfold State.reportDeadlock
  rw [State.detectWith_queues, State.setFld_queues, State.setFld_queues, State.recordDeadlock_queues]

/-- R331: DETECTED is 1 and COUNT the number of members. -/
theorem State.reportDeadlock_shown (hs : Sparse.sorted s.regs = true) :
    (s.reportDeadlock bs q inj n).fld QdirDlStatus.detected = 1 ∧
      (s.reportDeadlock bs q inj n).fld QdirDlStatus.count = n % 256 := by
  have hrec : Sparse.sorted (s.recordDeadlock bs).regs = true :=
    (State.recordDeadlock_keepsFld (f := QdirDlStatus.count) bs hs).1
  have hdet : Sparse.sorted ((s.recordDeadlock bs).setFld QdirDlStatus.detected 1).regs = true := State.sorted_setFld hrec _ _
  have after : ∀ f : RegField, f.reg = .qdirDlStatus → ∀ u : State, KeepsFld f u (u.detectWith 0x10 St.deadlock q 0 inj 0x07 n) :=
    fun f hf u => u.detectWith_keepsFld (by rw [hf]; decide) (by rw [hf]; decide) _ _ _ _ _ _ _
  have hcount := State.sorted_setFld hdet QdirDlStatus.count n
  refine ⟨(after _ rfl _ hcount).2.trans ?_, (after _ rfl _ hcount).2.trans (State.fld_setFld hdet (by decide) (by decide) n)⟩
  exact (State.setFld_keepsFld (.inr (by decide)) _ n hdet).2.trans (State.fld_setFld hrec (by decide) (by decide) 1)

end Report

/-- R329, R330: with nothing armed, a flag wait whose conditions hold freezes its wait set and is reported. -/
theorem State.doQuiescence_deadlock {s : State} (hi : s.injections = []) (h : s.flagStuck = true) :
    ∃ bs who, bs.length ≤ 4096 ∧
      s.doQuiescence = (s.freezeAll s.members).reportDeadlock bs who false (min 255 s.members.length) :=
  ⟨_, _, s.deadlockRecord_length s.members, ((State.doQuiescence_nil hi).trans (if_pos h)).trans (s.deadlock_eq ..)⟩

/-- Settles O42: the members of the wait set freeze their queues, each with its FLAG_WAIT; what is reported leaves the queues alone. -/
theorem deadlockFreezesTheWaitSet : Obligations.DeadlockFreezesTheWaitSet := by
  intro s hs hi hnums ⟨q₀, c₀, hstuck⟩ hidle hquiet harrive
  have hmem : Sparse.sorted s.mem = true := (Sparse.wf_iff.mp hs.mem).1
  have hflag : s.flagStuck = true :=
    State.flagStuck_iff.mpr ⟨List.ne_nil_of_mem (State.mem_waitSet hstuck), hidle, .inl hquiet, harrive⟩
  obtain ⟨bs, who, hbs, hrow⟩ := State.doQuiescence_deadlock hi hflag
  obtain ⟨hqueues, hphases⟩ := s.freezeAll_phasesStand s.members hs.queues
  have hregs := (State.freezeAll_keepsFld QdirDlStatus.count s s.members hs.regs.1).1
  obtain ⟨hdetected, hcount⟩ := State.reportDeadlock_shown bs who false (min 255 s.members.length) hregs
  have reported : ∀ q, q < 1048576 → QueueStands q (s.freezeAll s.members) _ := fun q hq =>
    State.reportDeadlock_queueStands bs who false (min 255 s.members.length) hq hbs
  refine ⟨_, congrArg Host.Outcome.next hrow, fun q c hc => ?frozen, fun q hq hc => ?others, hdetected, ?count, fun q => ?phases⟩
  case frozen =>
    have hhead := State.head_of_stuckWait hc
    have hq : q < 1048576 := hnums q (State.mem_queueNums (List.mem_of_head? hhead))
    have hmember := (State.members_perm hs.queues).mem_iff.mpr (State.mem_waitSet hc)
    have frozen := State.freezeAll_frozen hmem hs.queues (State.members_nodup hs.queues) hmember hhead rfl
    obtain ⟨hstate, hcause, hfirst⟩ := frozen.stands (State.freezeAll_sorted_mem hmem _) hqueues (reported q hq)
    exact ⟨hstate, hcause, hfirst⟩
  case others =>
    have stays := s.freezeAll_queueStands (State.notMem_members hs.queues hc)
    obtain ⟨-, hkeeps⟩ := (stays.trans (reported q hq)).context hmem
    exact ⟨hkeeps 56 1 (by decide), hkeeps 57 1 (by decide)⟩
  case count => rw [hcount, State.members_length hs.queues, Nat.mod_eq_of_lt (by omega)]
  case phases =>
    rw [State.queue_congr (State.reportDeadlock_queues ..)]
    exact hphases q

end Sys2Proof.Machine
end

section
/-!
What stands of a step that has begun (R319, R430 to R435): its record, the attempts of the steps and CXL.AGE_CLOCK. The header that
opens a generation leaves all of it alone, and so do the ends of commands with OK.
-/
namespace Sys2Proof.Machine

/-- From `s` to `t` neither the record of the step nor the attempts change, and CXL.AGE_CLOCK reads as before. -/
structure BeginStands (s t : State) : Prop where
  step : t.step = s.step
  attempts : t.attempts = s.attempts
  clock : KeepsFld CxlAgeClock.count s t

namespace BeginStands
variable {s t u : State}

theorem trans (h : BeginStands s t) (k : BeginStands t u) : BeginStands s u :=
  ⟨k.step.trans h.step, k.attempts.trans h.attempts, h.clock.trans k.clock⟩

/-- A change of other state. -/
theorem of_eq (hs : t.step = s.step) (ha : t.attempts = s.attempts) (hg : t.grade = s.grade) (hr : t.regs = s.regs) :
    BeginStands s t := ⟨hs, ha, .of_regs hg hr⟩

theorem refl (s : State) : BeginStands s s := of_eq rfl rfl rfl rfl

theorem ite {c : Prop} [Decidable c] (h : BeginStands s t) (k : BeginStands s u) : BeginStands s (if c then t else u) := by
  split
  · exact h
  · exact k

theorem foldl {α : Type} {f : State → α → State} (hf : ∀ u x, BeginStands u (f u x)) (l : List α) (s : State) :
    BeginStands s (l.foldl f s) :=
  List.foldlRecOn l f (refl s) fun u hu x _ => hu.trans (hf u x)

/-- A pass that collects an answer beside the state. -/
theorem foldl_snd {α β : Type} {f : β × State → α → β × State} (hf : ∀ b x, BeginStands b.2 (f b x).2) (l : List α)
    (b : β) (s : State) : BeginStands s (l.foldl f (b, s)).2 :=
  List.foldlRecOn (motive := fun c : β × State => BeginStands s c.2) l f (refl s) fun c hc x _ => hc.trans (hf c x)

end BeginStands

section Writes
variable (s : State)

theorem State.setReg_beginStands {r : Reg} (v : Nat) (h : Reg.offset .cxlAgeClock ≠ Reg.offset r := by decide) :
    BeginStands s (s.setReg r v) := ⟨rfl, rfl, State.setReg_keepsFld h s v⟩

theorem State.setFld_beginStands {g : RegField} (v : Nat) (h : Reg.offset .cxlAgeClock ≠ Reg.offset g.reg := by decide) :
    BeginStands s (s.setFld g v) := s.setReg_beginStands _ h

theorem State.setRaw_beginStands (p : Nat) (bs : Bytes) : BeginStands s (s.setRaw p bs) :=
  .of_eq (s.setRaw_step p bs) (s.setRaw_attempts p bs) (s.setRaw_grade p bs) (s.setRaw_regs p bs)

theorem State.raiseIbi_beginStands (code : Nat) : BeginStands s (s.raiseIbi code) := .ite (.of_eq rfl rfl rfl rfl) (.refl s)

theorem State.event_beginStands (code inst : Nat) : BeginStands s (s.event code inst) := by
  have full : BeginStands s ((s.setFld TelEvtStatus.lost 1).satFld TelEvtStatus.lostCount 1) :=
    (s.setFld_beginStands 1).trans (State.setFld_beginStands _ _)
  have written : ∀ p bs v, BeginStands s ((s.setRaw p bs).setFld TelEvtStatus.tail v) := fun p bs v =>
    (s.setRaw_beginStands p bs).trans (State.setFld_beginStands _ v)
  have disarmed : ∀ u i, BeginStands u { u with i3c := i } := fun _ _ => .of_eq rfl rfl rfl rfl
  unfold State.event
  exact .ite full (.ite (((written _ _ _).trans (disarmed _ _)).trans (State.raiseIbi_beginStands _ _)) (written _ _ _))

theorem State.count_beginStands (num inst n : Nat) : BeginStands s (s.count num inst n) := by
  have counted : ∀ x, BeginStands s { s with counters := x } := fun _ => .of_eq rfl rfl rfl rfl
  unfold State.count
  exact .ite (counted _) (.ite (counted _) ((counted _).trans (State.event_beginStands _ _ _)))

theorem State.detect_beginStands (det status : Nat) (q : Option Nat) (inst : Nat) (inj : Bool) :
    BeginStands s (s.detect det status q inst inj) := (s.setReg_beginStands _).trans (State.event_beginStands _ _ _)

theorem State.endOk_beginStands (q : Nat) (idx : W32) : BeginStands s (s.endOk q idx) := .of_eq rfl rfl rfl rfl

theorem State.evalFlags_beginStands : BeginStands s s.evalFlags :=
  .foldl (fun u _ => .foldl (fun v _ => .ite (v.endOk_beginStands _ _) (.refl v)) _ u) _ s

end Writes

/-! ### What an access meets (R49, R273, R411, R414) -/

/-- The registers of cores stand apart from CXL.AGE_CLOCK. -/
theorem ageClock_apart_coreStatus (n : Nat) : Reg.offset .cxlAgeClock ≠ Reg.offset (.coreStatus n) := by
  simp only [Reg.offset]
  omega

section Meets
variable (s : State)

theorem State.fire_beginStands (det inst : Nat) (addrs : Nat → Bool) : BeginStands s (s.fire det inst addrs).2 := by
  have rest : ∀ x, BeginStands s { s with injections := x } := fun _ => .of_eq rfl rfl rfl rfl
  unfold State.fire
  dsimp only
  split
  · split
    · exact rest _
    · exact ((rest _).trans (State.setFld_beginStands (g := InjStatus.fired) _ _)).trans (State.setFld_beginStands _ _)
  · exact .refl s

theorem State.setFlips_beginStands (p n : Nat) : BeginStands s (s.setFlips p n) := .of_eq rfl rfl rfl rfl
theorem State.corrected_beginStands : BeginStands s s.corrected := .of_eq rfl rfl rfl rfl
theorem State.setCart_beginStands (c : Nat) (x : Cart) : BeginStands s (s.setCart c x) := .of_eq rfl rfl rfl rfl

theorem State.loseCart_beginStands (c : Nat) : BeginStands s (s.loseCart c) :=
  .ite (.refl s) (((s.setCart_beginStands _ _).trans (State.setFld_beginStands (g := CxlPoolStatus.lost) _ 1)).trans
    (.of_eq rfl rfl rfl rfl))

theorem State.tierStalled_beginStands (q : Option Nat) (port : Nat) (inj : Bool) : BeginStands s (s.tierStalled q port inj) :=
  have slower : ∀ (u : State) (h : Health), BeginStands u { u with health := h } := fun _ _ => .of_eq rfl rfl rfl rfl
  ((s.detect_beginStands _ _ _ _ _).trans (State.count_beginStands _ _ _ _)).trans (slower _ _)

theorem State.cartMeets_beginStands (o : Owner) (k a len : Nat) : BeginStands s (s.cartMeets o k a len).2 := by
  have aborted : ∀ u : State, BeginStands u (u.setFld CxlPoolStatus.aborted 1) := fun u => u.setFld_beginStands 1
  unfold State.cartMeets
  dsimp only
  split
  · exact .refl s
  split
  · exact aborted s
  split
  · have met := s.fire_beginStands 0x0A (frameStack (s.cart (s.headOf k)).frameA) fun x => a ≤ x && x < a + len
    split
    · split
      · exact met.trans (State.loseCart_beginStands _ k)
      · exact met.trans (State.corrected_beginStands _)
    · exact met
  · have met := s.fire_beginStands 0x0B (framePlace (s.cart (s.headOf k)).frameA - 1) fun _ => true
    split
    · exact met.trans (aborted _)
    · have late := met.trans (State.fire_beginStands _ 0x0C (framePlace (s.cart (s.headOf k)).frameA - 1) fun _ => true)
      split
      · exact late.trans (State.tierStalled_beginStands _ _ _ _)
      · exact late

theorem State.scratchMeets_beginStands (a len : Nat) : BeginStands s (s.scratchMeets a len).2 := by
  unfold State.scratchMeets
  dsimp only
  split
  · exact .refl s
  · refine BeginStands.trans ?flipped (.foldl_snd (fun acc w => ?word) _ _ _)
    case flipped =>
      split
      · exact s.fire_beginStands _ _ _
      · exact (s.fire_beginStands _ _ _).trans (State.setFlips_beginStands _ _ _)
    case word =>
      split
      · exact ((acc.2.setFlips_beginStands _ _).trans (State.count_beginStands _ _ _ _)).trans (State.corrected_beginStands _)
      · exact acc.2.setFld_beginStands 1 (ageClock_apart_coreStatus _)

theorem State.reservedMeets_beginStands (o : Owner) (a len : Nat) : BeginStands s (s.reservedMeets o a len).2 := by
  unfold State.reservedMeets
  dsimp only
  split
  · exact .refl s
  · refine BeginStands.trans ?flipped (.foldl_snd (fun acc w => ?word) _ _ _)
    case flipped =>
      split
      · exact s.fire_beginStands _ _ _
      · exact (s.fire_beginStands _ _ _).trans (State.setFlips_beginStands _ _ _)
    case word =>
      split
      · exact (acc.2.setFlips_beginStands _ _).trans (State.corrected_beginStands _)
      · exact acc.2.detect_beginStands _ _ _ _ _

theorem State.copyAccess_beginStands (a len : Nat) : BeginStands s (s.copyAccess a len).2 := by
  unfold State.copyAccess
  dsimp only
  refine ((BeginStands.foldl_snd (fun acc k => ?cart) _ true s).trans (State.reservedMeets_beginStands _ _ _ _)).trans
    (.foldl_snd (fun acc part => ?scratch) _ _ _)
  case cart =>
    have met := acc.2.cartMeets_beginStands .nobody k a len
    split
    · exact met.trans (State.detect_beginStands _ _ _ _ _ _)
    · exact met
  case scratch =>
    exact (acc.2.scratchMeets_beginStands _ _).trans
      (.foldl_snd (fun found _ => found.2.detect_beginStands _ _ _ _ _) _ _ _)

end Meets

/-! ### Writes of memory and moves between the tiers (R227, R266, R270, R351) -/

section Memory
variable (s : State)

theorem State.setMem_beginStands (m : List Host.Cell) : BeginStands s { s with mem := m } := .of_eq rfl rfl rfl rfl
theorem State.clearRaw_beginStands (p len : Nat) : BeginStands s (s.clearRaw p len) := s.setMem_beginStands _
theorem State.setRawByte_beginStands (p : Nat) (b : Byte) : BeginStands s (s.setRawByte p b) := s.setMem_beginStands _

theorem State.writeByte_beginStands (a : Nat) (b : Byte) : BeginStands s (s.writeByte a b) :=
  .ite (.ite ((s.setRawByte_beginStands _ b).trans (State.setRawByte_beginStands _ _ b)) (.refl s))
    (.ite (.refl s) (s.setRawByte_beginStands a b))

theorem State.clearRange_beginStands (a len : Nat) : BeginStands s (s.clearRange a len) :=
  .foldl (fun u _ => .ite
    (.ite ((u.clearRaw_beginStands _ _).trans (State.clearRaw_beginStands _ _ _)) (.refl u)) (u.setMem_beginStands _)) _ s

theorem State.performRange_beginStands (w : RangeWrite) : BeginStands s (s.performRange w) :=
  ((s.clearRange_beginStands _ _).trans (.foldl (fun u _ => u.writeByte_beginStands _ _) _ _)).trans
    (.ite (.of_eq rfl rfl rfl rfl) (.refl _))

theorem State.moveToCxl_beginStands (h : Nat) : BeginStands s (s.moveToCxl h) := by
  unfold State.moveToCxl
  refine .ite ?_ (.refl s)
  split
  · exact .of_eq rfl rfl rfl rfl
  · exact .refl s

theorem State.lowerRange_beginStands (a len : Nat) : BeginStands s (s.lowerRange a len) :=
  .foldl (fun u _ => u.moveToCxl_beginStands _) _ s

theorem State.switchHome_beginStands (h : Nat) : BeginStands s (s.switchHome h) := by
  have moved : ∀ (u : State) m o, BeginStands u { u with migrations := m, oldFrames := o } := fun _ _ _ => .of_eq rfl rfl rfl rfl
  exact ((s.setCart_beginStands _ _).trans (.ite (State.setCart_beginStands _ _ _) (.refl _))).trans (moved _ _ _)

theorem State.setMigrations_beginStands (m : List (Nat × Migration)) : BeginStands s { s with migrations := m } :=
  .of_eq rfl rfl rfl rfl

theorem State.dirty_beginStands (a len : Nat) : BeginStands s (s.dirty a len) :=
  .foldl (fun u _ => .ite (.ite (u.switchHome_beginStands _) (u.setMigrations_beginStands _)) (.refl u)) _ s

end Memory

/-! ### Packets that this device sends (R378, R379, R381) -/

section Packets
variable (s : State)

/-- The registers of Laulo ports stand apart from CXL.AGE_CLOCK. -/
theorem ageClock_apart_lauPortStatus (k : Nat) : Reg.offset .cxlAgeClock ≠ Reg.offset (.lauPortStatus k) := by
  simp only [Reg.offset]
  omega

theorem State.hopDrop_beginStands (k : Nat) : BeginStands s (s.hopDrop k) :=
  .ite ((s.setFld_beginStands 1 (ageClock_apart_lauPortStatus k)).trans (State.count_beginStands _ _ _ _)) (.refl s)

theorem State.originate_beginStands (q : Option Nat) (p : Packet) : BeginStands s (s.originate q p).2 := by
  unfold State.originate
  dsimp only
  split
  · exact .of_eq rfl rfl rfl rfl
  have met := s.fire_beginStands 0x0E (s.egress p.dst) fun _ => true
  have lost : ∀ (u : State) d k inj, BeginStands u ((u.detect 0x0E St.linkLost q d inj).hopDrop k) := fun u _ _ _ =>
    (u.detect_beginStands _ _ _ _ _).trans (State.hopDrop_beginStands _ _)
  split
  · exact met.trans (lost _ _ _ _)
  · split
    · exact met.trans (.of_eq rfl rfl rfl rfl)
    · exact met.trans (lost _ _ _ _)

theorem State.request_beginStands (q : Option Nat) (p : Packet) (owner : ReqOwner) : BeginStands s (s.request q p owner).2 := by
  have sent := s.originate_beginStands q { p with reqId := s.nextReq }
  unfold State.request
  dsimp only
  split
  · exact sent.trans (.of_eq rfl rfl rfl rfl)
  · exact sent

end Packets

/-! ### The header of a generation (R429 to R435) -/

section Generation
variable (s : State)

theorem State.setGen_beginStands (g : Nat) (x : SnapGen) : BeginStands s (s.setGen g x) := .of_eq rfl rfl rfl rfl

theorem State.setArms_beginStands (a b : Option SnapArm) (d : Option (Nat × W32)) :
    BeginStands s { s with snapArm := a, snapNext := b, snapDisarm := d } := .of_eq rfl rfl rfl rfl

theorem State.snapRefresh_beginStands : BeginStands s s.snapRefresh := by
  have set : ∀ (u : State) (f : RegField) (v : Nat), f.reg = .hbmSnapStatus → BeginStands u (u.setFld f v) := fun u f v hf =>
    u.setFld_beginStands v (by rw [hf]; decide)
  exact ((((set _ _ _ rfl).trans (set _ _ _ rfl)).trans (set _ _ _ rfl)).trans (set _ _ _ rfl)).trans (set _ _ _ rfl)

theorem State.genEnded_beginStands : BeginStands s s.genEnded := by
  unfold State.genEnded
  extract_lets s1 s2
  have h1 : BeginStands s s1 := by
    unfold s1
    split
    · exact s.setArms_beginStands _ _ _
    · exact .refl s
  have h2 : BeginStands s1 s2 := by
    unfold s2
    split
    · exact (s1.setArms_beginStands _ _ _).trans (State.endOk_beginStands _ _ _)
    · exact .refl s1
  exact ((h1.trans h2).trans (s2.setFld_beginStands 0)).trans (State.snapRefresh_beginStands _)

theorem State.snapFail_beginStands : BeginStands s s.snapFail := by
  unfold State.snapFail
  split
  · exact .refl s
  · exact (((s.setGen_beginStands _ _).trans (State.setArms_beginStands _ _ _ _)).trans
      (State.setFld_beginStands (g := HbmSnapStatus.fillFail) _ 1)).trans (State.genEnded_beginStands _)

theorem State.putLocal_beginStands (a : SnapArm) (t : SnapTarget) (adr : Nat) (bs : Bytes) :
    BeginStands s (s.putLocal a t adr bs) := by
  unfold State.putLocal
  refine .ite s.snapFail_beginStands ?_
  extract_lets s1 m
  have met : BeginStands s m.2 :=
    BeginStands.trans (.ite (s.lowerRange_beginStands _ _) (.refl s)) (s1.copyAccess_beginStands _ _)
  exact .ite ((met.trans (State.performRange_beginStands _ _)).trans (State.dirty_beginStands _ _ _))
    (met.trans (State.snapFail_beginStands _))

theorem State.snapPut_beginStands (g off : Nat) (bs : Bytes) : BeginStands s (s.snapPut g off bs) := by
  unfold State.snapPut
  split
  · exact .refl s
  · refine .ite (.refl s) (.ite (s.putLocal_beginStands _ _ _ _) (.foldl (fun u i => .ite (.refl u) ?_) _ s))
    dsimp only
    split
    · exact (u.request_beginStands _ _ _).trans (State.setGen_beginStands _ _ _)
    · exact (u.request_beginStands _ _ _).trans (State.snapFail_beginStands _)

end Generation

end Sys2Proof.Machine
end

section
/-!
STEP_BEGIN (R319) of an accepted command, and O43.
-/
namespace Sys2Proof.Machine

/-! ### Pending writes (R319, R351, R354) -/

/-- What the performing of pending writes leaves alone: the attempts of the steps, CXL.AGE_CLOCK and the commands. It may mark a step. -/
structure SettleStands (s t : State) : Prop where
  attempts : t.attempts = s.attempts
  clock : KeepsFld CxlAgeClock.count s t
  commands : CommandsStay s t

namespace SettleStands
variable {s t u : State}

theorem trans (h : SettleStands s t) (k : SettleStands t u) : SettleStands s u :=
  ⟨k.attempts.trans h.attempts, h.clock.trans k.clock, h.commands.trans k.commands⟩

theorem refl (s : State) : SettleStands s s := ⟨rfl, .refl _ s, .of_queues rfl⟩

theorem foldl {α : Type} {f : State → α → State} (hf : ∀ u x, SettleStands u (f u x)) (l : List α) (s : State) :
    SettleStands s (l.foldl f s) :=
  List.foldlRecOn l f (refl s) fun u hu x _ => hu.trans (hf u x)

end SettleStands

theorem BeginStands.settled {s t : State} (h : BeginStands s t) (k : CloseStands s t) : SettleStands s t :=
  ⟨h.attempts, h.clock, k.commands⟩

section Settle
variable (s : State)

theorem State.mark_settleStands (status det : Nat) (cmd : Option (Nat × W32)) (run inj : Bool) :
    SettleStands s (s.mark status det cmd run inj) := by
  unfold State.mark
  split
  · refine ⟨rfl, KeepsFld.trans (.of_regs rfl rfl) (State.setFld_keepsFld (.inl (by decide)) _ _), .of_queues rfl⟩
  · exact .refl s

theorem State.cartAccess_settleStands (q : Nat) (idx : W32) (run : Bool) (k a len : Nat) :
    SettleStands s (s.cartAccess (.command q idx run) k a len).2 := by
  have met := (s.cartMeets_beginStands (.command q idx run) k a len).settled (s.cartMeets_closeStands _ _ _ _)
  have raised : ∀ (u : State) st det inst inj, SettleStands u (u.raise (.command q idx run) st det k k inst inj) :=
    fun u _ _ _ _ => ((u.detect_beginStands _ _ _ _ _).settled (u.detect_closeStands _ _ _ _ _)).trans
      (State.mark_settleStands _ _ _ _ _ _)
  unfold State.cartAccess
  dsimp only
  split
  · exact met.trans (raised _ _ _ _ _)
  · exact met

theorem State.performPart_settleStands (p : PendingWrite) (w : RangeWrite) : SettleStands s (s.performPart p w) := by
  refine .foldl (fun u k => ?_) _ s
  have met := u.cartAccess_settleStands p.q p.idx false k (w.part (k * 65536) 65536).base (w.part (k * 65536) 65536).len
  dsimp only
  split
  · exact (met.trans ((State.performRange_beginStands _ _).settled (State.performRange_closeStands _ _))).trans
      ((State.dirty_beginStands _ _ _).settled (State.dirty_closeStands _ _ _))
  · exact met

theorem State.settle_settleStands (sel : PendingWrite → Bool) : SettleStands s (s.settle sel) :=
  (SettleStands.foldl (fun u p => u.performPart_settleStands p p.write) _ s).trans ⟨rfl, .of_regs rfl rfl, .of_queues rfl⟩

theorem State.settleFor_settleStands (q : Nat) (regions : List Region) : SettleStands s (s.settleFor q regions []) :=
  s.settle_settleStands _

end Settle

/-! ### The state in which an accepted STEP_BEGIN runs -/

/-- A command that starts is one of its queue, and its predecessors' pending writes are performed. -/
theorem State.starts_stepBegin {s u : State} {q : Nat} {c : Cmd} {decl : List Region} {k : Checks} (hk : k.ranges = noRanges)
    (h : s.starts q k = some (c, decl, u)) : s.HasCmd q c.idx ∧ SettleStands s u := by
  unfold State.starts at h
  split at h
  · cases h
  · rename_i c0 hnext
    dsimp only at h
    split at h
    · cases h
      refine ⟨⟨_, List.mem_of_find?_eq_some hnext, rfl⟩, ?_⟩
      rw [hk]
      exact (s.settleFor_settleStands q _).trans (State.settleFor_settleStands _ q _)
    · cases h

/-- A command that names no memory meets none. -/
theorem State.memoryErrors_nil {s : State} {q : Nat} {c : Cmd} : s.memoryErrors q c [] = ([], s) := by
  unfold State.memoryErrors State.meshErrors
  split
  · rfl
  · rfl

/-- R319: an accepted STEP_BEGIN names no memory, so it runs once the pending writes before it are performed and it is dispatched. -/
theorem State.accepts_stepBegin {s t : State} {q : Nat} {c : Cmd} (hs : s.Inv) (h : s.accepts (.stepBegin q) = some (t, c)) :
    Sparse.sorted t.regs = true ∧ Sparse.sorted t.queues = true ∧ t.HasCmd q c.idx := by
  unfold State.accepts at h
  dsimp only [State.checksOf] at h
  split at h
  · cases h
  split at h
  · cases h
  · rename_i c0 decl u hstarts
    obtain ⟨hthere, settled⟩ := State.starts_stepBegin rfl hstarts
    obtain ⟨hqueues, hkeep⟩ := settled.commands hs.queues
    split at h
    · cases h
    split at h
    · cases h
    simp only [noRanges, State.memoryErrors_nil, List.foldl_nil] at h
    obtain ⟨rfl, rfl⟩ := Prod.mk.inj (Option.some.inj h)
    exact ⟨(settled.clock hs.regs.1).1, Sparse.sorted_set hqueues,
      ((hkeep q c0.idx).1 hthere).modCmd (idx := c0.idx) hqueues fun _ => rfl⟩

/-! ### The beginning of the step (R173, R233, R265, R319, R339) -/

/-- What shows a step in progress without a mark. -/
def openWrites : List (RegField × Nat) := [(QdirStepStatus.inProgress, 1), (QdirStepStatus.noCommit, 0)]

/-- What an accepted STEP_BEGIN of step `n` writes, with the age clock at `a`. -/
def beginWrites (n : W32) (a : Nat) : List (RegField × Nat) :=
  (QdirStepStatus.committed, (n - 1).toNat) :: (CxlAgeClock.count, a) :: openWrites

theorem beginWrites_apart (n : W32) (a : Nat) : (beginWrites n a).Pairwise fun x y => x.1.apart y.1 := by
  have h : [QdirStepStatus.committed, CxlAgeClock.count, QdirStepStatus.inProgress, QdirStepStatus.noCommit].Pairwise
      RegField.apart := by
    unfold RegField.apart
    decide
  exact List.pairwise_map.mp (show ((beginWrites n a).map Prod.fst).Pairwise RegField.apart from h)

/-- From `s` to `t` the registers take the writes `ws`; the commands of the queues are as before. -/
structure Wrote (ws : List (RegField × Nat)) (s t : State) : Prop where
  queues : t.queues = s.queues
  grade : t.grade = s.grade
  regs : t.regs = (s.setFlds ws).regs

namespace Wrote
variable {s t u : State} {ws xs : List (RegField × Nat)}

theorem of_eq (hq : t.queues = s.queues) (hg : t.grade = s.grade) (hr : t.regs = s.regs) : Wrote [] s t := ⟨hq, hg, hr⟩

theorem one (f : RegField) (v : Nat) : Wrote [(f, v)] s (s.setFld f v) := ⟨rfl, rfl, rfl⟩

theorem trans (h : Wrote ws s t) (k : Wrote xs t u) : Wrote (ws ++ xs) s u where
  queues := k.queues.trans h.queues
  grade := k.grade.trans h.grade
  regs := by
    rw [k.regs, State.setFlds_append]
    exact State.setFlds_regs_congr (h.grade.trans (State.setFlds_grade s ws).symm) h.regs xs

theorem keepsFld (h : Wrote ws s t) (f : RegField) : KeepsFld f (s.setFlds ws) t :=
  .of_regs (h.grade.trans (State.setFlds_grade s ws).symm) h.regs

end Wrote

/-- The record of a step that begins: with key `key`, no mark, and one attempt more than before. -/
structure StepSt.Begins (x : StepSt) (n : W32) (key : W64) (attempts : List (Nat × Nat)) : Prop where
  runKey : x.runKey = key
  marks : x.marks = []
  attempt : x.attempt = Sparse.get 0 attempts n.toNat + 1

/-- R173, R233: the governor and the groups are copied into the record of the step; the governor's entries stand in memory. -/
theorem State.copied_begins {s : State} {n : W32} {key : W64} {attempts : List (Nat × Nat)} (h : s.step.Begins n key attempts) :
    s.govBegin.copyGroups.step.Begins n key attempts ∧ Wrote [] s s.govBegin.copyGroups := by
  have entry : ∀ (u : State) p x y,
      (((u.setRawNat (p + 4) 1 x).setRawNat (p + 5) 1 y).clearRaw (p + 64) 48).step = u.step ∧
        Wrote [] u (((u.setRawNat (p + 4) 1 x).setRawNat (p + 5) 1 y).clearRaw (p + 64) 48) := fun u p x y => by
    simp only [State.setRawNat]
    rw [State.setRaw_eq, State.setRaw_eq]
    exact ⟨rfl, .of_eq rfl rfl rfl⟩
  unfold State.govBegin
  extract_lets used s1
  obtain ⟨hstep, written⟩ : s1.step = s.step ∧ Wrote [] s s1 :=
    List.foldlRecOn (motive := fun u : State => u.step = s.step ∧ Wrote [] s u) used _ ⟨rfl, .of_eq rfl rfl rfl⟩
      fun u ⟨hu, hw⟩ i _ => ⟨(entry u (govPlace i) _ _).1.trans hu, hw.trans (entry u (govPlace i) _ _).2⟩
  clear_value s1
  rw [← hstep] at h
  exact ⟨⟨h.runKey, h.marks, h.attempt⟩, written.trans (.of_eq rfl rfl rfl)⟩

/-- R265, R339, R405: a record without a mark is shown as the step in progress. -/
theorem State.opened_begins {s : State} {n : W32} {key : W64} {attempts : List (Nat × Nat)} (h : s.step.Begins n key attempts) :
    let u := (s.boundAges.setFld QdirStepStatus.inProgress 1).refreshNoCommit
    u.step.Begins n key attempts ∧ Wrote openWrites s u := by
  intro u
  have hu : u = (s.boundAges.setFld QdirStepStatus.inProgress 1).setFld QdirStepStatus.noCommit 0 :=
    State.refreshNoCommit_unmarked h.marks
  have aged : Wrote [] s s.boundAges := .of_eq rfl rfl rfl
  rw [hu]
  exact ⟨h, (aged.trans (.one _ _)).trans (.one _ _)⟩

/-- R319: what STEP_BEGIN does once the pending writes to home views are performed, in order. -/
theorem State.beginStep_eq {s : State} (hs : Sparse.sorted s.settleHomes.regs = true) (n : W32) (key : W64) :
    ∃ u, u.step.Begins n key s.settleHomes.attempts ∧
      Wrote (beginWrites n (s.settleHomes.fld CxlAgeClock.count + 1)) s.settleHomes u ∧ s.beginStep n key = u.snapBegin n key := by
  unfold State.beginStep
  generalize s.settleHomes = v at hs ⊢
  extract_lets s1 k s2 s3 s4
  have hclock : s2.fld CxlAgeClock.count = v.fld CxlAgeClock.count :=
    (State.setFld_keepsFld (f := CxlAgeClock.count) (g := QdirStepStatus.committed) (.inl (by decide)) v _ hs).2
  have recorded : Wrote [] s1 s2 := .of_eq rfl rfl rfl
  have begins : s2.step.Begins n key v.attempts := ⟨rfl, rfl, rfl⟩
  have committed : Wrote [(QdirStepStatus.committed, (n - 1).toNat)] v s1 := .one _ _
  clear_value s1 s2
  obtain ⟨hcopied, copied⟩ := State.copied_begins begins
  have clocked : Wrote [(CxlAgeClock.count, v.fld CxlAgeClock.count + 1)] s2.govBegin.copyGroups s3 := by
    unfold s3
    rw [hclock]
    exact .one _ _
  have hclocked : s3.step.Begins n key v.attempts := hcopied
  clear_value s3
  obtain ⟨hopened, opened⟩ := State.opened_begins hclocked
  exact ⟨s4, hopened, (((committed.trans recorded).trans copied).trans clocked).trans opened, rfl⟩

/-! ### The header of the generation (R431) -/

theorem State.snapBegin_stands (s : State) (n : W32) (key : W64) :
    BeginStands s (s.snapBegin n key) ∧ CloseStands s (s.snapBegin n key) := by
  have opened : ∀ gens arm keys, BeginStands s { s with gens := gens, snapArm := arm, genKeys := keys } ∧
      CloseStands s { s with gens := gens, snapArm := arm, genKeys := keys } := fun _ _ _ =>
    ⟨.of_eq rfl rfl rfl rfl, .of_eq rfl rfl rfl rfl rfl rfl⟩
  unfold State.snapBegin
  split
  · exact ⟨.refl s, .refl s⟩
  split
  · exact ⟨.refl s, .refl s⟩
  split
  · exact ⟨s.setFld_beginStands 1, s.setFld_closeStands 1⟩
  · dsimp only
    exact ⟨((opened _ _ _).1.trans (State.snapPut_beginStands _ _ _ _)).trans (State.snapRefresh_beginStands _),
      ((opened _ _ _).2.trans (State.snapPut_closeStands _ _ _ _)).trans (State.snapRefresh_closeStands _)⟩

/-- The generation's header, the end of the STEP_BEGIN and the FLAG_WAITs leave the step as it has begun. -/
theorem State.begun_stands {s : State} (hs : Sparse.sorted s.queues = true) (n : W32) (key : W64) (q : Nat) (idx : W32) :
    let u := ((s.snapBegin n key).endOk q idx).evalFlags
    BeginStands s u ∧ CloseStands s u ∧ u.EndedOk q idx := by
  obtain ⟨begins, closes⟩ := s.snapBegin_stands n key
  generalize s.snapBegin n key = v at begins closes
  have hv := (closes.commands hs).1
  have ended := v.endOk_closeStands q idx
  have hw := (ended.commands hv).1
  have waits := (v.endOk q idx).evalFlags_closeStands
  exact ⟨(begins.trans (v.endOk_beginStands q idx)).trans (State.evalFlags_beginStands _), (closes.trans ended).trans waits,
    ((waits.commands hw).2 q idx).2 (v.endOk_endedOk q idx hv)⟩

/-! ### The row -/

/-- What STEP_BEGIN gives the shared operation (R319). -/
def stepBeginRow (q : Nat) : Row where
  want := isOp 0x22
  ranges := noRanges
  errs s c := if !s.closePending && s.beginRefused (stepTag c.entry) then [descErr 0x57 s.committed.toNat] else []
  body s c := s.judgeBegin q c

/-- R319: while no STEP_BEGIN of the queue waits, the row takes the next one. -/
theorem RunsRow.stepBegin (s : State) (q : Nat) : RunsRow (.stepBegin q) s q (stepBeginRow q) where
  checks := rfl
  met := fun _ _ _ => rfl
  exec_eq hq hf := by
    refine congrArg Host.Outcome.next ((if_pos hq).trans ?_)
    rw [Option.isNone_iff_eq_none.mp hf]
    rfl

/-- R319: with no close pending, no walk and nothing that refuses it, a STEP_BEGIN is accepted. -/
theorem State.judgeBegin_accepted {s : State} {q : Nat} {c : Cmd} (hclose : s.closePending = false)
    (hrefuse : s.beginRefused (stepTag c.entry) = false) (hwalk : s.walk = .none) :
    s.judgeBegin q c = (s.beginStep (stepTag c.entry) (BitVec.ofNat 64 (leField c.entry 16 8))).endOk q c.idx := by
  simp only [State.judgeBegin, hclose, hrefuse, hwalk, Bool.false_eq_true, if_false, if_true]

/-- Writes of fields leave the registers' keys rising. -/
theorem State.sorted_setFlds {s : State} (hs : Sparse.sorted s.regs = true) (ws : List (RegField × Nat)) :
    Sparse.sorted (s.setFlds ws).regs = true :=
  List.foldlRecOn (motive := fun u : State => Sparse.sorted u.regs = true) ws _ hs fun _ hu w _ => State.sorted_setFld hu w.1 w.2

section Shown
variable {s t u : State} {n : W32} {a : Nat} (h : Wrote (beginWrites n a) s t) (hs : Sparse.sorted s.regs = true)
include h hs

/-- What an accepted STEP_BEGIN has written reads so as long as its register stands. -/
theorem Wrote.fld {f : RegField} {v : Nat} (hf : KeepsFld f t u) (hw : (f, v) ∈ beginWrites n a) (h1 : f.lo ≤ f.hi)
    (h2 : f.hi < 64) : u.fld f = v % 2 ^ (f.hi + 1 - f.lo) :=
  (((h.keepsFld f).trans hf) (State.sorted_setFlds hs _)).2.trans (State.fld_setFlds (beginWrites_apart n a) hw h1 h2 hs)

theorem Wrote.clock (hf : KeepsFld CxlAgeClock.count t u) : u.fld CxlAgeClock.count = a % 2 ^ 32 :=
  h.fld hs (f := CxlAgeClock.count) hf (by simp [beginWrites]) (by decide) (by decide)

variable (k : CloseStands t u)
include k

theorem Wrote.committed : u.committed = n - 1 := by
  have hfld : u.fld QdirStepStatus.committed = (n - 1).toNat % 2 ^ 32 :=
    h.fld hs (f := QdirStepStatus.committed) (k.fields _ (by decide)) (by simp [beginWrites]) (by decide) (by decide)
  rw [State.committed, hfld, Nat.mod_eq_of_lt (BitVec.isLt _), BitVec.ofNat_toNat, BitVec.setWidth_eq]

theorem Wrote.stepNum : u.stepNum = n := by rw [State.stepNum, h.committed hs k, BitVec.sub_add_cancel]

theorem Wrote.inStep : u.inStep = true :=
  have hfld : u.fld QdirStepStatus.inProgress = 1 :=
    h.fld hs (f := QdirStepStatus.inProgress) (v := 1) (k.fields _ (by decide)) (by simp [beginWrites, openWrites]) (by decide)
      (by decide)
  State.flag_of_fld hfld

theorem Wrote.noCommit : u.flag QdirStepStatus.noCommit = false :=
  have hfld : u.fld QdirStepStatus.noCommit = 0 :=
    h.fld hs (f := QdirStepStatus.noCommit) (v := 0) (k.fields _ (by decide)) (by simp [beginWrites, openWrites]) (by decide)
      (by decide)
  State.flag_of_fld hfld

end Shown

/-- Settles O43: the step begins as it is judged, in the state that its pending writes leave; the header of the generation, the end of
the command and the FLAG_WAITs leave it so. -/
theorem stepBeginOpensTheStep : Obligations.StepBeginOpensTheStep := by
  intro s t q c hs ha hclose hrefuse hwalk
  obtain ⟨hregs, hqueues, hthere⟩ := State.accepts_stepBegin hs ha
  have settled : SettleStands t t.settleHomes := t.settle_settleStands _
  obtain ⟨hsorted, hclock⟩ := settled.clock hregs
  obtain ⟨u, record, wrote, hbegin⟩ :=
    State.beginStep_eq hsorted (stepTag c.entry) (BitVec.ofNat 64 (leField c.entry 16 8))
  have stays : CommandsStay t u := settled.commands.trans (.of_queues wrote.queues)
  have hu := (stays hqueues).1
  obtain ⟨begins, closes, hended⟩ := State.begun_stands hu (stepTag c.entry) (BitVec.ofNat 64 (leField c.entry 16 8)) q c.idx
  have hrow : exec (.stepBegin q) s = .next (t.judgeBegin q c).evalFlags := (RunsRow.stepBegin s q).accepted ha
  rw [State.judgeBegin_accepted hclose hrefuse hwalk, hbegin] at hrow
  generalize (State.endOk _ q c.idx).evalFlags = z at hrow begins closes hended
  obtain ⟨c', hfound, hphase, hstatus⟩ := hended.cmd? (((stays.trans closes.commands hqueues).2 q c.idx).1 hthere)
  refine ⟨z, c', hrow, wrote.inStep hsorted closes, wrote.stepNum hsorted closes, wrote.committed hsorted closes, ?key, ?marks,
    wrote.noCommit hsorted closes, ?clock, ?attempt, hfound, hphase, hstatus⟩
  case key => rw [begins.step, record.runKey]
  case marks => rw [begins.step, record.marks]
  case clock => rw [wrote.clock hsorted begins.clock, hclock]
  case attempt => rw [begins.step, record.attempt, settled.attempts]

end Sys2Proof.Machine
end

section
/-!
One step of the block (R474, R502): it runs the command at the front of its queue, the state after reset meets the invariant and every
step keeps it, and what is fused only advances; O1, O4, O5 and O7. And O3: serial-number arithmetic (R515).
-/
namespace Sys2Proof.Machine

theorem step_of_pending_cons {s : State} {c : Instr} {rest : List Instr} (h : s.pending = c :: rest) :
    step s = exec c { s with pending := rest } := by
  simp [step, h]

/-- Settles O1: the command at the front of the queue runs on the state whose queue is the rest. -/
theorem stepRunsFrontCommand : Obligations.StepRunsFrontCommand :=
  fun _ _ _ => step_of_pending_cons

/-- A steady operation keeps the invariant: it leaves the waiting commands, and the leaf only advances within the fused blocks. -/
theorem Steady.inv {s t : State} (h : Steady s t) (hs : s.Inv) : t.Inv where
  mem := h.mem hs.mem
  regs := h.grade ▸ h.regs hs.regs
  queues := h.queues hs.queues
  sessions := h.sessions hs.sessions
  counters := h.counters hs.counters
  sel := h.sel hs.sel
  carts := h.carts hs.carts
  ver := h.ver hs.ver
  cores := h.cores hs.cores
  droop := h.droop hs.droop
  taps := h.taps hs.taps
  lports := h.lports hs.lports
  gens := h.gens hs.gens
  cxlPorts := h.cxlPorts hs.cxlPorts
  slots := h.slots hs.slots
  migrations := h.migrations hs.migrations
  oldFrames := h.oldFrames hs.oldFrames
  requests := h.requests hs.requests
  lms := (h.lms hs.lms).1
  pending := h.pending ▸ hs.pending

/-- The invariant asks of the waiting commands only that each is well formed. -/
theorem State.Inv.withPending {s : State} (hs : s.Inv) {l : List Instr} (hl : ∀ c ∈ l, c.wf = true) :
    ({ s with pending := l } : State).Inv :=
  { hs with pending := hl }

/-- Settles O5: an idle period and a command are steady, and a command leaves the queue before it runs. -/
theorem stepKeepsInvariant : Obligations.StepKeepsInvariant := by
  intro s t hs h
  rcases hp : s.pending with _ | ⟨c, rest⟩
  · rw [step_of_pending_nil hp] at h
    cases h
    exact (State.idle_steady Steady.rfl).inv hs
  · rw [step_of_pending_cons hp] at h
    refine (exec_steady h).inv (hs.withPending fun d hd => hs.pending d ?_)
    rw [hp]
    exact List.mem_cons_of_mem c hd

/-- Settles O4: after reset memory, registers, maps and the queue are empty, and no leaf is used. -/
theorem resetMeetsInvariant : Obligations.ResetMeetsInvariant where
  mem := rfl
  regs := ⟨rfl, fun _ he => absurd he List.not_mem_nil⟩
  queues := rfl
  sessions := rfl
  counters := rfl
  sel := rfl
  carts := rfl
  ver := rfl
  cores := rfl
  droop := rfl
  taps := rfl
  lports := rfl
  gens := rfl
  cxlPorts := rfl
  slots := rfl
  migrations := rfl
  oldFrames := rfl
  requests := rfl
  lms := Nat.zero_le _
  pending := fun _ he => absurd he List.not_mem_nil

/-- Settles O7: both are among what every command keeps. -/
theorem fusedStateOnlyAdvances : Obligations.FusedStateOnlyAdvances := by
  intro i s t h
  obtain ⟨hdevice, hsvn, hblocks, hfw, hvendor, howner, hbypass, huds⟩ := (exec_steady h).fuses
  exact ⟨hdevice, hfw, hvendor, howner, hbypass, huds, hsvn, hblocks, fun hq => ((exec_steady h).lms hq).symm⟩

/-- Equal words have difference zero. -/
theorem toNat_sub_eq_zero_iff {a b : W32} : (a - b).toNat = 0 ↔ a = b := by
  rw [show (0 : Nat) = (0#32).toNat from rfl, BitVec.toNat_inj, BitVec.sub_eq_iff_eq_add, BitVec.zero_add]

theorem serialAfter_iff {a b : W32} : serialAfter a b = true ↔ 1 ≤ (a - b).toNat ∧ (a - b).toNat ≤ 2 ^ 31 - 1 := decide_eq_true_iff

theorem serialBefore_iff {a b : W32} : serialBefore a b = true ↔ 2 ^ 31 ≤ (a - b).toNat := decide_eq_true_iff

theorem serialAtOrAfter_iff {a b : W32} : serialAtOrAfter a b = true ↔ (a - b).toNat ≤ 2 ^ 31 - 1 := decide_eq_true_iff

/-- Settles O3: all six relations are conditions on the one difference. -/
theorem serialOrderFollowsR515 : Obligations.SerialOrderFollowsR515 := by
  intro a b
  rw [serialAfter_iff, serialBefore_iff, serialAtOrAfter_iff, ← toNat_sub_eq_zero_iff]
  refine ⟨Iff.rfl, Iff.rfl, Iff.rfl, ?_, ?_, ?_, ?_, ?_, by decide⟩ <;> omega

end Sys2Proof.Machine
end

section
/-!
What each row that writes one register does with an agent that is absent (log entry 2) and with one that may not write it (R348, R529):
O9 and O10. All of them go through the one check of `State.onReg`.
-/
namespace Sys2Proof.Machine

/-- A command goes through the check of R529 for a write by an agent of a register. -/
def WritesThrough (i : Instr) (a : Agent) (r : Reg) (s : State) : Prop := ∃ f : State → State, exec i s = .next (s.onReg a r f)

namespace WritesThrough
variable {i : Instr} {a : Agent} {r : Reg} {s : State}

/-- A row that checks its operand before it looks at the agent. -/
theorem of_guard {c : Prop} [Decidable c] {f : State → State} (hc : c)
    (he : exec i s = .next (if c then s.onReg a r f else s)) : WritesThrough i a r s :=
  ⟨f, he.trans (congrArg Host.Outcome.next (if_pos hc))⟩

/-- R529: a row that writes a whole register which the part has. -/
theorem of_regWrite {v : Nat} (hat : Reg.at (Reg.offset r) = some r) (hr : s.hasReg r = true)
    (he : exec i s = .next (s.regWrite a r v)) : WritesThrough i a r s :=
  ⟨_, he.trans (congrArg Host.Outcome.next (State.regWrite_eq hat hr))⟩

/-- RESET_CTRL is not the module controller's (R546). -/
theorem of_resetCtrl {f : State → State} (ha : a ≠ .modctl) (he : exec i s = .next (s.onResetCtrl a f)) :
    WritesThrough i a .pwrResetCtrl s :=
  ⟨f, he.trans (congrArg Host.Outcome.next (if_neg ha))⟩

/-- REGISTER_WRITE of a register that stands at its offset (R525). -/
theorem of_writeTarget {off size : Nat} {v : W64} (ha : a ≠ .mgmtAt) (ht : s.writeTarget off size = some r) :
    WritesThrough (.registerWrite a off size v) a r s := by
  refine ⟨fun s => s.writeReg a r (v.toNat % 2 ^ r.width), congrArg Host.Outcome.next ?_⟩
  simp only [State.doRegisterWrite, if_neg ha, State.ctlWrite, ht]
  by_cases hp : s.present a = true
  · simp [hp]
  · simp [hp, State.onReg_absent]

end WritesThrough

/-- The part has windows of a core only below the 768 cores of the largest grade. -/
theorem State.lt_of_hasReg_coreWinOpen {s : State} {n : Nat} (h : s.hasReg (.coreWinOpen n) = true) : n < 768 := by
  simp only [State.hasReg, Grade.hasReg, Bool.and_eq_true, decide_eq_true_eq] at h
  have hn := h.1
  cases hg : s.grade <;> rw [hg] at hn <;> simp only [Grade.cores] at hn <;> omega

theorem State.lt_of_hasReg_fabSpare {s : State} {n : Nat} (h : s.hasReg (.fabSpare n) = true) : n < 48 := by
  simp only [State.hasReg, Grade.hasReg, Bool.and_true, decide_eq_true_eq] at h
  cases hg : s.grade <;> rw [hg] at h <;> simp only [Grade.rows] at h <;> omega

/-- Every row that writes one register goes through R529. -/
theorem State.writesThrough_of_writes {i : Instr} {a : Agent} {r : Reg} {s : State} (h : s.writes i = some (a, r)) :
    WritesThrough i a r s := by
  cases i with
  | doorbell | cqDoorbell | openQueue | closeQueue | releaseQueue | discardQueue | abortWait | qctrlSelect | routeWrite
  | partnerHiWrite | partnerLoWrite =>
    obtain ⟨hc, he⟩ := Option.ite_none_right_eq_some.mp h
    cases he
    exact .of_guard hc rfl
  | linkEnable b k | linkDisable b k =>
    obtain ⟨hr, he⟩ := Option.ite_none_right_eq_some.mp h
    cases he
    have hk : k < s.grade.laulo := by simpa [State.hasReg, Grade.hasReg] using hr
    exact .of_guard hk rfl
  | unlockSubmit | unlockLock | commitSvn | holdOffWrite =>
    cases h
    exact ⟨_, rfl⟩
  | resetCtrlFabric | resetCtrlModule =>
    obtain ⟨ha, he⟩ := Option.ite_none_left_eq_some.mp h
    cases he
    exact .of_resetCtrl ha rfl
  | domCtlRelease => cases h; exact .of_regWrite Reg.at_fabDomCtl rfl rfl
  | paceVsetWrite => cases h; exact .of_regWrite Reg.at_paceVset rfl rfl
  | govClear => cases h; exact .of_regWrite Reg.at_fabGovCtrl rfl rfl
  | cartQuery => cases h; exact .of_regWrite Reg.at_cxlCartQuery rfl rfl
  | sessQuery => cases h; exact .of_regWrite Reg.at_ethSessQuery rfl rfl
  | cntClear | cntClearAll => cases h; exact .of_regWrite Reg.at_telCntCtrl rfl rfl
  | evtHeadWrite => cases h; exact .of_regWrite Reg.at_telEvtHead rfl rfl
  | teleHeadWrite => cases h; exact .of_regWrite Reg.at_telTeleIdx rfl rfl
  | tmapWrite =>
    obtain ⟨hk, he⟩ := Option.ite_none_right_eq_some.mp h
    cases he
    exact .of_regWrite (Reg.at_fabTmap hk) rfl rfl
  | edgeWeightWrite =>
    obtain ⟨hk, he⟩ := Option.ite_none_right_eq_some.mp h
    cases he
    exact .of_regWrite (Reg.at_fabEdgeWeight hk) rfl rfl
  | winOpenWrite =>
    obtain ⟨hr, he⟩ := Option.ite_none_right_eq_some.mp h
    cases he
    exact .of_regWrite (Reg.at_coreWinOpen (State.lt_of_hasReg_coreWinOpen hr)) hr rfl
  | spareReqColWrite =>
    obtain ⟨hr, he⟩ := Option.ite_none_right_eq_some.mp h
    cases he
    exact .of_regWrite (Reg.at_fabSpare (State.lt_of_hasReg_fabSpare hr)) hr rfl
  | registerWrite =>
    obtain ⟨ha, he⟩ := Option.ite_none_left_eq_some.mp h
    obtain ⟨x, ht, hx⟩ := Option.map_eq_some_iff.mp he
    cases hx
    exact .of_writeTarget ha ht
  | _ => cases h

/-- Settles O10: such a row goes through R529, which asks first whether the agent is there. -/
theorem absentAgentsDoNothing : Obligations.AbsentAgentsDoNothing := by
  intro i a r s hw hp
  obtain ⟨f, hf⟩ := State.writesThrough_of_writes hw
  rw [hf, State.onReg_absent hp]

/-- The agent is there, and the register is not granted to it. -/
theorem State.denies_iff {s : State} {a : Agent} {r : Reg} :
    s.denies a r = true ↔ s.present a = true ∧ s.mayWrite a (Reg.offset r) = false := by
  simp [State.denies]

/-- R452: what is granted to an agent by its privilege is granted at every offset. -/
theorem State.not_privileged_of_denies {s : State} {a : Agent} {r : Reg} (h : s.denies a r = true) : s.privileged a = false :=
  (Bool.or_eq_false_iff.mp (State.denies_iff.mp h).2).1

/-- R356: a controller session that is ATTACHED becomes DETACHED. -/
theorem State.detachSession_controller {s : State} {k : Nat} (ha : (s.session k).state = .attached)
    (ho : (s.session k).owner = false) : s.detachSession k = s.setSession k { s.session k with state := .detached } := by
  simp [State.detachSession, ha, ho]

/-- R348: the refusal of a request of a controller session. -/
theorem State.ctlRefuse_controller {s : State} {k cause kind off : Nat} (ha : (s.session k).state = .attached)
    (ho : (s.session k).owner = false) :
    let p := (s.session k).port
    let u := ((s.emit (.nak p k)).setFld (EthStatus.refused p) 1).setReg (.ethRefuseLast p)
      (k <<< 52 + cause <<< 48 + (ctlBase + off) % 2 ^ 48)
    s.ctlRefuse (.session k) cause kind off = u.setSession k { u.session k with state := .detached } :=
  State.detachSession_controller ha ho

/-- Settles O9: the row comes to the refusal of R529. A session that is denied is no owner's, and the management channel is privileged
whenever it is there. -/
theorem deniedWritesAreRefused : Obligations.DeniedWritesAreRefused := by
  intro i a r s hw hd
  obtain ⟨f, hf⟩ := State.writesThrough_of_writes hw
  obtain ⟨hp, hm⟩ := State.denies_iff.mp hd
  have hn := State.not_privileged_of_denies hd
  rw [State.onReg_denied hp hm] at hf
  cases a with
  | session k =>
    have ha : (s.session k).state = .attached := of_decide_eq_true hp
    have ho : (s.session k).owner = false := by simpa [State.privileged, ha] using hn
    exact hf.trans (congrArg Host.Outcome.next (State.ctlRefuse_controller ha ho))
  | mgmt => exact absurd hp (Bool.eq_false_iff.mp hn)
  | mgmtAt => exact absurd hp (Bool.eq_false_iff.mp hn)
  | modctl => exact hf

end Sys2Proof.Machine
end

section
/-!
NEWT_SCAN once accepted (R461 to R463), and the ends of tests, timers and generations (R394, R431, R434, R481 to R484); O24 and O47.
-/
namespace Sys2Proof.Machine

/-! ### NEWT_SCAN -/

/-- Settles O24: each direction runs its body; a restore that is refused sets the result and ends with its cause. -/
theorem newtCommandsComplete : Obligations.NewtCommandsComplete := by
  intro s t q c
  refine ⟨fun h => ?save, fun h => ?restore⟩
  case save => exact (RunsRow.accepted_body (.of_rowFree rfl rfl fun _ _ _ => rfl) (fun _ => rfl) h :)
  case restore => exact (RunsRow.accepted_body (.of_rowFree rfl rfl fun _ _ _ => rfl) (fun _ => rfl) h :)

/-! ### Ends of tests, timers and generations -/

section
variable {s : State}

/-- R394: the collective that is open closes late at its root. -/
theorem State.doAllowExpiry_open {coll k : Nat} {c : CollRt} (hc : (s.colls.find? fun c => c.collId = coll && !c.closed) = some c)
    (hk : (s.collInfo c.op c.desc).flows.find? (s.collInfo c.op c.desc).governs = some k) :
    s.doAllowExpiry coll = ((s.closeLate c (s.collInfo c.op c.desc) k).collAdvance (c.collId, c.step)).evalFlags := by
  simp only [State.doAllowExpiry, hc, hk]

theorem State.doSelftestComplete_running {r : SelfRt} {was : List Nat} (failures : List (Nat × Nat)) (hr : s.selftest = some r)
    (hw : r.was = some was) : s.doSelftestComplete failures = s.endSelftest r was failures := by
  simp only [State.doSelftestComplete, hr, hw]

/-- R481: a test that waits starts when its window is there: its cores read STATE 5. -/
theorem State.startSelftest_waiting {r : SelfRt} (hr : s.selftest = some r) (hw : r.was = none) (hd : s.drainWindow = true) :
    s.startSelftest = r.cores.foldl (fun u n => u.setFld (CoreStatus.state n) 5)
      { s with selftest := some { r with was := some (r.cores.map fun n => s.fld (CoreStatus.state n)) } } := by
  simp only [State.startSelftest, hr, hw, hd, Option.isNone_none, Bool.and_self, if_true]

theorem State.doSelftestComplete_waiting {r : SelfRt} (failures : List (Nat × Nat)) (hr : s.selftest = some r)
    (hw : r.was = none) : s.doSelftestComplete failures = s.startSelftest := by
  simp only [State.doSelftestComplete, hr, hw]

/-- R484: the row whose spare is tested, and what a failure adds. -/
theorem State.doSpareTest_tested {n : Nat} (failed : Nat) (he : s.flag FabSpareTest.en = true) (hv : s.railMv ≠ 0)
    (hn : (((List.range s.grade.rows).map fun k => (s.spareNext + k) % s.grade.rows).find? s.spareTested) = some n) :
    let bad := putBits failed 6 6 0 % 256 ≠ 0
    let s1 := (({ s with spareNext := (n + 1) % s.grade.rows } : State).setFld FabSpareTest.lastRow n).setFld FabSpareTest.fail
      (putBits (s.fld FabSpareTest.fail) n n (b2n bad))
    s.doSpareTest failed =
      if bad then (if s.fld (FabSpare.src n) = 0 then (s1.event 0x0A n).recordCol n 16 else s1.event 0x0A n) else s1 := by
  have hgo : ¬ (!s.flag FabSpareTest.en || decide (s.railMv = 0)) = true := by simp [he, hv]
  simp only [State.doSpareTest, hn, if_neg hgo]

/-- R431, R434: with every copy performed after the commit point the open generation is complete. -/
theorem State.doGenerationComplete_performed {a : SnapArm} {g : Nat} (ha : s.snapArm = some a) (hg : s.openGen = some g)
    (hc : (s.gen g).committed = true) (hw : (s.gen g).waiting = []) :
    let s1 := s.snapPut g 0 (s.snapHeader a g 2 (s.gen g).gov)
    (s1.gen g).state = 1 →
    let s2 := s1.setGen g { state := 2, step := (s.gen g).step, waiting := (s1.gen g).waiting }
    s.doGenerationComplete = ({ s2 with snapArm := if a.period = 0 then none else s2.snapArm } : State).genEnded := by
  intro s1 h1 s2
  have hopen : ¬ (s1.gen g).state ≠ 1 := not_not.mpr h1
  simp only [State.doGenerationComplete, ha, hg, hc, hw, List.isEmpty_nil, Bool.and_self, if_true]
  exact if_neg hopen

end

/-- Settles O47, one row after the other. -/
theorem testsAndTimersEnd : Obligations.TestsAndTimersEnd := by
  refine ⟨fun s coll c k hc hk => ?expiry, fun s r failures hr => ⟨fun was hw => ?ends, fun hw hd => ?starts⟩,
    fun s n failed he hv hn => ?spare, fun s a g ha hg hc hw h1 => ?generation⟩
  case expiry => exact congrArg Host.Outcome.next (State.doAllowExpiry_open hc hk)
  case ends => exact congrArg Host.Outcome.next (State.doSelftestComplete_running failures hr hw)
  case starts =>
    exact congrArg Host.Outcome.next
      ((State.doSelftestComplete_waiting failures hr hw).trans (State.startSelftest_waiting hr hw hd))
  case spare => exact congrArg Host.Outcome.next (State.doSpareTest_tested failed he hv hn)
  case generation =>
    exact congrArg (fun t : State => Host.Outcome.next t.evalFlags) (State.doGenerationComplete_performed ha hg hc hw h1)

end Sys2Proof.Machine
end

section
/-!
Granted writes of the ports, routes, partners, the unlock, the SVN, HOLD_OFF and the reset register (R341, R363, R378, R398, R479, R488,
R489, R497, R504, R505), and O48.
-/
namespace Sys2Proof.Machine

section
variable {s : State} {a : Agent}

theorem exec_linkEnable_granted {k : Nat} (hk : k < s.grade.laulo) (h : s.grants a (.lauPortCfg k) = true) :
    exec (.linkEnable a k) s = .next (s.answered a (s.enablePort k)) :=
  congrArg Host.Outcome.next ((if_pos hk).trans (State.onReg_granted h))

theorem exec_linkDisable_granted {k : Nat} (hk : k < s.grade.laulo) (h : s.grants a (.lauPortCfg k) = true) :
    exec (.linkDisable a k) s = .next (s.answered a (s.disablePort k)) :=
  congrArg Host.Outcome.next ((if_pos hk).trans (State.onReg_granted h))

theorem exec_routeWrite_granted {i : Nat} {v : W64} (hi : i < 64) (h : s.grants a (.lauRoute i) = true) :
    exec (.routeWrite a i v) s = .next (s.answered a (s.writeRoute i v.toNat)) :=
  congrArg Host.Outcome.next ((if_pos hi).trans (State.onReg_granted h))

theorem exec_partnerHiWrite_granted {p : Nat} {v : W64} (hp : p < 4) (h : s.grants a (.ethPartnerHi p) = true) :
    exec (.partnerHiWrite a p v) s = .next (s.answered a (s.writePartnerHi p v.toNat)) :=
  congrArg Host.Outcome.next ((if_pos hp).trans (State.onReg_granted h))

theorem exec_partnerLoWrite_granted {p : Nat} {v : W64} (hp : p < 4) (h : s.grants a (.ethPartnerLo p) = true) :
    exec (.partnerLoWrite a p v) s = .next (s.answered a (s.writePartnerLo p v.toNat)) :=
  congrArg Host.Outcome.next ((if_pos hp).trans (State.onReg_granted h))

/-- R363: the pair takes effect, and the sessions of another source are detached. -/
theorem State.writePartnerLo_eq (s : State) (p v : Nat) :
    let hi := ((s.partnerHeld.find? (·.1 = p)).map (·.2)).getD (s.fld (EthPartnerHi.addr p))
    let t := (({ s with partnerHeld := s.partnerHeld.filter (·.1 ≠ p) } : State).setFld (EthPartnerHi.addr p) hi).setFld
      (EthPartnerLo.addr p) v
    s.writePartnerLo p v =
      (((t.attachedOn p).filter fun k => t.partner p = 0 || (t.session k).src ≠ t.partner p).foldl (fun u k => u.detachSession k)
        t).evalFlags := rfl

/-- R504: a token that passes its checks grants its scope; one that fails sets REJ and its cause; both take a new nonce. -/
theorem State.submitToken_eq (s : State) :
    let c := s.tokenCause s.unlockToken
    let u := { s with nonceDraw := s.draws, draws := s.draws + 1 }
    s.submitToken =
      if c = 0 then ((u.setScope (leField s.unlockToken 5 1)).setFld SecUnlockCtl.rej 0).setFld SecUnlockCtl.rejCause 0
      else (u.setFld SecUnlockCtl.rej 1).setFld SecUnlockCtl.rejCause c := rfl

theorem isMgmt_iff {a : Agent} : isMgmt a = true ↔ a = .mgmt ∨ a = .mgmtAt := by
  cases a <;> simp [isMgmt]

theorem exec_unlockSubmit_granted (h : s.grants a .secUnlockCtl = true) :
    exec (.unlockSubmit a) s = .next (s.answered a (if a = .mgmt ∨ a = .mgmtAt then s.submitToken else s)) := by
  refine congrArg Host.Outcome.next ((State.onReg_granted h).trans ?_)
  simp only [isMgmt_iff]

theorem exec_unlockLock_granted (h : s.grants a .secUnlockCtl = true) :
    exec (.unlockLock a) s = .next (s.answered a s.endUnlock) :=
  congrArg Host.Outcome.next (State.onReg_granted h)

theorem exec_commitSvn_granted (h : s.grants a .secCtrl = true) :
    exec (.commitSvn a) s = .next (s.answered a s.commitSvn) :=
  congrArg Host.Outcome.next (State.onReg_granted h)

theorem exec_holdOffWrite_granted {hold : Bool} (h : s.grants a .pwrCtrl = true) :
    exec (.holdOffWrite a hold) s = .next (s.answered a ((s.setFld PwrCtrl.holdOff (b2n hold)).tryStart)) :=
  congrArg Host.Outcome.next (State.onReg_granted h)

theorem exec_resetCtrlFabric_granted {fails : List (Nat × Nat)} (h : s.grants a .pwrResetCtrl = true) (ha : a ≠ .modctl) :
    exec (.resetCtrlFabric a fails) s = .next (s.answered a (s.fabricReset 0x04 fails)) :=
  congrArg Host.Outcome.next ((if_neg ha).trans (State.onReg_granted h))

theorem exec_resetCtrlModule_granted (h : s.grants a .pwrResetCtrl = true) (ha : a ≠ .modctl) :
    exec (.resetCtrlModule a) s = .next (s.answered a (s.moduleReset 0x03)) :=
  congrArg Host.Outcome.next ((if_neg ha).trans (State.onReg_granted h))

/-- R476: a fabric reset is made in READY. -/
theorem State.fabricReset_ready {cause : Nat} {fails : List (Nat × Nat)} (h : s.pwr = 4) :
    s.fabricReset cause fails = (((s.setPwr 3).fabricEffects fails).recordReset 1 cause 0).setPwr 4 := if_pos h

/-- R475, R476: a module reset is made unless start-up ended without firmware. -/
theorem State.moduleReset_firmware {cause : Nat} (h : s.noFirmware = false) :
    s.moduleReset cause = (s.moduleLoss cause 0 (if s.pwr = 6 then 6 else 1)).tryStart := if_neg (by simp [h])

end

/-- Settles O48: each row is a granted write, and what its register does with it is what the statement gives. -/
theorem portAndSecurityWritesTakeEffect : Obligations.PortAndSecurityWritesTakeEffect := by
  intro s a
  refine ⟨fun k hk h => ⟨exec_linkEnable_granted hk h, exec_linkDisable_granted hk h⟩, fun i v hi h => exec_routeWrite_granted hi h,
    fun p v hp => ⟨exec_partnerHiWrite_granted hp, fun h => ?partner⟩, fun h => ⟨?submit, exec_unlockLock_granted h⟩,
    fun h => exec_commitSvn_granted h, fun hold h => exec_holdOffWrite_granted h,
    fun h ha => ⟨fun fails hr => ?fabric, fun hf => ?module⟩⟩
  case partner => exact (exec_partnerLoWrite_granted hp h).trans (by rw [State.writePartnerLo_eq])
  case submit => exact (exec_unlockSubmit_granted h).trans (by rw [State.submitToken_eq])
  case fabric => rw [exec_resetCtrlFabric_granted h ha, State.fabricReset_ready hr]
  case module => rw [exec_resetCtrlModule_granted h ha, State.moduleReset_firmware hf]

end Sys2Proof.Machine
end

section
/-!
Slices and little-endian fields of a string that is written piece by piece (R10).
-/
namespace Sys2Proof.Machine

/-! ### Slices -/

theorem sliceBytes_eq_take {bs : Bytes} {off len : Nat} (h : off + len ≤ bs.length) :
    sliceBytes bs off len = (bs.drop off).take len := by
  have hl : ((bs.drop off).take len).length = len := by simp; omega
  rw [sliceBytes, hl, Nat.sub_self, List.replicate_zero, List.append_nil]

/-- The first bytes of a string. -/
theorem sliceBytes_append_left {a b : Bytes} : sliceBytes (a ++ b) 0 a.length = a := by
  rw [sliceBytes_eq_take (by simp), List.drop_zero, List.take_left']
  rfl

theorem sliceBytes_self {a : Bytes} : sliceBytes a 0 a.length = a := by
  simpa using sliceBytes_append_left (a := a) (b := [])

/-- What stands before a slice is skipped. -/
theorem sliceBytes_append_right {a b : Bytes} {off : Nat} (len : Nat) (h : a.length ≤ off) :
    sliceBytes (a ++ b) off len = sliceBytes b (off - a.length) len := by
  rw [sliceBytes, sliceBytes, List.drop_append, List.drop_eq_nil_of_le h, List.nil_append]

/-- A slice of a slice. -/
theorem sliceBytes_sliceBytes {bs : Bytes} {off w i len : Nat} (hi : i + len ≤ w) (h : off + w ≤ bs.length) :
    sliceBytes (sliceBytes bs off w) i len = sliceBytes bs (off + i) len := by
  have hw : (sliceBytes bs off w).length = w := by rw [sliceBytes_eq_take h]; simp; omega
  rw [sliceBytes_eq_take (by omega), sliceBytes_eq_take h, sliceBytes_eq_take (by omega), List.drop_take, List.take_take,
    List.drop_drop, Nat.min_eq_left (by omega)]

/-- A piece of a string. -/
theorem sliceBytes_flatten {l : List Bytes} {i : Nat} {x : Bytes} (h : l[i]? = some x) :
    sliceBytes l.flatten ((l.map List.length).take i).sum x.length = x := by
  obtain ⟨hi, rfl⟩ := List.getElem?_eq_some_iff.mp h
  have hl : l.flatten = (l.take i).flatten ++ (l[i] ++ (l.drop (i + 1)).flatten) := by
    rw [← List.flatten_cons, List.getElem_cons_drop, ← List.flatten_append, List.take_append_drop]
  rw [← List.map_take, ← List.length_flatten, hl, sliceBytes_append_right _ le_rfl, Nat.sub_self, sliceBytes_append_left]

/-- A string of pieces of one length. -/
theorem length_flatMap_of_forall {α : Type} {l : List α} {f : α → Bytes} {w : Nat} (hw : ∀ x ∈ l, (f x).length = w) :
    (l.flatMap f).length = w * l.length := by
  rw [List.length_flatMap, List.map_congr_left hw, List.map_const', List.sum_replicate, smul_eq_mul, Nat.mul_comm]

/-- One of several pieces of one length. -/
theorem sliceBytes_flatMap {α : Type} {l : List α} {f : α → Bytes} {w i : Nat} {x : α} (hw : ∀ x ∈ l, (f x).length = w)
    (h : l[i]? = some x) : sliceBytes (l.flatMap f) (w * i) w = f x := by
  have hp : (l.map f)[i]? = some (f x) := by rw [List.getElem?_map, h, Option.map_some]
  have hi := (List.getElem?_eq_some_iff.mp h).1
  have hsum : (((l.map f).map List.length).take i).sum = w * i := by
    rw [List.map_map, List.map_congr_left (f := List.length ∘ f) (g := fun _ => w) hw, List.map_const', List.take_replicate, List.sum_replicate,
      Nat.min_eq_left hi.le, smul_eq_mul, Nat.mul_comm]
  have hx := sliceBytes_flatten hp
  rw [hsum, hw x (List.mem_of_getElem? h)] at hx
  exact hx

/-! ### Numbers -/

theorem b2n_le_one (b : Bool) : b2n b ≤ 1 := by cases b <;> decide

/-- A piece that is a number reads as it was written, cut to its width. -/
theorem leField_flatten {l : List Bytes} {i n v : Nat} (h : l[i]? = some (leBytes n v)) :
    leField l.flatten ((l.map List.length).take i).sum n = v % 2 ^ (8 * n) := by
  have hs := sliceBytes_flatten h
  rw [leBytes_length] at hs
  rw [leField, hs, leNat_leBytes]

/-- A byte of a number. -/
theorem leField_leBytes_byte {n v i : Nat} (h : i < n) : leField (leBytes n v) i 1 = v / 256 ^ i % 256 := by
  induction n generalizing v i with
  | zero => omega
  | succ n ih =>
    cases i with
    | zero => simp [leBytes, leField, sliceBytes, leNat]
    | succ i =>
      have hskip : leField (leBytes (n + 1) v) (i + 1) 1 = leField (leBytes n (v / 256)) i 1 := rfl
      rw [hskip, ih (by omega), Nat.div_div_eq_div_mul, pow_succ, Nat.mul_comm]

end Sys2Proof.Machine
end

section
/-!
The step record (R406), and O45.
-/
namespace Sys2Proof.Machine

/-- A field is smaller than its width allows. -/
theorem State.fld_lt (s : State) (f : RegField) : s.fld f < 2 ^ (f.hi + 1 - f.lo) := bitsOf_lt _ _ _

/-- R406: the fields of the record, each with its width. -/
def State.recordFields (s : State) (outcome : Nat) : List (Nat × Nat) :=
  let x := s.step
  let first := x.first.getD { status := 0, det := 0, q := none, seq := 0, run := false, inj := false }
  let n := fun f => min 0xFFFF (x.formats.filter fun y => y.2 = f).length
  [(4, s.stepNum.toNat), (1, outcome), (1, min 255 x.attempt), (1, min 255 x.replays),
   (1, b2n x.injected + 2 * b2n x.doomed + 4 * b2n x.timed + 8 * b2n x.logLost), (1, first.status), (1, first.det), (2, 0),
   (4, first.seq.toNat), (4, first.q.getD 0xFFFFF), (4, min 0xFFFFFFFF x.segments), (4, min 0xFFFFFFFF s.pendingPages),
   (2, n 4), (2, n 5), (2, n 6), (2, min 0xFFFF x.rooted), (4, min 0xFFFFFFFF x.included), (2, min 0xFFFF x.lateKept),
   (2, min 0xFFFF x.lateDropped), (2, min 0xFFFF x.folded), (2, 0), (4, x.logFirst), (4, min 0xFFFFFFFF x.logCount),
   (8, s.fld TelIntervalCnt.count)]

/-- R406: the record as its pieces. -/
def State.recordPieces (s : State) (outcome : Nat) : List Bytes := (s.recordFields outcome).map fun x => leBytes x.1 x.2

theorem State.stepRecord_eq (s : State) (o : Nat) : s.stepRecord o = (s.recordPieces o).flatten := by
  unfold State.stepRecord State.recordPieces State.recordFields
  simp only [List.map_cons, List.map_nil, List.flatten_cons, List.flatten_nil, List.append_assoc, List.append_nil]

/-- R406: the widths of the fields. -/
def recordWidths : List Nat := [4, 1, 1, 1, 1, 1, 1, 2, 4, 4, 4, 4, 2, 2, 2, 2, 4, 2, 2, 2, 2, 4, 4, 8]

theorem State.recordPieces_lengths (s : State) (o : Nat) : (s.recordPieces o).map List.length = recordWidths := by
  simp only [State.recordPieces, List.map_map, Function.comp_def, leBytes_length]
  rfl

theorem State.stepRecord_length (s : State) (o : Nat) : (s.stepRecord o).length = 64 := by
  rw [s.stepRecord_eq, List.length_flatten, s.recordPieces_lengths]
  decide

/-- Field `i` of the record, whose value fits its width. -/
theorem State.leField_stepRecord {s : State} {o i off w v : Nat} (h : (s.recordFields o)[i]? = some (w, v))
    (ho : (recordWidths.take i).sum = off) (hv : v < 2 ^ (8 * w)) : leField (s.stepRecord o) off w = v := by
  have hp : (s.recordPieces o)[i]? = some (leBytes w v) := by rw [State.recordPieces, List.getElem?_map, h, Option.map_some]
  rw [s.stepRecord_eq, ← ho, ← s.recordPieces_lengths o, leField_flatten hp, Nat.mod_eq_of_lt hv]

/-- R406: a count saturates at all ones of its field. -/
theorem min_lt_of_lt {m v w : Nat} (h : m < 2 ^ (8 * w)) : min m v < 2 ^ (8 * w) := (Nat.min_le_left m v).trans_lt h

/-- Settles O45: the record is written field by field, and each value fits its field. -/
theorem stepRecordFollowsR406 : Obligations.StepRecordFollowsR406 := by
  intro s o ho hlog hfirst r x n
  have field {i off w v : Nat} (h : (s.recordFields o)[i]? = some (w, v))
    (ho : (recordWidths.take i).sum = off) (hv : v < 2 ^ (8 * w)) : leField r off w = v :=
    State.leField_stepRecord h ho hv
  have hflags : b2n x.injected + 2 * b2n x.doomed + 4 * b2n x.timed + 8 * b2n x.logLost < 256 := by
    have h1 := b2n_le_one x.injected
    have h2 := b2n_le_one x.doomed
    have h3 := b2n_le_one x.timed
    have h4 := b2n_le_one x.logLost
    omega
  have hmark : ((x.first.map (·.status)).getD 0) < 256 ∧ ((x.first.map (·.det)).getD 0) < 256 ∧
      ((x.first.bind (·.q)).getD 0xFFFFF) < 2 ^ 32 := by
    cases hm : x.first with
    | none => decide
    | some m =>
      obtain ⟨h1, h2, h3⟩ := hfirst m hm
      refine ⟨h1, h2, ?_⟩
      cases hq : m.q with
      | none => simp [hq]
      | some q => simpa [hq] using (h3 q hq).trans (by decide)
  have hsame : (s.recordFields o)[5]? = some (1, (x.first.map (·.status)).getD 0) ∧
      (s.recordFields o)[6]? = some (1, (x.first.map (·.det)).getD 0) ∧
      (s.recordFields o)[8]? = some (4, (((x.first.map (·.seq)).getD 0) : W32).toNat) ∧
      (s.recordFields o)[9]? = some (4, (x.first.bind (·.q)).getD 0xFFFFF) := by
    unfold State.recordFields
    cases hm : s.step.first with
    | none => simp [hm]
    | some m => simp [hm]
  obtain ⟨hstatus, hdet, hq⟩ := hmark
  obtain ⟨fstatus, fdet, fseq, fq⟩ := hsame
  refine ⟨s.stepRecord_length o, field (i := 0) rfl rfl (BitVec.isLt _), field (i := 1) rfl rfl (ho.trans (by decide)),
    field (i := 2) rfl rfl (min_lt_of_lt (by decide)), field (i := 3) rfl rfl (min_lt_of_lt (by decide)),
    field (i := 4) rfl rfl hflags, field fstatus rfl hstatus, field fdet rfl hdet, field (i := 7) rfl rfl (by decide),
    field fseq rfl (BitVec.isLt _), field fq rfl hq, field (i := 10) rfl rfl (min_lt_of_lt (by decide)),
    field (i := 11) rfl rfl (min_lt_of_lt (by decide)), field (i := 12) rfl rfl (min_lt_of_lt (by decide)),
    field (i := 13) rfl rfl (min_lt_of_lt (by decide)), field (i := 14) rfl rfl (min_lt_of_lt (by decide)),
    field (i := 15) rfl rfl (min_lt_of_lt (by decide)), field (i := 16) rfl rfl (min_lt_of_lt (by decide)),
    field (i := 17) rfl rfl (min_lt_of_lt (by decide)), field (i := 18) rfl rfl (min_lt_of_lt (by decide)),
    field (i := 19) rfl rfl (min_lt_of_lt (by decide)), field (i := 20) rfl rfl (by decide), field (i := 21) rfl rfl hlog,
    field (i := 22) rfl rfl (min_lt_of_lt (by decide)), field (i := 23) rfl rfl (s.fld_lt TelIntervalCnt.count)⟩

end Sys2Proof.Machine
end

section
/-!
Event counters (R511): what an increment leaves, and what a read of TEL.CNT_VAL returns (R513, R521); O50.
-/
namespace Sys2Proof.Machine

/-! ### The increment -/

/-- The key of a counter determines its number and the unit that it counts for. -/
theorem counterKey_inj {m j num inst : Nat} (hj : j < 2 ^ 20) (hi : inst < 2 ^ 20) (h : counterKey m j = counterKey num inst) :
    m = num ∧ j = inst := by
  unfold counterKey at h
  omega

@[simp] theorem State.satFld_counters (s : State) (f : RegField) (n : Nat) : (s.satFld f n).counters = s.counters :=
  s.setFld_counters f _

/-- R516, R547: an event changes no counter. -/
theorem State.event_counters (s : State) (code inst : Nat) : (s.event code inst).counters = s.counters := by
  have written : ∀ p bs v, ((s.setRaw p bs).setFld TelEvtStatus.tail v).counters = s.counters := fun p bs v => by
    rw [State.setFld_counters, State.setRaw_counters]
  have ibi : ∀ (u : State) (x : I3c), (({ u with i3c := x } : State).raiseIbi 1).counters = u.counters := fun u x => by
    unfold State.raiseIbi
    split <;> rfl
  unfold State.event
  simp only
  split
  · rw [State.satFld_counters, State.setFld_counters]
  · split
    · exact (ibi _ _).trans (written _ _ _)
    · exact written _ _ _

/-- R511: the counter after an increment: the sum, or all ones with its overflow bit. -/
def Counter.raised (c : Counter) (n : Nat) : Counter :=
  if c.count + n ≤ 2 ^ 64 - 1 then { c with count := c.count + n } else { count := 2 ^ 64 - 1, ovf := true }

theorem Counter.raised_fits {c : Counter} {n : Nat} (h : c.count + n ≤ 2 ^ 64 - 1) :
    c.raised n = { c with count := c.count + n } := if_pos h

theorem Counter.raised_passes {c : Counter} {n : Nat} (h : 2 ^ 64 - 1 < c.count + n) :
    c.raised n = { count := 2 ^ 64 - 1, ovf := true } := if_neg (Nat.not_le.mpr h)

theorem Counter.raised_count_le (c : Counter) (n : Nat) : (c.raised n).count ≤ 2 ^ 64 - 1 := by
  unfold Counter.raised
  split
  · assumption
  · exact le_rfl

theorem Counter.raised_saturated (n : Nat) :
    ({ count := 2 ^ 64 - 1, ovf := true } : Counter).raised n = { count := 2 ^ 64 - 1, ovf := true } := by
  by_cases h : 2 ^ 64 - 1 + n ≤ 2 ^ 64 - 1
  · obtain rfl : n = 0 := by omega
    rfl
  · exact Counter.raised_passes (Nat.not_le.mp h)

section
variable (s : State) (num inst n : Nat)

/-- R511: an increment raises its counter and reaches no other. -/
theorem State.count_counters :
    (s.count num inst n).counters = Sparse.set {} s.counters (counterKey num inst) ((s.counter num inst).raised n) := by
  by_cases h : (s.counter num inst).count + n ≤ 2 ^ 64 - 1
  · rw [Counter.raised_fits h, State.count, if_pos h]
  · rw [Counter.raised_passes (Nat.not_le.mp h), State.count, if_neg h]
    split
    · rfl
    · exact State.event_counters _ _ _

/-- R511: beside the counter an increment changes the state only by the event of the first overflow. -/
theorem State.count_eq :
    s.count num inst n =
      if (s.counter num inst).count + n ≤ 2 ^ 64 - 1 ∨ (s.counter num inst).ovf then
        { s with counters := (s.count num inst n).counters }
      else ({ s with counters := (s.count num inst n).counters } : State).event 0x01 (counterKey num inst) := by
  rw [State.count_counters]
  by_cases h : (s.counter num inst).count + n ≤ 2 ^ 64 - 1
  · rw [if_pos (.inl h), Counter.raised_fits h, State.count, if_pos h]
  · rw [Counter.raised_passes (Nat.not_le.mp h), State.count, if_neg h]
    by_cases hv : (s.counter num inst).ovf = true
    · exact (if_pos hv).trans (if_pos (.inr hv)).symm
    · exact (if_neg hv).trans (if_neg (not_or.mpr ⟨h, hv⟩)).symm

variable {s} (hs : Sparse.sorted s.counters = true)
include hs

theorem State.counter_count : (s.count num inst n).counter num inst = (s.counter num inst).raised n := by
  rw [State.counter, State.count_counters, Sparse.get_set hs, if_pos rfl]

theorem State.counter_count_ne {m j : Nat} (hj : j < 2 ^ 20) (hi : inst < 2 ^ 20) (h : m ≠ num ∨ j ≠ inst) :
    (s.count num inst n).counter m j = s.counter m j := by
  have hk : counterKey m j ≠ counterKey num inst := fun e => by
    obtain ⟨hm, hj⟩ := counterKey_inj hj hi e
    exact h.elim (· hm) (· hj)
  rw [State.counter, State.count_counters, Sparse.get_set hs, if_neg hk, State.counter]

end

/-! ### The read -/

theorem Reg.at_telCntVal : Reg.at (Reg.offset .telCntVal) = some .telCntVal := by
  rw [Reg.at_eq]
  simp only [Reg.offset, Reg.slots, List.cons_append, List.nil_append]
  repeat rw [slotHit_skip (by omega)]
  rw [slotHit_take (by omega)]

theorem State.slotReg_telCntVal (s : State) : s.slotReg (Reg.offset .telCntVal) = some .telCntVal :=
  (congrArg (Option.filter s.hasReg) Reg.at_telCntVal).trans (Option.filter_some_pos rfl)

/-- R513, R521: the count of the counter that the agent has selected; a reserved number reads zero. -/
theorem State.readReg_telCntVal {s : State} {a : Agent} {num inst : Nat} (hi : inst < 2 ^ 20)
    (h : (s.selOf a).cnt = num * 2 ^ 20 + inst) :
    s.readReg a .telCntVal = if num = 0 ∨ 0x1A < num then 0 else (s.counter num inst).count := by
  have hn : (s.selOf a).cnt / 1048576 = num := by omega
  have hr : s.readReg a .telCntVal = ((s.selOf a).counter s).count := rfl
  rw [hr, Selectors.counter, hn]
  by_cases hb : num = 0 ∨ 0x1A < num
  · simp only [Bool.or_eq_true, decide_eq_true_eq, if_pos hb]
  · simp only [Bool.or_eq_true, decide_eq_true_eq, if_neg hb, h, State.counter, counterKey, Nat.reducePow]

/-- R511, R527: a 64-bit read returns the whole count, and clears nothing. -/
theorem exec_registerReadClear_telCntVal {s : State} {a : Agent} (hp : s.present a = true) (ha : a ≠ .mgmtAt)
    (hm : s.mayRead a (Reg.offset .telCntVal) = true) :
    exec (.registerReadClear a (Reg.offset .telCntVal) 8) s =
      .next (s.emit (.regRead a (BitVec.ofNat 64 (s.readReg a .telCntVal)))) := by
  rw [exec_registerReadClear_granted hp ha (by decide) hm s.slotReg_telCntVal]
  have hv : BitVec.ofNat 64 (s.readReg a .telCntVal / 2 ^ (8 * (Reg.offset .telCntVal % 8)) % 2 ^ (8 * 8)) =
      BitVec.ofNat 64 (s.readReg a .telCntVal) := by
    refine BitVec.eq_of_toNat_eq ?_
    simp [Reg.offset]
  rw [hv]
  rfl

/-- Settles O50, from what an increment leaves of its counter, of the others and of the state. -/
theorem countersFollowR511 : Obligations.CountersFollowR511 := by
  refine ⟨fun num inst => rfl, fun s num inst n hs hi => ⟨fun h => ⟨?fits, ?sum⟩, fun h => ⟨?ones, ?once⟩,
    fun m j hj hne => State.counter_count_ne num inst n hs hj hi hne, fun hc k => ⟨?same, ?quiet⟩, ?bound⟩,
    fun s a num inst hi h => ⟨State.readReg_telCntVal hi h, fun hp ha hm => ?read⟩⟩
  case fits => exact (State.count_eq s num inst n).trans (if_pos (.inl h))
  case sum => exact (State.counter_count num inst n hs).trans (Counter.raised_fits h)
  case ones => exact (State.counter_count num inst n hs).trans (Counter.raised_passes h)
  case once =>
    refine (State.count_eq s num inst n).trans ?_
    have hn : ¬ (s.counter num inst).count + n ≤ 2 ^ 64 - 1 := Nat.not_le.mpr h
    simp only [hn, false_or]
    rfl
  case same =>
    refine (State.counter_count num inst n hs).trans ?_
    exact (congrArg (Counter.raised · n) hc).trans ((Counter.raised_saturated n).trans hc.symm)
  case quiet => exact (State.count_eq s num inst k).trans (if_pos (.inr (congrArg Counter.ovf hc)))
  case bound => exact (congrArg Counter.count (State.counter_count num inst n hs)).trans_le (Counter.raised_count_le _ _)
  case read => rw [exec_registerReadClear_telCntVal hp ha hm, State.readReg_telCntVal hi h]

end Sys2Proof.Machine
end

section
/-!
What a frame or a packet of a Laulo link carries is what its receiver reads from it (R368, R369, R372), and O54.
-/
namespace Sys2Proof.Machine

/-! ### CRC-32 -/

theorem crcBit_lt {c : Nat} (h : c < 2 ^ 32) : crcBit c < 2 ^ 32 := by
  unfold crcBit
  split
  · exact Nat.xor_lt_two_pow (by omega) (by decide)
  · omega

theorem crc32_lt (bs : Bytes) : crc32 bs < 2 ^ 32 := by
  refine Nat.xor_lt_two_pow ?_ (by decide)
  refine List.foldlRecOn bs _ (motive := (· < 2 ^ 32)) (by decide) fun c hc b _ => ?_
  refine List.foldlRecOn _ _ (motive := (· < 2 ^ 32)) (Nat.xor_lt_two_pow hc ?_) fun c hc _ _ => crcBit_lt hc
  exact b.isLt.trans (by decide)

/-! ### Tags -/

/-- R368: the tag of a flit: its class and its first flag. -/
def flitTag (x : Flit) : Nat := x.cls % 8 + 8 * b2n x.first

theorem flitTag_lt (x : Flit) : flitTag x < 16 := by
  have := b2n_le_one x.first
  unfold flitTag
  omega

/-- R368: a tag reads as the flit's class. -/
theorem flitTag_mod (x : Flit) (h : x.cls < 8) : flitTag x % 8 = x.cls := by
  unfold flitTag
  omega

/-- R368: a tag reads as the flit's first flag. -/
theorem bitOf_flitTag (x : Flit) : bitOf (flitTag x) 3 = x.first := by
  have h : flitTag x >>> 3 = b2n x.first := by
    rw [Nat.shiftRight_eq_div_pow, flitTag]
    omega
  rw [bitOf, h]
  cases x.first <;> decide

/-- R368: the tags of a frame, four bits each. -/
def frameTags (f : LFrame) : Nat := Nat.ofDigits 16 (f.flits.map flitTag)

/-- Tags that are added at rising places are the digits of their sum. -/
theorem foldl_tag_eq_ofDigits (l : List Flit) (k a : Nat) :
    (l.zipIdx k).foldl (fun n x => n + flitTag x.1 <<< (4 * x.2)) a = a + 16 ^ k * Nat.ofDigits 16 (l.map flitTag) := by
  induction l generalizing k a with
  | nil => simp
  | cons x l ih =>
    have h16 : flitTag x <<< (4 * k) = 16 ^ k * flitTag x := by rw [Nat.shiftLeft_eq, pow_mul, Nat.mul_comm]; norm_num
    rw [List.zipIdx_cons, List.foldl_cons, ih, List.map_cons, Nat.ofDigits_cons, h16, pow_succ]
    ring

theorem digit_ofDigits {l : List Nat} (h : ∀ x ∈ l, x < 16) {i x : Nat} (hi : l[i]? = some x) :
    Nat.ofDigits 16 l / 16 ^ i % 16 = x := by
  induction l generalizing i with
  | nil => cases hi
  | cons y l ih =>
    have hy : y < 16 := h y List.mem_cons_self
    cases i with
    | zero =>
      obtain rfl : y = x := Option.some.inj hi
      rw [Nat.ofDigits_cons]
      omega
    | succ i =>
      have hdiv : Nat.ofDigits 16 (y :: l) / 16 = Nat.ofDigits 16 l := by rw [Nat.ofDigits_cons]; omega
      rw [pow_succ', ← Nat.div_div_eq_div_mul, hdiv]
      exact ih (fun z hz => h z (List.mem_cons_of_mem y hz)) hi

/-- R368: tag `i` is the low or the high half of byte `i / 2`. -/
theorem byte_half (n i : Nat) : n / 256 ^ (i / 2) % 256 / 16 ^ (i % 2) % 16 = n / 16 ^ i % 16 := by
  have h16 : 16 ^ i = 256 ^ (i / 2) * 16 ^ (i % 2) := by
    rw [show 256 = 16 ^ 2 by rfl, ← pow_mul, ← pow_add, Nat.div_add_mod]
  rw [h16, ← Nat.div_div_eq_div_mul]
  generalize n / 256 ^ (i / 2) = m
  rcases Nat.mod_two_eq_zero_or_one i with h | h
  · rw [h]; omega
  · rw [h]; omega

/-! ### Frames -/

/-- R368: a frame as a link carries it: 16 flits of 64 bytes, of a class below 8, and four counts of 16 bits. -/
structure FrameFits (f : LFrame) : Prop where
  flits : f.flits.length = 16
  flit : ∀ x ∈ f.flits, x.cls < 8 ∧ x.data.length = 64
  credits : f.credits.length = 4
  credit : ∀ c ∈ f.credits, c < 65536

/-- R368: the pieces of a frame, with its CRC at the end. -/
def framePieces (f : LFrame) (crc : Nat) : List Bytes :=
  [f.flits.flatMap Flit.data, leBytes 4 f.fseq.toNat, leBytes 4 f.ack.toNat, leBytes 8 (frameTags f), f.credits.flatMap (leBytes 2),
   leBytes 1 (b2n f.nak + 2 * b2n f.retrain), leBytes 3 0, leBytes 4 crc]

/-- R368: the lengths of the pieces. -/
def frameWidths : List Nat := [1024, 4, 4, 8, 8, 1, 3, 4]

namespace FrameFits
variable {f : LFrame} (h : FrameFits f)
include h

theorem lengths (crc : Nat) : (framePieces f crc).map List.length = frameWidths := by
  have hf : (f.flits.flatMap Flit.data).length = 1024 := by
    rw [length_flatMap_of_forall fun x hx => (h.flit x hx).2, h.flits]
  have hc : (f.credits.flatMap (leBytes 2)).length = 8 := by
    rw [length_flatMap_of_forall fun x _ => leBytes_length 2 x, h.credits]
  simp only [framePieces, List.map_cons, List.map_nil, leBytes_length, hf, hc, frameWidths]

theorem frameBytes_eq : frameBytes f = (framePieces f f.crc).flatten := by
  have hd : f.flits.flatMap (fun x => sliceBytes x.data 0 64) = f.flits.flatMap Flit.data :=
    List.flatMap_congr fun x hx => by
      have e := sliceBytes_self (a := x.data)
      rwa [(h.flit x hx).2] at e
  have ht : (f.flits.zipIdx).foldl (fun n x => n + (x.1.cls % 8 + 8 * b2n x.1.first) <<< (4 * x.2)) 0 = frameTags f := by
    have e := foldl_tag_eq_ofDigits f.flits 0 0
    rw [pow_zero, Nat.one_mul, Nat.zero_add] at e
    exact e
  simp only [frameBytes, frameBody, hd, ht, framePieces, List.flatten_cons, List.flatten_nil, List.append_assoc, List.append_nil]

theorem frameBody_length : (frameBody f).length = 1052 := by
  have e := congrArg List.length h.frameBytes_eq
  rw [frameBytes, List.length_append, leBytes_length, List.length_flatten, h.lengths] at e
  have hw : frameWidths.sum = 1056 := rfl
  omega

theorem frameBytes_length : (frameBytes f).length = 1056 := by
  rw [frameBytes, List.length_append, leBytes_length, h.frameBody_length]

/-- A piece of the frame. -/
theorem slice {i off w : Nat} {x : Bytes} (hx : (framePieces f f.crc)[i]? = some x) (ho : (frameWidths.take i).sum = off)
    (hw : x.length = w) : sliceBytes (frameBytes f) off w = x := by
  rw [h.frameBytes_eq, ← ho, ← hw, ← h.lengths f.crc]
  exact sliceBytes_flatten hx

/-- A number of the frame. -/
theorem field {i off n v : Nat} (hx : (framePieces f f.crc)[i]? = some (leBytes n v)) (ho : (frameWidths.take i).sum = off) :
    leField (frameBytes f) off n = v % 2 ^ (8 * n) := by
  rw [leField, h.slice hx ho (leBytes_length n v), leNat_leBytes]

/-- R368: a flit's bytes. -/
theorem sliceBytes_flit {i : Nat} {x : Flit} (hx : f.flits[i]? = some x) : sliceBytes (frameBytes f) (64 * i) 64 = x.data := by
  have hi := (List.getElem?_eq_some_iff.mp hx).1
  have hl : 0 + 1024 ≤ (frameBytes f).length := by rw [h.frameBytes_length]; decide
  rw [← Nat.zero_add (64 * i), ← sliceBytes_sliceBytes (w := 1024) (by have := h.flits; omega) hl,
    h.slice (i := 0) (off := 0) (x := f.flits.flatMap Flit.data) rfl rfl
      (by rw [length_flatMap_of_forall fun x hx => (h.flit x hx).2, h.flits])]
  exact sliceBytes_flatMap (fun x hx => (h.flit x hx).2) hx

/-- R368: a flit's tag. -/
theorem leField_tag {i : Nat} {x : Flit} (hx : f.flits[i]? = some x) :
    leField (frameBytes f) (1032 + i / 2) 1 / 16 ^ (i % 2) % 16 = flitTag x := by
  have hi := (List.getElem?_eq_some_iff.mp hx).1
  have h16 := h.flits
  have hl : 1032 + 8 ≤ (frameBytes f).length := by rw [h.frameBytes_length]; decide
  have hb : leField (frameBytes f) (1032 + i / 2) 1 = frameTags f / 256 ^ (i / 2) % 256 := by
    rw [leField, ← sliceBytes_sliceBytes (w := 8) (by omega) hl,
      h.slice (i := 3) (off := 1032) (x := leBytes 8 (frameTags f)) rfl rfl (leBytes_length _ _)]
    exact leField_leBytes_byte (by omega)
  rw [hb, byte_half]
  refine digit_ofDigits (fun t ht => ?_) (by rw [List.getElem?_map, hx, Option.map_some])
  obtain ⟨y, -, rfl⟩ := List.mem_map.mp ht
  exact flitTag_lt y

/-- R368: a credit count. -/
theorem leField_credit {i c : Nat} (hx : f.credits[i]? = some c) : leField (frameBytes f) (1040 + 2 * i) 2 = c := by
  have hi := (List.getElem?_eq_some_iff.mp hx).1
  have h4 := h.credits
  have hl : 1040 + 8 ≤ (frameBytes f).length := by rw [h.frameBytes_length]; decide
  rw [leField, ← sliceBytes_sliceBytes (w := 8) (by omega) hl,
    h.slice (i := 4) (off := 1040) (x := f.credits.flatMap (leBytes 2)) rfl rfl
      (by rw [length_flatMap_of_forall fun x _ => leBytes_length 2 x, h4]),
    sliceBytes_flatMap (fun x _ => leBytes_length 2 x) hx, leNat_leBytes]
  exact Nat.mod_eq_of_lt (h.credit c (List.mem_of_getElem? hx))

/-- R368: the flits are read as they were sent. -/
theorem parse_flits : (parseFrame (frameBytes f)).flits = f.flits := by
  refine List.ext_getElem (by simp [parseFrame, h.flits]) fun i hi hi' => ?_
  have hx : f.flits[i]? = some f.flits[i] := List.getElem?_eq_getElem hi'
  have htag := h.leField_tag hx
  have hdata := h.sliceBytes_flit hx
  have hcls := flitTag_mod _ (h.flit _ (List.getElem_mem hi')).1
  have hfirst := bitOf_flitTag f.flits[i]
  generalize f.flits[i] = x at *
  simp only [parseFrame, List.getElem_map, List.getElem_range, hdata]
  generalize leField (frameBytes f) (1032 + i / 2) 1 / 16 ^ (i % 2) = t at *
  have h8 : t % 8 = x.cls := by omega
  have h3 : bitOf t 3 = x.first := by
    have hbit : t / 2 ^ 3 % 2 = t % 16 / 2 ^ 3 % 2 := by omega
    rw [← hfirst, ← htag, bitOf, bitOf, Nat.shiftRight_eq_div_pow, Nat.shiftRight_eq_div_pow, hbit]
  rw [h8, h3]

theorem parse_credits : (parseFrame (frameBytes f)).credits = f.credits := by
  refine List.ext_getElem (by simp [parseFrame, h.credits]) fun i hi hi' => ?_
  simp only [parseFrame, List.getElem_map, List.getElem_range]
  exact h.leField_credit (List.getElem?_eq_getElem hi')

/-- R368: the two control bits. -/
theorem leField_control : leField (frameBytes f) 1048 1 = b2n f.nak + 2 * b2n f.retrain := by
  have hn := b2n_le_one f.nak
  have hr := b2n_le_one f.retrain
  rw [h.field (i := 5) (off := 1048) rfl rfl, Nat.mod_eq_of_lt (by omega)]

theorem leField_crc : leField (frameBytes f) 1052 4 = f.crc % 2 ^ 32 := h.field (i := 7) rfl rfl

/-- R368: the bytes of a frame spell it. -/
theorem parse (hc : f.crc < 2 ^ 32) : parseFrame (frameBytes f) = f := by
  have hseq : BitVec.ofNat 32 (leField (frameBytes f) 1024 4) = f.fseq := by
    rw [h.field (i := 1) (off := 1024) rfl rfl, Nat.mod_eq_of_lt f.fseq.isLt, BitVec.ofNat_toNat, BitVec.setWidth_eq]
  have hack : BitVec.ofNat 32 (leField (frameBytes f) 1028 4) = f.ack := by
    rw [h.field (i := 2) (off := 1028) rfl rfl, Nat.mod_eq_of_lt f.ack.isLt, BitVec.ofNat_toNat, BitVec.setWidth_eq]
  have hnak : bitOf (leField (frameBytes f) 1048 1) 0 = f.nak := by
    rw [h.leField_control]
    cases f.nak <;> cases f.retrain <;> decide
  have hretrain : bitOf (leField (frameBytes f) 1048 1) 1 = f.retrain := by
    rw [h.leField_control]
    cases f.nak <;> cases f.retrain <;> decide
  have hcrc : leField (frameBytes f) 1052 4 = f.crc := by rw [h.leField_crc, Nat.mod_eq_of_lt hc]
  calc parseFrame (frameBytes f)
      = ⟨(parseFrame (frameBytes f)).flits, BitVec.ofNat 32 (leField (frameBytes f) 1024 4),
          BitVec.ofNat 32 (leField (frameBytes f) 1028 4), (parseFrame (frameBytes f)).credits,
          bitOf (leField (frameBytes f) 1048 1) 0, bitOf (leField (frameBytes f) 1048 1) 1, leField (frameBytes f) 1052 4⟩ := rfl
    _ = f := by rw [h.parse_flits, hseq, hack, h.parse_credits, hnak, hretrain, hcrc]

/-- R369, R370: what the link corrects whole passes the check of its CRC and is read as it was sent. -/
theorem received {errs : List (Nat × Byte)} (hb : beyondFec errs = []) (hc : f.crc = crc32 (frameBody f)) :
    frameReceived f errs = some f := by
  have hb' : frameCorrected f errs = frameBytes f := by rw [frameCorrected, hb]; rfl
  have hlt : f.crc < 2 ^ 32 := hc ▸ crc32_lt _
  have htake : (frameBytes f).take 1052 = frameBody f := List.take_left' h.frameBody_length
  have hok : leField (frameBytes f) 1052 4 = crc32 ((frameBytes f).take 1052) := by
    rw [h.leField_crc, Nat.mod_eq_of_lt hlt, htake, hc]
  rw [frameReceived, hb', if_pos hok, h.parse hlt]

end FrameFits

/-- R369: no damaged byte is beyond what the code corrects when no interleave holds more than two. -/
theorem beyondFec_eq_nil {errs : List (Nat × Byte)}
    (h : ∀ j, j < 8 → ((errs.filter fun e => e.2 ≠ 0 && e.1 < 1088).filter fun e => e.1 % 8 = j).length ≤ 2) :
    beyondFec errs = [] := by
  refine List.filter_eq_nil_iff.mpr fun e _ he => ?_
  have hlt := of_decide_eq_true he
  have hle := h (interleaveOf e.1) (Nat.mod_lt _ (by decide))
  exact absurd hlt (Nat.not_lt.mpr hle)

/-! ### Packets -/

/-- A string of whole flits is cut into them and put together again. -/
theorem flitsOf_flatten {bs : Bytes} (h : bs.length % 64 = 0) : (flitsOf bs).flatMap id = bs := by
  have upTo : ∀ n, 64 * n ≤ bs.length → ((List.range n).map fun i => sliceBytes bs (64 * i) 64).flatMap id = bs.take (64 * n) := by
    intro n
    induction n with
    | zero => intro _; rfl
    | succ n ih =>
      intro hn
      rw [List.range_succ, List.map_append, List.flatMap_append, ih (by omega), Nat.mul_succ, List.take_add, List.map_singleton,
        List.flatMap_singleton, id, sliceBytes_eq_take (by omega)]
  have hn : 64 * ceilDiv bs.length 64 = bs.length := by unfold ceilDiv; omega
  rw [flitsOf, upTo _ hn.le, hn, List.take_length]

/-- R372: the pieces of a header flit. -/
def Packet.headerPieces (p : Packet) : List Bytes :=
  [leBytes 1 p.kind, leBytes 1 p.hops, leBytes 2 (ceilDiv p.pay.length 64), leBytes 4 p.dst, leBytes 4 p.src, leBytes 4 p.step,
   leBytes 2 p.domain, leBytes 2 0, leBytes 4 p.reqId, leBytes 8 p.addr, sliceBytes p.arg 0 32]

/-- R372: the lengths of the pieces. -/
def headerWidths : List Nat := [1, 1, 2, 4, 4, 4, 2, 2, 4, 8, 32]

section
variable {p : Packet} (ha : p.arg.length = 32)
include ha

theorem Packet.headerPieces_arg : p.headerPieces[10]? = some p.arg := by
  have e := sliceBytes_self (a := p.arg)
  rw [ha] at e
  exact congrArg some e

theorem Packet.headerPieces_lengths : p.headerPieces.map List.length = headerWidths := by
  have e : (sliceBytes p.arg 0 32).length = 32 := by
    rw [sliceBytes_eq_take (by omega), List.drop_zero, List.length_take]
    omega
  simp only [Packet.headerPieces, List.map_cons, List.map_nil, leBytes_length, e, headerWidths]

/-- R372: a number of the header that fits its field. -/
theorem Packet.leField_header {i off n v : Nat} (hx : p.headerPieces[i]? = some (leBytes n v)) (ho : (headerWidths.take i).sum = off)
    (hv : v < 2 ^ (8 * n)) : leField p.header off n = v := by
  have e : p.header = p.headerPieces.flatten := by
    simp only [Packet.header, Packet.headerPieces, List.flatten_cons, List.flatten_nil, List.append_assoc, List.append_nil]
  rw [e, ← ho, ← Packet.headerPieces_lengths ha, leField_flatten hx, Nat.mod_eq_of_lt hv]

theorem Packet.sliceBytes_header_arg : sliceBytes p.header 32 32 = p.arg := by
  have e : p.header = p.headerPieces.flatten := by
    simp only [Packet.header, Packet.headerPieces, List.flatten_cons, List.flatten_nil, List.append_assoc, List.append_nil]
  have hs := sliceBytes_flatten (Packet.headerPieces_arg ha)
  rw [Packet.headerPieces_lengths ha, ha] at hs
  rw [e]
  exact hs

end

/-- Settles O54: a frame that the code corrects is read from its own bytes, and a packet from its header and flits. -/
theorem framesAndPacketsSurviveTheLink : Obligations.FramesAndPacketsSurviveTheLink := by
  refine ⟨fun f errs h16 hflit h4 hcredit hfew => ?frame, fun p hkind hhops hdst hsrc hstep hdomain hreq haddr ha hpay => ?packet⟩
  case frame =>
    have hf : FrameFits (frameSealed f) := ⟨h16, hflit, h4, hcredit⟩
    exact hf.received (beyondFec_eq_nil hfew) rfl
  case packet =>
    have kind : leField p.header 0 1 = p.kind := Packet.leField_header ha (i := 0) rfl rfl hkind
    have hops : leField p.header 1 1 = p.hops := Packet.leField_header ha (i := 1) rfl rfl hhops
    have dst : leField p.header 4 4 % 2 ^ 24 = p.dst := by
      rw [Packet.leField_header ha (i := 3) (off := 4) rfl rfl (hdst.trans (by decide)), Nat.mod_eq_of_lt hdst]
    have src : leField p.header 8 4 % 2 ^ 24 = p.src := by
      rw [Packet.leField_header ha (i := 4) (off := 8) rfl rfl (hsrc.trans (by decide)), Nat.mod_eq_of_lt hsrc]
    have step : leField p.header 12 4 = p.step := Packet.leField_header ha (i := 5) rfl rfl hstep
    have domain : leField p.header 16 2 = p.domain := Packet.leField_header ha (i := 6) rfl rfl hdomain
    have reqId : leField p.header 20 4 = p.reqId := Packet.leField_header ha (i := 8) rfl rfl hreq
    have addr : leField p.header 24 8 = p.addr := Packet.leField_header ha (i := 9) rfl rfl haddr
    rw [parsePacket, kind, hops, dst, src, step, domain, reqId, addr, Packet.sliceBytes_header_arg ha, flitsOf_flatten hpay]

end Sys2Proof.Machine
end

section
/-!
Frames, training and failures of a Laulo link (R368, R370, R374, R375, R442, R479), and O55.
-/
namespace Sys2Proof.Machine

/-! ### Ports -/

theorem State.lport_setLport {s : State} (hs : Sparse.sorted s.lports = true) (k j : Nat) (p : LPort) :
    (s.setLport k p).lport j = if j = k then p else s.lport j := Sparse.get_set hs

theorem State.lport_setLport_same {s : State} (hs : Sparse.sorted s.lports = true) (k : Nat) (p : LPort) :
    (s.setLport k p).lport k = p := (State.lport_setLport hs k k p).trans (if_pos rfl)

/-- A report leaves the ports. -/
theorem Reported.lport {s t : State} (h : Reported s t) (k : Nat) : t.lport k = s.lport k := by
  unfold Reported at h
  rw [State.lport, h, State.lport]

/-! ### What leaves the device stays on the wire -/

/-- From `s` to `t` nothing that has left the device is taken back. -/
def WireKept (s t : State) : Prop := ∀ w ∈ s.wire, w ∈ t.wire

namespace WireKept
variable {s t u : State}

theorem refl (s : State) : WireKept s s := fun _ h => h

theorem trans (h : WireKept s t) (k : WireKept t u) : WireKept s u := fun w hw => k w (h w hw)

theorem ite {c : Prop} [Decidable c] (h : WireKept s t) (k : WireKept s u) : WireKept s (if c then t else u) := by
  split
  · exact h
  · exact k

theorem of_wire (h : t.wire = s.wire) : WireKept s t := fun _ hw => h ▸ hw

end WireKept

theorem State.emit_wireKept (s : State) (w : Wire) : WireKept s (s.emit w) := fun _ h => List.mem_append_left _ h
theorem State.setFld_wireKept (s : State) (f : RegField) (v : Nat) : WireKept s (s.setFld f v) := .of_wire (s.setFld_wire f v)
theorem State.setRaw_wireKept (s : State) (p : Nat) (bs : Bytes) : WireKept s (s.setRaw p bs) := .of_wire (s.setRaw_wire p bs)
theorem State.setI3c_wireKept (s : State) (x : I3c) : WireKept s { s with i3c := x } := .of_wire rfl
theorem State.setCounters_wireKept (s : State) (x : List (Nat × Counter)) : WireKept s { s with counters := x } := .of_wire rfl

theorem State.raiseIbi_wireKept (s : State) (code : Nat) : WireKept s (s.raiseIbi code) :=
  WireKept.ite ((s.setI3c_wireKept _).trans (State.emit_wireKept _ _)) (WireKept.refl s)

theorem State.event_wireKept (s : State) (code inst : Nat) : WireKept s (s.event code inst) := by
  unfold State.event
  have written : ∀ p bs f v, WireKept s ((s.setRaw p bs).setFld f v) := fun p bs f v =>
    (s.setRaw_wireKept p bs).trans (State.setFld_wireKept _ f v)
  refine WireKept.ite ((s.setFld_wireKept _ _).trans (State.setFld_wireKept _ _ _)) (WireKept.ite ?_ (written _ _ _ _))
  exact ((written _ _ _ _).trans (State.setI3c_wireKept _ _)).trans (State.raiseIbi_wireKept _ _)

theorem State.count_wireKept (s : State) (num inst n : Nat) : WireKept s (s.count num inst n) := by
  unfold State.count
  refine WireKept.ite (s.setCounters_wireKept _) (WireKept.ite (s.setCounters_wireKept _) ?_)
  exact (s.setCounters_wireKept _).trans (State.event_wireKept _ _ _)

/-! ### Sending -/

/-- R374: each slot of a frame holds one flit. -/
theorem LPort.slots_length (w : Nat → Nat) (n : Nat) (l : LPort) : (LPort.slots w n l).1.length = n := by
  induction n generalizing l with
  | zero => rfl
  | succ n ih => simp [LPort.slots, ih]

theorem LPort.fill_length (w : Nat → Nat) (l : LPort) : (LPort.fill w l).1.length = 16 := by
  unfold LPort.fill
  split
  · exact List.length_replicate
  · exact LPort.slots_length w 16 l

/-- With 256 frames unacknowledged the frame is idle and the data waits (log entry 27). -/
theorem LPort.fill_held {w : Nat → Nat} {l : LPort} (h : 256 ≤ l.unacked) : LPort.fill w l = (List.replicate 16 idleFlit, l) := if_pos h

/-- R368, R370: the next new frame of a port. -/
def State.newFrame (s : State) (k : Nat) : LFrame :=
  frameSealed
    { flits := ((s.lport k).fill (s.weight k)).1, fseq := (s.lport k).txSeq, ack := (s.lport k).rxSeq - 1,
      credits := ([1, 2, 3, 4] : List Nat).map fun c => min 65535 (Sparse.get 0 (s.lport k).freed c), nak := (s.lport k).nak,
      retrain := false, crc := 0 }

/-- R370: the port once the frame is sent: the frame is kept as the newest of at least 256. -/
def State.portAfterFrame (s : State) (k : Nat) : LPort :=
  let r := ((s.lport k).fill (s.weight k)).2
  { r with txSeq := (s.lport k).txSeq + 1, freed := Sparse.update 0 (fun _ n => n - min 65535 n) (s.lport k).freed,
           sent := (r.sent ++ [s.newFrame k]).drop (r.sent.length + 1 - max 256 ((s.lport k).unacked + 1)) }

theorem State.sendNew_eq (s : State) (k : Nat) :
    s.sendNew k = ((s.setLport k (s.portAfterFrame k)).emit (.lauloFrame k (s.newFrame k) (frameParity (s.newFrame k)))).showCredit k :=
  rfl

theorem State.lport_sendNew {s : State} (hs : Sparse.sorted s.lports = true) (k j : Nat) :
    (s.sendNew k).lport j = if j = k then s.portAfterFrame k else s.lport j := State.lport_setLport hs k j _

/-- R370: the newest frame is among those kept. -/
theorem State.portAfterFrame_getLast? (s : State) (k : Nat) : (s.portAfterFrame k).sent.getLast? = some (s.newFrame k) := by
  have h : ∀ (l : List LFrame) (m : Nat), ((l ++ [s.newFrame k]).drop (l.length + 1 - max 256 m)).getLast? = some (s.newFrame k) :=
    fun l m => by rw [List.drop_append_of_le_length (by omega), List.getLast?_concat]
  exact h _ _

/-- R370: a replay of a frame that is not the oldest unacknowledged one gives it new control fields and asks for no retrain. -/
theorem State.sendReplay_kept {s : State} {k : Nat} {n : W32} {f : LFrame}
    (hf : ((s.lport k).sent.find? fun f => f.fseq = n) = some f) (hn : n ≠ (s.lport k).una) :
    let g := frameSealed { f with ack := (s.lport k).rxSeq - 1, nak := (s.lport k).nak, retrain := false }
    let next := if n + 1 = (s.lport k).txSeq then none else some (n + 1)
    let s1 := ((s.setLport k { s.lport k with replayDue := next }).emit (.lauloFrame k g (frameParity g))).count 0x016 k 1
    s.sendReplay k n = { s1 with health := { s1.health with n3 := s1.health.n3 + 1 } } := by
  simp only [State.sendReplay, hf, hn, if_false, decide_false, Bool.false_and, Bool.false_eq_true]
  rfl

section
variable {s : State} {k : Nat} {n : W32} {f : LFrame} (hf : ((s.lport k).sent.find? fun f => f.fseq = n) = some f)
  (hn : n ≠ (s.lport k).una)
include hf hn

theorem State.lport_sendReplay (hs : Sparse.sorted s.lports = true) :
    (s.sendReplay k n).lport k =
      { s.lport k with replayDue := if n + 1 = (s.lport k).txSeq then none else some (n + 1) } := by
  rw [State.sendReplay_kept hf hn]
  exact ((State.count_reported _ _ _ _).lport k).trans (State.lport_setLport_same hs k _)

theorem State.mem_wire_sendReplay :
    let g := frameSealed { f with ack := (s.lport k).rxSeq - 1, nak := (s.lport k).nak, retrain := false }
    .lauloFrame k g (frameParity g) ∈ (s.sendReplay k n).wire := by
  rw [State.sendReplay_kept hf hn]
  exact State.count_wireKept _ _ _ _ _ (List.mem_append_right _ (List.mem_singleton_self _))

end

/-! ### Receiving -/

section
variable {s : State} {k : Nat} {f : LFrame} {errs : List (Nat × Byte)} (hu : s.lauUp k = true) (hi : s.injections = [])
include hu hi

/-- R369, R370: a frame that fails its check is reported and asked for again. -/
theorem State.doFrameReceive_failed (hr : frameReceived f errs = none) :
    s.doFrameReceive k f errs = (s.detect 0x0D 0 none k false).modLport k fun l => { l with nak := true } := by
  simp only [State.doFrameReceive, hu, if_true, State.fire_nil hi, hr]

/-- R370: a whole frame is accepted in its turn, and asked for again out of it. -/
theorem State.doFrameReceive_whole {g : LFrame} (hr : frameReceived f errs = some g) :
    s.doFrameReceive k f errs =
      if g.fseq = (s.lport k).rxSeq then s.acceptFrame k g else s.modLport k fun l => { l with nak := true } := by
  simp only [State.doFrameReceive, hu, if_true, State.fire_nil hi, hr]

end

/-! ### Training -/

theorem State.doTrained_training {s : State} {k peer cable fseq : Nat} (hk : k < s.grade.laulo) (h : s.lauState k = 1) :
    s.doTrained k peer cable fseq =
      ((((s.setFld (LauPortStatus.peer k) peer).setFld (LauPortStatus.cableNs k) cable).setLport k
        { txSeq := (s.lport k).txSeq, una := (s.lport k).txSeq, rxSeq := BitVec.ofNat 32 fseq, credits := initialCredits }).setFld
          (LauPortStatus.state k) 2).showCredit k := by
  simp only [State.doTrained, hk, h, decide_true, Bool.and_self, if_true]

/-- R370: a retrained link resumes the frames that it kept. -/
theorem State.doTrained_retraining {s : State} {k peer cable fseq : Nat} (hk : k < s.grade.laulo) (h : s.lauState k = 3) :
    s.doTrained k peer cable fseq =
      (s.modLport k fun l => { l with replayDue := if l.una = l.txSeq then none else some l.una }).setFld (LauPortStatus.state k) 2 := by
  simp [State.doTrained, hk, h]

theorem State.doTrainRetry_training {s : State} {k : Nat} (hk : k < s.grade.laulo) (h : s.lauState k = 1) :
    s.doTrainRetry k = s.setLport k { txSeq := (s.lport k).txSeq } := by
  simp [State.doTrainRetry, hk, h]

theorem State.doLaneLoss_up {s : State} {k : Nat} (hk : k < s.grade.laulo) (h : s.lauState k = 2 ∨ s.lauState k = 3) :
    s.doLaneLoss k = s.linkDown k true := by
  simp [State.doLaneLoss, hk, h]

theorem State.doRetrainFailure_retraining {s : State} {k : Nat} (hk : k < s.grade.laulo) (h : s.lauState k = 3) :
    s.doRetrainFailure k = s.linkDown k true := by
  simp [State.doRetrainFailure, hk, h]

/-- Settles O55, by the row: a new frame and a replay, a frame received, and the states of training. -/
theorem linkRowsFollowR370AndR479 : Obligations.LinkRowsFollowR370AndR479 := by
  intro s k hk hs
  refine ⟨fun hu hd => ⟨s.sendNew k, s.newFrame k, ?sendsNew, rfl, rfl, rfl, rfl, rfl, LPort.fill_length _ _, rfl, ?seq, ?newest,
      fun h => ?held, fun j hj => ?others, rfl⟩,
    fun n f hu hd hf hn => ⟨s.sendReplay k n, ?sendsReplay, ?due, ?kept, ?onWire⟩,
    fun f errs hu hi => ⟨fun hr => ?failed, fun g hr => ⟨fun hq => ?gap, fun hq => ?accepted⟩⟩,
    fun peer cable fseq => ⟨fun h => ?trained, fun h => ?retrained⟩, fun h => ?retry, fun h => ?laneLoss, fun h => ?retrainFailure⟩
  case sendsNew => exact congrArg Host.Outcome.next (by simp only [State.doFrameSend, hu, if_true, hd])
  case seq => rw [State.lport_sendNew hs, if_pos rfl]; rfl
  case newest => rw [State.lport_sendNew hs, if_pos rfl, State.portAfterFrame_getLast?]
  case held =>
    have hfill := LPort.fill_held (w := s.weight k) (l := s.lport k) h
    refine ⟨fun x hx => ?_, ?_⟩
    · have hx' : x ∈ ((s.lport k).fill (s.weight k)).1 := hx
      rw [hfill] at hx'
      rw [List.eq_of_mem_replicate hx']
      rfl
    · rw [State.lport_sendNew hs, if_pos rfl]
      exact congrArg (fun r : List Flit × LPort => r.2.txq) hfill
  case others => rw [State.lport_sendNew hs, if_neg hj]
  case sendsReplay => exact congrArg Host.Outcome.next (by simp only [State.doFrameSend, hu, if_true, hd])
  case due => rw [State.lport_sendReplay hf hn hs]
  case kept => rw [State.lport_sendReplay hf hn hs]
  case onWire => exact State.mem_wire_sendReplay hf hn
  case failed => exact congrArg Host.Outcome.next (State.doFrameReceive_failed hu hi hr)
  case gap => exact congrArg Host.Outcome.next ((State.doFrameReceive_whole hu hi hr).trans (if_neg hq))
  case accepted => exact congrArg Host.Outcome.next ((State.doFrameReceive_whole hu hi hr).trans (if_pos hq))
  case trained => exact congrArg Host.Outcome.next (State.doTrained_training hk h)
  case retrained => exact congrArg Host.Outcome.next (State.doTrained_retraining hk h)
  case retry => exact congrArg Host.Outcome.next (State.doTrainRetry_training hk h)
  case laneLoss => exact congrArg Host.Outcome.next (State.doLaneLoss_up hk h)
  case retrainFailure => exact congrArg Host.Outcome.next (State.doRetrainFailure_retraining hk h)

end Sys2Proof.Machine
end

section
/-!
Requests of the front ports that pass or fail their checks (R346 to R355).
-/
namespace Sys2Proof.Machine

/-- R340: the state in which the request of a session is judged: a mark of ECN is answered first. -/
def State.noticed (s : State) (rq : RdmaReq) : State := if rq.ecn then s.emit (.cnp rq.port rq.slot) else s

/-- R340, R341, R345: a request of the connection of a session reaches its checks, with no injection armed. -/
structure State.Judges (s : State) (rq : RdmaReq) : Prop where
  up : s.portUp rq.port = true
  partner : s.foreign rq.port rq.src = false
  connected : s.connected rq = true
  quiet : s.injections = []

namespace State.Judges
variable {s v : State} {rq : RdmaReq} (h : s.Judges rq)
include h

/-- R348: a request that passes its checks is served. -/
theorem admitted {len : Nat} {w a : Bool} (f : State → State) (hc : (s.noticed rq).requestCause rq len w a = 0) :
    s.onAdmitted rq len w a f = f (s.noticed rq) :=
  (State.onAdmitted_eq h.up h.partner h.connected h.quiet).trans (if_pos hc)

/-- R348: a request that fails a check is refused with its cause. -/
theorem refused {len : Nat} {w a : Bool} (f : State → State) (hc : (s.noticed rq).requestCause rq len w a ≠ 0) :
    s.onAdmitted rq len w a f =
      ((s.noticed rq).refuseRequest rq.port rq.slot ((s.noticed rq).requestCause rq len w a) rq.addr).evalFlags :=
  (State.onAdmitted_eq h.up h.partner h.connected h.quiet).trans (if_neg hc)

/-! ### Writes (R349, R350) -/

theorem rdmaWrite_control {data : Bytes} (hc : (s.noticed rq).requestCause rq data.length true false = 0)
    (hin : inControl rq.addr data.length = true) :
    s.doRdmaWrite rq data = (s.noticed rq).ctlWrite (.session rq.slot) (rq.addr - ctlBase) data.length (leNat data) :=
  (h.admitted _ hc).trans (if_pos hin)

theorem rdmaWrite_memory {data : Bytes} (hc : (s.noticed rq).requestCause rq data.length true false = 0)
    (hin : inControl rq.addr data.length = false) : s.doRdmaWrite rq data = (s.noticed rq).writeMemory rq data :=
  (h.admitted _ hc).trans (if_neg (Bool.not_eq_true _ ▸ hin))

/-! ### Reads (R355) -/

theorem rdmaRead_control {len x : Nat} (hc : (s.noticed rq).requestCause rq len false false = 0) (hin : inControl rq.addr len = true)
    (hr : (s.noticed rq).ctlRead (.session rq.slot) (rq.addr - ctlBase) len = (some x, v)) :
    s.doRdmaRead rq len = v.emit (.readData rq.port rq.slot (leBytes len x)) := by
  refine (h.admitted _ hc).trans ?_
  simp only [hin, if_true, hr]
  rfl

theorem rdmaRead_memory {len d : Nat} (hc : (s.noticed rq).requestCause rq len false false = 0) (hin : inControl rq.addr len = false)
    (hr : ((s.noticed rq).settleRequest rq.port rq.addr len).remoteAccess (rq.port / 2) rq.addr len false = ((0, d), v)) :
    s.doRdmaRead rq len = (v.touchRange rq.addr len).emit (.readData rq.port rq.slot (v.bytes rq.addr len)) := by
  refine (h.admitted _ hc).trans ?_
  simp only [hin, Bool.false_eq_true, if_false, State.readMemory, dieOfPort, hr]
  rfl

/-! ### Atomics (R347) -/

theorem atomic {f : W64 → Option W64} {d : Nat} (hc : (s.noticed rq).requestCause rq 8 true true = 0)
    (hr : ((s.noticed rq).settleRequest rq.port rq.addr 8).remoteAccess (rq.port / 2) rq.addr 8 false = ((0, d), v)) :
    s.doAtomic rq f =
      (((f (v.flagWord rq.addr)).map fun x => (v.remoteWrite rq.addr (leBytes 8 x.toNat)).evalFlags).getD
        (v.touchRange rq.addr 8)).emit (.atomicOld rq.port rq.slot (v.flagWord rq.addr)) := by
  refine (h.admitted _ hc).trans ?_
  simp only [dieOfPort, hr, ne_eq, not_true_eq_false, if_false]
  cases f (v.flagWord rq.addr) with
  | none => rfl
  | some x => rfl

end State.Judges

/-- R349: a write of no bytes is acknowledged. -/
theorem State.writeMemory_nil (s : State) (rq : RdmaReq) : s.writeMemory rq [] = s.emit (.ack rq.port rq.slot) := rfl

/-- R349: a write whose access is answered is performed and acknowledged. -/
theorem State.writeMemory_reached {s v : State} {rq : RdmaReq} {data : Bytes} {d : Nat} (hd : data ≠ [])
    (hr : (s.settleRequest rq.port rq.addr data.length).remoteAccess (rq.port / 2) rq.addr data.length true = ((0, d), v)) :
    s.writeMemory rq data = ((v.remoteWrite rq.addr data).evalFlags).emit (.ack rq.port rq.slot) := by
  have hne : ¬ data.isEmpty = true := by simpa using hd
  simp only [State.writeMemory, dieOfPort, hr, if_neg hne, ne_eq, not_true_eq_false, if_false]

/-- R530: a range of no bytes does not meet the control space. -/
theorem inControl_zero (a : Nat) : inControl a 0 = false := by
  simp [inControl, rangesMeet]

end Sys2Proof.Machine
end

section
/-!
Attach, detach and release of sessions (R341 to R345, R356 to R360, R505), and O57.
-/
namespace Sys2Proof.Machine

/-! ### A session bound to a connection -/

theorem State.session_setSession {s : State} (hs : Sparse.sorted s.sessions = true) (k j : Nat) (x : Session) :
    (s.setSession k x).session j = if j = k then x else s.session j := Sparse.get_set hs

theorem State.selOf_setSelOf {s : State} (hs : Sparse.sorted s.sel = true) (a : Agent) (x : Selectors) :
    (s.setSelOf a x).selOf a = x := (Sparse.get_set hs).trans (if_pos rfl)

/-- R345, R346: a session on the connection of a REQ, under an R_Key. -/
def Session.boundTo (x : Session) (rq : ConnReq) (key : W32) : Session :=
  { x with state := .attached, port := rq.port, src := rq.src, conn := rq.conn, express := bitOf rq.flags 1, rkey := key }

/-- The partner of a port is held in the registers. -/
theorem State.partner_congr {s t : State} (h : t.regs = s.regs) (hg : t.grade = s.grade) (port : Nat) : t.partner port = s.partner port := by
  simp only [State.partner, State.fld, State.reg, h, hg]

/-- R341: latching a partner writes registers alone. -/
theorem State.latchPartner_eq (s : State) (port src : Nat) :
    s.latchPartner port src = { s with regs := (s.latchPartner port src).regs } := by
  unfold State.latchPartner
  split
  · rfl
  · rfl

theorem State.latchPartner_grade (s : State) (port src : Nat) : (s.latchPartner port src).grade = s.grade := by
  rw [State.latchPartner_eq]

/-- R341: the partner of a port that had none is the source of the attach. -/
theorem State.partner_latchPartner {s : State} (hs : Sparse.sorted s.regs = true) {port src : Nat} (hsrc : src < 2 ^ 128) :
    (s.latchPartner port src).partner port = if s.partner port = 0 then src else s.partner port := by
  unfold State.latchPartner
  split
  · have hs1 := State.sorted_setFld hs (EthPartnerHi.addr port) (src / 2 ^ 64)
    have apart : Reg.offset (EthPartnerHi.addr port).reg ≠ Reg.offset (EthPartnerLo.addr port).reg := by
      show 0xa0110 + 0x40 * port ≠ 0xa0118 + 0x40 * port
      omega
    have hhi : ((s.setFld (EthPartnerHi.addr port) (src / 2 ^ 64)).setFld (EthPartnerLo.addr port) (src % 2 ^ 64)).fld
        (EthPartnerHi.addr port) = src / 2 ^ 64 % 2 ^ 64 :=
      (State.fld_setFld_reg hs1 apart _).trans (State.fld_setFld hs (Nat.zero_le _) (Nat.lt_succ_self 63) _)
    have hlo : ((s.setFld (EthPartnerHi.addr port) (src / 2 ^ 64)).setFld (EthPartnerLo.addr port) (src % 2 ^ 64)).fld
        (EthPartnerLo.addr port) = src % 2 ^ 64 % 2 ^ 64 :=
      State.fld_setFld hs1 (Nat.zero_le _) (Nat.lt_succ_self 63) _
    rw [State.partner, hhi, hlo]
    omega
  · rfl

section
variable {s : State} {rq : ConnReq} {k : Nat} {x : Session}

/-- R346: the session on its new connection, before the partner is latched. -/
def State.withBound (s : State) (rq : ConnReq) (k : Nat) (x : Session) : State :=
  (s.draw Config.rkey).2.setSession k (x.boundTo rq (Config.rkey s.draws))

theorem State.withBound_regs (s : State) (rq : ConnReq) (k : Nat) (x : Session) : (s.withBound rq k x).regs = s.regs := rfl
theorem State.withBound_grade (s : State) (rq : ConnReq) (k : Nat) (x : Session) : (s.withBound rq k x).grade = s.grade := rfl

theorem State.bindSession_eq_withBound (s : State) (rq : ConnReq) (k : Nat) (x : Session) : s.bindSession rq k x =
    (((s.withBound rq k x).latchPartner rq.port rq.src).setSelOf (.session k) {}).emit
      (.rep rq.port (x.gen * 4096 + k) (Config.rkey s.draws)) := rfl

/-- What the selector copies and the answer add to a state that differs from another in its registers. -/
theorem State.answered_eq_of_regs {u v : State} (h : v = { u with regs := v.regs }) (a : Agent) (w : Wire) :
    (v.setSelOf a {}).emit w = { u with sel := Sparse.set {} u.sel (agentKey a) {}, regs := v.regs, wire := u.wire ++ [w] } := by
  rw [h]
  rfl

/-- R344 to R346: binding a session sets it, zeroes its selector copies, latches the partner, answers, and spends a draw on the key. -/
theorem State.bindSession_eq : s.bindSession rq k x =
    { s with sessions := Sparse.set {} s.sessions k (x.boundTo rq (Config.rkey s.draws)),
             sel := Sparse.set {} s.sel (agentKey (.session k)) {},
             regs := ((s.withBound rq k x).latchPartner rq.port rq.src).regs,
             wire := s.wire ++ [.rep rq.port (x.gen * 4096 + k) (Config.rkey s.draws)], draws := s.draws + 1 } :=
  (s.bindSession_eq_withBound rq k x).trans (State.answered_eq_of_regs (State.latchPartner_eq _ _ _) _ _)

/-- A state whose sessions, selector copies, registers, wire and draws are given differs in these alone. -/
theorem State.frame_of_eq {t : State} {a : List (Nat × Session)} {b : List (Nat × Selectors)} {c : List (Nat × W64)} {d : List Wire}
    {e : Nat} (h : t = { s with sessions := a, sel := b, regs := c, wire := d, draws := e }) :
    t = { s with sessions := t.sessions, sel := t.sel, regs := t.regs, wire := t.wire, draws := t.draws } := by
  subst h
  rfl

theorem State.regs_of_eq {t : State} {a : List (Nat × Session)} {b : List (Nat × Selectors)} {c : List (Nat × W64)} {d : List Wire}
    {e : Nat} (h : t = { s with sessions := a, sel := b, regs := c, wire := d, draws := e }) : t.regs = c ∧ t.grade = s.grade := by
  subst h
  exact ⟨rfl, rfl⟩

theorem State.wire_bindSession :
    (s.bindSession rq k x).wire = s.wire ++ [.rep rq.port (x.gen * 4096 + k) (Config.rkey s.draws)] := by rw [State.bindSession_eq]

variable (hs : s.Inv)
include hs

theorem State.session_bindSession (j : Nat) :
    (s.bindSession rq k x).session j = if j = k then x.boundTo rq (Config.rkey s.draws) else s.session j := by
  rw [State.session, State.bindSession_eq, Sparse.get_set hs.sessions, State.session]

theorem State.selOf_bindSession : (s.bindSession rq k x).selOf (.session k) = {} := by
  rw [State.selOf, State.bindSession_eq, Sparse.get_set hs.sel, if_pos rfl]

theorem State.partner_bindSession (hsrc : rq.src < 2 ^ 128) :
    (s.bindSession rq k x).partner rq.port = if s.partner rq.port = 0 then rq.src else s.partner rq.port := by
  have hregs := s.withBound_regs rq k x
  have hgrade := s.withBound_grade rq k x
  have hbound := State.regs_of_eq (State.bindSession_eq (s := s) (rq := rq) (k := k) (x := x))
  have hlatched := (State.latchPartner_grade (s.withBound rq k x) rq.port rq.src).trans hgrade
  rw [State.partner_congr hbound.1 (hbound.2.trans hlatched.symm), State.partner_latchPartner (hregs ▸ hs.regs.1) hsrc,
    State.partner_congr hregs hgrade]

end

/-! ### Attach and re-attach -/

section
variable {s : State} {rq : ConnReq} (hu : s.portUp rq.port = true) (hi : s.injections = [])
include hu hi

/-- R344: a REQ that no row refuses binds the session that it names, or else the lowest free slot. -/
theorem State.connect_accepted (hc : s.attachCode rq = 0) :
    s.connect rq =
      if isReattach rq then s.bindSession rq (rq.session % 4096) (s.session (rq.session % 4096))
      else s.bindSession rq (s.freeSlot.getD 0)
        { gen := ((s.session (s.freeSlot.getD 0)).gen + 1) % 1048576, owner := rq.role = 1, domain := rq.domain } := by
  simp only [State.connect, hu, Bool.not_true, Bool.false_eq_true, if_false, State.packetIn_nil hi, hc, ne_eq, not_true_eq_false]

/-- R341, R344: a refused REQ is answered with its code, and marked when its source is foreign. -/
theorem State.connect_refused (hc : s.attachCode rq ≠ 0) :
    s.connect rq =
      (if s.foreignAttach rq.port rq.src then s.markForeign rq.port else s).emit (.rej rq.port (s.attachCode rq)) := by
  simp only [State.connect, hu, Bool.not_true, Bool.false_eq_true, if_false, State.packetIn_nil hi, ne_eq, hc, not_false_eq_true,
    if_true]

end

/-- R344: a new attach that no row refuses has a free slot. -/
theorem State.freeSlot_of_attachCode {s : State} {rq : ConnReq} (hr : isReattach rq = false) (hc : s.attachCode rq = 0) :
    ∃ k, s.freeSlot = some k := by
  refine Option.isSome_iff_exists.mp (Bool.of_not_eq_false fun hn => ?_)
  have hfull : s.freeSlot.isNone = true := by simpa using hn
  simp only [State.attachCode, hr, hfull, Bool.not_false, Bool.and_self, Bool.true_or, if_true] at hc
  split_ifs at hc

/-- R344: the lowest free slot. -/
theorem State.freeSlot_spec {s : State} {k : Nat} (h : s.freeSlot = some k) :
    k < 4096 ∧ (s.session k).state = .free ∧ ∀ j, j < k → (s.session j).state ≠ .free := by
  obtain ⟨hfree, hk, hlow⟩ := List.find?_range_eq_some.mp h
  exact ⟨List.mem_range.mp hk, of_decide_eq_true hfree, fun j hj => by simpa using hlow j hj⟩

/-- R344: the session of an accepted attach, on the lowest free slot. -/
theorem State.connect_new {s : State} {rq : ConnReq} {k : Nat} (hu : s.portUp rq.port = true) (hi : s.injections = [])
    (hr : isReattach rq = false) (hc : s.attachCode rq = 0) (hk : s.freeSlot = some k) :
    s.connect rq = s.bindSession rq k { gen := ((s.session k).gen + 1) % 2 ^ 20, owner := rq.role = 1, domain := rq.domain } := by
  rw [State.connect_accepted hu hi hc, hr, hk]
  rfl

/-- R345: a re-attach binds the session that it names. -/
theorem State.connect_again {s : State} {rq : ConnReq} (hu : s.portUp rq.port = true) (hi : s.injections = [])
    (hr : isReattach rq = true) (hc : s.attachCode rq = 0) :
    s.connect rq = s.bindSession rq (rq.session % 4096) (s.session (rq.session % 4096)) :=
  (State.connect_accepted hu hi hc).trans (if_pos hr)

/-! ### Packets of other sources, and the end of links and sessions -/

section
variable {s : State} {port : Nat} (hu : s.portUp port = true)
include hu

/-- R341: a packet of a source that is not the partner is dropped and counted. -/
theorem State.doForeign_foreign {src : Nat} (hf : s.foreign port src = true) : s.doForeign port src = s.markForeign port :=
  if_pos (Bool.and_eq_true_iff.mpr ⟨hu, hf⟩)

theorem State.doDreq_foreign {r : DiscReq} (hf : s.foreign port r.src = true) : s.doDreq port r = s.markForeign port := by
  simp only [State.doDreq, hu, hf, Bool.not_true, Bool.false_eq_true, if_false, if_true]

/-- R356: the connection of a session ends: it is answered, and the session is detached. -/
theorem State.doDreq_attached {r : DiscReq} (hf : s.foreign port r.src = false) (ha : s.attachedAs port r = true)
    (hi : s.injections = []) :
    s.doDreq port r = ((s.emit (.drep port)).detachSession (r.session % 4096)).evalFlags := by
  simp only [State.doDreq, hu, hf, ha, Bool.not_true, Bool.false_eq_true, if_false, if_true, State.packetIn_nil hi]

end

theorem State.doEthUp_ready {s : State} {port : Nat} (hp : port < 4) (hr : s.pwr = 4) :
    s.doEthUp port = s.setFld (EthStatus.linkUp port) 1 := by
  simp [State.doEthUp, hp, hr]

/-- R356: the sessions of a port whose link stays down are detached. -/
theorem State.doSessionDetach_down {s : State} {port : Nat} (hp : port < 4) (hd : s.flag (EthStatus.linkUp port) = false)
    (ha : s.attachedOn port ≠ []) :
    s.doSessionDetach port =
      (((s.attachedOn port).foldl (fun u k => u.detachSession k) s).setFld (EthStatus.lossEvent port) 1).evalFlags := by
  simp [State.doSessionDetach, hp, hd, ha]

theorem State.doSessionRelease_lingering {s : State} {k : Nat} (hd : (s.session k).state = .detached)
    (hl : s.fld (EthCfg.lingerS (s.session k).port) ≠ 0) : s.doSessionRelease k = (s.releaseSession k).evalFlags := by
  simp [State.doSessionRelease, hd, hl]

theorem State.doRetryExhausted_attached {s : State} {k : Nat} (ha : (s.session k).state = .attached) :
    s.doRetryExhausted k = (s.detachSession k).evalFlags := if_pos ha

/-- What the end of the unlock leaves (R505). -/
theorem State.endUnlock_eq (s : State) : s.endUnlock =
    { ((s.setFld SecStatus.scope 0).setFld InjStatus.unlocked 0).setFld InjStatus.armed 0 with
      injections := [], nonceDraw := s.draws, draws := s.draws + 1 } := by
  unfold State.endUnlock
  rfl

/-- R505: the unlock and the SPDM connection end with the management link. -/
theorem State.doMgmtLoss_up {s z : State} {n : Nat} (h : s.mgmtLink = true)
    (hz : s.endUnlock = { z with injections := [], nonceDraw := n, draws := n + 1 }) :
    s.doMgmtLoss = { z with injections := [], nonceDraw := n, draws := n + 1, mgmtLink := false, spdm := {} } := by
  rw [State.doMgmtLoss, if_pos h, hz]

/-- Settles O57, by the row: requests, attaches, packets that are dropped, links, and the ends of sessions and of the unlock. -/
theorem frontPortRowsFollowR340ToR363 : Obligations.FrontPortRowsFollowR340ToR363 := by
  refine ⟨fun s rq hu hf hc hi => ?requests,
    fun s rq hs hu hi hsrc => ⟨fun h0 hr hc => ?attach, fun h0 hr hc => ?reattach, fun hc => ?refused⟩,
    fun s port hu => ⟨fun src hf => ?foreign, ?fcs, ?linkDown, fun r hf => ?dreqForeign, fun r hf ha hi => ?dreq⟩,
    fun s port hp => ⟨fun hr => ?linkUp, fun hd ha => ?sessionDetach⟩, fun s k => ⟨fun hd hl => ?release, fun ha => ?exhausted⟩,
    fun s hm => ?mgmtLoss⟩
  case requests =>
    have h : s.Judges rq := ⟨hu, hf, hc, hi⟩
    refine ⟨fun data hok => ⟨fun hin => ?_, fun hd => ?_, fun v d hd hin hr => ?_⟩,
      fun len hok => ⟨fun v w hin hr => ?_, fun v d hin hr => ?_⟩, fun hok v d hr => ⟨fun x => ?_, fun cmp swap => ?_⟩,
      fun data hno => ?_, fun len hno => ?_, fun hno => ⟨fun x => ?_, fun cmp swap => ?_⟩⟩
    · exact congrArg Host.Outcome.next (h.rdmaWrite_control hok hin)
    · subst hd
      exact congrArg Host.Outcome.next ((h.rdmaWrite_memory hok (inControl_zero _)).trans (State.writeMemory_nil _ _))
    · exact congrArg Host.Outcome.next ((h.rdmaWrite_memory hok hin).trans (State.writeMemory_reached hd hr))
    · exact congrArg Host.Outcome.next (h.rdmaRead_control hok hin hr)
    · exact congrArg Host.Outcome.next (h.rdmaRead_memory hok hin hr)
    · exact congrArg Host.Outcome.next (h.atomic (f := fun old => some (old + x)) hok hr)
    · refine congrArg Host.Outcome.next ((h.atomic (f := fun old => if old = cmp then some swap else none) hok hr).trans ?_)
      by_cases he : v.flagWord rq.addr = cmp
      · simp only [he, if_true, Option.map_some, Option.getD_some]
      · simp only [he, if_false, Option.map_none, Option.getD_none]
    · exact congrArg Host.Outcome.next (h.refused _ hno)
    · exact congrArg Host.Outcome.next (h.refused _ hno)
    · exact congrArg Host.Outcome.next (h.refused _ hno)
    · exact congrArg Host.Outcome.next (h.refused _ hno)
  case attach =>
    obtain ⟨k, hk⟩ := State.freeSlot_of_attachCode hr hc
    obtain ⟨hlt, hfree, hlow⟩ := State.freeSlot_spec hk
    exact ⟨_, k, Config.rkey s.draws, congrArg Host.Outcome.next ((if_pos h0).trans (State.connect_new hu hi hr hc hk)), hlt, hfree, hlow,
      (State.session_bindSession hs k).trans (if_pos rfl), State.wire_bindSession, State.selOf_bindSession hs,
      State.partner_bindSession hs hsrc, fun j hj => (State.session_bindSession hs j).trans (if_neg hj),
      State.frame_of_eq State.bindSession_eq⟩
  case reattach =>
    exact ⟨_, Config.rkey s.draws, congrArg Host.Outcome.next ((if_neg h0).trans (State.connect_again hu hi hr hc)),
      (State.session_bindSession hs _).trans (if_pos rfl), State.selOf_bindSession hs,
      fun j hj => (State.session_bindSession hs j).trans (if_neg hj), State.frame_of_eq State.bindSession_eq⟩
  case refused =>
    exact ⟨fun h0 => congrArg Host.Outcome.next ((if_pos h0).trans (State.connect_refused hu hi hc)),
      fun h0 => congrArg Host.Outcome.next ((if_neg h0).trans (State.connect_refused hu hi hc))⟩
  case foreign => exact congrArg Host.Outcome.next (State.doForeign_foreign hu hf)
  case fcs => exact congrArg Host.Outcome.next (if_pos hu)
  case linkDown => exact congrArg Host.Outcome.next (if_pos hu)
  case dreqForeign => exact congrArg Host.Outcome.next (State.doDreq_foreign hu hf)
  case dreq => exact congrArg Host.Outcome.next (State.doDreq_attached hu hf ha hi)
  case linkUp => exact congrArg Host.Outcome.next (State.doEthUp_ready hp hr)
  case sessionDetach => exact congrArg Host.Outcome.next (State.doSessionDetach_down hp hd ha)
  case release => exact congrArg Host.Outcome.next (State.doSessionRelease_lingering hd hl)
  case exhausted => exact congrArg Host.Outcome.next (State.doRetryExhausted_attached ha)
  case mgmtLoss => exact congrArg Host.Outcome.next (State.doMgmtLoss_up hm s.endUnlock_eq)

end Sys2Proof.Machine
end
